-- ==== Sys2Proof/Word.lean ====
section
/-! DEFINITION. The word types of the register file, the links and the stores (03 R78, 00 R4). -/

namespace Sys2Proof

/-- A register, a packet word or a store word. -/
abbrev Word := BitVec 32

/-- A byte of a two-wire or SPI transfer. -/
abbrev Byte := BitVec 8

end Sys2Proof
end

