-- ==== Sys2Proof/Syntax.lean ====
section
/-! DEFINITION. The commands of the hub: one constructor of `Instr` per row of spec/opcode_table.json, with
the operands the outside, a pin, a comparator or a converter supplies, and the types of those operands. -/

namespace Sys2Proof

/-- The port an access comes from: E, the link or SPI host side, or W, the two-wire port (03 R86). -/
inductive Port | e | w
  deriving DecidableEq, Repr

/-- What first powers a hub without a powered domain (04 R121, 01 R28). -/
inductive Supply | feed | battery | phantom
  deriving DecidableEq, Repr

/-- What the read of the boot profile gave (04 R122): a version and its Boot registers, or why not. -/
inductive BootRead
  | ok (ver : Byte) (regs : List (BitVec 16 × Word))
  | checkFailed | unknownVersion | readError
  deriving DecidableEq, Repr

/-- What a cold start finds: the boot profile, the failed self-tests with the pages that own them
(04 R123), and whether phantom power is the only supply (04 R124). -/
structure ColdIn where
  boot : BootRead
  selfTest : BitVec 6
  owners : List (BitVec 8)
  phantomOnly : Bool
  deriving DecidableEq, Repr

/-- What ends SHIP (04 R132, R136). -/
inductive ShipExitSrc | wake | feed | phantom
  deriving DecidableEq, Repr

/-- What P3 finds in a parity failure (03 R100, 06 R192, 07 R224, 13 R368): a byte of an active register, of
a shadow, a slot of a channel's lane (counted from its head), a record of the correction table and whether the
store gives it back, a word of a snapshot bank, a sample of a GEYSER buffer. -/
inductive ParitySite
  | active (idx : BitVec 16) (byte : BitVec 2)
  | shadow (idx : BitVec 16) (byte : BitVec 2)
  | lane (ch : BitVec 6) (n : BitVec 14)
  | calRec (n : BitVec 10) (reloads : Bool)
  | bank (b : BitVec 1) (word : BitVec 11)
  | geySample (eng : BitVec 2) (n : BitVec 11)
  deriving DecidableEq, Repr

/-- The two low-power modes a lead broadcasts (04 R129). -/
inductive LowPower | nap | standby
  deriving DecidableEq, Repr

/-- Wake sources of NAP and STANDBY (04 R130). -/
inductive WakeSrc | wakePin | feed | transport | irq | link | phantom | rtcAlarm
  deriving DecidableEq, Repr

/-- A register access: a read, or a write with byte enables (03, first section). -/
inductive Access
  | read (idx : BitVec 16)
  | write (idx : BitVec 16) (be : BitVec 4) (val : Word)
  deriving DecidableEq, Repr

/-- The sources the monitors of 02 R60 gate. -/
inductive ClkMon | mosc | lrec | clkin | pll | kres
  deriving DecidableEq, Repr

/-- What a channel trip finds (05 R174): peak current in 10 mA, temperature in °C, LB voltage in 10 mV. -/
structure TripMeas where
  peak : BitVec 16
  temp : BitVec 8
  vlb : BitVec 16
  deriving DecidableEq, Repr

inductive FeedId | a | b
  deriving DecidableEq, Repr

/-- LB and the four rails (chapter 09). -/
inductive ConvId | lb | h1 | h2 | h3 | h4
  deriving DecidableEq, Repr

/-- The two link ports (chapter 14). -/
inductive LinkPort | up | dn
  deriving DecidableEq, Repr

/-- What a converter trip finds (09 R274): output in 10 mV, current in 100 mA on LB and 10 mA on rails. -/
structure ConvMeas where
  out : BitVec 16
  cur : BitVec 16
  deriving DecidableEq, Repr

/-- Triggers of the hold-up detector (11 R311). -/
inductive HoldTrig | level | slope | noFeed
  deriving DecidableEq, Repr

/-- What the integrators, the converters' control loops and the charger's power stage deliver at a tick for the
frame just ended: channel charges (2^-8 µC, 05 R168), feed average currents (mA, 08 R244), whether RATIO would
need a drop above 1.0 V (08 R247), LB average current (100 mA) and energy taken from INB (µJ), rail currents
(mA), which converters limit or run at maximum duty (bit 0 LB, 1–4 H1–H4; 09 R262, R264), the charger's limiters
INPUT, THERMAL, SYSTEM and its die temperature (°C + 64; 11 R304), whether the limiter of feed A (bit 0) or B holds its
current (08 R236), and the phases of LB whose temperature lies outside the range of the gain curve (09 R265). -/
structure TickIn where
  chq : List Int
  feedA : Int
  feedB : Int
  shareLim : Bool
  lbI : Int
  lbIn : Nat
  railI : List Nat
  limiting : BitVec 5
  maxDuty : BitVec 5
  lims : BitVec 3
  die : Byte
  insLim : BitVec 2
  phExtrap : BitVec 4
  deriving DecidableEq, Repr

/-- An input value that a supervisor's filter delivers, and the time in µs for which its raw state has held (12 R341). -/
structure SupSample where
  value : BitVec 12
  held : Nat
  deriving DecidableEq, Repr

/-- The sum of a host conversion and the cycle of its frame at which it is complete (13 R354). -/
structure HostConv where
  acc : BitVec 16
  cyc : Nat
  deriving DecidableEq, Repr

/-- An answer to the alert response address: whether another address won, and whether the host clocks a PEC (16 R443). -/
structure AlertReply where
  lost : Bool
  pec : Bool
  deriving DecidableEq, Repr

/-- The forced outside time of the chatter begins or ends, some µs after the chatter came on (22 R530). -/
structure ChatterEdge where
  start : Bool
  us : Nat
  deriving DecidableEq, Repr

/-- What takes a link port from UP, or from negotiation, to DOWN (14 R376, R407). -/
inductive LinkLoss | signal | lock | symErrors | negTimeout
  deriving DecidableEq, Repr

/-- The check of 14 R381 a received packet fails; `symbol` is a symbol error in the packet and `idle` one between
packets (14 R375). -/
inductive PktCheck | hcrc | fmt | crc | badEop | symbol | idle
  deriving DecidableEq, Repr

/-- Credit classes of 14 R394. -/
inductive CredClass | reg | tbl | bulk
  deriving DecidableEq, Repr

/-- A packet header without LEN, which follows from the payload, and without HCRC (14 R377). -/
structure Hdr where
  type : Byte
  dest : BitVec 4
  src : BitVec 4
  seq : Byte
  tag : Byte
  cred : Byte
  ver : Byte
  deriving DecidableEq, Repr

/-- A packet on a port: `bad` ends it with EOP_BAD (14 R386); `fault` is the inverted bit of 22 R530, 2 in its
CRC-16 and 3 in its HCRC. -/
structure Packet where
  hdr : Hdr
  payload : List Word
  bad : Bool := false
  fault : BitVec 2 := 0
  deriving DecidableEq, Repr

/-- A TICK packet that passed every check: its twelve words (14 R383). -/
structure TickPkt where
  words : List Word
  deriving DecidableEq, Repr

/-- A POLL packet that passed every check within its slot: position, CRED byte, seven words (14 R384, R389). -/
structure PollPkt where
  src : BitVec 4
  cred : Byte
  words : List Word
  deriving DecidableEq, Repr

/-- The commands, one constructor per row of spec/opcode_table.json, in the table's order of chapters. -/
inductive Instr
  /-- POWER_ON_RESET (R121). -/
  | powerOnReset (src : Supply)
  /-- COLD_START (R120). -/
  | coldStart (inp : ColdIn)
  /-- STRAP_SAMPLE (R36). -/
  | strapSample (levels : BitVec 4)
  /-- STRAP_UNSTABLE (R36). -/
  | strapUnstable
  /-- SHIP_EXIT (R108). -/
  | shipExit (src : ShipExitSrc)
  /-- LONG_PRESS_RESET (R134). -/
  | longPressReset
  /-- WAKE_DEBOUNCE (R33). -/
  | wakeDebounce (level : Bool)
  /-- PHANTOM_DETECT (R28). -/
  | phantomDetect
  /-- PHANTOM_LOSS (R28). -/
  | phantomLoss
  /-- PHANTOM_SERVICE_ENTRY (R108). -/
  | phantomServiceEntry
  /-- PHANTOM_SERVICE_EXIT (R117). -/
  | phantomServiceExit
  /-- TRANSPORT_CHANGE (R39). -/
  | transportChange (level : Bool)
  /-- FRAME_TICK (R48). -/
  | frameTick (inp : TickIn)
  /-- PHASE_DEADLINE (R49). -/
  | phaseDeadline
  /-- FRAME_STALL (R51). -/
  | frameStall
  /-- OPH_INCREMENT (R56). -/
  | ophIncrement
  /-- PARITY_ERROR (R100). -/
  | parityError (site : ParitySite)
  /-- REGISTER_WRITE (R83). -/
  | registerWrite (port : Port) (idx : BitVec 16) (be : BitVec 4) (val : Word)
  /-- PAGE_COMMIT (R96). -/
  | pageCommit (port : Port) (page : BitVec 8)
  /-- FENCE_RELEASE (R88). -/
  | fenceRelease (port : Port) (page : BitVec 8) (key : Byte)
  /-- SOFT_RESET (R87). -/
  | softReset (port : Port) (page : BitVec 8)
  /-- PAGE_ENABLE (R88). -/
  | pageEnable (port : Port) (page : BitVec 8) (en : Bool)
  /-- VIEW_SELECT (R86). -/
  | viewSelect (port : Port) (page : BitVec 8) (view : Bool)
  /-- PAGE_LOCK (R85). -/
  | pageLock (port : Port) (page : BitVec 8) (val : Word)
  /-- EVENT_FLAG_CLEAR (R89). -/
  | eventFlagClear (port : Port) (page : BitVec 8) (val : Word)
  /-- PROFILE_WRITE (R103). -/
  | profileWrite (port : Port) (be : BitVec 4) (val : Word)
  /-- MODE_REQUEST (R110). -/
  | modeRequest (port : Port) (val : Word)
  /-- SHIP_REQUEST (R131). -/
  | shipRequest (port : Port) (val : Word)
  /-- SHIP_ENTER (R131). -/
  | shipEnter (timedOut : Bool)
  /-- IDLE_TIMER_EXPIRY (R127). -/
  | idleTimerExpiry
  /-- NAP_EVALUATION (R128). -/
  | napEvaluation
  /-- LOW_POWER_BROADCAST (R129). -/
  | lowPowerBroadcast (kind : LowPower)
  /-- NAP_WAKE (R130). -/
  | napWake (src : WakeSrc)
  /-- NAP_TIMED_WAKE (R130). -/
  | napTimedWake
  /-- STANDBY_WAKE (R130). -/
  | standbyWake (src : WakeSrc)
  /-- STANDBY_WAKE_TIMER (R130). -/
  | standbyWakeTimer
  /-- WAKE_COMPLETE (R130). -/
  | wakeComplete
  /-- HOST_ACCESS_IN_NAP (R545). -/
  | hostAccessInNap (port : Port) (access : Access)
  /-- CLOCK_SELECT (R62). -/
  | clockSelect (port : Port) (val : Word)
  /-- CLOCK_MONITOR_GATE (R60). -/
  | clockMonitorGate (src : ClkMon) (count : Nat)
  /-- PLL_LOCK (R59). -/
  | pllLock (lockUs : Nat)
  /-- PLL_UNLOCK (R66). -/
  | pllUnlock
  /-- FM_START (R68). -/
  | fmStart (port : Port) (val : Word)
  /-- FM_DONE (R68). -/
  | fmDone (count : Nat)
  /-- FM_TIMEOUT (R69). -/
  | fmTimeout (count : Nat)
  /-- TICK (R383). -/
  | tick (t : TickPkt) (arrival : Int)
  /-- TICK_MISSING (R183). -/
  | tickMissing
  /-- DESYNC (R184). -/
  | desync
  /-- REPLAY_TICK (R393). -/
  | replayTick (frm : Word) (dref : Word) (kappa : Word)
  /-- STRING_CUTOFF (R391). -/
  | stringCutoff
  /-- CUTOFF_CLEAR (R391). -/
  | cutoffClear
  /-- CH_FORCE_WRITE (R144). -/
  | chForceWrite (port : Port) (ch : BitVec 6) (val : Word)
  /-- EDGE_TIMER (R198). -/
  | edgeTimer (ch : BitVec 6)
  /-- PWM_PERIOD_START (R146). -/
  | pwmPeriodStart (ch : BitVec 6) (cyc : Nat)
  /-- PWM_ON_END (R146). -/
  | pwmOnEnd (ch : BitVec 6) (cyc : Nat)
  /-- HIT_END (R152). -/
  | hitEnd (ch : BitVec 6)
  /-- LIMIT_ENTRY (R154). -/
  | limitEntry (ch : BitVec 6)
  /-- LIMIT_EXIT (R154). -/
  | limitExit (ch : BitVec 6)
  /-- LIMIT_TRIP (R154). -/
  | limitTrip (ch : BitVec 6) (meas : TripMeas)
  /-- FAST_TRIP (R155). -/
  | fastTrip (ch : BitVec 6) (meas : TripMeas)
  /-- OC_TRIP (R156). -/
  | ocTrip (ch : BitVec 6) (meas : TripMeas)
  /-- OT_WARN (R157). -/
  | otWarn (ch : BitVec 6) (temp : BitVec 10)
  /-- OT_TRIP (R157). -/
  | otTrip (ch : BitVec 6) (temp : BitVec 10) (meas : TripMeas)
  /-- OT_CLEAR (R157). -/
  | otClear (ch : BitVec 6) (temp : BitVec 10)
  /-- RETRY_WAIT_END (R162). -/
  | retryWaitEnd (ch : BitVec 6)
  /-- RETRY_OK (R162). -/
  | retryOk (ch : BitVec 6)
  /-- RETRY_COUNT_CLEAR (R163). -/
  | retryCountClear (ch : BitVec 6)
  /-- OPEN_LOAD (R158). -/
  | openLoad (ch : BitVec 6) (mv : BitVec 16)
  /-- OPEN_CLEAR (R158). -/
  | openClear (ch : BitVec 6)
  /-- SHORT_SUPPLY (R159). -/
  | shortSupply (ch : BitVec 6) (mv : BitVec 16)
  /-- REVERSE_CURRENT (R159). -/
  | reverseCurrent (ch : BitVec 6) (mv : BitVec 16)
  /-- BLOCKED_EXIT (R159). -/
  | blockedExit (ch : BitVec 6)
  /-- TRAVEL_EDGE (R177). -/
  | travelEdge (a : Bool) (b : Bool)
  /-- SPEED_STALE (R178). -/
  | speedStale
  /-- TRV_FALLBACK (R176). -/
  | trvFallback
  /-- STARVED (R200). -/
  | starved (ch : BitVec 6)
  /-- ZERO (R182). -/
  | zero
  /-- APPEND_ENTRY (R191). -/
  | appendEntry (port : Port) (be : BitVec 4) (word1 : Word)
  /-- FLUSH (R190). -/
  | flush (port : Port) (ch : BitVec 6)
  /-- GEY_SAMPLE (R215). -/
  | geySample (eng : BitVec 2) (code : BitVec 12)
  /-- ENGINE_RELEASE (R211). -/
  | engineRelease (port : Port) (eng : BitVec 2)
  /-- FEED_PRESENT (R233). -/
  | feedPresent (feed : FeedId)
  /-- FEED_ABSENT (R233). -/
  | feedAbsent (feed : FeedId) (v : BitVec 16)
  /-- REV_POLARITY (R234). -/
  | revPolarity (feed : FeedId) (v : BitVec 16)
  /-- POLREV_CLEAR (R234). -/
  | polrevClear (feed : FeedId)
  /-- FEED_QUALIFIED (R235). -/
  | feedQualified (feed : FeedId)
  /-- FEED_ON (R236). -/
  | feedOn (feed : FeedId) (v : BitVec 16)
  /-- INS_TRIP (R237). -/
  | insTrip (feed : FeedId) (limiting : Bool) (vinb : BitVec 16)
  /-- FEED_WINDOW_EXIT (R238). -/
  | feedWindowExit (feed : FeedId)
  /-- REV_OFF (R239). -/
  | revOff (feed : FeedId) (above : BitVec 16) (v : BitVec 16)
  /-- FEED_RECONDUCT (R239). -/
  | feedReconduct (feed : FeedId)
  /-- FEED_FAST_TRIP (R240). -/
  | feedFastTrip (feed : FeedId) (peak : BitVec 16) (v : BitVec 16)
  /-- FUSE_TRIP (R240). -/
  | fuseTrip (feed : FeedId) (peak : BitVec 16) (v : BitVec 16)
  /-- FEED_RETRY (R241). -/
  | feedRetry (feed : FeedId) (inWin : Bool)
  /-- OVERVOLT (R242). -/
  | overvolt (feed : FeedId) (peak : BitVec 16)
  /-- FEED_UNDERVOLT (R242). -/
  | feedUndervolt (feed : FeedId) (v : BitVec 16)
  /-- FEED_ATTEMPTS_CLEAR (R241). -/
  | feedAttemptsClear (feed : FeedId)
  /-- PRI_TAKEOVER (R248). -/
  | priTakeover (va : BitVec 16)
  /-- PRIMARY_RETURN (R248). -/
  | primaryReturn
  /-- SLEW_UPDATE (R256). -/
  | slewUpdate (conv : ConvId) (out : Nat) (vsys : Nat)
  /-- CAL_DONE (R260). -/
  | calDone (out : Nat) (offs : List Int) (extrap : BitVec 4)
  /-- CONVERTER_LIMIT_TRIP (R262). -/
  | converterLimitTrip (conv : ConvId) (meas : ConvMeas)
  /-- CONVERTER_SHORT_TRIP (R262). -/
  | converterShortTrip (conv : ConvId) (meas : ConvMeas)
  /-- CONVERTER_OV_TRIP (R263). -/
  | converterOvTrip (conv : ConvId) (meas : ConvMeas)
  /-- BACKFEED (R263). -/
  | backfeed (conv : ConvId) (out : BitVec 16)
  /-- DROPOUT (R264). -/
  | dropout (conv : ConvId) (vin : BitVec 16)
  /-- CONVERTER_RETRY (R260). -/
  | converterRetry (conv : ConvId)
  /-- CONVERTER_ATTEMPTS_CLEAR (R260). -/
  | converterAttemptsClear (conv : ConvId)
  /-- VENT_DONE (R259). -/
  | ventDone (conv : ConvId)
  /-- PHASE_SHED (R265). -/
  | phaseShed (shed : Bool)
  /-- PHASE_OFFSET_MEASURE (R265). -/
  | phaseOffsetMeasure (phase : BitVec 2) (ofs : BitVec 16) (extrap : Bool)
  /-- FEEDFORWARD (R266). -/
  | feedforward
  /-- SYNC_OK (R270). -/
  | syncOk
  /-- CHG_PRECHARGE_DONE (R301). -/
  | chgPrechargeDone (vbat : Nat)
  /-- CHG_CV_ENTRY (R301). -/
  | chgCvEntry (vbat : Nat)
  /-- CHARGE_DONE (R301). -/
  | chargeDone (vbat : BitVec 16)
  /-- RECHARGE_CHECK (R298). -/
  | rechargeCheck (vbat : Nat)
  /-- NTC_ZONE (R303). -/
  | ntcZone (temp : Int) (bad : Bool)
  /-- CHG_SHUTDOWN (R301). -/
  | chgShutdown (die : Byte)
  /-- CHG_TIMER_SECOND (R307). -/
  | chgTimerSecond
  /-- BAT_PRESENCE_TEST (R305). -/
  | batPresenceTest (drop : Nat)
  /-- BAT_ABSENT (R305). -/
  | batAbsent
  /-- NOBAT_CHECK (R305). -/
  | nobatCheck (mv : Nat)
  /-- BAT_LOW (R309). -/
  | batLow (vbat : BitVec 16)
  /-- BAT_CUTOFF (R310). -/
  | batCutoff (vbat : BitVec 16)
  /-- HOLDUP_TRIGGER (R311). -/
  | holdupTrigger (trig : HoldTrig) (vinb : BitVec 16)
  /-- BYPASS_TRIP (R313). -/
  | bypassTrip (byLimit : Bool) (cur : BitVec 16)
  /-- HOLDMAX_EXPIRED (R315). -/
  | holdmaxExpired
  /-- BYPASS_OPEN (R317). -/
  | bypassOpen
  /-- REPEAT_RESET (R316). -/
  | repeatReset
  /-- SEQ_UP (R327). -/
  | seqUp (port : Port)
  /-- SEQ_DOWN (R327). -/
  | seqDown (port : Port)
  /-- SLOT_START (R329). -/
  | slotStart (slot : BitVec 4)
  /-- SLOT_WAIT_TIMEOUT (R329). -/
  | slotWaitTimeout (slot : BitVec 4)
  /-- SLOT_RISE_TIMEOUT (R330). -/
  | slotRiseTimeout (slot : BitVec 4)
  /-- SLOT_GOOD (R325). -/
  | slotGood (slot : BitVec 4)
  /-- SLOT_HOLDOFF (R334). -/
  | slotHoldoff (slot : BitVec 4)
  /-- SLOT_VENTED (R335). -/
  | slotVented (slot : BitVec 4)
  /-- VENT_TIMEOUT (R335). -/
  | ventTimeout (slot : BitVec 4)
  /-- SUP_FILTER (R341). -/
  | supFilter (sup : BitVec 5) (value : SupSample)
  /-- SCAN_ENTRY_DONE (R350). -/
  | scanEntryDone (conv : BitVec 2) (entry : BitVec 6) (acc : BitVec 16) (split : Bool)
  /-- HEAD_LATE (R352). -/
  | headLate
  /-- ADC_HOST_REQUEST (R354). -/
  | adcHostRequest (port : Port) (val : Word)
  /-- HOST_CONVERSION_DONE (R354). -/
  | hostConversionDone (port : Port) (acc : HostConv)
  /-- ZERO_REFRESH (R360). -/
  | zeroRefresh (ch : BitVec 6) (lsOpen : Bool)
  /-- ZERO_REFRESH_DONE (R360). -/
  | zeroRefreshDone (ch : BitVec 6) (hs : Int) (load : Int)
  /-- CAL_GAIN (R361). -/
  | calGain (port : Port) (input : Byte) (codes : List Nat)
  /-- CAL_OFFSET (R361). -/
  | calOffset (port : Port) (input : Byte) (codes : List Nat)
  /-- CAL_RESTORE (R361). -/
  | calRestore (port : Port) (input : Byte)
  /-- NV_WRITE_DONE (R437). -/
  | nvWriteDone (ok : Bool)
  /-- SNAP_ARM (R364). -/
  | snapArm (port : Port)
  /-- SNAPSHOT_LATCH (R365). -/
  | snapshotLatch
  /-- SNAPSHOT_DONE (R365). -/
  | snapshotDone
  /-- PORT_SIGNAL_DETECT (R376). -/
  | portSignalDetect (lport : LinkPort)
  /-- PORT_TRAINED (R376). -/
  | portTrained (lport : LinkPort)
  /-- PORT_TRAIN_TIMEOUT (R376). -/
  | portTrainTimeout (lport : LinkPort)
  /-- LINK_DOWN (R376). -/
  | linkDown (lport : LinkPort) (cause : LinkLoss)
  /-- NEG (R398). -/
  | neg (lport : LinkPort) (word : Word)
  /-- PACKET_DISCARD (R381). -/
  | packetDiscard (lport : LinkPort) (check : PktCheck) (hdr : Option Hdr)
  /-- PACKET_FORWARD (R387). -/
  | packetForward (lport : LinkPort) (pkt : Packet) (bad : Bool)
  /-- POLL_SLOT_TX (R385). -/
  | pollSlotTx
  /-- POLL (R384). -/
  | poll (r : PollPkt)
  /-- POLL_SLOT_END (R389). -/
  | pollSlotEnd (pos : BitVec 4)
  /-- RD (R415). -/
  | rd (hdr : Hdr) (payload : List Word) (cyc : Nat)
  /-- WR (R417). -/
  | wr (hdr : Hdr) (payload : List Word) (cyc : Nat)
  /-- TBL (R419). -/
  | tbl (hdr : Hdr) (payload : List Word) (cyc : Nat)
  /-- SNAP (R422). -/
  | snap (hdr : Hdr) (payload : List Word)
  /-- SRD (R423). -/
  | srd (hdr : Hdr) (payload : List Word)
  /-- SRDR_PART (R424). -/
  | srdrPart
  /-- RESPONSE_SEND (R411). -/
  | responseSend
  /-- CRED (R394). -/
  | cred (lport : LinkPort) (word : Word)
  /-- CREDIT_RESYNC (R397). -/
  | creditResync (byWrite : Bool) (port : Port)
  /-- CREDIT_TIMEOUT (R397). -/
  | creditTimeout (cls : CredClass)
  /-- REENUM (R405). -/
  | reenum (port : Port)
  /-- ENUM_RESET (R402). -/
  | enumReset (epoch : Byte)
  /-- ENUM_ASSIGN (R402). -/
  | enumAssign (pos : BitVec 4)
  /-- ENUM_PROBE (R402). -/
  | enumProbe (pos : BitVec 4)
  /-- ENUM_SET (R402). -/
  | enumSet (pos : BitVec 4) (tofs : BitVec 16) (epoch : Byte)
  /-- ENUM_DONE (R402). -/
  | enumDone (nHubs : BitVec 5) (sver : BitVec 2)
  /-- ENUM_ACK (R402). -/
  | enumAck (pos : BitVec 4) (cred : Byte) (devId : Word) (serial0 : Word) (hver : BitVec 2)
  /-- ENUM_ECHO (R403). -/
  | enumEcho (pos : BitVec 4) (cred : Byte) (rtt : Nat)
  /-- ASSIGN_TIMEOUT (R404). -/
  | assignTimeout
  /-- LINK_WAKE (R406). -/
  | linkWake (lport : LinkPort)
  /-- SPI_TRANSACTION_START (R428). -/
  | spiTransactionStart
  /-- SPI_TRANSACTION_END (R427). -/
  | spiTransactionEnd (mosi : List Byte) (clocked : Nat)
  /-- TWB_READ (R434). -/
  | twbRead (idx : BitVec 16) (pecRead : Bool) (cyc : Nat)
  /-- TWB_WRITE (R435). -/
  | twbWrite (cmd : Byte) (bytes : List Byte) (cyc : Nat)
  /-- ATTN (R439). -/
  | attn (pecRead : Bool)
  /-- LAST (R433). -/
  | last (pecRead : Bool)
  /-- FORMAT_ERROR (R433). -/
  | formatError (cmd : Byte) (cause : Byte)
  /-- ALERT_RESPONSE (R443). -/
  | alertResponse (lost : AlertReply)
  /-- BUS_TIMEOUT (R444). -/
  | busTimeout (mid : Bool)
  /-- INBAND_PULSE (R441). -/
  | inbandPulse
  /-- COLLIDE (R441). -/
  | collide
  /-- BUSY_WINDOW_CLOSE (R437). -/
  | busyWindowClose
  /-- QUIET_END (R438). -/
  | quietEnd
  /-- ATTN_REMIND (R439). -/
  | attnRemind
  /-- IRQ_ACK (R453). -/
  | irqAck (port : Port) (target : Port)
  /-- IRQ_EOI (R454). -/
  | irqEoi (port : Port) (target : Port) (src : Byte)
  /-- IRQ_SWSET (R457). -/
  | irqSwset (port : Port) (val : Word)
  /-- WDT_CHECKIN (R465). -/
  | wdtCheckin (port : Port) (be : BitVec 4) (val : Word)
  /-- WDT_OPEN (R475). -/
  | wdtOpen
  /-- WDT_MISSING (R467). -/
  | wdtMissing
  /-- RST_OUT_RELEASE (R469). -/
  | rstOutRelease
  /-- RTC_SECOND (R486). -/
  | rtcSecond
  /-- RTC_HALT (R481). -/
  | rtcHalt (port : Port) (halt : Bool) (slave : Bool)
  /-- RTC_TIME_READ (R479). -/
  | rtcTimeRead (port : Port)
  /-- RTC_TRIM (R484). -/
  | rtcTrim (temp : Int) (keepMv : Nat)
  /-- KRES_STOP (R483). -/
  | kresStop
  /-- KEEP_CHANGEOVER (R485). -/
  | keepChangeover (toKeep : Bool)
  /-- RTC_DOMAIN_POWERUP (R480). -/
  | rtcDomainPowerup
  /-- SLAVE_LOST (R488). -/
  | slaveLost
  /-- RECORD_COMMIT (R496). -/
  | recordCommit
  /-- LOGIC_POWER_FAIL (R499). -/
  | logicPowerFail
  /-- STORE_UNCORR (R504). -/
  | storeUncorr (slot : BitVec 14) (word : BitVec 4)
  /-- KEY_PROG (R505). -/
  | keyProg (port : Port) (slot : BitVec 2)
  /-- KEY_CHAL (R506). -/
  | keyChal (port : Port) (slot : BitVec 2) (op : Byte)
  /-- AUTH_SERVICE (R508). -/
  | authService (port : Port) (slot : BitVec 2)
  /-- AUTH_CLEAR (R508). -/
  | authClear (port : Port) (slot : BitVec 2)
  /-- ENDSESS (R510). -/
  | endsess (port : Port)
  /-- CHALLENGE_EXPIRY (R506). -/
  | challengeExpiry
  /-- SESSION_LAPSE (R510). -/
  | sessionLapse
  /-- LOCKOUT_END (R508). -/
  | lockoutEnd
  /-- RECORDER_CLEAR (R511). -/
  | recorderClear
  /-- CLEARED (R511). -/
  | cleared
  /-- TICK_SKEW (R530). -/
  | tickSkew
  /-- FEED_DETECT (R243). -/
  | feedDetect (feed : FeedId)
  /-- DETECT_DROP (R243). -/
  | detectDrop (feed : FeedId)
  /-- VSYS_LOW (R260). -/
  | vsysLow (conv : ConvId)
  /-- DOMAIN_STOP (R485). -/
  | domainStop
  /-- SUPERVISOR_CHATTER (R530). -/
  | supervisorChatter (start : ChatterEdge)
  deriving DecidableEq, Repr

end Sys2Proof
end

