-- ==== Sys2Proof/Config.lean ====
section
/-! DEFINITION. Values that one hub has and the spec leaves open: opaque constants, so that nothing can be
proved of what they are. -/

namespace Sys2Proof.Config

/-- Word i of DEV_SERIAL, 128 bits, fixed at manufacture (03 R105). -/
opaque serial : Nat → BitVec 32

/-- Factory records of the correction table, by index (13 R356): OFS in raw16 units, GAIN in 1.15 fixed point,
TC in ppm/°C and TCAL in 0.5 °C. -/
opaque calOfs : Nat → BitVec 16
opaque calGain : Nat → BitVec 16
opaque calTc : Nat → BitVec 16
opaque calTcal : Nat → BitVec 16

/-- The NTC characteristic of 01 R18 applied to a corrected code of input 0xDF: temperature in 0.5 °C (13 R349).
The spec gives R(T), not the circuit that turns R into a code. -/
opaque ntc : Int → BitVec 10

/-- Codes of the sixteen conversions of a field calibration that was started by a plain register write, by tick and
by number (13 R361). -/
opaque calCode : Nat → Nat → BitVec 12

/-- The random words of the n-th challenge drawn since manufacture, by word 0–3 (20 R506). -/
opaque challenge : Nat → Nat → BitVec 32

/-- The five points of the factory curve of KRES, in ppb, from −40 to 85 °C (19 R484). -/
opaque trimCurve : Nat → BitVec 19

/-- Cycles of KRES that fall in the n-th frame since manufacture (19 R478, R484); no command brings them. -/
opaque kresEdges : Nat → BitVec 3

/-- The cycle at which P0 of the n-th frame executes the work that an overrun has moved to it: the spec lets P0 run to its
end without a deadline (02 R47–R50). -/
opaque p0Cycle : Nat → BitVec 11

/-- The time in µs in which the PLL locks at a start or a wake, by frame; no command brings it (02 R59, R76; DESIGN CHOICE,
log entry 9). -/
opaque lockTime : Nat → BitVec 8

/-- Cycles that P1 (1) and P2 (2) take in the n-th frame; the spec gives them no number below their deadlines (02 R47,
R77). -/
opaque phaseCycles : Nat → Nat → BitVec 14

/-- The peak current, in 100 mA, of a slow fuse trip that comes at the tick at which the feed is disabled, by feed and tick: no
command tells it (08 R242, R253; DEDUCED, log entry 80). -/
opaque fusePeak : Nat → Nat → BitVec 16

/-- The share of feed A, in percent, that RATIO aims at in the n-th frame on the way to a new setpoint, and the drop in
mV that it adds to the feed that carries more than its share: 08 R247 and R249 say when they settle and not the steps.
-/
opaque shareSetpoint : Nat → BitVec 7
opaque shareDrop : Nat → BitVec 10

/-- Where LB's switching periods begin in the n-th frame, in core cycles, while they bear no relation to the tick (09
R269). -/
opaque lbGrid : Nat → BitVec 11

/-- The charge current, in mA, that an INPUT, THERMAL or SYSTEM limiter of the charger allows in the frame of a tick;
the spec gives what each of them holds, and no current (11 R304; DESIGN CHOICE, log entry 9). -/
opaque chgLimit : Nat → BitVec 14

/-- The freewheeling load current of a channel has fallen to zero by the n-th tick (05 R140); no command brings it. -/
opaque freewheelOver : Nat → Nat → Bool

/-- The on-interval, in cycles, of a chopping period of a channel: by channel and number of the period (05 R152, R175;
DESIGN CHOICE, log entry 79). -/
opaque chopLen : Nat → Nat → BitVec 15

/-- The cycles after which the current of a hit reaches IHIT, where it does: by channel and the frame of the hit's start
(05 R152; DESIGN CHOICE, log entry 79). -/
opaque hitRise : Nat → Nat → BitVec 32

/-- The cause byte that WDT_SAFE shows on a hub whose SAFE action the lead's TICK brought, by frame: TICK carries no cause
(18 R473, R476). -/
opaque followCause : Nat → Nat

/-- SEQ of a packet that this hub passes on, by frame and by its place among the packets of the frame (1,000 and more: up): the
commands that bring a TICK, an ENUM or a POLL carry no SEQ, and its originator counts it (14 R380, R387; DESIGN
CHOICE, log entry 82). -/
opaque heardSeq : Nat → Nat → BitVec 8

end Sys2Proof.Config
end

