-- ==== Sys2Proof/Machine/RegNames.lean ====
section
/-! DEFINITION. The named fields of the register file, one constant per field of the register tables
of spec/ (the page headers of 03 R85 first).  A constant of a repeated page names the first instance
(channel 0, FEEDA, H1, IRQS0, GEYSER engine 0); `Fld.pg` and `Fld.nth` reach the others. -/

namespace Sys2Proof.Machine

/-- A field of the register file: its 16-bit register index, its lowest bit and its width. -/
structure Fld where
  idx : Nat
  lo : Nat
  w : Nat
  deriving DecidableEq, Repr

/-- The same field `n` pages further on. -/
abbrev Fld.pg (f : Fld) (n : Nat) : Fld := ⟨f.idx + 256 * n, f.lo, f.w⟩
/-- The same field `k` offsets further on. -/
abbrev Fld.nth (f : Fld) (k : Nat) : Fld := ⟨f.idx + k, f.lo, f.w⟩

/-! ## The common header (03 R85), of page 0; `.pg n` is page n -/

abbrev PG_CTL_EN : Fld := ⟨1, 0, 1⟩
abbrev PG_CTL_VIEW : Fld := ⟨1, 1, 1⟩
abbrev PG_EVT_ALL : Fld := ⟨3, 0, 32⟩
abbrev PG_EVT_EN_ALL : Fld := ⟨4, 0, 32⟩
abbrev PG_COMMIT_RESULT : Fld := ⟨5, 0, 8⟩
abbrev PG_COMMIT_OFFSET : Fld := ⟨5, 8, 8⟩
abbrev PG_COMMIT_FRM : Fld := ⟨5, 16, 16⟩
abbrev PG_LOCK_CFG : Fld := ⟨6, 0, 1⟩
abbrev PG_LOCK_RST : Fld := ⟨6, 1, 1⟩
abbrev PG_LOCK_BLOCK : Fld := ⟨6, 8, 8⟩
abbrev PG_ERR_CODE : Fld := ⟨7, 0, 8⟩
abbrev PG_ERR_OFFSET : Fld := ⟨7, 8, 8⟩
abbrev PG_ERR_COUNT : Fld := ⟨7, 16, 16⟩

/-! ## CLK page (02 R76) (rule R76) -/

abbrev CLK_STAT_RCO_RDY : Fld := ⟨0x0108, 0, 1⟩
abbrev CLK_STAT_MOSC_RDY : Fld := ⟨0x0108, 1, 1⟩
abbrev CLK_STAT_LREC_RDY : Fld := ⟨0x0108, 2, 1⟩
abbrev CLK_STAT_CLKIN_RDY : Fld := ⟨0x0108, 3, 1⟩
abbrev CLK_STAT_CLKIN_REFOK : Fld := ⟨0x0108, 4, 1⟩
abbrev CLK_STAT_PLL_RDY : Fld := ⟨0x0108, 5, 1⟩
abbrev CLK_STAT_KRES_RDY : Fld := ⟨0x0108, 6, 1⟩
abbrev CLK_STAT_CORE_SRC : Fld := ⟨0x0108, 8, 3⟩
abbrev CLK_STAT_PLLREF_ACT : Fld := ⟨0x0108, 12, 3⟩
abbrev CLK_STAT_HOLDOVER : Fld := ⟨0x0108, 15, 1⟩
abbrev CLK_STAT_REFUSED : Fld := ⟨0x0108, 16, 1⟩
abbrev CLK_STAT_FALLBACK : Fld := ⟨0x0108, 17, 1⟩
abbrev CLK_SEL_PLLREF : Fld := ⟨0x0109, 0, 3⟩
abbrev CLK_ERRCNT_REFCNT : Fld := ⟨0x010A, 0, 16⟩
abbrev CLK_ERRCNT_FALLCNT : Fld := ⟨0x010A, 16, 16⟩
abbrev CLK_PLLSTAT_UNLOCKCNT : Fld := ⟨0x010B, 0, 16⟩
abbrev CLK_PLLSTAT_LOCKTIME : Fld := ⟨0x010B, 16, 8⟩
abbrev CLK_FMCTL_SRC : Fld := ⟨0x010C, 0, 3⟩
abbrev CLK_FMCTL_REF : Fld := ⟨0x010C, 4, 3⟩
abbrev CLK_FMCTL_GATE : Fld := ⟨0x010C, 8, 5⟩
abbrev CLK_FMCTL_START : Fld := ⟨0x010C, 16, 1⟩
abbrev CLK_FMCTL_BUSY : Fld := ⟨0x010C, 17, 1⟩
abbrev CLK_FMCTL_DONE : Fld := ⟨0x010C, 18, 1⟩
abbrev CLK_FMCTL_OVF : Fld := ⟨0x010C, 19, 1⟩
abbrev CLK_FMCTL_TIMEOUT : Fld := ⟨0x010C, 20, 1⟩
abbrev CLK_FMCOUNT_COUNT : Fld := ⟨0x010D, 0, 32⟩
abbrev CLK_MONCTL_EN : Fld := ⟨0x010E, 0, 5⟩
abbrev CLK_MONCTL_GATE : Fld := ⟨0x010E, 8, 4⟩
abbrev CLK_MONTOL_TOLF : Fld := ⟨0x010F, 0, 10⟩
abbrev CLK_MONSTAT_FAILNOW : Fld := ⟨0x0110, 0, 5⟩
abbrev CLK_MONSTAT_LASTFAIL : Fld := ⟨0x0110, 8, 3⟩
abbrev CLK_MONSTAT_FAILCNT : Fld := ⟨0x0110, 16, 16⟩

/-! ## FRM page (02 R77) (rule R77) -/

abbrev FRM_NO_NO : Fld := ⟨0x0208, 0, 32⟩
abbrev FRM_CYC_CYC : Fld := ⟨0x0209, 0, 16⟩
abbrev FRM_OVR_COUNT : Fld := ⟨0x020A, 0, 32⟩
abbrev FRM_OVRINFO_PHASE : Fld := ⟨0x020B, 0, 2⟩
abbrev FRM_OVRINFO_RUN : Fld := ⟨0x020B, 4, 4⟩
abbrev FRM_OVRFRM_FRAME : Fld := ⟨0x020C, 0, 32⟩
abbrev FRM_LOAD_P1MAX : Fld := ⟨0x020D, 0, 16⟩
abbrev FRM_LOAD_P2MAX : Fld := ⟨0x020D, 16, 16⟩
abbrev FRM_OPH_LO_OPH : Fld := ⟨0x020E, 0, 32⟩
abbrev FRM_OPH_HI_OPH : Fld := ⟨0x020F, 0, 4⟩
abbrev FRM_PCC_PCC : Fld := ⟨0x0210, 0, 24⟩
abbrev FRM_TOFS_TOFS : Fld := ⟨0x0211, 0, 16⟩
abbrev FRM_TERR_ERR : Fld := ⟨0x0212, 0, 16⟩
abbrev FRM_TERR_MISS : Fld := ⟨0x0212, 16, 8⟩
abbrev FRM_STALLN_N : Fld := ⟨0x0213, 0, 4⟩

/-! ## DEV page (03 R105) (rule R105) -/

abbrev DEV_ID_PART : Fld := ⟨0x0008, 0, 16⟩
abbrev DEV_ID_GEN : Fld := ⟨0x0008, 16, 8⟩
abbrev DEV_ID_VENDOR : Fld := ⟨0x0008, 24, 8⟩
abbrev DEV_CAP_NCH : Fld := ⟨0x0009, 0, 7⟩
abbrev DEV_CAP_MAXHUB : Fld := ⟨0x0009, 8, 4⟩
abbrev DEV_CAP_LINKVER : Fld := ⟨0x0009, 16, 3⟩
abbrev DEV_CAP_PROFILES : Fld := ⟨0x0009, 24, 2⟩
abbrev DEV_CHMASK_LO_MASK : Fld := ⟨0x000A, 0, 32⟩
abbrev DEV_CHMASK_HI_MASK : Fld := ⟨0x000B, 0, 32⟩
abbrev DEV_SERIAL_SERIAL : Fld := ⟨0x000C, 0, 32⟩
abbrev DEV_PROFILE_PROFILE : Fld := ⟨0x0010, 0, 2⟩
abbrev DEV_PROFILE_DEFAULTED : Fld := ⟨0x0010, 8, 1⟩
abbrev DEV_MODE_MODE : Fld := ⟨0x0011, 0, 3⟩
abbrev DEV_MODE_PREV : Fld := ⟨0x0011, 8, 3⟩
abbrev DEV_MODE_CHANGES : Fld := ⟨0x0011, 16, 16⟩
abbrev DEV_MODEREQ_REQ : Fld := ⟨0x0012, 0, 3⟩
abbrev DEV_CTL_AUTO_STBY : Fld := ⟨0x0013, 0, 1⟩
abbrev DEV_CTL_WAKEAT_EN : Fld := ⟨0x0013, 1, 1⟩
abbrev DEV_IDLET_IDLE_T : Fld := ⟨0x0014, 0, 16⟩
abbrev DEV_WAKEAT_FRAME : Fld := ⟨0x0015, 0, 32⟩
abbrev DEV_SHIP_KEY : Fld := ⟨0x0016, 0, 32⟩
abbrev DEV_STRAPS_ADDR : Fld := ⟨0x0017, 0, 3⟩
abbrev DEV_STRAPS_HOSTSEL : Fld := ⟨0x0017, 3, 1⟩
abbrev DEV_STRAPS_TRANSPORT : Fld := ⟨0x0017, 4, 1⟩
abbrev DEV_STRAPS_UNSTABLE : Fld := ⟨0x0017, 8, 4⟩
abbrev DEV_POS_POS : Fld := ⟨0x0018, 0, 4⟩
abbrev DEV_POS_LEAD : Fld := ⟨0x0018, 4, 1⟩
abbrev DEV_POS_VALID : Fld := ⟨0x0018, 5, 1⟩
abbrev DEV_BOOT_VER : Fld := ⟨0x0019, 0, 8⟩
abbrev DEV_BOOT_VALID : Fld := ⟨0x0019, 8, 1⟩
abbrev DEV_BOOT_FACTORY : Fld := ⟨0x0019, 9, 1⟩

/-! ## Channel page of CH00; `.pg n` reaches CHn (rule R175) -/

abbrev CH_CTL_EN : Fld := ⟨0x4008, 0, 1⟩
abbrev CH_CTL_OLT : Fld := ⟨0x4008, 1, 1⟩
abbrev CH_MODE_MODE : Fld := ⟨0x4009, 0, 3⟩
abbrev CH_MODE_OFFDECAY : Fld := ⟨0x4009, 4, 1⟩
abbrev CH_PWM_DUTY : Fld := ⟨0x400A, 0, 10⟩
abbrev CH_PWM_PHAUTO : Fld := ⟨0x400A, 15, 1⟩
abbrev CH_PWM_PHASE : Fld := ⟨0x400A, 16, 16⟩
abbrev CH_GRP_FREQ : Fld := ⟨0x400B, 0, 9⟩
abbrev CH_HH_IHIT : Fld := ⟨0x400C, 0, 11⟩
abbrev CH_HH_IHOLD : Fld := ⟨0x400C, 16, 9⟩
abbrev CH_HIT_THIT : Fld := ⟨0x400D, 0, 13⟩
abbrev CH_LIM_ILIM : Fld := ⟨0x400E, 0, 7⟩
abbrev CH_LIM_TLIM : Fld := ⟨0x400E, 16, 9⟩
abbrev CH_OCL_IOC : Fld := ⟨0x400F, 0, 9⟩
abbrev CH_OCL_I2T : Fld := ⟨0x400F, 16, 9⟩
abbrev CH_RETRY_WAIT : Fld := ⟨0x4010, 0, 11⟩
abbrev CH_RETRY_MAX : Fld := ⟨0x4010, 16, 4⟩
abbrev CH_SAFE_SAFE : Fld := ⟨0x4011, 0, 2⟩
abbrev CH_CLASS_CLASS : Fld := ⟨0x4012, 0, 2⟩
abbrev CH_CLASS_HOLDUP_EN : Fld := ⟨0x4012, 4, 1⟩
abbrev CH_CLASS_TRANSPORT_EN : Fld := ⟨0x4012, 5, 1⟩
abbrev CH_FORCE_FORCE : Fld := ⟨0x4013, 0, 2⟩
abbrev CH_STAT_STATE : Fld := ⟨0x4014, 0, 4⟩
abbrev CH_STAT_OUT : Fld := ⟨0x4014, 4, 1⟩
abbrev CH_STAT_CMD : Fld := ⟨0x4014, 5, 1⟩
abbrev CH_STAT_OPEN : Fld := ⟨0x4014, 6, 1⟩
abbrev CH_STAT_SSUP : Fld := ⟨0x4014, 7, 1⟩
abbrev CH_STAT_LIMITING : Fld := ⟨0x4014, 8, 1⟩
abbrev CH_STAT_OT : Fld := ⟨0x4014, 9, 1⟩
abbrev CH_STAT_SAFE_ACT : Fld := ⟨0x4014, 10, 1⟩
abbrev CH_STAT_FORCED : Fld := ⟨0x4014, 11, 1⟩
abbrev CH_STAT_CAPPED : Fld := ⟨0x4014, 12, 1⟩
abbrev CH_STAT_EXTRAP : Fld := ⟨0x4014, 13, 1⟩
abbrev CH_STAT_CNTLOST : Fld := ⟨0x4014, 14, 1⟩
abbrev CH_STAT_RETRY_PEND : Fld := ⟨0x4014, 15, 1⟩
abbrev CH_STAT_ATTEMPTS : Fld := ⟨0x4014, 16, 4⟩
abbrev CH_TRIP_CAUSE : Fld := ⟨0x4015, 0, 3⟩
abbrev CH_TRIP_ATTEMPT : Fld := ⟨0x4015, 8, 8⟩
abbrev CH_TRIP_FRM : Fld := ⟨0x4015, 16, 16⟩
abbrev CH_APPLIED_DUTY : Fld := ⟨0x4016, 0, 10⟩
abbrev CH_APPLIED_PHASE : Fld := ⟨0x4016, 16, 16⟩
abbrev CH_IMEAS_INST : Fld := ⟨0x4017, 0, 16⟩
abbrev CH_IMEAS_AVG : Fld := ⟨0x4017, 16, 16⟩
abbrev CH_VMEAS_V : Fld := ⟨0x4018, 0, 16⟩
abbrev CH_VMEAS_AGE : Fld := ⟨0x4018, 16, 8⟩
abbrev CH_TEMP_TEMP : Fld := ⟨0x4019, 0, 10⟩
abbrev CH_TEMP_I2T : Fld := ⟨0x4019, 16, 16⟩
abbrev CH_Q_LO_Q : Fld := ⟨0x401A, 0, 32⟩
abbrev CH_Q_HI_Q : Fld := ⟨0x401B, 0, 16⟩
abbrev CH_E_LO_E : Fld := ⟨0x401C, 0, 32⟩
abbrev CH_E_HI_E : Fld := ⟨0x401D, 0, 16⟩
abbrev CH_ONT_ONT : Fld := ⟨0x401E, 0, 32⟩
abbrev CH_SWCNT_SW : Fld := ⟨0x401F, 0, 32⟩
abbrev CH_TRIPCNT_TRIPS : Fld := ⟨0x4020, 0, 32⟩

/-! ## Channel page of CH00; `.pg n` reaches CHn (rule R210) -/

abbrev CH_LANE_BASE : Fld := ⟨0x4030, 0, 14⟩
abbrev CH_LANE_LENGTH : Fld := ⟨0x4030, 16, 15⟩
abbrev CH_LANECTL_FLUSH : Fld := ⟨0x4031, 0, 1⟩
abbrev CH_LANECTL_LATEPOL : Fld := ⟨0x4031, 4, 1⟩
abbrev CH_LANECTL_EMPTYACT : Fld := ⟨0x4031, 5, 1⟩
abbrev CH_LANECTL_LEADSRC : Fld := ⟨0x4031, 6, 1⟩
abbrev CH_LANESTAT_COUNT : Fld := ⟨0x4032, 0, 15⟩
abbrev CH_LANESTAT_HEADKEY : Fld := ⟨0x4032, 15, 1⟩
abbrev CH_LANESTAT_FREE : Fld := ⟨0x4032, 16, 15⟩
abbrev CH_LANEHEAD_TARGET : Fld := ⟨0x4033, 0, 32⟩
abbrev CH_TAILD_TARGET : Fld := ⟨0x4034, 0, 32⟩
abbrev CH_TAILT_TARGET : Fld := ⟨0x4035, 0, 32⟩
abbrev CH_YOFS_Y : Fld := ⟨0x4036, 0, 16⟩
abbrev CH_XOFS_X : Fld := ⟨0x4037, 0, 16⟩
abbrev CH_LEADON_LEAD : Fld := ⟨0x4038, 0, 19⟩
abbrev CH_LEADOFF_LEAD : Fld := ⟨0x4039, 0, 19⟩
abbrev CH_MINDWELL_DWELL : Fld := ⟨0x403A, 0, 10⟩
abbrev CH_STARVE_TU : Fld := ⟨0x403B, 0, 24⟩
abbrev CH_ODO_LO_ODO : Fld := ⟨0x403C, 0, 32⟩
abbrev CH_ODO_HI_ODO : Fld := ⟨0x403D, 0, 16⟩
abbrev CH_SPEED_V : Fld := ⟨0x403E, 0, 32⟩
abbrev CH_SECSTAT_ENG : Fld := ⟨0x403F, 0, 1⟩
abbrev CH_SECSTAT_REVERSE : Fld := ⟨0x403F, 1, 1⟩
abbrev CH_SECSTAT_STARVED : Fld := ⟨0x403F, 2, 1⟩
abbrev CH_SECSTAT_ARMED : Fld := ⟨0x403F, 3, 2⟩
abbrev CH_SECSTAT_ECLASS : Fld := ⟨0x403F, 5, 2⟩
abbrev CH_SECSTAT_LASTTAG : Fld := ⟨0x403F, 24, 8⟩
abbrev CH_LEADEFF_ON_LEAD : Fld := ⟨0x4040, 0, 19⟩
abbrev CH_LEADEFF_OFF_LEAD : Fld := ⟨0x4041, 0, 19⟩
abbrev CH_SECCNT0_LATE : Fld := ⟨0x4042, 0, 16⟩
abbrev CH_SECCNT0_COLLAPSED : Fld := ⟨0x4042, 16, 16⟩
abbrev CH_SECCNT1_SKIPPED : Fld := ⟨0x4043, 0, 16⟩
abbrev CH_SECCNT1_REFUSED : Fld := ⟨0x4043, 16, 16⟩
abbrev CH_SECCNT2_EXEC : Fld := ⟨0x4044, 0, 32⟩
abbrev CH_LASTMARK_TAG : Fld := ⟨0x4045, 0, 8⟩
abbrev CH_LASTMARK_FRM : Fld := ⟨0x4045, 16, 16⟩
abbrev CH_PRV_ISTEP : Fld := ⟨0x4046, 0, 16⟩
abbrev CH_PRV_ION : Fld := ⟨0x4046, 16, 16⟩

/-! ## Channel page of CH00; `.pg n` reaches CHn (rule R230) -/

abbrev CH_GEYCTL_ONEN : Fld := ⟨0x4060, 0, 1⟩
abbrev CH_GEYCTL_OFFEN : Fld := ⟨0x4060, 1, 1⟩
abbrev CH_GEYCTL_LEARN : Fld := ⟨0x4060, 2, 1⟩
abbrev CH_GEYCTL_STOPEARLY : Fld := ⟨0x4060, 3, 1⟩
abbrev CH_GEYCTL_INTERVAL : Fld := ⟨0x4060, 4, 2⟩
abbrev CH_GEYCTL_NSAMP : Fld := ⟨0x4060, 8, 8⟩
abbrev CH_GEYCTL_EVERY : Fld := ⟨0x4060, 16, 8⟩
abbrev CH_MECHOFS_OFS : Fld := ⟨0x4061, 0, 20⟩
abbrev CH_GEYLON_L : Fld := ⟨0x4062, 0, 23⟩
abbrev CH_GEYLON_COUNT : Fld := ⟨0x4062, 24, 8⟩
abbrev CH_GEYLONPT_V : Fld := ⟨0x4063, 0, 16⟩
abbrev CH_GEYLONPT_T : Fld := ⟨0x4063, 16, 16⟩
abbrev CH_GEYLOFF_L : Fld := ⟨0x4064, 0, 23⟩
abbrev CH_GEYLOFF_COUNT : Fld := ⟨0x4064, 24, 8⟩
abbrev CH_GEYLOFFPT_V : Fld := ⟨0x4065, 0, 16⟩
abbrev CH_GEYLOFFPT_T : Fld := ⟨0x4065, 16, 16⟩
abbrev CH_GEYMEAS_M : Fld := ⟨0x4066, 0, 19⟩
abbrev CH_GEYMEAS_DIR : Fld := ⟨0x4066, 20, 1⟩
abbrev CH_GEYMEAS_RESULT : Fld := ⟨0x4066, 21, 3⟩
abbrev CH_GEYSTAT_LST_ON : Fld := ⟨0x4067, 0, 2⟩
abbrev CH_GEYSTAT_LST_OFF : Fld := ⟨0x4067, 2, 2⟩
abbrev CH_GEYSTAT_NMRUN : Fld := ⟨0x4067, 4, 4⟩
abbrev CH_GEYSTAT_OUTRUN_ON : Fld := ⟨0x4067, 8, 4⟩
abbrev CH_GEYSTAT_OUTRUN_OFF : Fld := ⟨0x4067, 12, 4⟩
abbrev CH_GEYSTAT_ENG : Fld := ⟨0x4067, 16, 3⟩
abbrev CH_GEYCNT_CAPT : Fld := ⟨0x4068, 0, 16⟩
abbrev CH_GEYCNT_SKIP : Fld := ⟨0x4068, 16, 16⟩
abbrev CH_GEYCNT2_NOMOTION : Fld := ⟨0x4069, 0, 16⟩
abbrev CH_GEYCNT2_RESEEDS : Fld := ⟨0x4069, 16, 16⟩

/-! ## SEC page (06 R209) (rule R209) -/

abbrev SEC_TRVSRC_SRC : Fld := ⟨0x1608, 0, 2⟩
abbrev SEC_TRVSRC_DECODE : Fld := ⟨0x1608, 4, 1⟩
abbrev SEC_TRVSRC_DIRINV : Fld := ⟨0x1608, 5, 1⟩
abbrev SEC_TRVSCALE_SCALE : Fld := ⟨0x1609, 0, 32⟩
abbrev SEC_SPEED_SPEED : Fld := ⟨0x160A, 0, 16⟩
abbrev SEC_SPDTMO_FRAMES : Fld := ⟨0x160B, 0, 16⟩
abbrev SEC_KAPPA_KAPPA : Fld := ⟨0x160C, 0, 32⟩
abbrev SEC_REFODO_LO_ODO : Fld := ⟨0x160D, 0, 32⟩
abbrev SEC_REFODO_HI_ODO : Fld := ⟨0x160E, 0, 16⟩
abbrev SEC_DREF_DREF : Fld := ⟨0x160F, 0, 32⟩
abbrev SEC_KAPUSED_KAPPA : Fld := ⟨0x1610, 0, 32⟩
abbrev SEC_ZEROAT_FRAME : Fld := ⟨0x1611, 0, 32⟩
abbrev SEC_CTL_ZEROARM : Fld := ⟨0x1612, 0, 1⟩
abbrev SEC_CTL_PRVEN : Fld := ⟨0x1612, 1, 1⟩
abbrev SEC_STAT_GAP : Fld := ⟨0x1613, 0, 1⟩
abbrev SEC_STAT_DESYNC : Fld := ⟨0x1613, 1, 1⟩
abbrev SEC_STAT_SPDSTALE : Fld := ⟨0x1613, 2, 1⟩
abbrev SEC_STAT_TRVACT : Fld := ⟨0x1613, 3, 1⟩
abbrev SEC_STAT_QUEUED : Fld := ⟨0x1613, 8, 8⟩
abbrev SEC_CNT_QERR : Fld := ⟨0x1614, 0, 16⟩
abbrev SEC_CNT_PRVDROP : Fld := ⟨0x1614, 16, 16⟩
abbrev SEC_CNT2_GAPS : Fld := ⟨0x1615, 0, 16⟩
abbrev SEC_CNT2_INVAL : Fld := ⟨0x1615, 16, 16⟩
abbrev SEC_PULSES_COUNT : Fld := ⟨0x1616, 0, 32⟩
abbrev SEC_APP0_W0 : Fld := ⟨0x1617, 0, 32⟩
abbrev SEC_APP1_W1 : Fld := ⟨0x1618, 0, 32⟩
abbrev SEC_APPRES_OUTCOME : Fld := ⟨0x1619, 0, 4⟩
abbrev SEC_APPRES_CH : Fld := ⟨0x1619, 8, 6⟩
abbrev SEC_APPRES_FREE : Fld := ⟨0x1619, 16, 15⟩

/-! ## GEY page (07 R229) (rule R229) -/

abbrev GEY_CUSP_CUSPMIN : Fld := ⟨0x1708, 0, 11⟩
abbrev GEY_BAND_VBAND : Fld := ⟨0x1709, 0, 16⟩
abbrev GEY_BAND_TBAND : Fld := ⟨0x1709, 16, 8⟩
abbrev GEY_VXMAX_VX : Fld := ⟨0x170A, 0, 16⟩
abbrev GEY_RESEED_N : Fld := ⟨0x170B, 0, 4⟩
abbrev GEY_KV_KVA : Fld := ⟨0x170C, 0, 16⟩
abbrev GEY_KV_KVB : Fld := ⟨0x170C, 16, 16⟩
abbrev GEY_CNT_SKIP : Fld := ⟨0x1710, 0, 16⟩
abbrev GEY_CNT_BUFPAR : Fld := ⟨0x1710, 16, 16⟩
abbrev GEY_ENG_CTL_RESERVE : Fld := ⟨0x1718, 0, 1⟩
abbrev GEY_ENG_CTL_CH : Fld := ⟨0x1718, 8, 6⟩
abbrev GEY_ENG_CTL_KEEP : Fld := ⟨0x1718, 16, 1⟩
abbrev GEY_ENG_CTL_RELEASE : Fld := ⟨0x1718, 17, 1⟩
abbrev GEY_ENG_STAT_STATE : Fld := ⟨0x1719, 0, 2⟩
abbrev GEY_ENG_STAT_END : Fld := ⟨0x1719, 2, 3⟩
abbrev GEY_ENG_STAT_CH : Fld := ⟨0x1719, 8, 6⟩
abbrev GEY_ENG_STAT_DIR : Fld := ⟨0x1719, 14, 1⟩
abbrev GEY_ENG_STAT_CUSP : Fld := ⟨0x1719, 15, 1⟩
abbrev GEY_ENG_STAT_NS : Fld := ⟨0x1719, 16, 12⟩
abbrev GEY_ENG_FRM_FRM : Fld := ⟨0x171A, 0, 32⟩
abbrev GEY_ENG_CYC_CYC : Fld := ⟨0x171B, 0, 16⟩
abbrev GEY_ENG_CYC_KCUSP : Fld := ⟨0x171B, 16, 12⟩

/-! ## FEEDA page (08 R253); `.pg 1` is FEEDB (rule R253) -/

abbrev FEED_STAT_STATE : Fld := ⟨0x0E08, 0, 4⟩
abbrev FEED_STAT_CONDUCT : Fld := ⟨0x0E08, 4, 1⟩
abbrev FEED_STAT_BLOCKING : Fld := ⟨0x0E08, 5, 1⟩
abbrev FEED_STAT_LIMITING : Fld := ⟨0x0E08, 6, 1⟩
abbrev FEED_STAT_INWIN : Fld := ⟨0x0E08, 7, 1⟩
abbrev FEED_STAT_PRESENT : Fld := ⟨0x0E08, 8, 1⟩
abbrev FEED_STAT_POLREV : Fld := ⟨0x0E08, 9, 1⟩
abbrev FEED_STAT_STANDBY_B : Fld := ⟨0x0E08, 10, 1⟩
abbrev FEED_STAT_ATTEMPTS : Fld := ⟨0x0E08, 16, 2⟩
abbrev FEED_WIN_UV : Fld := ⟨0x0E09, 0, 10⟩
abbrev FEED_WIN_OV : Fld := ⟨0x0E09, 16, 10⟩
abbrev FEED_QUALT_T : Fld := ⟨0x0E0A, 0, 14⟩
abbrev FEED_IRUSH_I : Fld := ⟨0x0E0B, 0, 8⟩
abbrev FEED_IRUSHT_T : Fld := ⟨0x0E0C, 0, 8⟩
abbrev FEED_RAMP_RATE : Fld := ⟨0x0E0D, 0, 8⟩
abbrev FEED_FUSE_ILIM : Fld := ⟨0x0E0E, 0, 7⟩
abbrev FEED_FUSE_FUSET : Fld := ⟨0x0E0E, 16, 14⟩
abbrev FEED_V_V : Fld := ⟨0x0E0F, 0, 16⟩
abbrev FEED_V_VINB : Fld := ⟨0x0E0F, 16, 16⟩
abbrev FEED_I_INST : Fld := ⟨0x0E10, 0, 16⟩
abbrev FEED_I_AVG : Fld := ⟨0x0E10, 16, 16⟩
abbrev FEED_P_P : Fld := ⟨0x0E11, 0, 16⟩
abbrev FEED_E_LO_E : Fld := ⟨0x0E12, 0, 32⟩
abbrev FEED_E_HI_E : Fld := ⟨0x0E13, 0, 16⟩
abbrev FEED_CAP_W : Fld := ⟨0x0E14, 0, 16⟩
abbrev FEED_CAP_COUNTED : Fld := ⟨0x0E14, 16, 1⟩
abbrev FEED_CNT_INSTRIP : Fld := ⟨0x0E15, 0, 8⟩
abbrev FEED_CNT_FUSETRIP : Fld := ⟨0x0E15, 8, 8⟩
abbrev FEED_CNT_REVOFF : Fld := ⟨0x0E15, 16, 16⟩
abbrev FEED_CNT2_ONCNT : Fld := ⟨0x0E16, 0, 16⟩
abbrev FEED_CNT2_OVCNT : Fld := ⟨0x0E16, 16, 16⟩
abbrev FEED_SHARE_MODE : Fld := ⟨0x0E17, 0, 2⟩
abbrev FEED_SHARE_RATIO : Fld := ⟨0x0E17, 8, 7⟩
abbrev FEED_SHARE_PRIV : Fld := ⟨0x0E17, 16, 10⟩
abbrev FEED_SHARESTAT_SHAREA : Fld := ⟨0x0E18, 0, 8⟩
abbrev FEED_SHARESTAT_LIMIT : Fld := ⟨0x0E18, 8, 1⟩
abbrev FEED_SHARESTAT_PRICNT : Fld := ⟨0x0E18, 16, 16⟩

/-! ## LB page (09 R275) (rule R275) -/

abbrev LB_STAT_STATE : Fld := ⟨0x1108, 0, 4⟩
abbrev LB_STAT_DONE : Fld := ⟨0x1108, 4, 1⟩
abbrev LB_STAT_LIMIT : Fld := ⟨0x1108, 5, 1⟩
abbrev LB_STAT_DROPOUT : Fld := ⟨0x1108, 6, 1⟩
abbrev LB_STAT_HIGH : Fld := ⟨0x1108, 7, 1⟩
abbrev LB_STAT_SYNC : Fld := ⟨0x1108, 8, 1⟩
abbrev LB_STAT_NPH : Fld := ⟨0x1108, 9, 2⟩
abbrev LB_STAT_ATTEMPTS : Fld := ⟨0x1108, 16, 2⟩
abbrev LB_VSET_TARGET : Fld := ⟨0x1109, 0, 12⟩
abbrev LB_SLEW_RATE : Fld := ⟨0x110A, 0, 8⟩
abbrev LB_CTL_VENT : Fld := ⟨0x110B, 0, 1⟩
abbrev LB_CTL_DNASSIST : Fld := ⟨0x110B, 1, 1⟩
abbrev LB_CTL_FFEN : Fld := ⟨0x110B, 2, 1⟩
abbrev LB_CTL_SOFTSTOP : Fld := ⟨0x110B, 3, 1⟩
abbrev LB_LIM_ILIM : Fld := ⟨0x110C, 0, 7⟩
abbrev LB_LIM_TLIM : Fld := ⟨0x110C, 16, 7⟩
abbrev LB_SHED_I : Fld := ⟨0x110D, 0, 6⟩
abbrev LB_SYNC_SRC : Fld := ⟨0x110E, 0, 2⟩
abbrev LB_SYNC_CLKDIV : Fld := ⟨0x110E, 8, 8⟩
abbrev LB_SYNC_PHASE : Fld := ⟨0x110E, 16, 8⟩
abbrev LB_SYNC_FREQ : Fld := ⟨0x110E, 24, 8⟩
abbrev LB_MEAS_V : Fld := ⟨0x110F, 0, 16⟩
abbrev LB_MEAS_I : Fld := ⟨0x110F, 16, 16⟩
abbrev LB_REF_REF : Fld := ⟨0x1110, 0, 16⟩
abbrev LB_REF_GOAL : Fld := ⟨0x1110, 16, 16⟩
abbrev LB_PHSTAT_OFS : Fld := ⟨0x1111, 0, 16⟩
abbrev LB_PHSTAT_AGE : Fld := ⟨0x1111, 16, 8⟩
abbrev LB_PHSTAT_EXTRAP : Fld := ⟨0x1111, 24, 1⟩
abbrev LB_CNT_TRIPS : Fld := ⟨0x1115, 0, 8⟩
abbrev LB_CNT_SYNCLOSS : Fld := ⟨0x1115, 8, 8⟩
abbrev LB_CNT_SHEDS : Fld := ⟨0x1115, 16, 16⟩
abbrev LB_FFCNT_PREV : Fld := ⟨0x1116, 0, 16⟩
abbrev LB_FFCNT_CLIP : Fld := ⟨0x1116, 16, 16⟩
abbrev LB_E_IN_E : Fld := ⟨0x1117, 0, 32⟩

/-! ## H1 page (09 R276); `.pg n` is H(n+1) (rule R276) -/

abbrev H_STAT_STATE : Fld := ⟨0x1208, 0, 4⟩
abbrev H_STAT_DONE : Fld := ⟨0x1208, 4, 1⟩
abbrev H_STAT_LIMIT : Fld := ⟨0x1208, 5, 1⟩
abbrev H_STAT_DROPOUT : Fld := ⟨0x1208, 6, 1⟩
abbrev H_STAT_HIGH : Fld := ⟨0x1208, 7, 1⟩
abbrev H_STAT_TRACKING : Fld := ⟨0x1208, 8, 1⟩
abbrev H_STAT_ATTEMPTS : Fld := ⟨0x1208, 16, 2⟩
abbrev H_VSET_TARGET : Fld := ⟨0x1209, 0, 11⟩
abbrev H_SLEW_RATE : Fld := ⟨0x120A, 0, 8⟩
abbrev H_CTL_VENT : Fld := ⟨0x120B, 0, 1⟩
abbrev H_CTL_DNASSIST : Fld := ⟨0x120B, 1, 1⟩
abbrev H_CTL_SOFTSTOP : Fld := ⟨0x120B, 3, 1⟩
abbrev H_TRACK_MODE : Fld := ⟨0x120C, 0, 2⟩
abbrev H_TRACK_LEADER : Fld := ⟨0x120C, 4, 3⟩
abbrev H_MEAS_V : Fld := ⟨0x120D, 0, 16⟩
abbrev H_MEAS_I : Fld := ⟨0x120D, 16, 16⟩
abbrev H_REF_REF : Fld := ⟨0x120E, 0, 16⟩
abbrev H_REF_GOAL : Fld := ⟨0x120E, 16, 16⟩
abbrev H_CNT_TRIPS : Fld := ⟨0x120F, 0, 8⟩

/-! ## BUD page (10 R295) (rule R295) -/

abbrev BUD_AVAIL_W : Fld := ⟨0x0D08, 0, 16⟩
abbrev BUD_WEIGHT_WEIGHT : Fld := ⟨0x0D09, 0, 8⟩
abbrev BUD_CFG_AVGN : Fld := ⟨0x0D0A, 0, 7⟩
abbrev BUD_CFG_DEFERMAX : Fld := ⟨0x0D0A, 16, 9⟩
abbrev BUD_CFG_REL : Fld := ⟨0x0D0A, 25, 6⟩
abbrev BUD_HOLDW_W : Fld := ⟨0x0D0B, 0, 12⟩
abbrev BUD_STAT_STATE : Fld := ⟨0x0D0C, 0, 2⟩
abbrev BUD_STAT_SRC : Fld := ⟨0x0D0C, 4, 2⟩
abbrev BUD_STAT_STRSHORT : Fld := ⟨0x0D0C, 6, 1⟩
abbrev BUD_STAT_HOLDUP : Fld := ⟨0x0D0C, 7, 1⟩
abbrev BUD_STAT_DEFERQ : Fld := ⟨0x0D0C, 8, 8⟩
abbrev BUD_ALLOC_A : Fld := ⟨0x0D0D, 0, 12⟩
abbrev BUD_ALLOC_PTHERM : Fld := ⟨0x0D0D, 16, 12⟩
abbrev BUD_DEMAND_D : Fld := ⟨0x0D0E, 0, 12⟩
abbrev BUD_DEMAND_M : Fld := ⟨0x0D0E, 16, 12⟩
abbrev BUD_CEIL_C : Fld := ⟨0x0D0F, 0, 12⟩
abbrev BUD_CEIL_FEEDCAP : Fld := ⟨0x0D0F, 16, 12⟩
abbrev BUD_GRANT_GB : Fld := ⟨0x0D10, 0, 12⟩
abbrev BUD_GRANT_GC : Fld := ⟨0x0D10, 16, 12⟩
abbrev BUD_GRANT2_GCHG : Fld := ⟨0x0D11, 0, 12⟩
abbrev BUD_GRANT2_KLB : Fld := ⟨0x0D11, 16, 11⟩
abbrev BUD_SCALE_SB : Fld := ⟨0x0D12, 0, 11⟩
abbrev BUD_SCALE_SC : Fld := ⟨0x0D12, 16, 11⟩
abbrev BUD_CNT_DEFERRED : Fld := ⟨0x0D13, 0, 16⟩
abbrev BUD_CNT_EXPIRED : Fld := ⟨0x0D13, 16, 16⟩
abbrev BUD_CNT2_CANCELLED : Fld := ⟨0x0D14, 0, 16⟩
abbrev BUD_CNT2_SHORTFR : Fld := ⟨0x0D14, 16, 16⟩
abbrev BUD_POOL_P : Fld := ⟨0x0D15, 0, 16⟩
abbrev BUD_POOL_SUMM : Fld := ⟨0x0D15, 16, 16⟩
abbrev BUD_HUB_A : Fld := ⟨0x0D20, 0, 12⟩
abbrev BUD_HUB_D : Fld := ⟨0x0D20, 12, 12⟩
abbrev BUD_HUB_VALID : Fld := ⟨0x0D20, 24, 1⟩
abbrev BUD_HUB_LOST : Fld := ⟨0x0D20, 25, 1⟩
abbrev BUD_HUB_HOLDUP : Fld := ⟨0x0D20, 26, 1⟩
abbrev BUD_HUB_STALE : Fld := ⟨0x0D20, 27, 1⟩
abbrev BUD_HUBM_M : Fld := ⟨0x0D30, 0, 12⟩
abbrev BUD_HUBM_C : Fld := ⟨0x0D30, 12, 12⟩
abbrev BUD_HUBM_WEIGHT : Fld := ⟨0x0D30, 24, 8⟩

/-! ## CHG page (11 R323) (rule R323) -/

abbrev CHG_CTL_EN : Fld := ⟨0x1008, 0, 1⟩
abbrev CHG_BATCFG_CHEM : Fld := ⟨0x1009, 0, 1⟩
abbrev CHG_BATCFG_CELLS : Fld := ⟨0x1009, 4, 4⟩
abbrev CHG_VBAT_VCELL : Fld := ⟨0x100A, 0, 9⟩
abbrev CHG_VBAT_VPRE : Fld := ⟨0x100A, 16, 9⟩
abbrev CHG_VLIM_VCUT : Fld := ⟨0x100B, 0, 9⟩
abbrev CHG_VLIM_VRECH : Fld := ⟨0x100B, 16, 5⟩
abbrev CHG_ICFG_ICHG : Fld := ⟨0x100C, 0, 8⟩
abbrev CHG_ICFG_IPRE : Fld := ⟨0x100C, 8, 6⟩
abbrev CHG_ICFG_ITERM : Fld := ⟨0x100C, 16, 5⟩
abbrev CHG_NTC_T1 : Fld := ⟨0x100D, 0, 8⟩
abbrev CHG_NTC_T2 : Fld := ⟨0x100D, 8, 8⟩
abbrev CHG_NTC_T3 : Fld := ⟨0x100D, 16, 8⟩
abbrev CHG_NTC_T4 : Fld := ⟨0x100D, 24, 8⟩
abbrev CHG_REG_VINREG : Fld := ⟨0x100E, 0, 10⟩
abbrev CHG_REG_TREG : Fld := ⟨0x100E, 16, 8⟩
abbrev CHG_TIMER_TMAX : Fld := ⟨0x100F, 0, 11⟩
abbrev CHG_RECHK_S : Fld := ⟨0x1010, 0, 12⟩
abbrev CHG_VNOBAT_V : Fld := ⟨0x1011, 0, 12⟩
abbrev CHG_HOLD_HOLDMAX : Fld := ⟨0x1012, 0, 12⟩
abbrev CHG_HOLD_SLOPE : Fld := ⟨0x1012, 16, 5⟩
abbrev CHG_HOLDDWELL_MS : Fld := ⟨0x1013, 0, 14⟩
abbrev CHG_STAT_STATE : Fld := ⟨0x1014, 0, 4⟩
abbrev CHG_STAT_ZONE : Fld := ⟨0x1014, 4, 3⟩
abbrev CHG_STAT_LIMITERS : Fld := ⟨0x1014, 8, 4⟩
abbrev CHG_STAT_HALFRATE : Fld := ⟨0x1014, 12, 1⟩
abbrev CHG_STAT_BATPRES : Fld := ⟨0x1014, 13, 1⟩
abbrev CHG_STAT_BATFET : Fld := ⟨0x1014, 14, 2⟩
abbrev CHG_STAT_HOLDUP : Fld := ⟨0x1014, 16, 1⟩
abbrev CHG_STAT_BYPASS : Fld := ⟨0x1014, 17, 1⟩
abbrev CHG_STAT_HANDBACK : Fld := ⟨0x1014, 18, 1⟩
abbrev CHG_STAT_LOWBAT : Fld := ⟨0x1014, 19, 1⟩
abbrev CHG_STAT_REPEAT : Fld := ⟨0x1014, 20, 3⟩
abbrev CHG_STAT_ARMED : Fld := ⟨0x1014, 23, 1⟩
abbrev CHG_FAULT_CODE : Fld := ⟨0x1015, 0, 4⟩
abbrev CHG_TIMERSTAT_COUNT : Fld := ⟨0x1016, 0, 18⟩
abbrev CHG_HALFSEC_HALFSEC : Fld := ⟨0x1017, 0, 18⟩
abbrev CHG_MEAS_VBAT : Fld := ⟨0x1018, 0, 16⟩
abbrev CHG_MEAS_IBAT : Fld := ⟨0x1018, 16, 16⟩
abbrev CHG_MEAS2_VSYS : Fld := ⟨0x1019, 0, 16⟩
abbrev CHG_MEAS2_TBAT : Fld := ⟨0x1019, 16, 8⟩
abbrev CHG_MEAS2_TDIE : Fld := ⟨0x1019, 24, 8⟩
abbrev CHG_PWR_PCHG : Fld := ⟨0x101A, 0, 16⟩
abbrev CHG_PWR_PREQ : Fld := ⟨0x101A, 16, 16⟩
abbrev CHG_QIN_Q : Fld := ⟨0x101B, 0, 32⟩
abbrev CHG_QOUT_Q : Fld := ⟨0x101C, 0, 32⟩
abbrev CHG_HUCNT_ENTRIES : Fld := ⟨0x101D, 0, 16⟩
abbrev CHG_HUCNT_HANDBACKS : Fld := ⟨0x101D, 16, 16⟩
abbrev CHG_HUCNT2_ABORTS : Fld := ⟨0x101E, 0, 16⟩
abbrev CHG_HUCNT2_BYPTRIPS : Fld := ⟨0x101E, 16, 8⟩
abbrev CHG_HUCNT2_HOLDMAXCNT : Fld := ⟨0x101E, 24, 8⟩
abbrev CHG_HULAST_FRAMES : Fld := ⟨0x101F, 0, 32⟩

/-! ## SEQ page (12 R347) (rule R347) -/

abbrev SEQ_CMD_CMD : Fld := ⟨0x0708, 0, 2⟩
abbrev SEQ_STAT_STATE : Fld := ⟨0x0709, 0, 2⟩
abbrev SEQ_STAT_RESULT : Fld := ⟨0x0709, 4, 3⟩
abbrev SEQ_STAT_TRIGGER : Fld := ⟨0x0709, 8, 4⟩
abbrev SEQ_STAT_FRAMES : Fld := ⟨0x0709, 16, 16⟩
abbrev SEQ_MASK_GOOD : Fld := ⟨0x070A, 0, 16⟩
abbrev SEQ_MASK_FAIL : Fld := ⟨0x070A, 16, 16⟩
abbrev SEQ_CNT_FAILS : Fld := ⟨0x070B, 0, 16⟩
abbrev SEQ_CNT_VENTTO : Fld := ⟨0x070B, 16, 16⟩
abbrev SEQ_CFG_RAIL : Fld := ⟨0x0710, 0, 7⟩
abbrev SEQ_CFG_UP : Fld := ⟨0x0710, 8, 1⟩
abbrev SEQ_CFG_DN : Fld := ⟨0x0710, 9, 1⟩
abbrev SEQ_CFG_SUPSEL : Fld := ⟨0x0710, 12, 5⟩
abbrev SEQ_CFG_CHATTER : Fld := ⟨0x0710, 20, 4⟩
abbrev SEQ_CFG_QUAL : Fld := ⟨0x0710, 24, 8⟩
abbrev SEQ_DLY_ON : Fld := ⟨0x0720, 0, 16⟩
abbrev SEQ_DLY_OFF : Fld := ⟨0x0720, 16, 16⟩
abbrev SEQ_LIM_RISE : Fld := ⟨0x0730, 0, 12⟩
abbrev SEQ_LIM_WAIT : Fld := ⟨0x0730, 16, 12⟩
abbrev SEQ_VENT_LEVEL : Fld := ⟨0x0740, 0, 12⟩
abbrev SEQ_VENT_VT : Fld := ⟨0x0740, 16, 10⟩
abbrev SEQ_DEP_DEP : Fld := ⟨0x0750, 0, 16⟩
abbrev SEQ_STS_STATE : Fld := ⟨0x0760, 0, 4⟩
abbrev SEQ_STS_CODE : Fld := ⟨0x0760, 4, 4⟩
abbrev SEQ_STS_CHAT : Fld := ⟨0x0760, 8, 5⟩
abbrev SEQ_STS_GOOD : Fld := ⟨0x0760, 13, 1⟩
abbrev SEQ_STS_FRAMES : Fld := ⟨0x0760, 16, 16⟩

/-! ## SUP page (12 R348) (rule R348) -/

abbrev SUP_INSIDE_INSIDE : Fld := ⟨0x0808, 0, 24⟩
abbrev SUP_ARMED_ARMED : Fld := ⟨0x0809, 0, 24⟩
abbrev SUP_SIDE_SIDE : Fld := ⟨0x080A, 0, 24⟩
abbrev SUP_CFG_EN : Fld := ⟨0x0810, 0, 1⟩
abbrev SUP_CFG_ACTION : Fld := ⟨0x0810, 1, 2⟩
abbrev SUP_CFG_INPUT : Fld := ⟨0x0810, 8, 5⟩
abbrev SUP_CFG_HYS : Fld := ⟨0x0810, 16, 8⟩
abbrev SUP_THR_LO : Fld := ⟨0x0828, 0, 12⟩
abbrev SUP_THR_HI : Fld := ⟨0x0828, 16, 12⟩
abbrev SUP_FILT_T : Fld := ⟨0x0840, 0, 14⟩
abbrev SUP_CNT_VIOL : Fld := ⟨0x0858, 0, 16⟩

/-! ## ADC page (13 R371) (rule R371) -/

abbrev ADC_STAT_STATE : Fld := ⟨0x0908, 0, 3⟩
abbrev ADC_STAT_FENCED : Fld := ⟨0x0908, 3, 1⟩
abbrev ADC_STAT_POS : Fld := ⟨0x0908, 8, 6⟩
abbrev ADC_LEN_LEN : Fld := ⟨0x090C, 0, 7⟩
abbrev ADC_CNT_SKIP : Fld := ⟨0x0910, 0, 16⟩
abbrev ADC_CNT_FABORT : Fld := ⟨0x0910, 16, 16⟩
abbrev ADC_CNT2_SPLIT : Fld := ⟨0x0914, 0, 16⟩
abbrev ADC_CNT2_HEADLATE : Fld := ⟨0x0914, 16, 8⟩
abbrev ADC_HREQ_INPUT : Fld := ⟨0x0918, 0, 8⟩
abbrev ADC_HREQ_OS : Fld := ⟨0x0918, 8, 3⟩
abbrev ADC_HREQ_GO : Fld := ⟨0x0918, 15, 1⟩
abbrev ADC_HREQ_CYC : Fld := ⟨0x0918, 16, 16⟩
abbrev ADC_HRES_VALUE : Fld := ⟨0x0919, 0, 16⟩
abbrev ADC_HRES_DONE : Fld := ⟨0x0919, 16, 1⟩
abbrev ADC_HRES_EXTRAP : Fld := ⟨0x0919, 17, 1⟩
abbrev ADC_HRES_BUSY : Fld := ⟨0x0919, 18, 1⟩
abbrev ADC_HRES_ERR : Fld := ⟨0x0919, 19, 1⟩
abbrev ADC_AUX_VALUE : Fld := ⟨0x091A, 0, 16⟩
abbrev ADC_AUX_SPLIT : Fld := ⟨0x091A, 16, 1⟩
abbrev ADC_AUX_EXTRAP : Fld := ⟨0x091A, 17, 1⟩
abbrev ADC_AUX_NEW : Fld := ⟨0x091A, 18, 1⟩
abbrev ADC_AUX_AGE : Fld := ⟨0x091A, 24, 8⟩
abbrev ADC_ROT_CHV : Fld := ⟨0x0922, 0, 6⟩
abbrev ADC_ROT_CHT : Fld := ⟨0x0922, 8, 6⟩
abbrev ADC_TEMP_TMOD : Fld := ⟨0x0923, 0, 10⟩
abbrev ADC_TEMP_TDIE : Fld := ⟨0x0923, 16, 10⟩
abbrev ADC_REFCHK_MV : Fld := ⟨0x0924, 0, 12⟩
abbrev ADC_LIST0_A : Fld := ⟨0x0940, 0, 16⟩
abbrev ADC_LIST0_B : Fld := ⟨0x0940, 16, 16⟩
abbrev ADC_LIST1_A : Fld := ⟨0x0960, 0, 16⟩
abbrev ADC_LIST1_B : Fld := ⟨0x0960, 16, 16⟩
abbrev ADC_LIST2_A : Fld := ⟨0x0980, 0, 16⟩
abbrev ADC_LIST2_B : Fld := ⟨0x0980, 16, 16⟩
abbrev ADC_LIST3_A : Fld := ⟨0x09A0, 0, 16⟩
abbrev ADC_LIST3_B : Fld := ⟨0x09A0, 16, 16⟩

/-! ## CAL page (13 R372) (rule R372) -/

abbrev CAL_SEL_INDEX : Fld := ⟨0x0A08, 0, 10⟩
abbrev CAL_OFSGAIN_OFS : Fld := ⟨0x0A09, 0, 16⟩
abbrev CAL_OFSGAIN_GAIN : Fld := ⟨0x0A09, 16, 16⟩
abbrev CAL_TC_TC : Fld := ⟨0x0A0A, 0, 16⟩
abbrev CAL_TC_TCAL : Fld := ⟨0x0A0A, 16, 16⟩
abbrev CAL_ENV_TLO : Fld := ⟨0x0A0B, 0, 8⟩
abbrev CAL_ENV_THI : Fld := ⟨0x0A0B, 8, 8⟩
abbrev CAL_ENV_SEG : Fld := ⟨0x0A0B, 16, 2⟩
abbrev CAL_ENV_SRC : Fld := ⟨0x0A0B, 18, 1⟩
abbrev CAL_ENV_NOMINAL : Fld := ⟨0x0A0B, 19, 1⟩
abbrev CAL_ZERO_ZOFS : Fld := ⟨0x0A0C, 0, 16⟩
abbrev CAL_ZERO_ZAGE : Fld := ⟨0x0A0C, 16, 16⟩
abbrev CAL_FCMD_INPUT : Fld := ⟨0x0A0D, 0, 8⟩
abbrev CAL_FCMD_KIND : Fld := ⟨0x0A0D, 8, 2⟩
abbrev CAL_FCMD_GO : Fld := ⟨0x0A0D, 16, 1⟩
abbrev CAL_FREF_REF : Fld := ⟨0x0A0E, 0, 32⟩
abbrev CAL_FSTAT_RESULT : Fld := ⟨0x0A0F, 0, 4⟩
abbrev CAL_FSTAT_BUSY : Fld := ⟨0x0A0F, 4, 1⟩
abbrev CAL_FSTAT_SEG : Fld := ⟨0x0A0F, 8, 2⟩
abbrev CAL_FSTAT_INDEX : Fld := ⟨0x0A0F, 16, 10⟩
abbrev CAL_FMEAS_Y : Fld := ⟨0x0A10, 0, 32⟩
abbrev CAL_CNT_FIELD : Fld := ⟨0x0A11, 0, 16⟩
abbrev CAL_CNT_ZREJ : Fld := ⟨0x0A11, 16, 16⟩

/-! ## SNAP page (13 R373) (rule R373) -/

abbrev SNAP_AT_FRAME : Fld := ⟨0x1808, 0, 32⟩
abbrev SNAP_CTL_ARM : Fld := ⟨0x1809, 0, 1⟩
abbrev SNAP_CTL_HOLD0 : Fld := ⟨0x1809, 4, 1⟩
abbrev SNAP_CTL_HOLD1 : Fld := ⟨0x1809, 5, 1⟩
abbrev SNAP_STAT_NEWEST : Fld := ⟨0x180A, 0, 1⟩
abbrev SNAP_STAT_PEND : Fld := ⟨0x180A, 1, 2⟩
abbrev SNAP_STAT_BUSY : Fld := ⟨0x180A, 3, 1⟩
abbrev SNAP_PEND0_FRAME : Fld := ⟨0x180B, 0, 32⟩
abbrev SNAP_PEND1_FRAME : Fld := ⟨0x180C, 0, 32⟩
abbrev SNAP_B0TAG_F : Fld := ⟨0x180D, 0, 32⟩
abbrev SNAP_B1TAG_F : Fld := ⟨0x180E, 0, 32⟩
abbrev SNAP_B0FLG_FLAGS : Fld := ⟨0x180F, 0, 16⟩
abbrev SNAP_B1FLG_FLAGS : Fld := ⟨0x1810, 0, 16⟩
abbrev SNAP_CNT_TAKEN : Fld := ⟨0x1811, 0, 16⟩
abbrev SNAP_CNT_MISSED : Fld := ⟨0x1811, 16, 16⟩
abbrev SNAP_WSEL_WORD : Fld := ⟨0x1812, 0, 11⟩
abbrev SNAP_WSEL_BANK : Fld := ⟨0x1812, 15, 1⟩
abbrev SNAP_WDATA_DATA : Fld := ⟨0x1813, 0, 32⟩
abbrev SNAP_LASTMISS_F : Fld := ⟨0x181B, 0, 32⟩

/-! ## STR page (14 R409) (rule R409) -/

abbrev STR_STAT_ROLE : Fld := ⟨0x0C08, 0, 2⟩
abbrev STR_STAT_ENUMDONE : Fld := ⟨0x0C08, 2, 1⟩
abbrev STR_STAT_JOINPEND : Fld := ⟨0x0C08, 3, 1⟩
abbrev STR_STAT_CUTOFF : Fld := ⟨0x0C08, 4, 1⟩
abbrev STR_STAT_NHUBS : Fld := ⟨0x0C08, 5, 5⟩
abbrev STR_STAT_LIVE : Fld := ⟨0x0C08, 10, 5⟩
abbrev STR_STAT_SVER : Fld := ⟨0x0C08, 15, 2⟩
abbrev STR_STAT_EPOCH : Fld := ⟨0x0C08, 24, 8⟩
abbrev STR_CTL_REENUM : Fld := ⟨0x0C09, 0, 1⟩
abbrev STR_CTL_DNEN : Fld := ⟨0x0C09, 1, 1⟩
abbrev STR_CTL_RESYNC : Fld := ⟨0x0C09, 2, 1⟩
abbrev STR_LOSTT_FRAMES : Fld := ⟨0x0C0A, 0, 8⟩
abbrev STR_CREDTMO_FRAMES : Fld := ⟨0x0C0B, 0, 14⟩
abbrev STR_PORTUP_STATE : Fld := ⟨0x0C0C, 0, 3⟩
abbrev STR_PORTUP_PHANTOM : Fld := ⟨0x0C0C, 3, 1⟩
abbrev STR_PORTUP_PEERMASK : Fld := ⟨0x0C0C, 4, 3⟩
abbrev STR_PORTUP_PEERROLE : Fld := ⟨0x0C0C, 8, 2⟩
abbrev STR_PORTUP_HVER : Fld := ⟨0x0C0C, 10, 2⟩
abbrev STR_PORTUP_PEERVALID : Fld := ⟨0x0C0C, 12, 1⟩
abbrev STR_PORTUP_RETRAINS : Fld := ⟨0x0C0C, 16, 16⟩
abbrev STR_PORTDN_STATE : Fld := ⟨0x0C0D, 0, 3⟩
abbrev STR_PORTDN_PHANTOM : Fld := ⟨0x0C0D, 3, 1⟩
abbrev STR_PORTDN_PEERMASK : Fld := ⟨0x0C0D, 4, 3⟩
abbrev STR_PORTDN_PEERROLE : Fld := ⟨0x0C0D, 8, 2⟩
abbrev STR_PORTDN_HVER : Fld := ⟨0x0C0D, 10, 2⟩
abbrev STR_PORTDN_PEERVALID : Fld := ⟨0x0C0D, 12, 1⟩
abbrev STR_PORTDN_RETRAINS : Fld := ⟨0x0C0D, 16, 16⟩
abbrev STR_ERRA_UP_SYM : Fld := ⟨0x0C0E, 0, 16⟩
abbrev STR_ERRA_UP_HCRC : Fld := ⟨0x0C0E, 16, 16⟩
abbrev STR_ERRA_DN_SYM : Fld := ⟨0x0C10, 0, 16⟩
abbrev STR_ERRA_DN_HCRC : Fld := ⟨0x0C10, 16, 16⟩
abbrev STR_ERRB_UP_CRC : Fld := ⟨0x0C0F, 0, 16⟩
abbrev STR_ERRB_UP_BADEOP : Fld := ⟨0x0C0F, 16, 8⟩
abbrev STR_ERRB_UP_FMT : Fld := ⟨0x0C0F, 24, 8⟩
abbrev STR_ERRB_DN_CRC : Fld := ⟨0x0C11, 0, 16⟩
abbrev STR_ERRB_DN_BADEOP : Fld := ⟨0x0C11, 16, 8⟩
abbrev STR_ERRB_DN_FMT : Fld := ⟨0x0C11, 24, 8⟩
abbrev STR_CRED_DN_REG : Fld := ⟨0x0C12, 0, 4⟩
abbrev STR_CRED_DN_TBL : Fld := ⟨0x0C12, 4, 4⟩
abbrev STR_CRED_DN_BULK : Fld := ⟨0x0C12, 8, 4⟩
abbrev STR_CRED_UP_REG : Fld := ⟨0x0C12, 16, 4⟩
abbrev STR_CRED_UP_TBL : Fld := ⟨0x0C12, 20, 4⟩
abbrev STR_CRED_UP_BULK : Fld := ⟨0x0C12, 24, 4⟩
abbrev STR_CREDCNT_TIMEOUTS : Fld := ⟨0x0C13, 0, 16⟩
abbrev STR_CREDCNT_RESYNCS : Fld := ⟨0x0C13, 16, 16⟩
abbrev STR_ATTN_ATTN : Fld := ⟨0x0C14, 0, 16⟩
abbrev STR_LIVE_LOST : Fld := ⟨0x0C15, 0, 16⟩
abbrev STR_LIVE_MISSNOW : Fld := ⟨0x0C15, 16, 16⟩
abbrev STR_SLOT_TXCYC : Fld := ⟨0x0C16, 0, 16⟩
abbrev STR_REPLAY_COUNT : Fld := ⟨0x0C17, 0, 16⟩
abbrev STR_REPLAY_DROPPED : Fld := ⟨0x0C17, 16, 16⟩
abbrev STR_POS_TOFS : Fld := ⟨0x0C20, 0, 12⟩
abbrev STR_POS_HVER : Fld := ⟨0x0C20, 12, 2⟩
abbrev STR_POS_CONSEC : Fld := ⟨0x0C20, 14, 2⟩
abbrev STR_POS_MISSES : Fld := ⟨0x0C20, 16, 16⟩

/-! ## TWB page (16 R447) (rule R447) -/

abbrev TWB_CTL_IBR_EN : Fld := ⟨0x0B08, 0, 1⟩
abbrev TWB_CTL_PEC_EN : Fld := ⟨0x0B08, 1, 1⟩
abbrev TWB_CTL_REMIND : Fld := ⟨0x0B08, 8, 8⟩
abbrev TWB_STAT_ADDR : Fld := ⟨0x0B09, 0, 7⟩
abbrev TWB_STAT_ALERTMODE : Fld := ⟨0x0B09, 8, 1⟩
abbrev TWB_STAT_ALERT : Fld := ⟨0x0B09, 9, 1⟩
abbrev TWB_STAT_RECOVERY : Fld := ⟨0x0B09, 10, 1⟩
abbrev TWB_STAT_QUIET : Fld := ⟨0x0B09, 11, 1⟩
abbrev TWB_STAT_UNSEEN : Fld := ⟨0x0B09, 12, 1⟩
abbrev TWB_ATTN_ATTN : Fld := ⟨0x0B0A, 0, 32⟩
abbrev TWB_LAST_LAST : Fld := ⟨0x0B0B, 0, 32⟩
abbrev TWB_CNT_NACKBUSY : Fld := ⟨0x0B0C, 0, 8⟩
abbrev TWB_CNT_PECERR : Fld := ⟨0x0B0C, 8, 8⟩
abbrev TWB_CNT_TIMEOUT : Fld := ⟨0x0B0C, 16, 8⟩
abbrev TWB_CNT_COLLIDE : Fld := ⟨0x0B0C, 24, 8⟩
abbrev TWB_CNT2_FMT : Fld := ⟨0x0B0D, 0, 16⟩
abbrev TWB_CNT2_PULSES : Fld := ⟨0x0B0D, 16, 16⟩

/-! ## IRQ page (17 R461) (rule R461) -/

abbrev IRQ_PRIGROUP_G : Fld := ⟨0x0308, 0, 3⟩
abbrev IRQ_ACKE_VECTOR : Fld := ⟨0x0309, 0, 8⟩
abbrev IRQ_ACKE_VALID : Fld := ⟨0x0309, 8, 1⟩
abbrev IRQ_ACKE_PRIO : Fld := ⟨0x0309, 16, 6⟩
abbrev IRQ_ACKE_DEPTH : Fld := ⟨0x0309, 24, 4⟩
abbrev IRQ_ACKW_VECTOR : Fld := ⟨0x030F, 0, 8⟩
abbrev IRQ_ACKW_VALID : Fld := ⟨0x030F, 8, 1⟩
abbrev IRQ_ACKW_PRIO : Fld := ⟨0x030F, 16, 6⟩
abbrev IRQ_ACKW_DEPTH : Fld := ⟨0x030F, 24, 4⟩
abbrev IRQ_EOIE_SRC : Fld := ⟨0x030A, 0, 8⟩
abbrev IRQ_EOIW_SRC : Fld := ⟨0x0310, 0, 8⟩
abbrev IRQ_PEEKE_VECTOR : Fld := ⟨0x030B, 0, 8⟩
abbrev IRQ_PEEKE_PENDING : Fld := ⟨0x030B, 8, 1⟩
abbrev IRQ_PEEKE_PRIO : Fld := ⟨0x030B, 16, 6⟩
abbrev IRQ_PEEKE_DEPTH : Fld := ⟨0x030B, 24, 4⟩
abbrev IRQ_PEEKW_VECTOR : Fld := ⟨0x0311, 0, 8⟩
abbrev IRQ_PEEKW_PENDING : Fld := ⟨0x0311, 8, 1⟩
abbrev IRQ_PEEKW_PRIO : Fld := ⟨0x0311, 16, 6⟩
abbrev IRQ_PEEKW_DEPTH : Fld := ⟨0x0311, 24, 4⟩
abbrev IRQ_STKLOE_ENTRY0_3 : Fld := ⟨0x030C, 0, 32⟩
abbrev IRQ_STKLOW_ENTRY0_3 : Fld := ⟨0x0312, 0, 32⟩
abbrev IRQ_STKHIE_ENTRY4_7 : Fld := ⟨0x030D, 0, 32⟩
abbrev IRQ_STKHIW_ENTRY4_7 : Fld := ⟨0x0313, 0, 32⟩
abbrev IRQ_EOIQE_QUEUED : Fld := ⟨0x030E, 0, 4⟩
abbrev IRQ_EOIQW_QUEUED : Fld := ⟨0x0314, 0, 4⟩
abbrev IRQ_SWSET_SRC : Fld := ⟨0x0315, 0, 8⟩
abbrev IRQ_EOISTRAY_COUNT : Fld := ⟨0x0318, 0, 16⟩
abbrev IRQ_EOISTRAY_LASTSRC : Fld := ⟨0x0318, 16, 8⟩
abbrev IRQ_EOISTRAY_LASTTGT : Fld := ⟨0x0318, 24, 1⟩
abbrev IRQ_PARSRC_PAGE : Fld := ⟨0x0319, 0, 8⟩
abbrev IRQ_PARSRC_COUNT : Fld := ⟨0x0319, 16, 16⟩
abbrev IRQ_THERM_WARN : Fld := ⟨0x031A, 0, 10⟩
abbrev IRQ_THERM_HYS : Fld := ⟨0x031A, 16, 4⟩
abbrev IRQ_PEND_PEND : Fld := ⟨0x0320, 0, 32⟩
abbrev IRQ_MBOX_DATA : Fld := ⟨0x0328, 0, 32⟩

/-! ## IRQS0 page (17 R462); `.pg n` is IRQSn (rule R462) -/

abbrev IRQS_SRC_PRIO : Fld := ⟨0x2008, 0, 6⟩
abbrev IRQS_SRC_TGT : Fld := ⟨0x2008, 8, 1⟩
abbrev IRQS_SRC_EN : Fld := ⟨0x2008, 9, 1⟩
abbrev IRQS_SRC_PEND : Fld := ⟨0x2008, 16, 1⟩
abbrev IRQS_SRC_ACTIVE : Fld := ⟨0x2008, 17, 1⟩

/-! ## WDT page (18 R477) (rule R477) -/

abbrev WDT_CTL_FOLLOW : Fld := ⟨0x0408, 0, 1⟩
abbrev WDT_PERIOD_CLOSED : Fld := ⟨0x0409, 0, 16⟩
abbrev WDT_PERIOD_OPEN : Fld := ⟨0x0409, 16, 16⟩
abbrev WDT_TASKEN_EN : Fld := ⟨0x040A, 0, 16⟩
abbrev WDT_CHECKIN_KEY : Fld := ⟨0x040B, 0, 32⟩
abbrev WDT_STAT_STATE : Fld := ⟨0x040C, 0, 4⟩
abbrev WDT_STAT_FAILRUN : Fld := ⟨0x040C, 4, 2⟩
abbrev WDT_STAT_LASTCAUSE : Fld := ⟨0x040C, 8, 3⟩
abbrev WDT_DONE_DONE : Fld := ⟨0x040D, 0, 16⟩
abbrev WDT_DONE_MISSING : Fld := ⟨0x040D, 16, 16⟩
abbrev WDT_START_FRAME : Fld := ⟨0x040E, 0, 32⟩
abbrev WDT_LEFT_FRAMES : Fld := ⟨0x040F, 0, 16⟩
abbrev WDT_CNT_FAILS : Fld := ⟨0x0410, 0, 16⟩
abbrev WDT_CNT_SAFES : Fld := ⟨0x0410, 16, 8⟩
abbrev WDT_CNT_IGNORED : Fld := ⟨0x0410, 24, 8⟩

/-! ## RTC page (19 R492) (rule R492) -/

abbrev RTC_TIME_SEC : Fld := ⟨0x0508, 0, 6⟩
abbrev RTC_TIME_MIN : Fld := ⟨0x0508, 8, 6⟩
abbrev RTC_TIME_HOUR : Fld := ⟨0x0508, 16, 5⟩
abbrev RTC_TIME_DAY : Fld := ⟨0x0508, 24, 3⟩
abbrev RTC_DATE_DATE : Fld := ⟨0x0509, 0, 5⟩
abbrev RTC_DATE_MONTH : Fld := ⟨0x0509, 8, 4⟩
abbrev RTC_DATE_YEAR : Fld := ⟨0x0509, 16, 7⟩
abbrev RTC_SUBSEC_SUB : Fld := ⟨0x050A, 0, 15⟩
abbrev RTC_EPOCH_SECONDS : Fld := ⟨0x050B, 0, 32⟩
abbrev RTC_CTL_HALT : Fld := ⟨0x050C, 0, 1⟩
abbrev RTC_CTL_SLAVE : Fld := ⟨0x050C, 1, 1⟩
abbrev RTC_STAT_OSF : Fld := ⟨0x050D, 0, 1⟩
abbrev RTC_STAT_OSFCAUSE : Fld := ⟨0x050D, 1, 3⟩
abbrev RTC_STAT_ONKEEP : Fld := ⟨0x050D, 4, 1⟩
abbrev RTC_STAT_SLAVED : Fld := ⟨0x050D, 5, 1⟩
abbrev RTC_STAT_KEEPLOW : Fld := ⟨0x050D, 6, 1⟩
abbrev RTC_STAT_TWR : Fld := ⟨0x050D, 7, 1⟩
abbrev RTC_STAT_DWR : Fld := ⟨0x050D, 8, 1⟩
abbrev RTC_AT_SEC : Fld := ⟨0x050E, 0, 6⟩
abbrev RTC_AT_MIN : Fld := ⟨0x050E, 8, 6⟩
abbrev RTC_AT_HOUR : Fld := ⟨0x050E, 16, 5⟩
abbrev RTC_AT_DAY : Fld := ⟨0x050E, 24, 3⟩
abbrev RTC_AD_DATE : Fld := ⟨0x050F, 0, 5⟩
abbrev RTC_AD_M_SEC : Fld := ⟨0x050F, 16, 1⟩
abbrev RTC_AD_M_MIN : Fld := ⟨0x050F, 17, 1⟩
abbrev RTC_AD_M_HOUR : Fld := ⟨0x050F, 18, 1⟩
abbrev RTC_AD_M_DAY : Fld := ⟨0x050F, 19, 1⟩
abbrev RTC_AD_M_DATE : Fld := ⟨0x050F, 20, 1⟩
abbrev RTC_AD_EN : Fld := ⟨0x050F, 24, 1⟩
abbrev RTC_TRIM_PPB : Fld := ⟨0x0512, 0, 19⟩
abbrev RTC_TRIM_TEMP : Fld := ⟨0x0512, 20, 10⟩
abbrev RTC_KEEPT_SECONDS : Fld := ⟨0x0513, 0, 32⟩

/-! ## REC page (20 R515) (rule R515) -/

abbrev REC_STAT_HEAD : Fld := ⟨0x0608, 0, 14⟩
abbrev REC_STAT_WRAPPED : Fld := ⟨0x0608, 16, 1⟩
abbrev REC_STAT_CLEARING : Fld := ⟨0x0608, 17, 1⟩
abbrev REC_STAT_FATALFULL : Fld := ⟨0x0608, 18, 1⟩
abbrev REC_STAT_QUEUED : Fld := ⟨0x0608, 20, 7⟩
abbrev REC_SEQ_NEXT : Fld := ⟨0x0609, 0, 32⟩
abbrev REC_NEWEST_SLOT : Fld := ⟨0x060A, 0, 14⟩
abbrev REC_NEWEST_REPEAT : Fld := ⟨0x060A, 16, 16⟩
abbrev REC_FATALN_N : Fld := ⟨0x060B, 0, 9⟩
abbrev REC_CNT_DROPPED : Fld := ⟨0x060C, 0, 16⟩
abbrev REC_CNT_CORR : Fld := ⟨0x060C, 16, 16⟩
abbrev REC_CNT2_UNCORR : Fld := ⟨0x060D, 0, 16⟩
abbrev REC_CNT2_CLEARS : Fld := ⟨0x060D, 16, 16⟩
abbrev REC_RSEL_SLOT : Fld := ⟨0x060E, 0, 14⟩
abbrev REC_RSTAT_UNCORR : Fld := ⟨0x060F, 0, 1⟩
abbrev REC_RSTAT_CORR : Fld := ⟨0x060F, 1, 1⟩
abbrev REC_RDATA_DATA : Fld := ⟨0x0610, 0, 32⟩
abbrev REC_SETSEL_SET : Fld := ⟨0x0620, 0, 3⟩
abbrev REC_SETLEN_LEN : Fld := ⟨0x0621, 0, 7⟩
abbrev REC_MAP_CODE : Fld := ⟨0x0630, 0, 16⟩
abbrev REC_MAP_SET : Fld := ⟨0x0630, 16, 3⟩
abbrev REC_MAP_EN : Fld := ⟨0x0630, 31, 1⟩
abbrev REC_SETIDX_IDXA : Fld := ⟨0x0650, 0, 16⟩
abbrev REC_SETIDX_IDXB : Fld := ⟨0x0650, 16, 16⟩

/-! ## KEY page (20 R516) (rule R516) -/

abbrev KEY_CTL_CHAL : Fld := ⟨0x1F08, 0, 1⟩
abbrev KEY_CTL_AUTH : Fld := ⟨0x1F08, 1, 1⟩
abbrev KEY_CTL_PROG : Fld := ⟨0x1F08, 2, 1⟩
abbrev KEY_CTL_ENDSESS : Fld := ⟨0x1F08, 3, 1⟩
abbrev KEY_CTL_SLOT : Fld := ⟨0x1F08, 4, 2⟩
abbrev KEY_CTL_OP : Fld := ⟨0x1F08, 8, 8⟩
abbrev KEY_STAT_RESULT : Fld := ⟨0x1F09, 0, 4⟩
abbrev KEY_STAT_CHALVALID : Fld := ⟨0x1F09, 4, 1⟩
abbrev KEY_STAT_SESSION : Fld := ⟨0x1F09, 5, 1⟩
abbrev KEY_STAT_LOCKOUT : Fld := ⟨0x1F09, 6, 1⟩
abbrev KEY_STAT_SESSSLOT : Fld := ⟨0x1F09, 7, 1⟩
abbrev KEY_STAT_SLOTSET : Fld := ⟨0x1F09, 8, 2⟩
abbrev KEY_STAT_FAILS : Fld := ⟨0x1F09, 16, 4⟩
abbrev KEY_CHAL_CHAL : Fld := ⟨0x1F0A, 0, 32⟩
abbrev KEY_RESP_RESP : Fld := ⟨0x1F0E, 0, 32⟩
abbrev KEY_KLOAD_KEY : Fld := ⟨0x1F12, 0, 32⟩
abbrev KEY_LOCKLEFT_LEFT : Fld := ⟨0x1F1A, 0, 13⟩
abbrev KEY_CNT_FAILTOTAL : Fld := ⟨0x1F1B, 0, 16⟩
abbrev KEY_CNT_OKTOTAL : Fld := ⟨0x1F1B, 16, 16⟩

/-! ## TST page (22 R534) (rule R534) -/

abbrev TST_STAT_ACTIVE : Fld := ⟨0x1E08, 0, 9⟩
abbrev TST_STAT_ARMED : Fld := ⟨0x1E08, 16, 1⟩
abbrev TST_POLL_DLY : Fld := ⟨0x1E09, 0, 11⟩
abbrev TST_PKT_TYPE : Fld := ⟨0x1E0A, 0, 8⟩
abbrev TST_PKT_PORT : Fld := ⟨0x1E0A, 8, 1⟩
abbrev TST_PKT_ACT : Fld := ⟨0x1E0A, 12, 2⟩
abbrev TST_PKT_COUNT : Fld := ⟨0x1E0A, 16, 8⟩
abbrev TST_CRED_CLASS : Fld := ⟨0x1E0B, 0, 2⟩
abbrev TST_CRED_FRAMES : Fld := ⟨0x1E0B, 16, 14⟩
abbrev TST_ADC_MASK : Fld := ⟨0x1E0C, 0, 4⟩
abbrev TST_ADC_EXTRA : Fld := ⟨0x1E0C, 8, 8⟩
abbrev TST_SUPCHAT_SUP : Fld := ⟨0x1E0D, 0, 5⟩
abbrev TST_SUPCHAT_EN : Fld := ⟨0x1E0D, 7, 1⟩
abbrev TST_SUPCHAT_WIDTH : Fld := ⟨0x1E0D, 8, 10⟩
abbrev TST_SUPCHAT_PERIOD : Fld := ⟨0x1E0D, 18, 14⟩
abbrev TST_SKEW_CYC : Fld := ⟨0x1E0E, 0, 16⟩
abbrev TST_NV_STALL : Fld := ⟨0x1E0F, 0, 7⟩
abbrev TST_BUD_EN : Fld := ⟨0x1E10, 0, 1⟩
abbrev TST_BUD_W : Fld := ⟨0x1E10, 16, 12⟩
abbrev TST_OVR_PHASE : Fld := ⟨0x1E11, 0, 2⟩
abbrev TST_OVR_N : Fld := ⟨0x1E11, 4, 4⟩
abbrev TST_CNT_APPLIED : Fld := ⟨0x1E12, 0, 16⟩

end Sys2Proof.Machine
end

