-- ==== Sys2Proof/Machine/RegTables.lean ====
section
/-! DEFINITION. The register tables of spec/ as data: for every page kind its registers, and for every
register its fields with access code (00 R8), takes-effect class (00 R9), reset value and the range its
chapter gives (a value outside it is refused INVALID, 03 R82). -/

namespace Sys2Proof.Machine

/-- Access codes of 00 R8. -/
inductive AccKind | rw | ro | w1c | wo | rwo | rc
  deriving DecidableEq, Repr

/-- Takes-effect classes of 00 R9. -/
inductive Eff | live | staged | idle | once | none
  deriving DecidableEq, Repr

/-- The values a field accepts.  The last seven are the encodings of particular chapters: `rail` 12 R324,
`supsel` 12 R325, `input` and `scanEntry` 13 R351, `calIndex` 13 R356, `geyCh` 07 R229, `pktType` 14 R379, 22 R531. -/
inductive Lim | any | span (lo hi : Nat) | signed (lo hi : Int) | zeroOr (lo hi : Nat)
  | rail | supsel | input | scanEntry | calIndex | geyCh | pktType
  deriving DecidableEq, Repr

/-- One field of a register table: `rst` is 0 where the table says Stored, Boot, Fixed or Straps. -/
structure FldDef where
  lo : Nat
  w : Nat
  acc : AccKind
  eff : Eff
  rst : Nat := 0
  lim : Lim := .any
  deriving DecidableEq, Repr

/-- A register at offset `off`, repeated at `span` consecutive offsets. -/
structure RegDef where
  off : Nat
  span : Nat
  fields : List FldDef
  deriving DecidableEq, Repr

/-- CLK page (02 R76). -/
def clkRegs : List RegDef := [
  ⟨0x08, 1, [⟨0, 1, .ro, .none, 1, .any⟩, ⟨1, 1, .ro, .none, 0, .any⟩, ⟨2, 1, .ro, .none, 0, .any⟩, ⟨3, 1, .ro, .none, 0, .any⟩, ⟨4, 1, .ro, .none, 0, .any⟩, ⟨5, 1, .ro, .none, 0, .any⟩, ⟨6, 1, .ro, .none, 0, .any⟩, ⟨8, 3, .ro, .none, 0, .any⟩, ⟨12, 3, .ro, .none, 1, .any⟩, ⟨15, 1, .ro, .none, 0, .any⟩, ⟨16, 1, .w1c, .live, 0, .any⟩, ⟨17, 1, .w1c, .live, 0, .any⟩]⟩,
  ⟨0x09, 1, [⟨0, 3, .rw, .live, 1, .span 1 3⟩]⟩,
  ⟨0x0A, 1, [⟨0, 16, .ro, .none, 0, .any⟩, ⟨16, 16, .ro, .none, 0, .any⟩]⟩,
  ⟨0x0B, 1, [⟨0, 16, .ro, .none, 0, .any⟩, ⟨16, 8, .ro, .none, 0, .any⟩]⟩,
  ⟨0x0C, 1, [⟨0, 3, .rw, .idle, 1, .span 0 5⟩, ⟨4, 3, .rw, .idle, 1, .span 0 5⟩, ⟨8, 5, .rw, .idle, 16, .span 8 24⟩, ⟨16, 1, .wo, .live, 0, .any⟩, ⟨17, 1, .ro, .none, 0, .any⟩, ⟨18, 1, .w1c, .live, 0, .any⟩, ⟨19, 1, .ro, .none, 0, .any⟩, ⟨20, 1, .ro, .none, 0, .any⟩]⟩,
  ⟨0x0D, 1, [⟨0, 32, .ro, .none, 0, .any⟩]⟩,
  ⟨0x0E, 1, [⟨0, 5, .rw, .live, 31, .any⟩, ⟨8, 4, .rw, .live, 10, .span 8 16⟩]⟩,
  ⟨0x0F, 1, [⟨0, 10, .rw, .live, 50, .span 1 1000⟩]⟩,
  ⟨0x10, 1, [⟨0, 5, .ro, .none, 0, .any⟩, ⟨8, 3, .ro, .none, 0, .any⟩, ⟨16, 16, .ro, .none, 0, .any⟩]⟩]

/-- FRM page (02 R77). -/
def frmRegs : List RegDef := [
  ⟨0x08, 1, [⟨0, 32, .ro, .none, 0, .any⟩]⟩,
  ⟨0x09, 1, [⟨0, 16, .ro, .none, 0, .any⟩]⟩,
  ⟨0x0A, 1, [⟨0, 32, .ro, .none, 0, .any⟩]⟩,
  ⟨0x0B, 1, [⟨0, 2, .ro, .none, 0, .any⟩, ⟨4, 4, .ro, .none, 0, .any⟩]⟩,
  ⟨0x0C, 1, [⟨0, 32, .ro, .none, 0, .any⟩]⟩,
  ⟨0x0D, 1, [⟨0, 16, .rc, .none, 0, .any⟩, ⟨16, 16, .rc, .none, 0, .any⟩]⟩,
  ⟨0x0E, 1, [⟨0, 32, .ro, .none, 0, .any⟩]⟩,
  ⟨0x0F, 1, [⟨0, 4, .ro, .none, 0, .any⟩]⟩,
  ⟨0x10, 1, [⟨0, 24, .ro, .none, 0, .any⟩]⟩,
  ⟨0x11, 1, [⟨0, 16, .ro, .none, 0, .any⟩]⟩,
  ⟨0x12, 1, [⟨0, 16, .ro, .none, 0, .any⟩, ⟨16, 8, .ro, .none, 0, .any⟩]⟩,
  ⟨0x13, 1, [⟨0, 4, .rw, .live, 8, .span 2 15⟩]⟩]

/-- DEV page (03 R105). -/
def devRegs : List RegDef := [
  ⟨0x08, 1, [⟨0, 16, .ro, .none, 0, .any⟩, ⟨16, 8, .ro, .none, 0, .any⟩, ⟨24, 8, .ro, .none, 236, .any⟩]⟩,
  ⟨0x09, 1, [⟨0, 7, .ro, .none, 0, .any⟩, ⟨8, 4, .ro, .none, 15, .any⟩, ⟨16, 3, .ro, .none, 7, .any⟩, ⟨24, 2, .ro, .none, 3, .any⟩]⟩,
  ⟨0x0A, 1, [⟨0, 32, .ro, .none, 0, .any⟩]⟩,
  ⟨0x0B, 1, [⟨0, 32, .ro, .none, 0, .any⟩]⟩,
  ⟨0x0C, 4, [⟨0, 32, .ro, .none, 0, .any⟩]⟩,
  ⟨0x10, 1, [⟨0, 2, .rwo, .once, 0, .span 1 2⟩, ⟨8, 1, .ro, .none, 0, .any⟩]⟩,
  ⟨0x11, 1, [⟨0, 3, .ro, .none, 3, .any⟩, ⟨8, 3, .ro, .none, 3, .any⟩, ⟨16, 16, .ro, .none, 0, .any⟩]⟩,
  ⟨0x12, 1, [⟨0, 3, .rw, .live, 3, .any⟩]⟩,
  ⟨0x13, 1, [⟨0, 1, .rw, .live, 0, .any⟩, ⟨1, 1, .rw, .live, 0, .any⟩]⟩,
  ⟨0x14, 1, [⟨0, 16, .rw, .live, 1000, .span 1 65535⟩]⟩,
  ⟨0x15, 1, [⟨0, 32, .rw, .live, 0, .any⟩]⟩,
  ⟨0x16, 1, [⟨0, 32, .wo, .live, 0, .any⟩]⟩,
  ⟨0x17, 1, [⟨0, 3, .ro, .none, 0, .any⟩, ⟨3, 1, .ro, .none, 0, .any⟩, ⟨4, 1, .ro, .none, 1, .any⟩, ⟨8, 4, .ro, .none, 0, .any⟩]⟩,
  ⟨0x18, 1, [⟨0, 4, .ro, .none, 0, .any⟩, ⟨4, 1, .ro, .none, 0, .any⟩, ⟨5, 1, .ro, .none, 0, .any⟩]⟩,
  ⟨0x19, 1, [⟨0, 8, .ro, .none, 0, .any⟩, ⟨8, 1, .ro, .none, 0, .any⟩, ⟨9, 1, .ro, .none, 0, .any⟩]⟩]

/-- Channel page of CH00; `.pg n` reaches CHn, part 1. -/
def chRegs0 : List RegDef := [
  ⟨0x08, 1, [⟨0, 1, .rw, .live, 0, .any⟩, ⟨1, 1, .rw, .live, 1, .any⟩]⟩,
  ⟨0x09, 1, [⟨0, 3, .rw, .staged, 0, .span 0 4⟩, ⟨4, 1, .rw, .staged, 0, .any⟩]⟩,
  ⟨0x0A, 1, [⟨0, 10, .rw, .live, 0, .span 0 1000⟩, ⟨15, 1, .rw, .staged, 1, .any⟩, ⟨16, 16, .rw, .staged, 0, .any⟩]⟩,
  ⟨0x0B, 1, [⟨0, 9, .rw, .staged, 100, .span 1 500⟩]⟩,
  ⟨0x0C, 1, [⟨0, 11, .rw, .staged, 200, .span 50 1200⟩, ⟨16, 9, .rw, .staged, 50, .span 10 300⟩]⟩,
  ⟨0x0D, 1, [⟨0, 13, .rw, .staged, 300, .span 10 5000⟩]⟩,
  ⟨0x0E, 1, [⟨0, 7, .rw, .staged, 60, .span 20 120⟩, ⟨16, 9, .rw, .staged, 100, .span 1 500⟩]⟩,
  ⟨0x0F, 1, [⟨0, 9, .rw, .staged, 300, .span 10 300⟩, ⟨16, 9, .rw, .staged, 270, .span 1 270⟩]⟩,
  ⟨0x10, 1, [⟨0, 11, .rw, .staged, 200, .span 10 2000⟩, ⟨16, 4, .rw, .staged, 3, .any⟩]⟩,
  ⟨0x11, 1, [⟨0, 2, .rw, .staged, 0, .span 0 2⟩]⟩,
  ⟨0x12, 1, [⟨0, 2, .rw, .staged, 1, .span 0 2⟩, ⟨4, 1, .rw, .staged, 0, .any⟩, ⟨5, 1, .rw, .staged, 0, .any⟩]⟩,
  ⟨0x13, 1, [⟨0, 2, .rw, .live, 0, .span 0 2⟩]⟩,
  ⟨0x14, 1, [⟨0, 4, .ro, .none, 0, .any⟩, ⟨4, 1, .ro, .none, 0, .any⟩, ⟨5, 1, .ro, .none, 0, .any⟩, ⟨6, 1, .ro, .none, 0, .any⟩, ⟨7, 1, .ro, .none, 0, .any⟩, ⟨8, 1, .ro, .none, 0, .any⟩, ⟨9, 1, .ro, .none, 0, .any⟩, ⟨10, 1, .ro, .none, 0, .any⟩, ⟨11, 1, .ro, .none, 0, .any⟩, ⟨12, 1, .ro, .none, 0, .any⟩, ⟨13, 1, .ro, .none, 0, .any⟩, ⟨14, 1, .w1c, .live, 0, .any⟩, ⟨15, 1, .ro, .none, 0, .any⟩, ⟨16, 4, .ro, .none, 0, .any⟩]⟩,
  ⟨0x15, 1, [⟨0, 3, .ro, .none, 0, .any⟩, ⟨8, 8, .ro, .none, 0, .any⟩, ⟨16, 16, .ro, .none, 0, .any⟩]⟩,
  ⟨0x16, 1, [⟨0, 10, .ro, .none, 0, .any⟩, ⟨16, 16, .ro, .none, 0, .any⟩]⟩,
  ⟨0x17, 1, [⟨0, 16, .ro, .none, 0, .any⟩, ⟨16, 16, .ro, .none, 0, .any⟩]⟩,
  ⟨0x18, 1, [⟨0, 16, .ro, .none, 0, .any⟩, ⟨16, 8, .ro, .none, 255, .any⟩]⟩,
  ⟨0x19, 1, [⟨0, 10, .ro, .none, 0, .any⟩, ⟨16, 16, .ro, .none, 0, .any⟩]⟩,
  ⟨0x1A, 1, [⟨0, 32, .ro, .none, 0, .any⟩]⟩,
  ⟨0x1B, 1, [⟨0, 16, .ro, .none, 0, .any⟩]⟩,
  ⟨0x1C, 1, [⟨0, 32, .ro, .none, 0, .any⟩]⟩,
  ⟨0x1D, 1, [⟨0, 16, .ro, .none, 0, .any⟩]⟩,
  ⟨0x1E, 1, [⟨0, 32, .ro, .none, 0, .any⟩]⟩,
  ⟨0x1F, 1, [⟨0, 32, .ro, .none, 0, .any⟩]⟩]

/-- Channel page of CH00; `.pg n` reaches CHn, part 2. -/
def chRegs1 : List RegDef := [
  ⟨0x20, 1, [⟨0, 32, .ro, .none, 0, .any⟩]⟩,
  ⟨0x30, 1, [⟨0, 14, .rw, .staged, 0, .any⟩, ⟨16, 15, .rw, .staged, 0, .span 0 16384⟩]⟩,
  ⟨0x31, 1, [⟨0, 1, .wo, .live, 0, .any⟩, ⟨4, 1, .rw, .live, 0, .any⟩, ⟨5, 1, .rw, .live, 0, .any⟩, ⟨6, 1, .rw, .live, 0, .any⟩]⟩,
  ⟨0x32, 1, [⟨0, 15, .ro, .none, 0, .any⟩, ⟨15, 1, .ro, .none, 0, .any⟩, ⟨16, 15, .ro, .none, 0, .any⟩]⟩,
  ⟨0x33, 1, [⟨0, 32, .ro, .none, 0, .any⟩]⟩,
  ⟨0x34, 1, [⟨0, 32, .ro, .none, 0, .any⟩]⟩,
  ⟨0x35, 1, [⟨0, 32, .ro, .none, 0, .any⟩]⟩,
  ⟨0x36, 1, [⟨0, 16, .rw, .live, 0, .any⟩]⟩,
  ⟨0x37, 1, [⟨0, 16, .rw, .live, 0, .any⟩]⟩,
  ⟨0x38, 1, [⟨0, 19, .rw, .live, 0, .span 0 500000⟩]⟩,
  ⟨0x39, 1, [⟨0, 19, .rw, .live, 0, .span 0 500000⟩]⟩,
  ⟨0x3A, 1, [⟨0, 10, .rw, .live, 50, .span 0 1000⟩]⟩,
  ⟨0x3B, 1, [⟨0, 24, .rw, .live, 0, .any⟩]⟩,
  ⟨0x3C, 1, [⟨0, 32, .ro, .none, 0, .any⟩]⟩,
  ⟨0x3D, 1, [⟨0, 16, .ro, .none, 0, .any⟩]⟩,
  ⟨0x3E, 1, [⟨0, 32, .ro, .none, 0, .any⟩]⟩,
  ⟨0x3F, 1, [⟨0, 1, .ro, .none, 0, .any⟩, ⟨1, 1, .ro, .none, 0, .any⟩, ⟨2, 1, .ro, .none, 0, .any⟩, ⟨3, 2, .ro, .none, 0, .any⟩, ⟨5, 2, .ro, .none, 0, .any⟩, ⟨24, 8, .ro, .none, 0, .any⟩]⟩,
  ⟨0x40, 1, [⟨0, 19, .ro, .none, 0, .any⟩]⟩,
  ⟨0x41, 1, [⟨0, 19, .ro, .none, 0, .any⟩]⟩,
  ⟨0x42, 1, [⟨0, 16, .ro, .none, 0, .any⟩, ⟨16, 16, .ro, .none, 0, .any⟩]⟩,
  ⟨0x43, 1, [⟨0, 16, .ro, .none, 0, .any⟩, ⟨16, 16, .ro, .none, 0, .any⟩]⟩,
  ⟨0x44, 1, [⟨0, 32, .ro, .none, 0, .any⟩]⟩,
  ⟨0x45, 1, [⟨0, 8, .ro, .none, 0, .any⟩, ⟨16, 16, .ro, .none, 0, .any⟩]⟩,
  ⟨0x46, 1, [⟨0, 16, .ro, .none, 0, .any⟩, ⟨16, 16, .ro, .none, 0, .any⟩]⟩]

/-- Channel page of CH00; `.pg n` reaches CHn, part 3. -/
def chRegs2 : List RegDef := [
  ⟨0x60, 1, [⟨0, 1, .rw, .staged, 0, .any⟩, ⟨1, 1, .rw, .staged, 0, .any⟩, ⟨2, 1, .rw, .staged, 1, .any⟩, ⟨3, 1, .rw, .staged, 0, .any⟩, ⟨4, 2, .rw, .staged, 0, .span 0 2⟩, ⟨8, 8, .rw, .staged, 32, .span 1 128⟩, ⟨16, 8, .rw, .staged, 1, .span 1 255⟩]⟩,
  ⟨0x61, 1, [⟨0, 20, .rw, .live, 0, .signed (-500000) 500000⟩]⟩,
  ⟨0x62, 1, [⟨0, 23, .rw, .staged, 0, .any⟩, ⟨24, 8, .rw, .staged, 0, .any⟩]⟩,
  ⟨0x63, 1, [⟨0, 16, .rw, .staged, 0, .any⟩, ⟨16, 16, .rw, .staged, 0, .any⟩]⟩,
  ⟨0x64, 1, [⟨0, 23, .rw, .staged, 0, .any⟩, ⟨24, 8, .rw, .staged, 0, .any⟩]⟩,
  ⟨0x65, 1, [⟨0, 16, .rw, .staged, 0, .any⟩, ⟨16, 16, .rw, .staged, 0, .any⟩]⟩,
  ⟨0x66, 1, [⟨0, 19, .ro, .none, 0, .any⟩, ⟨20, 1, .ro, .none, 0, .any⟩, ⟨21, 3, .ro, .none, 0, .any⟩]⟩,
  ⟨0x67, 1, [⟨0, 2, .ro, .none, 0, .any⟩, ⟨2, 2, .ro, .none, 0, .any⟩, ⟨4, 4, .ro, .none, 0, .any⟩, ⟨8, 4, .ro, .none, 0, .any⟩, ⟨12, 4, .ro, .none, 0, .any⟩, ⟨16, 3, .ro, .none, 0, .any⟩]⟩,
  ⟨0x68, 1, [⟨0, 16, .ro, .none, 0, .any⟩, ⟨16, 16, .ro, .none, 0, .any⟩]⟩,
  ⟨0x69, 1, [⟨0, 16, .ro, .none, 0, .any⟩, ⟨16, 16, .ro, .none, 0, .any⟩]⟩]

/-- Channel page of CH00; `.pg n` reaches CHn, whole. -/
def chRegs : List RegDef := chRegs0 ++ chRegs1 ++ chRegs2

/-- SEC page (06 R209). -/
def secRegs : List RegDef := [
  ⟨0x08, 1, [⟨0, 2, .rw, .staged, 0, .any⟩, ⟨4, 1, .rw, .staged, 0, .any⟩, ⟨5, 1, .rw, .staged, 0, .any⟩]⟩,
  ⟨0x09, 1, [⟨0, 32, .rw, .staged, 65536, .span 0 0x01000000⟩]⟩,
  ⟨0x0A, 1, [⟨0, 16, .rw, .live, 0, .any⟩]⟩,
  ⟨0x0B, 1, [⟨0, 16, .rw, .live, 2000, .span 1 65535⟩]⟩,
  ⟨0x0C, 1, [⟨0, 32, .rw, .live, 0, .signed (-16777216) 16777216⟩]⟩,
  ⟨0x0D, 1, [⟨0, 32, .ro, .none, 0, .any⟩]⟩,
  ⟨0x0E, 1, [⟨0, 16, .ro, .none, 0, .any⟩]⟩,
  ⟨0x0F, 1, [⟨0, 32, .ro, .none, 0, .any⟩]⟩,
  ⟨0x10, 1, [⟨0, 32, .ro, .none, 0, .any⟩]⟩,
  ⟨0x11, 1, [⟨0, 32, .rw, .live, 0, .any⟩]⟩,
  ⟨0x12, 1, [⟨0, 1, .rw, .live, 0, .any⟩, ⟨1, 1, .rw, .live, 1, .any⟩]⟩,
  ⟨0x13, 1, [⟨0, 1, .ro, .none, 0, .any⟩, ⟨1, 1, .w1c, .live, 0, .any⟩, ⟨2, 1, .ro, .none, 0, .any⟩, ⟨3, 1, .ro, .none, 0, .any⟩, ⟨8, 8, .ro, .none, 0, .any⟩]⟩,
  ⟨0x14, 1, [⟨0, 16, .ro, .none, 0, .any⟩, ⟨16, 16, .ro, .none, 0, .any⟩]⟩,
  ⟨0x15, 1, [⟨0, 16, .ro, .none, 0, .any⟩, ⟨16, 16, .ro, .none, 0, .any⟩]⟩,
  ⟨0x16, 1, [⟨0, 32, .ro, .none, 0, .any⟩]⟩,
  ⟨0x17, 1, [⟨0, 32, .wo, .live, 0, .any⟩]⟩,
  ⟨0x18, 1, [⟨0, 32, .wo, .live, 0, .any⟩]⟩,
  ⟨0x19, 1, [⟨0, 4, .ro, .none, 0, .any⟩, ⟨8, 6, .ro, .none, 0, .any⟩, ⟨16, 15, .ro, .none, 0, .any⟩]⟩]

/-- GEY page (07 R229). -/
def geyRegs : List RegDef := [
  ⟨0x08, 1, [⟨0, 11, .rw, .live, 50, .span 10 2000⟩]⟩,
  ⟨0x09, 1, [⟨0, 16, .rw, .staged, 100, .span 1 1000⟩, ⟨16, 8, .rw, .staged, 20, .span 1 200⟩]⟩,
  ⟨0x0A, 1, [⟨0, 16, .rw, .staged, 400, .span 1 2000⟩]⟩,
  ⟨0x0B, 1, [⟨0, 4, .rw, .live, 4, .span 1 15⟩]⟩,
  ⟨0x0C, 4, [⟨0, 16, .rw, .staged, 0, .any⟩, ⟨16, 16, .rw, .staged, 0, .any⟩]⟩,
  ⟨0x10, 1, [⟨0, 16, .ro, .none, 0, .any⟩, ⟨16, 16, .ro, .none, 0, .any⟩]⟩,
  ⟨0x18, 1, [⟨0, 1, .rw, .live, 0, .any⟩, ⟨8, 6, .rw, .live, 0, .geyCh⟩, ⟨16, 1, .rw, .live, 0, .any⟩, ⟨17, 1, .wo, .live, 0, .any⟩]⟩,
  ⟨0x19, 1, [⟨0, 2, .ro, .none, 0, .any⟩, ⟨2, 3, .ro, .none, 0, .any⟩, ⟨8, 6, .ro, .none, 0, .any⟩, ⟨14, 1, .ro, .none, 0, .any⟩, ⟨15, 1, .ro, .none, 0, .any⟩, ⟨16, 12, .ro, .none, 0, .any⟩]⟩,
  ⟨0x1A, 1, [⟨0, 32, .ro, .none, 0, .any⟩]⟩,
  ⟨0x1B, 1, [⟨0, 16, .ro, .none, 0, .any⟩, ⟨16, 12, .ro, .none, 4095, .any⟩]⟩,
  ⟨0x1C, 1, [⟨0, 1, .rw, .live, 0, .any⟩, ⟨8, 6, .rw, .live, 0, .geyCh⟩, ⟨16, 1, .rw, .live, 0, .any⟩, ⟨17, 1, .wo, .live, 0, .any⟩]⟩,
  ⟨0x1D, 1, [⟨0, 2, .ro, .none, 0, .any⟩, ⟨2, 3, .ro, .none, 0, .any⟩, ⟨8, 6, .ro, .none, 0, .any⟩, ⟨14, 1, .ro, .none, 0, .any⟩, ⟨15, 1, .ro, .none, 0, .any⟩, ⟨16, 12, .ro, .none, 0, .any⟩]⟩,
  ⟨0x1E, 1, [⟨0, 32, .ro, .none, 0, .any⟩]⟩,
  ⟨0x1F, 1, [⟨0, 16, .ro, .none, 0, .any⟩, ⟨16, 12, .ro, .none, 4095, .any⟩]⟩,
  ⟨0x20, 1, [⟨0, 1, .rw, .live, 0, .any⟩, ⟨8, 6, .rw, .live, 0, .geyCh⟩, ⟨16, 1, .rw, .live, 0, .any⟩, ⟨17, 1, .wo, .live, 0, .any⟩]⟩,
  ⟨0x21, 1, [⟨0, 2, .ro, .none, 0, .any⟩, ⟨2, 3, .ro, .none, 0, .any⟩, ⟨8, 6, .ro, .none, 0, .any⟩, ⟨14, 1, .ro, .none, 0, .any⟩, ⟨15, 1, .ro, .none, 0, .any⟩, ⟨16, 12, .ro, .none, 0, .any⟩]⟩,
  ⟨0x22, 1, [⟨0, 32, .ro, .none, 0, .any⟩]⟩,
  ⟨0x23, 1, [⟨0, 16, .ro, .none, 0, .any⟩, ⟨16, 12, .ro, .none, 4095, .any⟩]⟩,
  ⟨0x24, 1, [⟨0, 1, .rw, .live, 0, .any⟩, ⟨8, 6, .rw, .live, 0, .geyCh⟩, ⟨16, 1, .rw, .live, 0, .any⟩, ⟨17, 1, .wo, .live, 0, .any⟩]⟩,
  ⟨0x25, 1, [⟨0, 2, .ro, .none, 0, .any⟩, ⟨2, 3, .ro, .none, 0, .any⟩, ⟨8, 6, .ro, .none, 0, .any⟩, ⟨14, 1, .ro, .none, 0, .any⟩, ⟨15, 1, .ro, .none, 0, .any⟩, ⟨16, 12, .ro, .none, 0, .any⟩]⟩,
  ⟨0x26, 1, [⟨0, 32, .ro, .none, 0, .any⟩]⟩,
  ⟨0x27, 1, [⟨0, 16, .ro, .none, 0, .any⟩, ⟨16, 12, .ro, .none, 4095, .any⟩]⟩]

/-- FEEDA page (08 R253); `.pg 1` is FEEDB. -/
def feedRegs : List RegDef := [
  ⟨0x08, 1, [⟨0, 4, .ro, .none, 1, .any⟩, ⟨4, 1, .ro, .none, 0, .any⟩, ⟨5, 1, .ro, .none, 0, .any⟩, ⟨6, 1, .ro, .none, 0, .any⟩, ⟨7, 1, .ro, .none, 0, .any⟩, ⟨8, 1, .ro, .none, 0, .any⟩, ⟨9, 1, .ro, .none, 0, .any⟩, ⟨10, 1, .ro, .none, 0, .any⟩, ⟨16, 2, .ro, .none, 0, .any⟩]⟩,
  ⟨0x09, 1, [⟨0, 10, .rw, .staged, 180, .span 150 600⟩, ⟨16, 10, .rw, .staged, 610, .span 200 630⟩]⟩,
  ⟨0x0A, 1, [⟨0, 14, .rw, .live, 50, .span 1 10000⟩]⟩,
  ⟨0x0B, 1, [⟨0, 8, .rw, .staged, 60, .span 10 150⟩]⟩,
  ⟨0x0C, 1, [⟨0, 8, .rw, .staged, 60, .span 5 200⟩]⟩,
  ⟨0x0D, 1, [⟨0, 8, .rw, .staged, 20, .span 5 200⟩]⟩,
  ⟨0x0E, 1, [⟨0, 7, .rw, .staged, 80, .span 10 80⟩, ⟨16, 14, .rw, .staged, 1000, .span 1 10000⟩]⟩,
  ⟨0x0F, 1, [⟨0, 16, .ro, .none, 0, .any⟩, ⟨16, 16, .ro, .none, 0, .any⟩]⟩,
  ⟨0x10, 1, [⟨0, 16, .ro, .none, 0, .any⟩, ⟨16, 16, .ro, .none, 0, .any⟩]⟩,
  ⟨0x11, 1, [⟨0, 16, .ro, .none, 0, .any⟩]⟩,
  ⟨0x12, 1, [⟨0, 32, .ro, .none, 0, .any⟩]⟩,
  ⟨0x13, 1, [⟨0, 16, .ro, .none, 0, .any⟩]⟩,
  ⟨0x14, 1, [⟨0, 16, .ro, .none, 0, .any⟩, ⟨16, 1, .ro, .none, 0, .any⟩]⟩,
  ⟨0x15, 1, [⟨0, 8, .ro, .none, 0, .any⟩, ⟨8, 8, .ro, .none, 0, .any⟩, ⟨16, 16, .ro, .none, 0, .any⟩]⟩,
  ⟨0x16, 1, [⟨0, 16, .ro, .none, 0, .any⟩, ⟨16, 16, .ro, .none, 0, .any⟩]⟩,
  ⟨0x17, 1, [⟨0, 2, .rw, .staged, 0, .span 0 2⟩, ⟨8, 7, .rw, .staged, 50, .span 0 100⟩, ⟨16, 10, .rw, .staged, 400, .span 150 600⟩]⟩,
  ⟨0x18, 1, [⟨0, 8, .ro, .none, 255, .any⟩, ⟨8, 1, .ro, .none, 0, .any⟩, ⟨16, 16, .ro, .none, 0, .any⟩]⟩]

/-- LB page (09 R275). -/
def lbRegs : List RegDef := [
  ⟨0x08, 1, [⟨0, 4, .ro, .none, 0, .any⟩, ⟨4, 1, .ro, .none, 0, .any⟩, ⟨5, 1, .ro, .none, 0, .any⟩, ⟨6, 1, .ro, .none, 0, .any⟩, ⟨7, 1, .ro, .none, 0, .any⟩, ⟨8, 1, .ro, .none, 0, .any⟩, ⟨9, 2, .ro, .none, 0, .any⟩, ⟨16, 2, .ro, .none, 0, .any⟩]⟩,
  ⟨0x09, 1, [⟨0, 12, .rw, .live, 2400, .span 900 2800⟩]⟩,
  ⟨0x0A, 1, [⟨0, 8, .rw, .live, 20, .span 1 200⟩]⟩,
  ⟨0x0B, 1, [⟨0, 1, .rw, .live, 1, .any⟩, ⟨1, 1, .rw, .live, 1, .any⟩, ⟨2, 1, .rw, .live, 1, .any⟩, ⟨3, 1, .rw, .live, 0, .any⟩]⟩,
  ⟨0x0C, 1, [⟨0, 7, .rw, .staged, 100, .span 10 100⟩, ⟨16, 7, .rw, .staged, 10, .span 1 100⟩]⟩,
  ⟨0x0D, 1, [⟨0, 6, .rw, .live, 12, .span 0 40⟩]⟩,
  ⟨0x0E, 1, [⟨0, 2, .rw, .idle, 1, .span 0 2⟩, ⟨8, 8, .rw, .idle, 25, .span 1 200⟩, ⟨16, 8, .rw, .idle, 0, .any⟩, ⟨24, 8, .rw, .idle, 40, .span 25 60⟩]⟩,
  ⟨0x0F, 1, [⟨0, 16, .ro, .none, 0, .any⟩, ⟨16, 16, .ro, .none, 0, .any⟩]⟩,
  ⟨0x10, 1, [⟨0, 16, .ro, .none, 0, .any⟩, ⟨16, 16, .ro, .none, 0, .any⟩]⟩,
  ⟨0x11, 4, [⟨0, 16, .ro, .none, 0, .any⟩, ⟨16, 8, .ro, .none, 255, .any⟩, ⟨24, 1, .ro, .none, 0, .any⟩]⟩,
  ⟨0x15, 1, [⟨0, 8, .ro, .none, 0, .any⟩, ⟨8, 8, .ro, .none, 0, .any⟩, ⟨16, 16, .ro, .none, 0, .any⟩]⟩,
  ⟨0x16, 1, [⟨0, 16, .ro, .none, 0, .any⟩, ⟨16, 16, .ro, .none, 0, .any⟩]⟩,
  ⟨0x17, 1, [⟨0, 32, .ro, .none, 0, .any⟩]⟩]

/-- H1 page (09 R276); `.pg n` is H(n+1). -/
def hRegs : List RegDef := [
  ⟨0x08, 1, [⟨0, 4, .ro, .none, 0, .any⟩, ⟨4, 1, .ro, .none, 0, .any⟩, ⟨5, 1, .ro, .none, 0, .any⟩, ⟨6, 1, .ro, .none, 0, .any⟩, ⟨7, 1, .ro, .none, 0, .any⟩, ⟨8, 1, .ro, .none, 0, .any⟩, ⟨16, 2, .ro, .none, 0, .any⟩]⟩,
  ⟨0x09, 1, [⟨0, 11, .rw, .live, 0, .span 80 1200⟩]⟩,
  ⟨0x0A, 1, [⟨0, 8, .rw, .live, 50, .span 1 200⟩]⟩,
  ⟨0x0B, 1, [⟨0, 1, .rw, .live, 1, .any⟩, ⟨1, 1, .rw, .live, 1, .any⟩, ⟨3, 1, .rw, .live, 0, .any⟩]⟩,
  ⟨0x0C, 1, [⟨0, 2, .rw, .staged, 0, .span 0 2⟩, ⟨4, 3, .rw, .staged, 0, .span 0 4⟩]⟩,
  ⟨0x0D, 1, [⟨0, 16, .ro, .none, 0, .any⟩, ⟨16, 16, .ro, .none, 0, .any⟩]⟩,
  ⟨0x0E, 1, [⟨0, 16, .ro, .none, 0, .any⟩, ⟨16, 16, .ro, .none, 0, .any⟩]⟩,
  ⟨0x0F, 1, [⟨0, 8, .ro, .none, 0, .any⟩]⟩]

/-- BUD page (10 R295). -/
def budRegs : List RegDef := [
  ⟨0x08, 1, [⟨0, 16, .rw, .live, 65535, .any⟩]⟩,
  ⟨0x09, 1, [⟨0, 8, .rw, .live, 16, .any⟩]⟩,
  ⟨0x0A, 1, [⟨0, 7, .rw, .staged, 8, .span 1 64⟩, ⟨16, 9, .rw, .staged, 100, .span 0 500⟩, ⟨25, 6, .rw, .staged, 16, .span 1 63⟩]⟩,
  ⟨0x0B, 1, [⟨0, 12, .rw, .live, 4095, .any⟩]⟩,
  ⟨0x0C, 1, [⟨0, 2, .ro, .none, 1, .any⟩, ⟨4, 2, .ro, .none, 1, .any⟩, ⟨6, 1, .ro, .none, 0, .any⟩, ⟨7, 1, .ro, .none, 0, .any⟩, ⟨8, 8, .ro, .none, 0, .any⟩]⟩,
  ⟨0x0D, 1, [⟨0, 12, .ro, .none, 0, .any⟩, ⟨16, 12, .ro, .none, 4095, .any⟩]⟩,
  ⟨0x0E, 1, [⟨0, 12, .ro, .none, 0, .any⟩, ⟨16, 12, .ro, .none, 0, .any⟩]⟩,
  ⟨0x0F, 1, [⟨0, 12, .ro, .none, 0, .any⟩, ⟨16, 12, .ro, .none, 0, .any⟩]⟩,
  ⟨0x10, 1, [⟨0, 12, .ro, .none, 0, .any⟩, ⟨16, 12, .ro, .none, 0, .any⟩]⟩,
  ⟨0x11, 1, [⟨0, 12, .ro, .none, 0, .any⟩, ⟨16, 11, .ro, .none, 1086, .any⟩]⟩,
  ⟨0x12, 1, [⟨0, 11, .ro, .none, 1024, .any⟩, ⟨16, 11, .ro, .none, 1024, .any⟩]⟩,
  ⟨0x13, 1, [⟨0, 16, .ro, .none, 0, .any⟩, ⟨16, 16, .ro, .none, 0, .any⟩]⟩,
  ⟨0x14, 1, [⟨0, 16, .ro, .none, 0, .any⟩, ⟨16, 16, .ro, .none, 0, .any⟩]⟩,
  ⟨0x15, 1, [⟨0, 16, .ro, .none, 0, .any⟩, ⟨16, 16, .ro, .none, 0, .any⟩]⟩,
  ⟨0x20, 16, [⟨0, 12, .ro, .none, 0, .any⟩, ⟨12, 12, .ro, .none, 0, .any⟩, ⟨24, 1, .ro, .none, 0, .any⟩, ⟨25, 1, .ro, .none, 0, .any⟩, ⟨26, 1, .ro, .none, 0, .any⟩, ⟨27, 1, .ro, .none, 0, .any⟩]⟩,
  ⟨0x30, 16, [⟨0, 12, .ro, .none, 0, .any⟩, ⟨12, 12, .ro, .none, 0, .any⟩, ⟨24, 8, .ro, .none, 0, .any⟩]⟩]

/-- CHG page (11 R323). -/
def chgRegs : List RegDef := [
  ⟨0x08, 1, [⟨0, 1, .rw, .live, 0, .any⟩]⟩,
  ⟨0x09, 1, [⟨0, 1, .rw, .staged, 0, .any⟩, ⟨4, 4, .rw, .staged, 0, .zeroOr 3 8⟩]⟩,
  ⟨0x0A, 1, [⟨0, 9, .rw, .staged, 420, .span 350 425⟩, ⟨16, 9, .rw, .staged, 300, .span 250 330⟩]⟩,
  ⟨0x0B, 1, [⟨0, 9, .rw, .staged, 270, .span 250 330⟩, ⟨16, 5, .rw, .staged, 10, .span 5 20⟩]⟩,
  ⟨0x0C, 1, [⟨0, 8, .rw, .staged, 40, .span 10 200⟩, ⟨8, 6, .rw, .staged, 4, .span 1 40⟩, ⟨16, 5, .rw, .staged, 2, .span 1 20⟩]⟩,
  ⟨0x0D, 1, [⟨0, 8, .rw, .staged, 0, .signed (-40) 85⟩, ⟨8, 8, .rw, .staged, 10, .signed (-40) 85⟩, ⟨16, 8, .rw, .staged, 45, .signed (-40) 85⟩, ⟨24, 8, .rw, .staged, 55, .signed (-40) 85⟩]⟩,
  ⟨0x0E, 1, [⟨0, 10, .rw, .live, 400, .span 200 550⟩, ⟨16, 8, .rw, .live, 120, .span 100 125⟩]⟩,
  ⟨0x0F, 1, [⟨0, 11, .rw, .live, 600, .span 10 1200⟩]⟩,
  ⟨0x10, 1, [⟨0, 12, .rw, .live, 60, .span 1 3600⟩]⟩,
  ⟨0x11, 1, [⟨0, 12, .rw, .live, 1200, .span 900 3600⟩]⟩,
  ⟨0x12, 1, [⟨0, 12, .rw, .live, 60, .span 0 3600⟩, ⟨16, 5, .rw, .live, 10, .any⟩]⟩,
  ⟨0x13, 1, [⟨0, 14, .rw, .live, 200, .span 10 10000⟩]⟩,
  ⟨0x14, 1, [⟨0, 4, .ro, .none, 0, .any⟩, ⟨4, 3, .ro, .none, 5, .any⟩, ⟨8, 4, .ro, .none, 0, .any⟩, ⟨12, 1, .ro, .none, 0, .any⟩, ⟨13, 1, .ro, .none, 0, .any⟩, ⟨14, 2, .ro, .none, 3, .any⟩, ⟨16, 1, .ro, .none, 0, .any⟩, ⟨17, 1, .ro, .none, 0, .any⟩, ⟨18, 1, .ro, .none, 0, .any⟩, ⟨19, 1, .ro, .none, 0, .any⟩, ⟨20, 3, .ro, .none, 0, .any⟩, ⟨23, 1, .ro, .none, 0, .any⟩]⟩,
  ⟨0x15, 1, [⟨0, 4, .ro, .none, 0, .any⟩]⟩,
  ⟨0x16, 1, [⟨0, 18, .ro, .none, 0, .any⟩]⟩,
  ⟨0x17, 1, [⟨0, 18, .ro, .none, 0, .any⟩]⟩,
  ⟨0x18, 1, [⟨0, 16, .ro, .none, 0, .any⟩, ⟨16, 16, .ro, .none, 0, .any⟩]⟩,
  ⟨0x19, 1, [⟨0, 16, .ro, .none, 0, .any⟩, ⟨16, 8, .ro, .none, 0, .any⟩, ⟨24, 8, .ro, .none, 0, .any⟩]⟩,
  ⟨0x1A, 1, [⟨0, 16, .ro, .none, 0, .any⟩, ⟨16, 16, .ro, .none, 0, .any⟩]⟩,
  ⟨0x1B, 1, [⟨0, 32, .ro, .none, 0, .any⟩]⟩,
  ⟨0x1C, 1, [⟨0, 32, .ro, .none, 0, .any⟩]⟩,
  ⟨0x1D, 1, [⟨0, 16, .ro, .none, 0, .any⟩, ⟨16, 16, .ro, .none, 0, .any⟩]⟩,
  ⟨0x1E, 1, [⟨0, 16, .ro, .none, 0, .any⟩, ⟨16, 8, .ro, .none, 0, .any⟩, ⟨24, 8, .ro, .none, 0, .any⟩]⟩,
  ⟨0x1F, 1, [⟨0, 32, .ro, .none, 0, .any⟩]⟩]

/-- SEQ page (12 R347). -/
def seqRegs : List RegDef := [
  ⟨0x08, 1, [⟨0, 2, .wo, .live, 0, .span 1 2⟩]⟩,
  ⟨0x09, 1, [⟨0, 2, .ro, .none, 1, .any⟩, ⟨4, 3, .ro, .none, 0, .any⟩, ⟨8, 4, .ro, .none, 0, .any⟩, ⟨16, 16, .ro, .none, 0, .any⟩]⟩,
  ⟨0x0A, 1, [⟨0, 16, .ro, .none, 0, .any⟩, ⟨16, 16, .ro, .none, 0, .any⟩]⟩,
  ⟨0x0B, 1, [⟨0, 16, .ro, .none, 0, .any⟩, ⟨16, 16, .ro, .none, 0, .any⟩]⟩,
  ⟨0x10, 16, [⟨0, 7, .rw, .staged, 0, .rail⟩, ⟨8, 1, .rw, .staged, 0, .any⟩, ⟨9, 1, .rw, .staged, 0, .any⟩, ⟨12, 5, .rw, .staged, 0, .supsel⟩, ⟨20, 4, .rw, .staged, 0, .any⟩, ⟨24, 8, .rw, .staged, 0, .span 1 255⟩]⟩,
  ⟨0x20, 16, [⟨0, 16, .rw, .staged, 0, .any⟩, ⟨16, 16, .rw, .staged, 0, .any⟩]⟩,
  ⟨0x30, 16, [⟨0, 12, .rw, .staged, 0, .span 1 4095⟩, ⟨16, 12, .rw, .staged, 0, .any⟩]⟩,
  ⟨0x40, 16, [⟨0, 12, .rw, .staged, 0, .any⟩, ⟨16, 10, .rw, .staged, 0, .span 1 1023⟩]⟩,
  ⟨0x50, 16, [⟨0, 16, .rw, .staged, 0, .any⟩]⟩,
  ⟨0x60, 16, [⟨0, 4, .ro, .none, 0, .any⟩, ⟨4, 4, .ro, .none, 0, .any⟩, ⟨8, 5, .ro, .none, 0, .any⟩, ⟨13, 1, .ro, .none, 0, .any⟩, ⟨16, 16, .ro, .none, 0, .any⟩]⟩]

/-- SUP page (12 R348). -/
def supRegs : List RegDef := [
  ⟨0x08, 1, [⟨0, 24, .ro, .none, 0, .any⟩]⟩,
  ⟨0x09, 1, [⟨0, 24, .ro, .none, 0, .any⟩]⟩,
  ⟨0x0A, 1, [⟨0, 24, .ro, .none, 0, .any⟩]⟩,
  ⟨0x10, 24, [⟨0, 1, .rw, .live, 0, .any⟩, ⟨1, 2, .rw, .staged, 0, .span 0 2⟩, ⟨8, 5, .rw, .staged, 0, .span 0 14⟩, ⟨16, 8, .rw, .staged, 4, .any⟩]⟩,
  ⟨0x28, 24, [⟨0, 12, .rw, .staged, 0, .any⟩, ⟨16, 12, .rw, .staged, 4095, .any⟩]⟩,
  ⟨0x40, 24, [⟨0, 14, .rw, .live, 10, .span 1 10000⟩]⟩,
  ⟨0x58, 24, [⟨0, 16, .ro, .none, 0, .any⟩]⟩]

/-- ADC page (13 R371). -/
def adcRegs : List RegDef := [
  ⟨0x08, 4, [⟨0, 3, .ro, .none, 0, .any⟩, ⟨3, 1, .ro, .none, 0, .any⟩, ⟨8, 6, .ro, .none, 0, .any⟩]⟩,
  ⟨0x0C, 4, [⟨0, 7, .rw, .staged, 0, .span 0 64⟩]⟩,
  ⟨0x10, 4, [⟨0, 16, .ro, .none, 0, .any⟩, ⟨16, 16, .ro, .none, 0, .any⟩]⟩,
  ⟨0x14, 4, [⟨0, 16, .ro, .none, 0, .any⟩, ⟨16, 8, .ro, .none, 0, .any⟩]⟩,
  ⟨0x18, 1, [⟨0, 8, .rw, .live, 0, .input⟩, ⟨8, 3, .rw, .live, 0, .span 0 4⟩, ⟨15, 1, .wo, .live, 0, .any⟩, ⟨16, 16, .rw, .live, 0, .span 0 39999⟩]⟩,
  ⟨0x19, 1, [⟨0, 16, .ro, .none, 0, .any⟩, ⟨16, 1, .w1c, .live, 0, .any⟩, ⟨17, 1, .ro, .none, 0, .any⟩, ⟨18, 1, .ro, .none, 0, .any⟩, ⟨19, 1, .ro, .none, 0, .any⟩]⟩,
  ⟨0x1A, 8, [⟨0, 16, .ro, .none, 0, .any⟩, ⟨16, 1, .ro, .none, 0, .any⟩, ⟨17, 1, .ro, .none, 0, .any⟩, ⟨18, 1, .rc, .none, 0, .any⟩, ⟨24, 8, .ro, .none, 255, .any⟩]⟩,
  ⟨0x22, 1, [⟨0, 6, .ro, .none, 0, .any⟩, ⟨8, 6, .ro, .none, 0, .any⟩]⟩,
  ⟨0x23, 1, [⟨0, 10, .ro, .none, 0, .any⟩, ⟨16, 10, .ro, .none, 0, .any⟩]⟩,
  ⟨0x24, 1, [⟨0, 12, .ro, .none, 0, .any⟩]⟩,
  ⟨0x40, 32, [⟨0, 16, .rw, .staged, 0, .scanEntry⟩, ⟨16, 16, .rw, .staged, 0, .scanEntry⟩]⟩,
  ⟨0x60, 32, [⟨0, 16, .rw, .staged, 0, .scanEntry⟩, ⟨16, 16, .rw, .staged, 0, .scanEntry⟩]⟩,
  ⟨0x80, 32, [⟨0, 16, .rw, .staged, 0, .scanEntry⟩, ⟨16, 16, .rw, .staged, 0, .scanEntry⟩]⟩,
  ⟨0xA0, 8, [⟨0, 16, .ro, .none, 0, .any⟩, ⟨16, 16, .ro, .none, 0, .any⟩]⟩,
  ⟨0xA8, 24, [⟨0, 16, .rw, .staged, 0, .scanEntry⟩, ⟨16, 16, .rw, .staged, 0, .scanEntry⟩]⟩]

/-- CAL page (13 R372). -/
def calRegs : List RegDef := [
  ⟨0x08, 1, [⟨0, 10, .rw, .live, 0, .calIndex⟩]⟩,
  ⟨0x09, 1, [⟨0, 16, .rw, .staged, 0, .any⟩, ⟨16, 16, .rw, .staged, 0, .any⟩]⟩,
  ⟨0x0A, 1, [⟨0, 16, .rw, .staged, 0, .any⟩, ⟨16, 16, .rw, .staged, 0, .any⟩]⟩,
  ⟨0x0B, 1, [⟨0, 8, .rw, .staged, 0, .any⟩, ⟨8, 8, .rw, .staged, 0, .any⟩, ⟨16, 2, .ro, .none, 0, .any⟩, ⟨18, 1, .ro, .none, 0, .any⟩, ⟨19, 1, .ro, .none, 0, .any⟩]⟩,
  ⟨0x0C, 1, [⟨0, 16, .ro, .none, 0, .any⟩, ⟨16, 16, .ro, .none, 65535, .any⟩]⟩,
  ⟨0x0D, 1, [⟨0, 8, .rw, .live, 0, .input⟩, ⟨8, 2, .rw, .live, 0, .span 0 2⟩, ⟨16, 1, .wo, .live, 0, .any⟩]⟩,
  ⟨0x0E, 1, [⟨0, 32, .rw, .live, 0, .any⟩]⟩,
  ⟨0x0F, 1, [⟨0, 4, .ro, .none, 0, .any⟩, ⟨4, 1, .ro, .none, 0, .any⟩, ⟨8, 2, .ro, .none, 0, .any⟩, ⟨16, 10, .ro, .none, 0, .any⟩]⟩,
  ⟨0x10, 1, [⟨0, 32, .ro, .none, 0, .any⟩]⟩,
  ⟨0x11, 1, [⟨0, 16, .ro, .none, 0, .any⟩, ⟨16, 16, .ro, .none, 0, .any⟩]⟩]

/-- SNAP page (13 R373). -/
def snapRegs : List RegDef := [
  ⟨0x08, 1, [⟨0, 32, .rw, .live, 0, .any⟩]⟩,
  ⟨0x09, 1, [⟨0, 1, .wo, .live, 0, .any⟩, ⟨4, 1, .rw, .live, 0, .any⟩, ⟨5, 1, .rw, .live, 0, .any⟩]⟩,
  ⟨0x0A, 1, [⟨0, 1, .ro, .none, 1, .any⟩, ⟨1, 2, .ro, .none, 0, .any⟩, ⟨3, 1, .ro, .none, 0, .any⟩]⟩,
  ⟨0x0B, 1, [⟨0, 32, .ro, .none, 0, .any⟩]⟩,
  ⟨0x0C, 1, [⟨0, 32, .ro, .none, 0, .any⟩]⟩,
  ⟨0x0D, 1, [⟨0, 32, .ro, .none, 0, .any⟩]⟩,
  ⟨0x0E, 1, [⟨0, 32, .ro, .none, 0, .any⟩]⟩,
  ⟨0x0F, 1, [⟨0, 16, .ro, .none, 0, .any⟩]⟩,
  ⟨0x10, 1, [⟨0, 16, .ro, .none, 0, .any⟩]⟩,
  ⟨0x11, 1, [⟨0, 16, .ro, .none, 0, .any⟩, ⟨16, 16, .ro, .none, 0, .any⟩]⟩,
  ⟨0x12, 1, [⟨0, 11, .rw, .live, 0, .span 0 1080⟩, ⟨15, 1, .rw, .live, 0, .any⟩]⟩,
  ⟨0x13, 8, [⟨0, 32, .ro, .none, 0, .any⟩]⟩,
  ⟨0x1B, 1, [⟨0, 32, .ro, .none, 0, .any⟩]⟩]

/-- STR page (14 R409). -/
def strRegs : List RegDef := [
  ⟨0x08, 1, [⟨0, 2, .ro, .none, 0, .any⟩, ⟨2, 1, .ro, .none, 0, .any⟩, ⟨3, 1, .ro, .none, 0, .any⟩, ⟨4, 1, .ro, .none, 0, .any⟩, ⟨5, 5, .ro, .none, 1, .any⟩, ⟨10, 5, .ro, .none, 1, .any⟩, ⟨15, 2, .ro, .none, 0, .any⟩, ⟨24, 8, .ro, .none, 0, .any⟩]⟩,
  ⟨0x09, 1, [⟨0, 1, .wo, .live, 0, .any⟩, ⟨1, 1, .rw, .live, 1, .any⟩, ⟨2, 1, .wo, .live, 0, .any⟩]⟩,
  ⟨0x0A, 1, [⟨0, 8, .rw, .live, 3, .span 1 255⟩]⟩,
  ⟨0x0B, 1, [⟨0, 14, .rw, .live, 100, .span 10 10000⟩]⟩,
  ⟨0x0C, 1, [⟨0, 3, .ro, .none, 0, .any⟩, ⟨3, 1, .ro, .none, 0, .any⟩, ⟨4, 3, .ro, .none, 0, .any⟩, ⟨8, 2, .ro, .none, 0, .any⟩, ⟨10, 2, .ro, .none, 0, .any⟩, ⟨12, 1, .ro, .none, 0, .any⟩, ⟨16, 16, .ro, .none, 0, .any⟩]⟩,
  ⟨0x0D, 1, [⟨0, 3, .ro, .none, 0, .any⟩, ⟨3, 1, .ro, .none, 0, .any⟩, ⟨4, 3, .ro, .none, 0, .any⟩, ⟨8, 2, .ro, .none, 0, .any⟩, ⟨10, 2, .ro, .none, 0, .any⟩, ⟨12, 1, .ro, .none, 0, .any⟩, ⟨16, 16, .ro, .none, 0, .any⟩]⟩,
  ⟨0x0E, 1, [⟨0, 16, .ro, .none, 0, .any⟩, ⟨16, 16, .ro, .none, 0, .any⟩]⟩,
  ⟨0x0F, 1, [⟨0, 16, .ro, .none, 0, .any⟩, ⟨16, 8, .ro, .none, 0, .any⟩, ⟨24, 8, .ro, .none, 0, .any⟩]⟩,
  ⟨0x10, 1, [⟨0, 16, .ro, .none, 0, .any⟩, ⟨16, 16, .ro, .none, 0, .any⟩]⟩,
  ⟨0x11, 1, [⟨0, 16, .ro, .none, 0, .any⟩, ⟨16, 8, .ro, .none, 0, .any⟩, ⟨24, 8, .ro, .none, 0, .any⟩]⟩,
  ⟨0x12, 1, [⟨0, 4, .ro, .none, 0, .any⟩, ⟨4, 4, .ro, .none, 0, .any⟩, ⟨8, 4, .ro, .none, 0, .any⟩, ⟨16, 4, .ro, .none, 8, .any⟩, ⟨20, 4, .ro, .none, 8, .any⟩, ⟨24, 4, .ro, .none, 8, .any⟩]⟩,
  ⟨0x13, 1, [⟨0, 16, .ro, .none, 0, .any⟩, ⟨16, 16, .ro, .none, 0, .any⟩]⟩,
  ⟨0x14, 1, [⟨0, 16, .ro, .none, 0, .any⟩]⟩,
  ⟨0x15, 1, [⟨0, 16, .ro, .none, 0, .any⟩, ⟨16, 16, .ro, .none, 0, .any⟩]⟩,
  ⟨0x16, 1, [⟨0, 16, .ro, .none, 0, .any⟩]⟩,
  ⟨0x17, 1, [⟨0, 16, .ro, .none, 0, .any⟩, ⟨16, 16, .ro, .none, 0, .any⟩]⟩,
  ⟨0x20, 16, [⟨0, 12, .ro, .none, 0, .any⟩, ⟨12, 2, .ro, .none, 0, .any⟩, ⟨14, 2, .ro, .none, 0, .any⟩, ⟨16, 16, .ro, .none, 0, .any⟩]⟩]

/-- TWB page (16 R447). -/
def twbRegs : List RegDef := [
  ⟨0x08, 1, [⟨0, 1, .rw, .live, 0, .any⟩, ⟨1, 1, .rw, .live, 0, .any⟩, ⟨8, 8, .rw, .live, 20, .any⟩]⟩,
  ⟨0x09, 1, [⟨0, 7, .ro, .none, 0, .any⟩, ⟨8, 1, .ro, .none, 1, .any⟩, ⟨9, 1, .ro, .none, 0, .any⟩, ⟨10, 1, .ro, .none, 0, .any⟩, ⟨11, 1, .ro, .none, 0, .any⟩, ⟨12, 1, .ro, .none, 0, .any⟩]⟩,
  ⟨0x0A, 1, [⟨0, 32, .ro, .none, 0, .any⟩]⟩,
  ⟨0x0B, 1, [⟨0, 32, .ro, .none, 0, .any⟩]⟩,
  ⟨0x0C, 1, [⟨0, 8, .ro, .none, 0, .any⟩, ⟨8, 8, .ro, .none, 0, .any⟩, ⟨16, 8, .ro, .none, 0, .any⟩, ⟨24, 8, .ro, .none, 0, .any⟩]⟩,
  ⟨0x0D, 1, [⟨0, 16, .ro, .none, 0, .any⟩, ⟨16, 16, .ro, .none, 0, .any⟩]⟩]

/-- IRQ page (17 R461). -/
def irqRegs : List RegDef := [
  ⟨0x08, 1, [⟨0, 3, .rw, .idle, 0, .span 0 6⟩]⟩,
  ⟨0x09, 1, [⟨0, 8, .rc, .none, 0, .any⟩, ⟨8, 1, .rc, .none, 0, .any⟩, ⟨16, 6, .rc, .none, 0, .any⟩, ⟨24, 4, .rc, .none, 0, .any⟩]⟩,
  ⟨0x0A, 1, [⟨0, 8, .wo, .live, 0, .any⟩]⟩,
  ⟨0x0B, 1, [⟨0, 8, .ro, .none, 0, .any⟩, ⟨8, 1, .ro, .none, 0, .any⟩, ⟨16, 6, .ro, .none, 0, .any⟩, ⟨24, 4, .ro, .none, 0, .any⟩]⟩,
  ⟨0x0C, 1, [⟨0, 32, .ro, .none, 0, .any⟩]⟩,
  ⟨0x0D, 1, [⟨0, 32, .ro, .none, 0, .any⟩]⟩,
  ⟨0x0E, 1, [⟨0, 4, .ro, .none, 0, .any⟩]⟩,
  ⟨0x0F, 1, [⟨0, 8, .rc, .none, 0, .any⟩, ⟨8, 1, .rc, .none, 0, .any⟩, ⟨16, 6, .rc, .none, 0, .any⟩, ⟨24, 4, .rc, .none, 0, .any⟩]⟩,
  ⟨0x10, 1, [⟨0, 8, .wo, .live, 0, .any⟩]⟩,
  ⟨0x11, 1, [⟨0, 8, .ro, .none, 0, .any⟩, ⟨8, 1, .ro, .none, 0, .any⟩, ⟨16, 6, .ro, .none, 0, .any⟩, ⟨24, 4, .ro, .none, 0, .any⟩]⟩,
  ⟨0x12, 1, [⟨0, 32, .ro, .none, 0, .any⟩]⟩,
  ⟨0x13, 1, [⟨0, 32, .ro, .none, 0, .any⟩]⟩,
  ⟨0x14, 1, [⟨0, 4, .ro, .none, 0, .any⟩]⟩,
  ⟨0x15, 1, [⟨0, 8, .wo, .live, 0, .span 192 255⟩]⟩,
  ⟨0x18, 1, [⟨0, 16, .ro, .none, 0, .any⟩, ⟨16, 8, .ro, .none, 0, .any⟩, ⟨24, 1, .ro, .none, 0, .any⟩]⟩,
  ⟨0x19, 1, [⟨0, 8, .ro, .none, 0, .any⟩, ⟨16, 16, .ro, .none, 0, .any⟩]⟩,
  ⟨0x1A, 1, [⟨0, 10, .rw, .live, 180, .any⟩, ⟨16, 4, .rw, .live, 5, .span 1 15⟩]⟩,
  ⟨0x20, 8, [⟨0, 32, .ro, .none, 0, .any⟩]⟩,
  ⟨0x28, 8, [⟨0, 32, .rw, .live, 0, .any⟩]⟩]

/-- IRQS0 page (17 R462); `.pg n` is IRQSn. -/
def irqsRegs : List RegDef := [
  ⟨0x08, 64, [⟨0, 6, .rw, .staged, 63, .any⟩, ⟨8, 1, .rw, .staged, 0, .any⟩, ⟨9, 1, .rw, .live, 0, .any⟩, ⟨16, 1, .w1c, .live, 0, .any⟩, ⟨17, 1, .ro, .none, 0, .any⟩]⟩]

/-- WDT page (18 R477). -/
def wdtRegs : List RegDef := [
  ⟨0x08, 1, [⟨0, 1, .rw, .idle, 1, .any⟩]⟩,
  ⟨0x09, 1, [⟨0, 16, .rw, .idle, 1000, .span 1 65535⟩, ⟨16, 16, .rw, .idle, 4000, .span 1 65535⟩]⟩,
  ⟨0x0A, 1, [⟨0, 16, .rw, .idle, 1, .span 1 65535⟩]⟩,
  ⟨0x0B, 1, [⟨0, 32, .wo, .live, 0, .any⟩]⟩,
  ⟨0x0C, 1, [⟨0, 4, .ro, .none, 1, .any⟩, ⟨4, 2, .ro, .none, 0, .any⟩, ⟨8, 3, .ro, .none, 0, .any⟩]⟩,
  ⟨0x0D, 1, [⟨0, 16, .ro, .none, 0, .any⟩, ⟨16, 16, .ro, .none, 0, .any⟩]⟩,
  ⟨0x0E, 1, [⟨0, 32, .ro, .none, 0, .any⟩]⟩,
  ⟨0x0F, 1, [⟨0, 16, .ro, .none, 0, .any⟩]⟩,
  ⟨0x10, 1, [⟨0, 16, .ro, .none, 0, .any⟩, ⟨16, 8, .ro, .none, 0, .any⟩, ⟨24, 8, .ro, .none, 0, .any⟩]⟩]

/-- RTC page (19 R492). -/
def rtcRegs : List RegDef := [
  ⟨0x08, 1, [⟨0, 6, .rw, .idle, 0, .span 0 59⟩, ⟨8, 6, .rw, .idle, 0, .span 0 59⟩, ⟨16, 5, .rw, .idle, 0, .span 0 23⟩, ⟨24, 3, .ro, .none, 6, .any⟩]⟩,
  ⟨0x09, 1, [⟨0, 5, .rw, .idle, 1, .span 1 31⟩, ⟨8, 4, .rw, .idle, 1, .span 1 12⟩, ⟨16, 7, .rw, .idle, 0, .span 0 99⟩]⟩,
  ⟨0x0A, 1, [⟨0, 15, .ro, .none, 0, .any⟩]⟩,
  ⟨0x0B, 1, [⟨0, 32, .ro, .none, 0, .any⟩]⟩,
  ⟨0x0C, 1, [⟨0, 1, .rw, .live, 0, .any⟩, ⟨1, 1, .rw, .live, 0, .any⟩]⟩,
  ⟨0x0D, 1, [⟨0, 1, .ro, .none, 1, .any⟩, ⟨1, 3, .ro, .none, 1, .any⟩, ⟨4, 1, .ro, .none, 0, .any⟩, ⟨5, 1, .ro, .none, 0, .any⟩, ⟨6, 1, .ro, .none, 0, .any⟩, ⟨7, 1, .ro, .none, 0, .any⟩, ⟨8, 1, .ro, .none, 0, .any⟩]⟩,
  ⟨0x0E, 1, [⟨0, 6, .rw, .staged, 0, .span 0 59⟩, ⟨8, 6, .rw, .staged, 0, .span 0 59⟩, ⟨16, 5, .rw, .staged, 0, .span 0 23⟩, ⟨24, 3, .rw, .staged, 1, .span 1 7⟩]⟩,
  ⟨0x0F, 1, [⟨0, 5, .rw, .staged, 1, .span 1 31⟩, ⟨16, 1, .rw, .staged, 1, .any⟩, ⟨17, 1, .rw, .staged, 1, .any⟩, ⟨18, 1, .rw, .staged, 1, .any⟩, ⟨19, 1, .rw, .staged, 1, .any⟩, ⟨20, 1, .rw, .staged, 1, .any⟩, ⟨24, 1, .rw, .staged, 0, .any⟩]⟩,
  ⟨0x10, 1, [⟨0, 6, .rw, .staged, 0, .span 0 59⟩, ⟨8, 6, .rw, .staged, 0, .span 0 59⟩, ⟨16, 5, .rw, .staged, 0, .span 0 23⟩, ⟨24, 3, .rw, .staged, 1, .span 1 7⟩]⟩,
  ⟨0x11, 1, [⟨0, 5, .rw, .staged, 1, .span 1 31⟩, ⟨16, 1, .rw, .staged, 1, .any⟩, ⟨17, 1, .rw, .staged, 1, .any⟩, ⟨18, 1, .rw, .staged, 1, .any⟩, ⟨19, 1, .rw, .staged, 1, .any⟩, ⟨20, 1, .rw, .staged, 1, .any⟩, ⟨24, 1, .rw, .staged, 0, .any⟩]⟩,
  ⟨0x12, 1, [⟨0, 19, .ro, .none, 0, .any⟩, ⟨20, 10, .ro, .none, 0, .any⟩]⟩,
  ⟨0x13, 1, [⟨0, 32, .ro, .none, 0, .any⟩]⟩]

/-- REC page (20 R515). -/
def recRegs : List RegDef := [
  ⟨0x08, 1, [⟨0, 14, .ro, .none, 0, .any⟩, ⟨16, 1, .ro, .none, 0, .any⟩, ⟨17, 1, .ro, .none, 0, .any⟩, ⟨18, 1, .ro, .none, 0, .any⟩, ⟨20, 7, .ro, .none, 0, .any⟩]⟩,
  ⟨0x09, 1, [⟨0, 32, .ro, .none, 0, .any⟩]⟩,
  ⟨0x0A, 1, [⟨0, 14, .ro, .none, 0, .any⟩, ⟨16, 16, .ro, .none, 0, .any⟩]⟩,
  ⟨0x0B, 1, [⟨0, 9, .ro, .none, 0, .any⟩]⟩,
  ⟨0x0C, 1, [⟨0, 16, .ro, .none, 0, .any⟩, ⟨16, 16, .ro, .none, 0, .any⟩]⟩,
  ⟨0x0D, 1, [⟨0, 16, .ro, .none, 0, .any⟩, ⟨16, 16, .ro, .none, 0, .any⟩]⟩,
  ⟨0x0E, 1, [⟨0, 14, .rw, .live, 8448, .any⟩]⟩,
  ⟨0x0F, 1, [⟨0, 1, .ro, .none, 0, .any⟩, ⟨1, 1, .ro, .none, 0, .any⟩]⟩,
  ⟨0x10, 16, [⟨0, 32, .ro, .none, 0, .any⟩]⟩,
  ⟨0x20, 1, [⟨0, 3, .rw, .live, 0, .any⟩]⟩,
  ⟨0x21, 1, [⟨0, 7, .rw, .staged, 0, .span 0 112⟩]⟩,
  ⟨0x30, 32, [⟨0, 16, .rw, .staged, 0, .any⟩, ⟨16, 3, .rw, .staged, 0, .any⟩, ⟨31, 1, .rw, .staged, 0, .any⟩]⟩,
  ⟨0x50, 56, [⟨0, 16, .rw, .staged, 0, .any⟩, ⟨16, 16, .rw, .staged, 0, .any⟩]⟩]

/-- KEY page (20 R516). -/
def keyRegs : List RegDef := [
  ⟨0x08, 1, [⟨0, 1, .wo, .live, 0, .any⟩, ⟨1, 1, .wo, .live, 0, .any⟩, ⟨2, 1, .wo, .live, 0, .any⟩, ⟨3, 1, .wo, .live, 0, .any⟩, ⟨4, 2, .rw, .live, 0, .span 0 1⟩, ⟨8, 8, .rw, .live, 0, .span 0 2⟩]⟩,
  ⟨0x09, 1, [⟨0, 4, .ro, .none, 0, .any⟩, ⟨4, 1, .ro, .none, 0, .any⟩, ⟨5, 1, .ro, .none, 0, .any⟩, ⟨6, 1, .ro, .none, 0, .any⟩, ⟨7, 1, .ro, .none, 0, .any⟩, ⟨8, 2, .ro, .none, 0, .any⟩, ⟨16, 4, .ro, .none, 0, .any⟩]⟩,
  ⟨0x0A, 4, [⟨0, 32, .ro, .none, 0, .any⟩]⟩,
  ⟨0x0E, 4, [⟨0, 32, .wo, .live, 0, .any⟩]⟩,
  ⟨0x12, 8, [⟨0, 32, .wo, .live, 0, .any⟩]⟩,
  ⟨0x1A, 1, [⟨0, 13, .ro, .none, 0, .any⟩]⟩,
  ⟨0x1B, 1, [⟨0, 16, .ro, .none, 0, .any⟩, ⟨16, 16, .ro, .none, 0, .any⟩]⟩]

/-- TST page (22 R534). -/
def tstRegs : List RegDef := [
  ⟨0x08, 1, [⟨0, 9, .ro, .none, 0, .any⟩, ⟨16, 1, .ro, .none, 0, .any⟩]⟩,
  ⟨0x09, 1, [⟨0, 11, .rw, .live, 0, .span 0 2000⟩]⟩,
  ⟨0x0A, 1, [⟨0, 8, .rw, .live, 0, .pktType⟩, ⟨8, 1, .rw, .live, 0, .any⟩, ⟨12, 2, .rw, .live, 0, .any⟩, ⟨16, 8, .rw, .live, 0, .any⟩]⟩,
  ⟨0x0B, 1, [⟨0, 2, .rw, .live, 0, .any⟩, ⟨16, 14, .rw, .live, 0, .span 0 10000⟩]⟩,
  ⟨0x0C, 1, [⟨0, 4, .rw, .live, 0, .any⟩, ⟨8, 8, .rw, .live, 0, .span 0 128⟩]⟩,
  ⟨0x0D, 1, [⟨0, 5, .rw, .staged, 0, .span 0 23⟩, ⟨7, 1, .rw, .staged, 0, .any⟩, ⟨8, 10, .rw, .staged, 1, .span 1 1000⟩, ⟨18, 14, .rw, .staged, 100, .span 2 10000⟩]⟩,
  ⟨0x0E, 1, [⟨0, 16, .wo, .live, 0, .signed (-4000) 4000⟩]⟩,
  ⟨0x0F, 1, [⟨0, 7, .rw, .live, 0, .span 0 100⟩]⟩,
  ⟨0x10, 1, [⟨0, 1, .rw, .live, 0, .any⟩, ⟨16, 12, .rw, .live, 0, .any⟩]⟩,
  ⟨0x11, 1, [⟨0, 2, .rw, .live, 1, .span 1 3⟩, ⟨4, 4, .rw, .live, 0, .any⟩]⟩,
  ⟨0x12, 1, [⟨0, 16, .ro, .none, 0, .any⟩]⟩]

end Sys2Proof.Machine
end

