-- ==== Sys2Proof/Machine/RegFile.lean ====
section
/-! DEFINITION. The register file as a sparse map: which registers a page has, what each holds at reset,
and reading and writing one word of the map.  The map is kept in one canonical form: indices strictly
rising, and no entry equal to the reset word of its index. -/

namespace Sys2Proof.Machine

/-- The two parts of 00 R1–R2. -/
inductive Part | pqh64 | pqh32
  deriving DecidableEq, Repr

/-! ## Sparse maps with rising keys -/

/-- The value listed for a key. -/
def mapFind {α : Type} : List (Nat × α) → Nat → Option α
  | [], _ => none
  | (i, v) :: m, k => if i = k then some v else mapFind m k

/-- The map with the key listed. -/
def mapPut {α : Type} : List (Nat × α) → Nat → α → List (Nat × α)
  | [], k, v => [(k, v)]
  | (i, u) :: m, k, v =>
    if i = k then (k, v) :: m else if k < i then (k, v) :: (i, u) :: m else (i, u) :: mapPut m k v

/-- The map with the key not listed. -/
def mapDel {α : Type} : List (Nat × α) → Nat → List (Nat × α)
  | [], _ => []
  | (i, u) :: m, k => if i = k then mapDel m k else (i, u) :: mapDel m k

/-- Keys rise strictly. -/
def keysRise {α : Type} : List (Nat × α) → Bool
  | [] => true
  | [_] => true
  | (i, _) :: (j, v) :: m => decide (i < j) && keysRise ((j, v) :: m)

/-! ## Pages (03 R78) -/

/-- Block types of 03 R78. -/
inductive PageKind
  | dev | clk | frm | irq | wdt | rtc | recd | seq | sup | adc | cal | twb | str | bud | feed | chg | lb | h
  | sec | gey | snap | tst | key | ch | irqs
  deriving DecidableEq, Repr

/-- The block behind a page number; `none` is an absent page (03 R78, 00 R1). (DESIGN CHOICE, log entry 54.) -/
def pageKind (p : Part) (page : Nat) : Option PageKind :=
  if 0x40 ≤ page then
    if page < 0x60 then some .ch else if page < 0x80 then (if p = .pqh64 then some .ch else none) else none
  else match page with
  | 0x00 => some .dev | 0x01 => some .clk | 0x02 => some .frm | 0x03 => some .irq
  | 0x04 => some .wdt | 0x05 => some .rtc | 0x06 => some .recd | 0x07 => some .seq
  | 0x08 => some .sup | 0x09 => some .adc | 0x0A => some .cal | 0x0B => some .twb
  | 0x0C => some .str | 0x0D => some .bud | 0x0E => some .feed | 0x0F => some .feed
  | 0x10 => some .chg | 0x11 => some .lb | 0x12 => some .h | 0x13 => some .h
  | 0x14 => some .h | 0x15 => some .h | 0x16 => some .sec | 0x17 => some .gey
  | 0x18 => some .snap | 0x1E => some .tst | 0x1F => some .key
  | 0x20 => some .irqs | 0x21 => some .irqs | 0x22 => some .irqs | 0x23 => some .irqs
  | _ => none

/-- The block type code, bits 31:24 of PG_ID (03 R78). -/
def PageKind.type : PageKind → Nat
  | .dev => 0x01 | .clk => 0x02 | .frm => 0x03 | .irq => 0x04 | .wdt => 0x05 | .rtc => 0x06 | .recd => 0x07
  | .seq => 0x08 | .sup => 0x09 | .adc => 0x0A | .cal => 0x0B | .twb => 0x0C | .str => 0x0D | .bud => 0x0E
  | .feed => 0x0F | .chg => 0x10 | .lb => 0x11 | .h => 0x12 | .sec => 0x13 | .gey => 0x14 | .snap => 0x15
  | .tst => 0x16 | .key => 0x17 | .ch => 0x18 | .irqs => 0x19

/-- PG_ID.INSTANCE (03 R78). -/
def pageInstance (page : Nat) : Nat :=
  if 0x40 ≤ page then page - 0x40 else if page = 0x0F then 1
  else if 0x12 ≤ page ∧ page ≤ 0x15 then page - 0x12
  else if 0x20 ≤ page ∧ page ≤ 0x23 then page - 0x20 else 0

/-- The registers above the common header. -/
def kindRegs : PageKind → List RegDef
  | .dev => devRegs | .clk => clkRegs | .frm => frmRegs | .irq => irqRegs | .wdt => wdtRegs | .rtc => rtcRegs
  | .recd => recRegs | .seq => seqRegs | .sup => supRegs | .adc => adcRegs | .cal => calRegs | .twb => twbRegs
  | .str => strRegs | .bud => budRegs | .feed => feedRegs | .chg => chgRegs | .lb => lbRegs | .h => hRegs
  | .sec => secRegs | .gey => geyRegs | .snap => snapRegs | .tst => tstRegs | .key => keyRegs | .ch => chRegs
  | .irqs => irqsRegs

/-- Blocks whose PG_CTL.EN reads 1 and ignores writes, and whose SRST is refused READ_ONLY: 02 R75, 03 R105,
12 R345, 13 R369, 14 R408, 16 R445, 17 R460, 18 R476, 19 R490, 20 R513, 22 R528 (SRST of TST is accepted). -/
def PageKind.enFixed : PageKind → Bool
  | .dev | .clk | .frm | .irq | .irqs | .wdt | .rtc | .recd | .key | .twb | .str | .adc | .cal | .snap
  | .seq | .tst => true
  | _ => false

/-- PG_CTL.EN at reset. -/
def PageKind.enReset (k : PageKind) : Nat :=
  if k.enFixed then 1 else match k with
  | .feed | .bud | .sup => 1
  | _ => 0

/-- The eight registers of the common header (03 R85). -/
def headerRegs (k : PageKind) : List RegDef := [
  ⟨0, 1, [⟨0, 32, .ro, .none, 0, .any⟩]⟩,
  ⟨1, 1, [⟨0, 1, .rw, .live, k.enReset, .any⟩, ⟨1, 1, .rw, .live, 0, .any⟩, ⟨2, 1, .wo, .live, 0, .any⟩,
          ⟨3, 1, .wo, .live, 0, .any⟩, ⟨24, 8, .wo, .live, 0, .any⟩]⟩,
  ⟨2, 1, [⟨0, 32, .ro, .none, 0, .any⟩]⟩,
  ⟨3, 1, [⟨0, 24, .w1c, .live, 0, .any⟩, ⟨29, 3, .w1c, .live, 0, .any⟩]⟩,
  ⟨4, 1, [⟨0, 31, .rw, .live, 0, .any⟩, ⟨31, 1, .ro, .none, 1, .any⟩]⟩,
  ⟨5, 1, [⟨0, 32, .wo, .staged, 0, .any⟩]⟩,
  ⟨6, 1, [⟨0, 1, .rwo, .live, 0, .any⟩, ⟨1, 1, .rwo, .live, 0, .any⟩, ⟨8, 8, .rwo, .live, 0, .any⟩]⟩,
  ⟨7, 1, [⟨0, 8, .rc, .none, 0, .any⟩, ⟨8, 8, .rc, .none, 0, .any⟩, ⟨16, 16, .rc, .none, 0, .any⟩]⟩]

/-- The register of a table that covers an offset. -/
def lookupReg : List RegDef → Nat → Option RegDef
  | [], _ => none
  | d :: ds, off => if d.off ≤ off ∧ off < d.off + d.span then some d else lookupReg ds off

/-- IRQS2 has no registers for the reserved sources 135–191 (17 R462). -/
def irqsHole (page off : Nat) : Bool := page = 0x22 && decide (0x0F ≤ off) && decide (off < 0x48)

/-- The register at an index; `none` where the page is absent or the offset unmapped (03 R79–R80). -/
def findReg (p : Part) (idx : Nat) : Option RegDef :=
  match pageKind p (idx / 256) with
  | none => none
  | some k =>
    if idx % 256 < 8 then lookupReg (headerRegs k) (idx % 256)
    else if irqsHole (idx / 256) (idx % 256) then none
    else lookupReg (kindRegs k) (idx % 256)

/-- The word the fields of a register make at reset. -/
def RegDef.resetNat (d : RegDef) : Nat := d.fields.foldl (fun a f => a + (f.rst % 2 ^ f.w) * 2 ^ f.lo) 0

/-- The factory boot profile: H1 5.0 V and H2 3.3 V, H3 and H4 off (04 R122); sequencer slots 0 and 1 with no
dependencies, slots 2–15 unused (12 R347). -/
def bootFactory (idx : Nat) : Option Nat :=
  match idx with
  | 0x1209 => some 500 | 0x1309 => some 330 | 0x1409 => some 0 | 0x1509 => some 0
  | 0x0710 => some (2 + 3 * 2 ^ 8 + 31 * 2 ^ 12 + 3 * 2 ^ 20 + 10 * 2 ^ 24)
  | 0x0711 => some (3 + 3 * 2 ^ 8 + 31 * 2 ^ 12 + 3 * 2 ^ 20 + 10 * 2 ^ 24)
  | 0x0720 => some (20 * 2 ^ 16) | 0x0721 => some 20
  | 0x0730 => some 20 | 0x0731 => some 20
  | 0x0740 => some (40 + 50 * 2 ^ 16) | 0x0741 => some (40 + 50 * 2 ^ 16)
  | _ => none

/-- The reset scan lists and their lengths (13 R351), two entries to a register. -/
def scanReset (p : Part) (idx : Nat) : Option Nat :=
  let two (a b : Nat) : Option Nat := some (a + b * 2 ^ 16)
  if idx < 0x090C ∨ 0x09C0 ≤ idx then none
  else if idx = 0x090C then some 32
  else if idx = 0x090D then some (if p = .pqh64 then 32 else 0)
  else if idx = 0x090E then some 20
  else if idx = 0x090F then some 16
  else if 0x0940 ≤ idx ∧ idx < 0x0950 then two (2 * (idx - 0x0940)) (2 * (idx - 0x0940) + 1)
  else if 0x0960 ≤ idx ∧ idx < 0x0970 then two (0x20 + 2 * (idx - 0x0960)) (0x20 + 2 * (idx - 0x0960) + 1)
  else if 0x0980 ≤ idx ∧ idx < 0x0988 then two 0x01C0 0x01C0
  else if 0x0988 ≤ idx ∧ idx < 0x098A then two 0x00C1 0x00C1
  else if 0x09A0 ≤ idx ∧ idx < 0x09A8 then two (0xD0 + 2 * (idx - 0x09A0)) (0xD0 + 2 * (idx - 0x09A0) + 1)
  else none

/-- Registers whose reset is fixed by the part rather than by a table number (03 R105); DEV_BOOT reads 0x100, VALID = 1
(DESIGN CHOICE, log entry 3). -/
def fixedReset (p : Part) (idx : Nat) : Option Nat :=
  match idx with
  | 0x0008 => some (if p = .pqh64 then 0xEC410064 else 0xEC410032)
  | 0x0009 => some (if p = .pqh64 then 0x03070F40 else 0x03070F20)
  | 0x000A => some 0xFFFFFFFF
  | 0x000B => some (if p = .pqh64 then 0xFFFFFFFF else 0)
  -- straps open, TRANSPORT# high; two-wire address 0x37 with ALERT# in use; a boot profile loaded without error
  | 0x0017 => some 0x1F
  | 0x0019 => some 0x100
  | 0x0B09 => some 0x137
  | _ => scanReset p idx

end Sys2Proof.Machine
end

