-- ==== Sys2Proof/Machine/State.lean ====
section
/-! DEFINITION. The state of one hub as plain data: the register file, and, block by block, the state the
spec gives the hub besides its registers.  `Hub` is everything but the queue of waiting commands and the
two structures only a few commands touch (the SPI output and the interrupt stacks). -/

namespace Sys2Proof.Machine

/-! ## Registers and page headers (chapter 03) -/

/-- Writes of a Live or Idle register that act at the next tick (03 R92): `val` under `mask`, and the W1C
bits to clear, and the port of the last writer. -/
structure PendW where
  mask : Word := 0
  val : Word := 0
  clr : Word := 0
  port : Port := .e
  deriving DecidableEq, Repr

/-- The staged values of a register: `val` under `mask` (03 R95). -/
structure Shadow where
  mask : Word := 0
  val : Word := 0
  deriving DecidableEq, Repr

/-- A fence cause a page holds (21 R518): its code, whether its clearing condition was met by an event, and
OPH bits 31:0 when it was set. -/
structure Cause where
  code : Nat
  cleared : Bool := false
  oph : Nat := 0
  deriving DecidableEq, Repr

/-- The VIEW bits of the two ports (03 R86): as they govern reads, and their values from the next tick. -/
structure PortViews where
  viewE : Bool := false
  viewW : Bool := false
  nextE : Bool := false
  nextW : Bool := false
  deriving DecidableEq, Repr

/-- What a page holds besides its registers (03 R85–R99): the shadow's owner, a commit awaiting its tick, the pending
PG_CTL actions and the fence causes. -/
structure PageHdr where
  dirty : Bool := false
  src : Port := .e
  commit : Bool := false
  failed : Bool := false
  rel : Bool := false
  srst : Option Port := none
  en : Option (Bool × Nat) := none
  causes : List Cause := []
  deriving DecidableEq, Repr

/-- A byte of the register file whose parity fails (03 R100): active or shadow. -/
structure BadByte where
  idx : Nat
  byte : Nat
  shadow : Bool
  deriving DecidableEq, Repr

/-- The answer of the last register access: the status of 03 R82 and the data read. -/
structure AccRes where
  status : Nat := 0
  data : Word := 0
  deriving DecidableEq, Repr

/-! ## Records (chapter 20) -/

/-- An event record waiting in the queue of 20 R497, with the fields of 20 R494. -/
structure Rec where
  code : Nat
  inst : Nat
  sev : Nat
  osf : Nat := 0
  seq : Nat := 0
  oph : Nat := 0
  pcc : Nat := 0
  frm : Nat := 0
  rtc : Nat := 0
  rep : Nat := 0
  lastOph : Nat := 0
  payload : Nat := 0
  set : Option Nat := none
  pairs : List (Nat × Nat × Word) := []
  snapFrm : Nat := 0
  done : Bool := false
  lost : Bool := false
  /-- Frames since the event, or since the snapshot reads (20 R497). -/
  age : Nat := 0
  deriving DecidableEq, Repr


/-! ## Frame, clocks and timebase (chapter 02) -/

/-- The clock block besides its registers: consecutive good gates of the five monitors (02 R59), the last
LREC count (02 R73), and symbol lock of the UP port. -/
structure Clocks where
  good : List Nat := [0, 0, 0, 0, 0]
  lrecCount : Nat := 0
  /-- The last count of a gate of CLKIN, and the length of that gate (09 R269). -/
  clkin : Nat × Nat := (0, 1)
  symLock : Bool := false
  deriving DecidableEq, Repr

/-- The frame block besides its registers (02 R47–R56, R71–R72). -/
structure Frame where
  /-- The next tick is the first since cold start: FRM_NO becomes 0 (R53). -/
  first : Bool := true
  /-- FRM_NO already holds the number of the frame that the next tick opens (R55, TICK ahead of the own tick). -/
  hold : Bool := false
  /-- The prescaler of OPH, and an increment that is due (R56). -/
  ophPre : Nat := 0
  ophDue : Bool := false
  /-- Phases of this frame still to run. -/
  p1Due : Bool := false
  p2Due : Bool := false
  /-- Work moved to step 1 of the next P0 by an overrun. -/
  defP1 : Bool := false
  defP2 : Bool := false
  /-- Phases that overran in this frame: bit 0 P1, bit 1 P2. -/
  ovr : Nat := 0
  stallDue : Bool := false
  /-- Consecutive frames without overrun (21 R517, cause 7). -/
  clean : Nat := 0
  /-- Lengths in core cycles of this frame and of the next. -/
  len : Nat := 40000
  nextLen : Nat := 40000
  /-- FRM_NO advances by 2 at the end of the frame whose length is `nextLen` (02 R71, last row). -/
  skipNext : Bool := false
  skipNow : Bool := false
  alignRun : Nat := 0
  /-- Consecutive TICKs received without a step (02 R72). -/
  quietTicks : Nat := 0
  tofsBad : Bool := false
  deriving DecidableEq, Repr


/-! ## Start-up, straps and modes (chapters 01 and 04) -/

/-- What power the logic has: `off` no powered domain, `ship` and `standby` only the always-on domain,
`booting` between power-on reset and the end of the cold start, `on` running. -/
inductive Power | off | ship | standby | booting | on
  deriving DecidableEq, Repr

/-- The strap samples of 01 R36, strap by strap (bit 0 ADDR0 … bit 3 HOSTSEL): the last sample, samples in a row that
agree with it, samples taken since power-on reset, straps accepted and their values. -/
structure Straps where
  last : BitVec 4 := 0
  run : List Nat := [0, 0, 0, 0]
  count : Nat := 0
  accepted : BitVec 4 := 0
  value : BitVec 4 := 15
  deriving DecidableEq, Repr

/-- A request that ranks sixth in 04 R109: a mode code, or the keyed SHIP entry. -/
inductive ModeReq | mode (code : Nat) | ship
  deriving DecidableEq, Repr

/-- A power-down on the way to a mode with the logic off (04 R128, R131). -/
inductive GoingDown | ship | standby
  deriving DecidableEq, Repr

/-- Start-up, wake and mode state that is not in a register. -/
structure Modes where
  power : Power := .on
  straps : Straps := {}
  /-- HOSTSEL retained by the always-on domain (01 R546). -/
  retained : Option Bool := none
  /-- WAKE# is pressed (debounced low), and has been seen high since the last long press (04 R135). -/
  wakeLow : Bool := false
  wakeArmed : Bool := true
  /-- Mode and feed at the press, latched for SYSTEM_RESET (04 R134, R136). -/
  pressMode : Nat := 3
  pressFeed : Bool := false
  resetCause : Nat := 1
  shipSrc : Nat := 0
  phantom : Bool := false
  phantomOnly : Bool := false
  /-- A cold start draws the phantom supply (01 R28, R546). -/
  phantomLoad : Bool := false
  rstLow : Bool := false
  rstPulse : Bool := false
  req : Option ModeReq := none
  /-- A low-power mode whose broadcast stands, with its cause (04 R129). -/
  decided : Option (Nat × Nat) := none
  /-- The string mode that comes into force at the next tick, with its cause: decided here or taken from TICK (04 R112). -/
  fromTick : Option (Nat × Nat) := none
  stringMode : Nat := 3
  /-- Mode left by HOLDUP, string mode at its entry, and a SAFE action during it (04 R119). -/
  heldMode : Nat := 3
  heldString : Nat := 3
  safeSeen : Bool := false
  /-- Conditions that change the mode at the next tick (04 R109). -/
  holdupDue : Bool := false
  handback : Bool := false
  phantomDue : Bool := false
  phantomEnd : Bool := false
  holdmaxDue : Bool := false
  cutoffDue : Bool := false
  stringLost : Bool := false
  loseCount : Nat := 0
  /-- Consecutive counted frames without any valid TICK (04 R114), and a hub lost that way: it takes the string mode from
  the next valid TICK. -/
  silentRun : Nat := 0
  retake : Bool := false
  loseArmed : Bool := false
  /-- Frames since the last host traffic (04 R127), up to the largest IDLE_T. -/
  idleRun : Nat := 0
  idleExpired : Bool := false
  napRun : Nat := 0
  stbyRun : Nat := 0
  waking : Bool := false
  goingDown : Option GoingDown := none
  downFrames : Nat := 0
  shipCommit : Bool := false
  serviceByPhantom : Bool := false
  /-- The boot profile read at the last cold start: Boot registers and their words (04 R122). -/
  profile : List (Nat × Word) := []
  deriving DecidableEq, Repr


/-! ## Recorder, keys and authorisation (chapter 20) -/

/-- A snapshot set (20 R501): its length and the words of its index registers that are not 0. -/
structure SnapSet where
  len : Nat := 0
  words : List (Nat × Word) := []
  deriving DecidableEq, Repr

/-- A clear of the recorder in progress (20 R511): the key slot, the SEQ marked, whether it resumes after a power
loss, ring and FATAL records freed; its CLEARED record stands at the front of the queue. -/
structure Clearing where
  slot : Nat
  mark : Nat
  resumed : Bool := false
  ring : Nat := 0
  fatal : Nat := 0
  deriving DecidableEq, Repr

/-- The recorder besides its registers (20 R493–R504). -/
structure Recorder where
  /-- Records queued in SRAM, oldest first (20 R497). -/
  queue : List Rec := []
  /-- Slots of the protected region and the ring that hold something: sixteen words each. -/
  store : List (Nat × List Word) := []
  /-- The newest committed record. -/
  newest : Option Rec := none
  lostCount : Nat := 0
  fatalFullSaid : Bool := false
  /-- The eight snapshot sets of REC_SETLEN and REC_SETIDXi (20 R501). -/
  sets : List SnapSet := [{}, {}, {}, {}, {}, {}, {}, {}]
  /-- REC_SETSEL at the first staged write of the page (20 R513). -/
  selAtStage : Option Nat := none
  /-- A CLEAR of this key slot succeeded at this frame's tick, or is due since the last tick (20 R511). -/
  clearNext : Option Nat := none
  clearDue : Option Nat := none
  clearing : Option Clearing := none
  /-- Slots whose uncorrectable error has been recorded, and the words that read 0 (20 R504). -/
  uncorrSaid : List Nat := []
  badWords : List (Nat × Nat) := []
  /-- What the window of the selected slot shows since the last tick: its words, and whether one of them failed (20
  R503, R512). -/
  window : List Word := []
  winBad : Bool := false
  deriving DecidableEq, Repr

/-- An AUTH that awaits its judgement (20 R508). -/
structure Judge where
  slot : Nat
  op : Nat
  port : Port
  ok : Bool
  deriving DecidableEq, Repr

/-- Keys, challenge, session and lockout (20 R505–R510): whether port W began the clear that is due, the two key slots,
thirty-two bytes each once provisioned, the key on its way into a slot, whether a challenge has been drawn since cold
start and how many ever, its age, an AUTH awaiting judgement, the frames since the last failure, the session's age and
whether SERVICE was entered, whether a session has ended since the last tick, and slots being provisioned. -/
structure Keys where
  clearW : Bool := false
  slots : List (Option (List Nat)) := [none, none]
  loaded : List (List Nat) := [[], []]
  chalShown : Bool := false
  draws : Nat := 0
  chalAge : Nat := 0
  judge : Option Judge := none
  sinceFail : Option Nat := none
  sessAge : Nat := 0
  sessService : Bool := false
  sessOver : Bool := false
  progBusy : List (Nat × Port) := []
  deriving DecidableEq, Repr


/-! ## Channels, section engine and GEYSER capture (chapters 05–07) -/

/-- A schedule entry in a lane: the two words of 06 R186, and whether its parity fails. -/
structure Entry where
  w0 : Word
  w1 : Word
  bad : Bool := false
  deriving DecidableEq, Repr

/-- What an armed edge does (06 R198); `starve` is the OFF of 06 R200, `release` the budget's release of an ON
held off at a tick (10 R286). -/
inductive ArmKind | off | on | duty (d : Nat) | mark | starve | release
  deriving DecidableEq, Repr

/-- An edge armed for an instant of a frame (06 R193). -/
structure Armed where
  frm : Nat
  cyc : Nat
  kind : ArmKind
  tag : Nat
  cls : Nat
  late : Bool := false
  /-- Key type and r of the entry, as a LATE record shows them (06 R207). -/
  key : Nat := 0
  r : Nat := 0
  deriving DecidableEq, Repr

/-- One channel besides its registers (chapters 05 and 06). -/
structure Chan where
  qFrac : Nat := 0
  eFrac : Nat := 0
  i2t : Nat := 0
  /-- Ticks in the present state, with OPEN set, and since a trip or a state that ends the count of R163
  (05 R158–R163). -/
  stRun : Nat := 0
  openRun : Nat := 0
  quiet : Nat := 0
  /-- The limit timer: cycles it has run, and the engine cycle since which it runs again (05 R154). -/
  limAcc : Nat := 0
  limSince : Option Int := none
  otArmed : Bool := true
  /-- The command and duty at the last tick before a safe-state cause (05 R143). -/
  prevCmd : Bool := false
  prevDuty : Nat := 0
  holdCmd : Bool := false
  holdDuty : Nat := 0
  /-- The causes that freeze them and stood when the output last settled: a fence of the page or of CLK, HOLDUP, a fence of
  SEC. -/
  safeWas : List Bool := [false, false, false]
  /-- Output of the drive mode: the on-phase of the PWM grid in progress and its end (05 R146–R150). -/
  onPhase : Bool := false
  pStart : Int := 0
  onEnd : Int := 0
  /-- The output follows the grid (05 R145, R153). -/
  gridOn : Bool := false
  nextDuty : Option Nat := none
  dutyInUse : Nat := 0
  /-- The value of CH_PWM.DUTY in force, and one that comes into force at a period start (05 R150, profile 2). -/
  dutyUse : Nat := 0
  dutyNext : Option (Nat × Int) := none
  /-- Frame-long observation for CH_PRV.ION (06 R204). -/
  onAll : Bool := false
  /-- The hit phase and the engine cycle at which it began; CH_MODE and CH_PWM.DUTY as last looked at (05 R152, 07 R216). -/
  hit : Bool := false
  hitStart : Int := 0
  modeSeen : Nat := 0
  dutySeen : Nat := 0
  /-- A latched channel has been released since the last tick (10 R286). -/
  freed : Bool := false
  /-- CH_FORCE and the hub's mode as the last tick found them (10 R286). -/
  forceSeen : Nat := 0
  hubSeen : Nat := 3
  /-- The low side is closed: slow decay (05 R140). -/
  lsClosed : Bool := false
  /-- An ON held off at a tick until the budget releases it (10 R286). -/
  tickDefer : Option Nat := none
  fldCls : Option Nat := none
  lane : List Entry := []
  laneHead : Nat := 0
  tailD : Option Nat := none
  tailT : Option Nat := none
  armed : List Armed := []
  hist : List Int := [0, 0, 0, 0, 0, 0, 0, 0]
  dLast : Int := 0
  vNow : Int := 0
  starve : Nat := 0
  cntLost : List Nat := []
  everyOn : Nat := 0
  everyOff : Nat := 0
  /-- Frames the high side has been open, and a zero refresh in progress (13 R360). -/
  offRun : Nat := 0
  refreshing : Bool := false
  deriving DecidableEq, Repr

/-- Reference travel of one frame: increment and curvature of the TICK that carried them (06 R179, R183). -/
structure Travel where
  frm : Nat
  dref : Int
  kappa : Int
  deriving DecidableEq, Repr

/-- A preview handed to LB (06 R204): the frame and cycle of the instant, the channel and I_step in mA. -/
structure Preview where
  frm : Nat
  cyc : Nat
  ch : Nat
  step : Int
  deriving DecidableEq, Repr

/-- The section engine besides its registers (chapter 06). The accepted levels of TRV_A and TRV_B start high (R177; PRESUMED,
log entry 86). -/
structure Section where
  trvA : Bool := true
  trvB : Bool := true
  count : Int := 0
  zeroRun : Nat := 0
  rem : Int := 0
  speedAge : Nat := 0
  srcOld : Nat := 0
  /-- κ of the previous frame (06 R180); the last TICK's frame and κ. -/
  kappaPrev : Int := 0
  kapFrm : Nat := 0
  kapLast : Int := 0
  kappaNow : Int := 0
  drefNow : Int := 0
  haveTravel : Bool := false
  /-- Frame whose travel the next P1 needs, and travel received and not yet applied (06 R183). -/
  needFrm : Nat := 0
  queue : List Travel := []
  gapFirst : Nat := 0
  /-- The lead's last 64 frames (06 R183). -/
  last64 : List Travel := []
  app0E : Word := 0
  app0W : Word := 0
  appresE : Word := 0
  appresW : Word := 0
  /-- Previews whose instants are to come, earliest first (06 R204). -/
  previews : List Preview := []
  zeroDue : Bool := false
  deriving DecidableEq, Repr

/-- Detector of 07 R217: seeking the maximum, seeking the minimum, cusp found, or window closed. -/
inductive Detect | seekMax | seekMin | found (k : Nat) | closed
  deriving DecidableEq, Repr

/-- A GEYSER engine besides its registers (07 R211–R217). -/
structure Engine where
  samples : List Int := []
  badSamples : List Nat := []
  det : Detect := .seekMax
  pk : Int := 0
  vm : Int := 0
  kv : Nat := 0
  after : Nat := 0
  vM : Int := 0
  tM : Int := 0
  deriving DecidableEq, Repr

/-- A finished capture that awaits learning in P3 (07 R220). -/
structure Meas where
  ch : Nat
  dir : Nat
  m : Nat
  vM : Int
  tM : Int
  frm : Nat
  cyc : Nat
  deriving DecidableEq, Repr


/-! ## Feeds (chapter 08) -/

/-- One feed besides its page: the energy remainder (08 R244), consecutive frames above ILIM (R240), ticks in the present
state, in QUALIFY since the voltage last entered the window (R235, R237, R241), INB as the ramp of a precharge has raised it
(R236) and the voltage at which the feed went ON (R231), both in 10 mV. -/
structure Feed where
  eFrac : Nat := 0
  fuseRun : Nat := 0
  run : Nat := 0
  ramp : Nat := 0
  onV : Nat := 0
  deriving DecidableEq, Repr

/-- Sharing of the two feeds (08 R246–R249): frames within tolerance of RATIO; feed B carries the load although MODE is
PRIMARY; frames feed A has stood above the return level; the frame-average currents of the frame ended, in mA, and
whether 1.0 V of added drop was not enough in it; the share aimed at, in percent, and the frames it has been on its way
to RATIO; the added drop in mV, positive on feed A, negative on feed B; the feed that RATIO 0 or 100 holds off. -/
structure Sharing where
  tolRun : Nat := 0
  bCarries : Bool := false
  returnRun : Nat := 0
  ia : Int := 0
  ib : Int := 0
  lim : Bool := false
  setp : Nat := 50
  moveRun : Nat := 0
  drop : Int := 0
  idle : Option FeedId := none
  deriving DecidableEq, Repr


/-! ## Converters (chapter 09) -/

/-- One converter besides its page: ticks in the present state (09 R260) and in limitation (R262), whether its output stood
above ref at the last update, so that it does not switch (R255), whether its vent sink is closed, whether the sequencer
drives the sink (R259), the goal it held before a stop (R271), whether it stops with its leader, and whether its EN drops at
the next tick (R271). -/
structure Conv where
  run : Nat := 0
  limRun : Nat := 0
  idle : Bool := false
  /-- The TARGET last looked at (R256). -/
  seen : Nat := 0
  vent : Bool := false
  /-- The sink is closed to help a downward slew (R258). -/
  assist : Bool := false
  /-- The sequencer holds the sink closed, or holds it open (12 R334–R335). -/
  seqVent : Bool := false
  noVent : Bool := false
  stopGoal : Nat := 0
  trackStop : Bool := false
  enDrop : Bool := false
  /-- Tracking has ended with the leader's update of this instant, which was this converter's own too (R271). -/
  stepped : Bool := false
  deriving DecidableEq, Repr

/-- The load bus besides its page: the energy remainder of LB_E_IN in µJ, consecutive frames below SHED and a
return to four phases that is due (09 R265), frames since each phase's offset was measured, ticks with two phases, ticks
for which CLKIN has been fit to time LB (R270), the switching period in core cycles (R269), the hand-back's CAL in progress
(R268). -/
structure LoadBus where
  eFrac : Nat := 0
  shedRun : Nat := 0
  unshedDue : Bool := false
  phAge : List Nat := [0, 0, 0, 0]
  twoRun : Nat := 0
  clkRun : Nat := 0
  period : Nat := 1000
  hbCal : Bool := false
  deriving DecidableEq, Repr


/-! ## Power budget (chapter 10) -/

/-- The report a hub sends of itself, and what the lead holds of each position (10 R280–R282). -/
structure Report where
  d : Nat := 0
  m : Nat := 0
  c : Nat := 0
  weight : Nat := 0
  holdup : Bool := false
  live : Bool := false
  fresh : Bool := false
  deriving DecidableEq, Repr

/-- An edge the budget has deferred (10 R286): channel, frame and cycle of its original instant, and the
armed entry it came from (`none` for a change that acts at a tick). -/
structure DefEdge where
  ch : Nat
  frm : Nat
  cyc : Nat
  edge : Option Armed
  deriving DecidableEq, Repr

/-- The budget besides its registers. -/
structure Budget where
  /-- Boxcar windows, newest first: CH_E increments per channel (µJ), feed power (mW), LB input and output energy (µJ), and
  the powers (mW) of the charger, of its request, of the battery and of the bypass, frame by frame. -/
  eCh : List (List Nat) := []
  eFeed : List Int := []
  eLbIn : List Nat := []
  eLbOut : List Nat := []
  eChg : List Nat := []
  eReq : List Nat := []
  eBat : List Nat := []
  eByp : List Nat := []
  deferred : List DefEdge := []
  /-- The scales as P2 leaves them, and those that the present frame's duties use (R285). -/
  sB : Nat := 1024
  sC : Nat := 1024
  sBNow : Nat := 1024
  sCNow : Nat := 1024
  gChg : Nat := 0
  notShort : Nat := 0
  notStrShort : Nat := 0
  capB : Bool := false
  /-- A P2 has computed 4,095 W since DERATE was set (17 R458). -/
  derateArmed : Bool := true
  /-- This hub's own report of the last P2 and of the one before (R280). -/
  own : Report := {}
  ownPrev : Report := {}
  reports : List Report := []
  alloc : List Nat := []
  tickA : Option Nat := none
  lastA : Nat := 0
  heldSaid : Bool := false
  /-- A poll reply has been sent since cold start, and a TICK has followed it (R283). -/
  replied : Bool := false
  polled : Bool := false
  /-- The string has been lost and no valid TICK has come since (R283). -/
  loss : Bool := false
  /-- The hub uses a = M after a hand-back, and a poll reply without the HOLDUP flag has gone out since (R291). -/
  afterHoldup : Bool := false
  hbReplied : Bool := false
  deriving DecidableEq, Repr


/-! ## Charger and hold-up (chapter 11) -/

/-- The charger and the hold-up control besides page CHG. -/
structure Charger where
  /-- A commit of the page has been applied since cold start (11 R299). -/
  committed : Bool := false
  /-- Frames of the running timer second, and those of them that count as full (R307). -/
  secFrames : Nat := 0
  full : Nat := 0
  /-- Frames of CV below ITERM with no limiter acting (R301). -/
  taper : Nat := 0
  /-- Frames since the last recharge check, or check of the contacts in NOBAT (R298, R305). -/
  sinceCheck : Nat := 0
  /-- A presence test is due (R305). -/
  presTest : Bool := false
  /-- Charge remainders of CHG_QIN and CHG_QOUT, in mA × 100 µs. -/
  qinFrac : Nat := 0
  qoutFrac : Nat := 0
  /-- The trigger that fired: its number, the mode left, INB in 100 mV, VSYS in 10 mV (R311, R322). -/
  trig : Option (Nat × Nat × Nat × Nat) := none
  /-- No re-arm until a feed next reaches ON or a hand-back completes (R311). -/
  needRise : Bool := false
  bypTripped : Bool := false
  /-- Frames since the HOLDUP tick or the last abort (R316). -/
  dwell : Nat := 0
  /-- Hand-back starts at the next tick; it has started and waits for its bypass (R317). -/
  hbDue : Bool := false
  /-- Frames since the last completed hand-back, saturating; frames outside HOLDUP (R316). -/
  sinceHb : Option Nat := none
  outside : Nat := 0
  /-- The charger's present limiters as its power stage reports them: INPUT, THERMAL, SYSTEM (R304). -/
  lims : BitVec 3 := 0
  /-- The charge current held, in mA: the lowest of the setpoint and the limits that act (R304). -/
  iGoal : Nat := 0
  /-- The VSYS target of the charger's power stage, in mV, while it holds VSYS (R296–R297, R305). -/
  hold : Option Nat := none
  /-- Means of the last frame for the budget, in mW (R306). -/
  pChg : Nat := 0
  pReq : Nat := 0
  deriving DecidableEq, Repr


/-! ## Sequencer and supervisors (chapter 12) -/

/-- The sequencer besides its page: a sequence that starts at the next tick, up or down, with its trigger (12 R327);
built-in sources for every slot (R325); slots tested in the running up sequence; slots whose failure (R331) or collapse
(R336) acts at the next tick and slots that have collapsed; consecutive frames inside and the ticks since the last
switch-off per slot; the start tick of the running sequence is still to come; supervisors whose ACTION is due (R343);
the chatter of 22 R530. -/
structure Sequencer where
  start : Option (Bool × Nat) := none
  builtin : Bool := false
  handled : List Nat := []
  failDue : List Nat := []
  collapseDue : List Nat := []
  collapsed : List Nat := []
  qual : List Nat := []
  offRun : List Nat := []
  fresh : Bool := false
  /-- A slot has timed out venting in this sequence (R337). -/
  vtSeen : Bool := false
  /-- Supervisors whose raw state is inside (R341), as a mask. -/
  rawIn : Nat := 0
  supDue : List Nat := []
  chatForced : Bool := false
  deriving DecidableEq, Repr



/-! ## Converters, correction and snapshots (chapter 13) -/

/-- A record of the correction table (13 R356). -/
structure CalRec where
  ofs : Int := 0
  gain : Nat := 32768
  tc : Int := 0
  tcal : Int := 0
  tlo : Int := 0
  thi : Int := 0
  src : Nat := 0
  deriving DecidableEq, Repr

/-- A host request of one port (13 R354): the register word in force, a write that acts at the next tick with its
GO, a W1C of DONE that acts then, the word of the request in progress, the result register, and whether the frame of its
CYC has ended. -/
structure HostReq where
  req : Word := 0
  run : Word := 0
  next : Option Word := none
  clr : Bool := false
  res : Word := 0
  late : Bool := false
  deriving DecidableEq, Repr

/-- A field calibration between its GO and its outcome (13 R361): input code, the channel whose turn it is where the input
is one of the rotations, KIND, the sixteen codes, and whether it has started (BUSY). -/
structure FieldCal where
  input : Nat
  rot : Nat := 0
  kind : Nat
  codes : List Nat
  started : Bool := false
  port : Port := .e
  deriving DecidableEq, Repr

/-- What a finished write of the non-volatile store brings (13 R361–R362, 20 R505): a field calibration with its
index, record, old and new value and KIND; a committed record; a key slot; a write that brings nothing more, of the system
area, of the store's header or of a calibration that has failed (16 R437).  All but the third carry the port that began them. -/
inductive NvJob
  | field (idx : Nat) (r : CalRec) (old new kind : Nat) (port : Port)
  | commit (idx : Nat) (r : CalRec) (port : Port)
  | key (slot : Nat)
  | other (port : Port)
  deriving DecidableEq, Repr

/-- A snapshot being written into a bank: the bank and its words (13 R365). -/
structure SnapWrite where
  bank : Nat
  words : List (Nat × Word)
  deriving DecidableEq, Repr

/-- The measurement system besides its registers. -/
structure Measure where
  /-- Ticks since cold start, for ages in seconds. -/
  ticks : Nat := 0
  /-- Correction records: in SRAM where they differ from the store; in the store where they differ from the
  factory's; records that count as nominal; records whose reload is due in P3, and
  whether the store can give them (R356, R368). -/
  ram : List (Nat × CalRec) := []
  nv : List (Nat × CalRec) := []
  nominal : List Nat := []
  reloadDue : List (Nat × Bool) := []
  /-- A record that applies from the next tick (R361). -/
  apply : List (Nat × CalRec) := []
  /-- Accepted zero refreshes: key 2n high side, 2n + 1 load; offset and tick (R360). -/
  zero : List (Nat × Int × Nat) := []
  rejSaid : List Nat := []
  fcal : Option FieldCal := none
  /-- `CAL_SEL` at the first staged write of the page (R369). -/
  selAtStage : Option Nat := none
  nvq : List NvJob := []
  /-- Frames that the oldest of them has been with the store (22 R530). -/
  nvAge : Nat := 0
  hostE : HostReq := {}
  hostW : HostReq := {}
  /-- Converters on which a class H request has run since their last scan entry (R354). -/
  hRan : List Nat := []
  /-- HEAD_LATE has been said in this frame (R352), and the head's results of the frame before. -/
  headSaid : Bool := false
  headWas : List Nat := []
  /-- The cycle of this frame until which each converter serves class F conversions (R353). -/
  fUntil : List Nat := [0, 0, 0, 0]
  /-- Converters in a SCAN_OVERLOAD episode, with clean frames since (R352). -/
  overload : List (Nat × Nat) := []
  thermArmed : Bool := true
  /-- Pending snapshot requests: frame, source, frame of arrival (R364, R370). -/
  snapPend : List (Nat × Nat × Nat) := []
  bank0 : List (Nat × Word) := []
  bank1 : List (Nat × Word) := []
  writing : Option SnapWrite := none
  bankBad : List (Nat × Nat) := []
  deriving DecidableEq, Repr



/-! ## String link (chapter 14) -/

/-- One link port besides its registers (14 R376, R398): a valid NEG has come from the partner, the partner has
acknowledged this hub's, the ticks since the port entered its state, or since the partner's last NEG, the symbol errors
of this frame, and the ticks for which the port is still silent. -/
structure LinkSide where
  heard : Bool := false
  acked : Bool := false
  run : Nat := 0
  symRun : Nat := 0
  silent : Nat := 0
  deriving DecidableEq, Repr

/-- An enumeration on the lead (14 R403–R404): its trigger (0 election, 1 REENUM, 2 join), the position worked on, the
step of the frame table (0 RESET, 1 ASSIGN, 2–9 PROBE, 10 SET, 11 PLLREF), ASSIGNs unanswered in a row, whether the
present ASSIGN or SET was answered, the version its ACK carried, the round trips, repeats and the new epoch. -/
structure EnumRun where
  trigger : Nat
  pos : Nat
  step : Nat
  unanswered : Nat := 0
  answered : Bool := false
  hver : Nat := 0
  rtts : List Nat := []
  repeats : Nat := 0
  epoch : Nat
  deriving DecidableEq, Repr

/-- What the lead holds of a position's last reply besides its budget report (14 R384): NAP and STANDBY rule, SERVICE,
first missing frame while GAP, DNNEW, and whether this frame's slot has been settled, by a reply or as missed. -/
structure PosRep where
  nap : Bool := false
  stby : Bool := false
  service : Bool := false
  gap : Option Nat := none
  dnnew : Bool := false
  got : Bool := false
  deriving DecidableEq, Repr

/-- A request or a SNAP that waits at the DN port, and for how many frames it has waited for a credit (14 R395, R397). -/
structure FwdReq where
  pkt : Packet
  waited : Nat := 0
  deriving DecidableEq, Repr

/-- An SRD being served (15 R424): its header, source, next word, words left, next PART and SHORT. -/
structure Stream where
  hdr : Hdr
  source : Nat
  next : Nat
  left : Nat
  part : Nat := 0
  short : Bool := false
  deriving DecidableEq, Repr

/-- Space the SPI queue keeps for the responses of a forwarded request: its DEST, SEQ, TAG and bytes (15 R429). -/
structure Reserve where
  dest : Nat
  seq : Nat
  tag : Nat
  bytes : Nat
  deriving DecidableEq, Repr

/-- The string link and the command packets besides page STR. -/
structure Link where
  up : LinkSide := {}
  dn : LinkSide := {}
  enum : Option EnumRun := none
  /-- The trigger of an enumeration that starts at the next tick, and a join that waits for the release of the page or the
  end of an enumeration (R405, R408). -/
  enumDue : Option Nat := none
  joinWait : Bool := false
  reps : List PosRep := []
  /-- A position taken tentatively, and the frames since (R404). -/
  tentative : Option (Nat × Nat) := none
  /-- The last valid TICK's frame, a valid TICK in this frame, and consecutive ones with LIVE above the position. -/
  lastTick : Nat := 0
  tickGot : Bool := false
  /-- The valid TICK of the frame that begins at the next tick has already come (02 R71, A < 0). -/
  tickEarly : Bool := false
  /-- TICK_MISSING has been counted in this frame. -/
  tickMissed : Bool := false
  goodTicks : Nat := 0
  /-- Frames since a wake while the loss counts wait (R392). -/
  startWait : Option Nat := none
  /-- LIVE of the last valid TICK was at or below the position (R391). -/
  liveLost : Bool := false
  /-- Requests addressed to this hub that wait to execute, in order of arrival (15 R411). -/
  inbox : List Packet := []
  fwd : List FwdReq := []
  /-- CRED SYNC has been sent for the waiting head, and one waits for its window (R388, R397). -/
  syncing : Bool := false
  syncDue : Bool := false
  /-- Cycles of this frame at which the UP output and the DN output are free again (R387–R388). -/
  upFree : Nat := 0
  dnFree : Nat := 0
  streams : List Stream := []
  /-- Packets that wait for the upstream bulk window (R387): responses and CRED answers. -/
  bulk : List Packet := []
  /-- Credits freed and not yet returned, REG, TBL, BULK (R394). -/
  owed : List Nat := [0, 0, 0]
  /-- SEQ of the last request addressed to this hub, and this hub's own counters by destination (R380). -/
  lastSeq : Option Nat := none
  seqs : List (Nat × Nat) := []
  /-- The poll reply as latched at the end of P2, and the one that goes out in this frame (R384). -/
  pollLatch : List Word := []
  pollSend : List Word := []
  /-- The cycle at which this frame's reply started (R385). -/
  pollAt : Option Nat := none
  /-- Packets whose sending began in this frame, oldest first. -/
  sentUp : List Packet := []
  sentDn : List Packet := []
  /-- The fields of the IRQ packet as the last tick left them, and the frames since a packet (15 R425). -/
  irqSent : Option (Word × Word) := none
  irqAge : Nat := 0
  /-- A wake sequence sent on UP and DN in this frame (R406). -/
  wakeUp : Bool := false
  wakeDn : Bool := false
  reserves : List Reserve := []
  deriving DecidableEq, Repr



/-! ## Two-wire port (chapter 16) -/

/-- The two-wire port besides page TWB: the page of an open COMMIT window (16 R437); what attention there is: the vector
last marked seen, TMO and PECERR, a timeout or PEC error not yet seen, frames since the last ATTN read with the reminder
it runs to; an alert response won since ALERT# was asserted; an in-band pulse made for the present attention; frames of
the quiet period (16 R438); the bytes of the last answer. -/
structure TwoWire where
  commit : Option Nat := none
  seen : Option Nat := none
  tmo : Bool := false
  pecerr : Bool := false
  fresh : Bool := false
  sinceAttn : Nat := 0
  reminded : Bool := false
  araWon : Bool := false
  pulsed : Bool := false
  /-- The last pulse: the vector presented then, and whether a controller has cut in on it. -/
  pulseVec : Option (Option Nat) := none
  collided : Bool := false
  quiet : Nat := 0
  out : List Nat := []
  deriving DecidableEq, Repr


/-! ## Watchdog (chapter 18) -/

/-- The watchdog besides its page: lengths and tasks of the period in progress (18 R472), what this frame has brought,
the cause of a second consecutive failure whose SAFE action is due (R469), and the frames that the RST_OUT# pulse has
lasted. -/
structure Watchdog where
  closed : Nat := 0
  open_ : Nat := 0
  tasks : Nat := 0
  success : Bool := false
  failed : Bool := false
  safeDue : Option Nat := none
  rstRun : Nat := 0
  deriving DecidableEq, Repr


/-! ## Real-time clock (chapter 19) -/

/-- What a read of RTC_TIME captured for a port (19 R479): date, subsecond and epoch, and the frame. -/
structure RtcCap where
  date : Word
  sub : Word
  epoch : Word
  frm : Nat
  deriving DecidableEq, Repr

/-- The clock besides its page (19 R478–R488): the cycles of the second, the frames since its start (a large number where no
tick has counted them), whether the trim interval has had its sensor read, the trim error e in ppb, its accumulator and the
cycles of the interval, the second of the interval, frames since the last TICK that slaves, the match of each alarm
at the last boundary, the captures of the two ports, an OSF that awaits the logic's power for its record, and the
port of the last write of the calendar. -/
structure Rtc where
  sub : Nat := 0
  ran : Nat := 100000
  trimmed : Bool := false
  ppb : Int := 0
  acc : Int := 0
  cycles : Int := 0
  second : Nat := 0
  slaveAge : Nat := 20000
  prevMatch : List Bool := [false, false]
  capE : Option RtcCap := none
  capW : Option RtcCap := none
  osfSay : Option Nat := none
  kresStopped : Bool := false
  deriving DecidableEq, Repr


/-! ## Test page (chapter 22) -/

/-- A one-shot skew that awaits its frame, and the phases whose deadline a forced overrun moves in this frame: bit 0
P1, bit 1 P2 (22 R530); the cause of a clearing that takes place at the next tick (22 R529). -/
structure TestPage where
  skew : Option Int := none
  ovr : Nat := 0
  clearDue : Option Nat := none
  deriving DecidableEq, Repr


/-! ## The whole hub -/

/-- One hub, but for its queue of commands, its SPI output and its interrupt stacks. -/
structure Hub where
  /-- PQH-64 or PQH-32 (00 R1). -/
  part : Part := .pqh64
  /-- The values in force, sparse: an index not listed holds its reset word. -/
  regs : List (Nat × Word) := []
  /-- Accepted Live and Idle writes awaiting the tick (03 R92–R93). -/
  pend : List (Nat × PendW) := []
  /-- Staged values (03 R95). -/
  shadow : List (Nat × Shadow) := []
  /-- Once fields written since cold start (03 R94): register indices. -/
  once : List Nat := []
  /-- Failing parity bytes of the register file (03 R100). -/
  bad : List BadByte := []
  /-- Page headers, sparse: a page not listed has the default header. -/
  pages : List (Nat × PageHdr) := []
  views : PortViews := {}
  /-- The answer of the last register access (03 R82). -/
  acc : AccRes := {}
  /-- The core cycle within the frame, as the last timed command gave it (02 R47). -/
  cyc : Nat := 0
  clk : Clocks := {}
  frm : Frame := {}
  md : Modes := {}
  rcd : Recorder := {}
  keys : Keys := {}
  chans : List Chan := []
  sec : Section := {}
  engines : List Engine := [{}, {}, {}, {}]
  meas : List Meas := []
  feedA : Feed := {}
  feedB : Feed := {}
  share : Sharing := {}
  /-- LB, H1, H2, H3, H4. -/
  convs : List Conv := []
  lb : LoadBus := {}
  bud : Budget := {}
  chg : Charger := {}
  seq : Sequencer := {}
  mea : Measure := {}
  link : Link := {}
  twb : TwoWire := {}
  wd : Watchdog := {}
  rtc : Rtc := {}
  tst : TestPage := {}
  deriving DecidableEq, Repr

/-! ## The SPI output and the interrupt stacks, which few commands touch -/

/-- The SPI host port (15 R427–R430): packets queued for HMISO, oldest first; whether HCS# is low; the bytes of the
present transaction, prepared at the falling edge of HCS#; whether the head of the queue has been offered; the result
and TAG of the previous transaction's request. -/
structure SpiPort where
  queue : List Packet := []
  selected : Bool := false
  out : List Byte := []
  offered : Bool := false
  prev : Nat := 1
  prevTag : Nat := 0
  deriving DecidableEq, Repr

/-- An active source on a target's stack: its number and the PRIO it was acknowledged with (17 R451, R455). -/
structure Active where
  src : Nat
  prio : Nat
  deriving DecidableEq, Repr

/-- The stacks of active sources of targets E and W, bottom first, the queued EOIs with their target, in the order
their writes completed, and the software sources to set at the tick (17 R451, R454, R457). -/
structure IrqStacks where
  stkE : List Active := []
  stkW : List Active := []
  eoi : List (Port × Nat) := []
  swset : List Nat := []
  deriving DecidableEq, Repr

/-- The block: the commands that wait, first in first out, the hub, its SPI output and its interrupt stacks. -/
structure State where
  pending : List Instr := []
  hub : Hub := {}
  spi : SpiPort := {}
  irq : IrqStacks := {}
  deriving DecidableEq, Repr

/-- No command of this hub stops with a fault: a wrong access is refused with a status of 03 R82 and the machine
goes on.  The one reason is kept for the interface; nothing raises it (safe). -/
inductive Fault
  /-- Raised by no command. -/
  | none
  deriving DecidableEq, Repr

/-- Why a command has no meaning. -/
inductive Refusal
  /-- Raised by exec's arm of a command that has no meaning yet (safe: the run stops). -/
  | notModelled (mnemonic : String)
  deriving DecidableEq, Repr

/-- The hub right after a cold start (04 R120–R121): every register at its reset value or at the value the log
names, mode READY, no command waiting (DESIGN CHOICE where the spec gives no value, log entry 3). -/
def State.reset : State := {}

end Sys2Proof.Machine
end

