-- ==== Sys2Proof/Machine/Ops.lean ====
section
/-! DEFINITION. Named operations over the hub: registers and fields, frame numbers, event flags and the
interrupt edges they make (03 R89–R90, 17 R448–R449), event records (20 R494–R498) and fences (21 R517–R518). -/

namespace Sys2Proof.Machine

/-! ## Small arithmetic -/

/-- Floor of a signed quotient toward minus infinity. -/
def floorDiv (a : Int) (b : Nat) : Int := a / (b : Int)

/-- Quotient truncated toward zero. -/
def truncDiv (a : Int) (b : Int) : Int := Int.tdiv a b

/-- The signed value of `v` read as a two's complement number of `w` bits (00 R4). -/
def signed (w v : Nat) : Int := if 2 ^ w ≤ 2 * (v % 2 ^ w) then (v % 2 ^ w : Nat) - (2 ^ w : Nat) else (v % 2 ^ w : Nat)

/-- The `w` low bits of a signed number. -/
def wrapTo (w : Nat) (v : Int) : Nat := (v % (2 ^ w : Nat)).toNat

/-- Signed 32-bit difference of two counts (02 R54). -/
def diff32 (a b : Nat) : Int := signed 32 (wrapTo 32 ((a : Int) - (b : Int)))

def clampInt (lo hi v : Int) : Int := if v < lo then lo else if hi < v then hi else v

def boolNat (b : Bool) : Nat := if b then 1 else 0

/-- Element `i` of a list, or a default. (DESIGN CHOICE, log entry 51.) -/
def nth {α : Type} (l : List α) (i : Nat) (d : α) : α := l.getD i d

/-- The list with element `i` replaced; a shorter list is first filled with the default. (DESIGN CHOICE, log entry 51.) -/
def setNth {α : Type} (l : List α) (i : Nat) (d v : α) : List α :=
  match l, i with
  | [], 0 => [v]
  | [], n + 1 => d :: setNth [] n d v
  | _ :: xs, 0 => v :: xs
  | x :: xs, n + 1 => x :: setNth xs n d v

/-! ## Updates

Every change of a hub goes through one of these, each of one part of it. -/

def Hub.regs! (h : Hub) (f : List (Nat × Word) → List (Nat × Word)) : Hub := { h with regs := f h.regs }
def Hub.pend! (h : Hub) (f : List (Nat × PendW) → List (Nat × PendW)) : Hub := { h with pend := f h.pend }
def Hub.shadow! (h : Hub) (f : List (Nat × Shadow) → List (Nat × Shadow)) : Hub := { h with shadow := f h.shadow }
def Hub.once! (h : Hub) (f : List Nat → List Nat) : Hub := { h with once := f h.once }
def Hub.bad! (h : Hub) (f : List BadByte → List BadByte) : Hub := { h with bad := f h.bad }
def Hub.views! (h : Hub) (f : PortViews → PortViews) : Hub := { h with views := f h.views }
def Hub.pages! (h : Hub) (f : List (Nat × PageHdr) → List (Nat × PageHdr)) : Hub := { h with pages := f h.pages }
/-- The present cycle of the frame. -/
def Hub.atCyc (h : Hub) (cyc : Nat) : Hub := { h with cyc := cyc }
def Hub.answered (h : Hub) (a : AccRes) : Hub := { h with acc := a }
def Hub.chans! (h : Hub) (f : List Chan → List Chan) : Hub := { h with chans := f h.chans }
def Hub.engines! (h : Hub) (f : List Engine → List Engine) : Hub := { h with engines := f h.engines }
def Hub.meas! (h : Hub) (f : List Meas → List Meas) : Hub := { h with meas := f h.meas }
def Hub.feedA! (h : Hub) (f : Feed → Feed) : Hub := { h with feedA := f h.feedA }
def Hub.feedB! (h : Hub) (f : Feed → Feed) : Hub := { h with feedB := f h.feedB }
def Hub.convs! (h : Hub) (f : List Conv → List Conv) : Hub := { h with convs := f h.convs }
def Hub.bud! (h : Hub) (f : Budget → Budget) : Hub := { h with bud := f h.bud }
def Hub.clk! (h : Hub) (f : Clocks → Clocks) : Hub := { h with clk := f h.clk }
def Hub.lb! (h : Hub) (f : LoadBus → LoadBus) : Hub := { h with lb := f h.lb }
def Hub.chg! (h : Hub) (f : Charger → Charger) : Hub := { h with chg := f h.chg }
def Hub.share! (h : Hub) (f : Sharing → Sharing) : Hub := { h with share := f h.share }
def Hub.key! (h : Hub) (f : Keys → Keys) : Hub := { h with keys := f h.keys }
def Hub.mea! (h : Hub) (f : Measure → Measure) : Hub := { h with mea := f h.mea }
def Hub.rcd! (h : Hub) (f : Recorder → Recorder) : Hub := { h with rcd := f h.rcd }
def Hub.md! (h : Hub) (f : Modes → Modes) : Hub := { h with md := f h.md }
def Hub.link! (h : Hub) (f : Link → Link) : Hub := { h with link := f h.link }
def Hub.rtc! (h : Hub) (f : Rtc → Rtc) : Hub := { h with rtc := f h.rtc }
def Hub.sec! (h : Hub) (f : Section → Section) : Hub := { h with sec := f h.sec }
def Hub.seq! (h : Hub) (f : Sequencer → Sequencer) : Hub := { h with seq := f h.seq }
def Hub.tst! (h : Hub) (f : TestPage → TestPage) : Hub := { h with tst := f h.tst }
def Hub.frm! (h : Hub) (f : Frame → Frame) : Hub := { h with frm := f h.frm }
def Hub.twb! (h : Hub) (f : TwoWire → TwoWire) : Hub := { h with twb := f h.twb }
def Hub.wd! (h : Hub) (f : Watchdog → Watchdog) : Hub := { h with wd := f h.wd }

/-! ## Registers -/

/-- What a register holds where nothing has been written: its reset word (03 R85 and the page maps). -/
def resetWord (p : Part) (idx : Nat) : Word :=
  match fixedReset p idx with
  | some v => BitVec.ofNat 32 v
  | none => match bootFactory idx with
    | some v => BitVec.ofNat 32 v
    | none => match findReg p idx with
      | some d => BitVec.ofNat 32 d.resetNat
      | none => 0

/-- The canonical form of the register map: indices rise strictly and no entry holds its reset word. -/
def regsWf (p : Part) (m : List (Nat × Word)) : Bool :=
  keysRise m && m.all (fun e => e.2 != resetWord p e.1)

/-- The word in force at an index. -/
def Hub.word (h : Hub) (idx : Nat) : Word := (mapFind h.regs idx).getD (resetWord h.part idx)

/-- Put a word in force. -/
def Hub.setWord (h : Hub) (idx : Nat) (w : Word) : Hub :=
  h.regs! fun m => if w = resetWord h.part idx then mapDel m idx else mapPut m idx w

/-- `n` bits of a word from bit `lo`, as a number. -/
def bitsOf (w : Word) (lo n : Nat) : Nat := w.toNat / 2 ^ lo % 2 ^ n

/-- The word with `n` bits from bit `lo` replaced. -/
def putBits (w : Word) (lo n v : Nat) : Word :=
  BitVec.ofNat 32 (w.toNat - bitsOf w lo n * 2 ^ lo + v % 2 ^ n * 2 ^ lo)

/-- The value in force of a field. -/
def Hub.get (h : Hub) (f : Fld) : Nat := bitsOf (h.word f.idx) f.lo f.w

/-- The value in force of a signed field. -/
abbrev Hub.geti (h : Hub) (f : Fld) : Int := signed f.w (h.get f)

/-- The value in force of a one-bit field. -/
abbrev Hub.flag (h : Hub) (f : Fld) : Bool := h.get f != 0

/-- Give a field a value (its low bits). -/
def Hub.put (h : Hub) (f : Fld) (v : Nat) : Hub := h.setWord f.idx (putBits (h.word f.idx) f.lo f.w v)

def Hub.puti (h : Hub) (f : Fld) (v : Int) : Hub := h.put f (wrapTo f.w v)
def Hub.putb (h : Hub) (f : Fld) (b : Bool) : Hub := h.put f (boolNat b)

/-- Give a field the value, or its largest value if that is smaller. (DESIGN CHOICE, log entry 51.) -/
def Hub.putSat (h : Hub) (f : Fld) (v : Nat) : Hub := h.put f (min v (2 ^ f.w - 1))

/-- Count up, staying at the largest value. -/
def Hub.incSat (h : Hub) (f : Fld) (n : Nat := 1) : Hub := h.putSat f (h.get f + n)

/-- Count up, wrapping to 0. -/
def Hub.incWrap (h : Hub) (f : Fld) (n : Nat := 1) : Hub := h.put f (h.get f + n)

/-- A 48-bit or 36-bit value in two fields, low word first (00 R5). -/
def Hub.getPair (h : Hub) (lo hi : Fld) : Nat := h.get lo + 2 ^ 32 * h.get hi
def Hub.putPair (h : Hub) (lo hi : Fld) (v : Nat) : Hub := (h.put lo v).put hi (v / 2 ^ 32)

/-- A configuration value, or its reset value where one of its bytes fails parity (11 R321, 17 R460, 18 R476, 19 R490). -/
def Hub.cfgSafe (h : Hub) (f : Fld) : Nat :=
  if h.bad.any (fun b => b.idx == f.idx && !b.shadow && decide (f.lo / 8 ≤ b.byte)
      && decide (b.byte ≤ (f.lo + f.w - 1) / 8))
  then bitsOf (resetWord h.part f.idx) f.lo f.w else h.get f

/-! ## Shorthands used everywhere -/

/-- A field of channel `n`, of feed `n`, of rail Hn+1. -/
def Hub.ch (h : Hub) (n : Nat) : Chan := nth h.chans n {}
def Hub.setCh (h : Hub) (n : Nat) (c : Chan) : Hub := h.chans! fun l => setNth l n {} c
def Hub.ch! (h : Hub) (n : Nat) (f : Chan → Chan) : Hub := h.setCh n (f (h.ch n))
def Hub.nch (h : Hub) : Nat := if h.part = .pqh64 then 64 else 32
def Hub.chList (h : Hub) : List Nat := List.range h.nch

abbrev Hub.frmNo (h : Hub) : Nat := h.get FRM_NO_NO
/-- OPH, 36 bits (02 R56). -/
def Hub.oph (h : Hub) : Nat := h.getPair FRM_OPH_LO_OPH FRM_OPH_HI_OPH
/-- The mode code of DEV_MODE (03 R104). -/
abbrev Hub.mode (h : Hub) : Nat := h.get DEV_MODE_MODE
/-- Engine cycle of 05 R146. -/
def Hub.eng (h : Hub) (cyc : Nat) : Nat := h.frmNo * 40000 + cyc
abbrev Hub.running (h : Hub) : Bool := h.md.power == .on

/-- Mode codes of 03 R104. -/
abbrev mSHIP : Nat := 0
abbrev mSTANDBY : Nat := 1
abbrev mNAP : Nat := 2
abbrev mREADY : Nat := 3
abbrev mFIELD : Nat := 4
abbrev mHOLDUP : Nat := 5
abbrev mTRANSPORT : Nat := 6
abbrev mSERVICE : Nat := 7

/-- Severities of 20 R494. -/
abbrev sevINFO : Nat := 0
abbrev sevWARN : Nat := 1
abbrev sevFAULT : Nat := 2
abbrev sevFATAL : Nat := 3

/-! ## Page headers -/

def Hub.page (h : Hub) (p : Nat) : PageHdr := (mapFind h.pages p).getD {}
def Hub.setPage (h : Hub) (p : Nat) (x : PageHdr) : Hub :=
  h.pages! fun m => if x = {} then mapDel m p else mapPut m p x

/-- The page is fenced (21 R518). -/
def Hub.fenced (h : Hub) (p : Nat) : Bool := !(h.page p).causes.isEmpty
/-- The page holds a fence for this cause. -/
def Hub.hasCause (h : Hub) (p code : Nat) : Bool := (h.page p).causes.any (·.code == code)

/-- A configuration value: its reset value while the page is fenced for parity (08 R251, 09 R273, 10 R293). -/
def Hub.cfg (h : Hub) (f : Fld) : Nat :=
  if h.hasCause (f.idx / 256) 1 then bitsOf (resetWord h.part f.idx) f.lo f.w else h.get f

/-- A setting of a feed's control: its reset value where no logic has written one, or where the page is fenced for parity
(08 R231, R251).  In STANDBY the registers keep their values (04 R130). (DEDUCED, log entry 72.) -/
def Hub.feedCfg (h : Hub) (f : Fld) : Nat :=
  if h.md.power == .on || h.md.power == .standby then h.cfg f else bitsOf (resetWord h.part f.idx) f.lo f.w

/-! ## Interrupt sources (17 R448) -/

/-- A source that can become pending: not the reserved 135–191, nor 32–63 on the PQH-32 (00 R1). -/
def Hub.sourceFitted (h : Hub) (s : Nat) : Bool :=
  (s < 135 || (192 ≤ s && s < 256)) && !(h.part = .pqh32 && 32 ≤ s && s < 64)

/-- The PEND bit of source s (17 R462). -/
def pendFld (s : Nat) : Fld := ⟨0x2008 + 256 * (s / 64) + s % 64, 16, 1⟩

/-- Forget the pending W1C of the given bits: what occurs after the write stands (03 R89). (DEDUCED, log entry 15.) -/
def Hub.keepBits (h : Hub) (idx : Nat) (bits : Word) : Hub :=
  match mapFind h.pend idx with
  | none => h
  | some p => h.pend! fun m => mapPut m idx { p with clr := p.clr &&& ~~~ bits }

/-- Set a W1C flag, as an occurrence later than any write of this frame. (DEDUCED, log entry 15.) -/
def Hub.setFlag (h : Hub) (f : Fld) : Hub :=
  (h.put f 1).keepBits f.idx (BitVec.ofNat 32 (2 ^ f.lo))

/-- A rising edge of source s sets its pending bit (17 R449). -/
def Hub.raise (h : Hub) (s : Nat) : Hub := if h.sourceFitted s then h.setFlag (pendFld s) else h

/-- The source a page flag raises, and source 131 with PARITY (03 R90, 17 R448; TST raises only 131, 22 R533).  The header
flags of IRQS0–IRQS3 raise the IRQ page's source, which R448 names for that page alone. (DEDUCED, log entry 70.) -/
def flagSources (k : PageKind) (page bit : Nat) : List Nat :=
  let own : List Nat := match k with
    | .ch => [page - 0x40]
    | .seq => if bit < 16 then [64 + bit] else [64]
    | .sup => if bit < 24 then [80 + bit] else [80]
    | .gey => if bit < 4 then [104 + bit] else if bit < 8 then [100 + bit] else [104]
    | .adc => if bit < 4 then [108 + bit] else if bit < 8 then [104 + bit] else if bit = 8 then [111] else [108]
    | .cal => [108]
    | .feed => [112 + (page - 0x0E)]
    | .chg => if 8 ≤ bit ∧ bit < 16 then [115] else [114]
    | .lb => [116]
    | .h => [117 + (page - 0x12)]
    | .bud => [121] | .sec => [122] | .str => [123] | .twb => [124] | .wdt => [125]
    | .rtc => if bit = 1 then [127] else [126]
    | .recd => [128] | .key => [128] | .clk => [129] | .frm => [130]
    | .irq => [132] | .irqs => [132] | .snap => [133] | .dev => [134]
    | .tst => []
  if bit = 31 then own ++ [131] else own

/-- Raise every source of a list. -/
def Hub.raiseAll (h : Hub) (l : List Nat) : Hub := l.foldl Hub.raise h

/-- An event: its flag sets, and an enabled flag that goes from 0 to 1 raises its source (03 R89–R90). -/
def Hub.evt (h : Hub) (page bit : Nat) : Hub :=
  let f : Fld := ⟨page * 256 + 3, bit, 1⟩
  let rises := !h.flag f && h.flag ⟨page * 256 + 4, bit, 1⟩
  let h0 := h.setFlag f
  -- the 0-to-1 change of a PARITY flag is noted on the IRQ page (17 R459)
  let h' := if bit = 31 ∧ ¬ h.flag f then (h0.put IRQ_PARSRC_PAGE page).incSat IRQ_PARSRC_COUNT else h0
  match pageKind h.part page with
  | some k => if rises then h'.raiseAll (flagSources k page bit) else h'
  | none => h'

/-! ## Records (20 R494–R498, R501) -/

/-- A payload of 20 R494 from (byte, length, value) parts. (DEDUCED, log entry 18.) -/
def payload (parts : List (Nat × Nat × Nat)) : Nat :=
  parts.foldl (fun a p => a + p.2.2 % 256 ^ p.2.1 * 256 ^ p.1) 0

/-- The snapshot set the map links to an event code, if it holds indices (20 R501, R513). -/
def Hub.recSet (h : Hub) (code : Nat) : Option Nat :=
  if h.fenced 0x06 then none
  else match (List.range 32).find? (fun j => h.flag (REC_MAP_EN.nth j) && h.get (REC_MAP_CODE.nth j) == code) with
    | none => none
    | some j =>
      let s := h.get (REC_MAP_SET.nth j)
      if (nth h.rcd.sets s {}).len = 0 then none else some s

/-- The newest record, queued or committed (20 R498). -/
def Hub.newestRec (h : Hub) : Option Rec := h.rcd.queue.getLast? <|> h.rcd.newest

/-- The words of a record slot (20 R494). -/
def Rec.words (r : Rec) (snapSlot nslot : Nat) : List Word :=
  let b (v : Nat) : Word := BitVec.ofNat 32 v
  let present := !r.pairs.isEmpty
  [b (r.code + r.inst % 256 * 2 ^ 16 + r.sev % 4 * 2 ^ 24 + r.osf % 2 * 2 ^ 26), b r.seq, b r.oph,
   b (r.oph / 2 ^ 32 % 16 + r.pcc % 2 ^ 24 * 2 ^ 8), b r.frm, b r.rtc,
   b (r.rep % 2 ^ 16 + r.lastOph / 2 ^ 32 % 16 * 2 ^ 16), b r.lastOph,
   b r.payload, b (r.payload / 2 ^ 32), b (r.payload / 2 ^ 64), b (r.payload / 2 ^ 96),
   b ((if present then snapSlot % 2 ^ 14 + r.set.getD 0 % 8 * 2 ^ 16 + nslot % 32 * 2 ^ 20 + 2 ^ 31 else 0)
      + (if r.lost then 2 ^ 30 + r.set.getD 0 % 8 * 2 ^ 16 else 0)),
   b (if present then r.snapFrm else 0), 0, b (0xA5 * 2 ^ 24 + r.seq % 2 ^ 24)]

/-- Words 6 and 7 of a committed slot follow a repeat (20 R498). -/
def Hub.touchSlot (h : Hub) (slot : Nat) (r : Rec) : Hub :=
  match mapFind h.rcd.store slot with
  | none => h
  | some ws =>
    let ws' := (List.range 16).map (fun i =>
      if i = 6 ∨ i = 7 then nth (r.words 0 0) i 0 else nth ws i 0)
    h.rcd! fun r => { r with store := mapPut r.store slot ws' }

/-- Record an event: a repeat of the newest record counts on it, a full queue drops it (20 R495–R498).
(DEDUCED, log entry 18.) -/
def Hub.record (h : Hub) (code inst sev pay : Nat) : Hub :=
  let set := h.recSet code
  let same : Option Rec := match h.newestRec with
    | some r => if r.code = code ∧ r.inst = inst ∧ r.sev = sev ∧ set = none ∧ r.set = none then some r else none
    | none => none
  match same with
  | some r =>
    let r' := { r with rep := min (r.rep + 1) 65535, lastOph := h.oph }
    if h.rcd.queue.isEmpty then
      let h' := h.rcd! fun x => { x with newest := some r' }
      (h'.put REC_NEWEST_REPEAT r'.rep).touchSlot (h.get REC_NEWEST_SLOT) r'
    else h.rcd! fun x => { x with queue := x.queue.dropLast ++ [r'] }
  | none =>
    if 64 ≤ h.rcd.queue.length then
      (h.incSat REC_CNT_DROPPED).rcd! fun x => { x with lostCount := x.lostCount + 1 }
    else
      -- SEQ starts at 1, while the stored count reads 0 on the first power-up (20 R494, R515)
      let sq := max 1 (h.get REC_SEQ_NEXT)
      let r : Rec := { code := code, inst := inst, sev := sev, osf := h.get RTC_STAT_OSF, seq := sq,
                       oph := h.oph, pcc := h.get FRM_PCC_PCC,
                       frm := h.frmNo, rtc := h.get RTC_EPOCH_SECONDS,
                       lastOph := h.oph, payload := pay % 2 ^ 128, set := set }
      (h.put REC_SEQ_NEXT (sq + 1)).rcd! fun x => { x with queue := x.queue ++ [r] }

/-- Set a page flag and write its record, the usual pair of an event table. (DEDUCED, log entry 18.) -/
def Hub.report (h : Hub) (page bit code inst sev : Nat) (pay : List (Nat × Nat × Nat)) : Hub :=
  (h.evt page bit).record code inst sev (payload pay)

/-! ## The boot profile (04 R122) -/

/-- Registers marked Boot: H_VSET of H1–H4 and the SEQ slot fields (04 R130). -/
def bootIdx (i : Nat) : Bool :=
  i == 0x1209 || i == 0x1309 || i == 0x1409 || i == 0x1509 || (decide (0x0710 ≤ i) && decide (i < 0x0760))

/-- Some registers take their values from the profile read at the last cold start, or the factory's. (DEDUCED,
log entry 39.) -/
def Hub.bootLoad (h : Hub) (ok : Nat → Bool) : Hub :=
  (h.md.profile.filter fun e => ok e.1).foldl (fun a e => a.setWord e.1 e.2) (h.regs! fun m => m.filter fun e => !ok e.1)

/-! ## Fences (21 R517–R518) -/

/-- The header record code of a page (03 R91). (DEDUCED, log entry 18.) -/
def Hub.hdrCode (h : Hub) (page loc : Nat) : Nat :=
  match pageKind h.part page with
  | some k => k.type * 256 + loc
  | none => loc

/-- A page receives a fence cause: the FENCE flag and the FENCE_SET record, once per cause it holds. -/
def Hub.fence (h : Hub) (page code : Nat) : Hub :=
  if h.hasCause page code then h
  else
    let x := h.page page
    let h' := h.setPage page { x with causes := x.causes ++ [{ code := code, oph := h.oph % 2 ^ 32 }] }
    (h'.evt page 29).record (h.hdrCode page 0xF3) (pageInstance page) sevFAULT (payload [(0, 1, code)])

/-- Mark a cause as cleared by the event its chapter names. -/
def Hub.clearCause (h : Hub) (page code : Nat) : Hub :=
  let x := h.page page
  h.setPage page { x with causes := x.causes.map (fun c => if c.code = code then { c with cleared := true } else c) }

/-- Take a cause away without a release: it leaves the page, and if the page holds no other cause its fence is
released (05 R164, 03 R91). -/
def Hub.dropCause (h : Hub) (page code : Nat) : Hub :=
  let x := h.page page
  let rest := x.causes.filter (fun c => c.code != code)
  let h1 := h.setPage page { x with causes := rest }
  match x.causes.find? (fun c => c.code == code) with
  | none => h1
  | some c =>
    if rest.isEmpty then
      h1.record (h1.hdrCode page 0xF4) (pageInstance page) sevINFO (payload [(0, 1, c.code), (4, 4, c.oph)])
    else h1

/-- The hub has the role of a follower, with a position or without (14 R401). -/
def Hub.follower (h : Hub) : Bool := h.get STR_STAT_ROLE == 2

end Sys2Proof.Machine
end

