-- ==== Sys2Proof/Machine/Capture.lean ====
section
/-! DEFINITION. GEYSER engines as the channels meet them: assigning an edge, closing the detection window and
aborting a capture (07 R211–R218). -/

namespace Sys2Proof.Machine

/-- GEY page. -/
abbrev pgGEY : Nat := 0x17

/-- A register field of engine k. -/
abbrev engF (f : Fld) (k : Nat) : Fld := f.nth (4 * k)

def Hub.engine (h : Hub) (k : Nat) : Engine := nth h.engines k {}
def Hub.setEngine (h : Hub) (k : Nat) (e : Engine) : Hub := h.engines! fun l => setNth l k {} e

/-- ADC converter k is fenced (13 R368). -/
def Hub.adcFenced (h : Hub) (k : Nat) : Bool := h.flag (ADC_STAT_FENCED.nth k)

/-- The GEY page works: enabled and not fenced (07 R211). -/
def Hub.geyOn (h : Hub) : Bool := h.flag (PG_CTL_EN.pg pgGEY) && !h.fenced pgGEY

/-- PG_STAT.STATE of the GEY page (07 R211). -/
def Hub.geyState (h : Hub) : Nat :=
  if !h.flag (PG_CTL_EN.pg pgGEY) then 0
  else if (List.range 4).all (fun k => h.get (engF GEY_ENG_STAT_STATE k) == 0) then 1 else 2

/-- The engine capturing channel c. -/
def Hub.capturing (h : Hub) (c : Nat) : Option Nat :=
  (List.range 4).find? (fun k => h.get (engF GEY_ENG_STAT_STATE k) == 1 && h.get (engF GEY_ENG_STAT_CH k) == c)

/-- The engine an offered edge goes to (07 R213); one that an SRD reads takes none (15 R423). -/
def Hub.freeEngine (h : Hub) (c : Nat) : Option Nat :=
  let idle := (List.range 4).filter (fun k => h.get (engF GEY_ENG_STAT_STATE k) == 0
    && !h.link.streams.any (·.source == 0x10 + k)
    && !h.link.bulk.any (fun x => x.hdr.type == 0x39 && bitsOf (nth x.payload 0 0) 16 8 == 0x10 + k))
  (idle.find? (fun k => h.flag (engF GEY_ENG_CTL_RESERVE k) && h.get (engF GEY_ENG_CTL_CH k) == c)) <|>
  (idle.find? (fun k => !h.flag (engF GEY_ENG_CTL_RESERVE k)))

/-- An engine starts sampling at the edge instant (07 R213, R215, R219). -/
def Hub.startCapture (h : Hub) (k c dir cyc : Nat) : Hub :=
  let h1 := h.setEngine k { vM := (h.get LB_MEAS_V : Int), tM := h.geti (CH_TEMP_TEMP.pg c) }
  let h2 := (((h1.put (engF GEY_ENG_STAT_STATE k) 1).put (engF GEY_ENG_STAT_END k) 0).put (engF GEY_ENG_STAT_CH k) c).put
    (engF GEY_ENG_STAT_DIR k) dir
  let h3 := ((h2.put (engF GEY_ENG_STAT_CUSP k) 0).put (engF GEY_ENG_STAT_NS k) 0).put (engF GEY_ENG_FRM_FRM k) h.frmNo
  ((h3.put (engF GEY_ENG_CYC_CYC k) cyc).put (engF GEY_ENG_CYC_KCUSP k) 0xFFF).put (CH_GEYSTAT_ENG.pg c) (k + 1)

/-- The detection window of a capture of channel c closes: on captures at the start of hold chopping, the
first chopping off-interval or the turn-off, off captures at the next turn-on (07 R217). -/
def Hub.geyClose (h : Hub) (c dir : Nat) : Hub :=
  match h.capturing c with
  | none => h
  | some k =>
    if h.get (engF GEY_ENG_STAT_DIR k) = dir then
      let e := h.engine k
      match e.det with
      | .found _ => h
      | _ => h.setEngine k { e with det := .closed }
    else h

/-- What ends no capture but closes its detection window: a mode change, a change of the duty, a frame overrun (07 R216). -/
def Hub.geyShut (h : Hub) (c : Nat) : Hub := (h.geyClose c 0).geyClose c 1

/-- The detection windows of all captures close. -/
def Hub.geyShutAll (h : Hub) : Hub :=
  (List.range 4).foldl (fun a k =>
    if a.get (engF GEY_ENG_STAT_STATE k) = 1 then a.geyShut (a.get (engF GEY_ENG_STAT_CH k)) else a) h

/-- The engine leaves CAPTURE: to HELD with KEEP, else to IDLE (07 R211). -/
def Hub.geyLeave (h : Hub) (k : Nat) : Hub :=
  let c := h.get (engF GEY_ENG_STAT_CH k)
  (h.put (engF GEY_ENG_STAT_STATE k) (if h.flag (engF GEY_ENG_CTL_KEEP k) then 2 else 0)).put (CH_GEYSTAT_ENG.pg c) 0

/-- Engine k aborts its capture; cause as 07 R227 codes it (07 R216). -/
def Hub.engAbort (h : Hub) (k cause : Nat) : Hub :=
  if h.get (engF GEY_ENG_STAT_STATE k) != 1 then h
  else
    let c := h.get (engF GEY_ENG_STAT_CH k)
    let dir := h.get (engF GEY_ENG_STAT_DIR k)
    let h1 := (h.geyLeave k).put (engF GEY_ENG_STAT_END k) 3
    let h2 := ((h1.put (CH_GEYMEAS_RESULT.pg c) 3).put (CH_GEYMEAS_DIR.pg c) dir).evt pgGEY (4 + k)
    h2.report (0x40 + c) 22 0x1823 c sevINFO [(0, 1, dir), (1, 1, k), (2, 1, cause)]

/-- A capture of channel c in progress aborts (07 R216). (DEDUCED, log entry 59.) -/
def Hub.geyAbort (h : Hub) (c cause : Nat) : Hub :=
  match h.capturing c with
  | some k => h.engAbort k cause
  | none => h

/-- Every capture aborts, and every engine goes to IDLE: the GEY page is disabled or fenced (07 R211). -/
def Hub.geyAbortAll (h : Hub) (cause : Nat) : Hub :=
  (List.range 4).foldl (fun a k => (a.engAbort k cause).put (engF GEY_ENG_STAT_STATE k) 0) h

/-- Captures served by one fenced converter abort: ADC0 serves channels 0–31, ADC1 channels 32–63 (07 R215–R216). -/
def Hub.geyAbortAdc (h : Hub) (adc : Nat) : Hub :=
  (List.range 4).foldl (fun a k => if a.get (engF GEY_ENG_STAT_CH k) / 32 = adc then a.engAbort k 4 else a) h

/-- An eligible edge is counted, offered at every EVERY-th, and captured or skipped (07 R212–R214, R216).  The
count restarts at 0 when an edge is offered and the first edge after a commit is offered: the state holds
how many eligible edges are still to pass unoffered. -/
def Hub.geyEdge (h : Hub) (c dir cyc : Nat) : Hub :=
  let enabled := if dir = 0 then h.flag (CH_GEYCTL_ONEN.pg c)
    else h.flag (CH_GEYCTL_OFFEN.pg c) && !h.flag (CH_MODE_OFFDECAY.pg c)
  if !h.geyOn || !enabled then h
  else
    let ch := h.ch c
    let left := if dir = 0 then ch.everyOn else ch.everyOff
    let offer := left = 0
    let left' := if offer then h.get (CH_GEYCTL_EVERY.pg c) - 1 else left - 1
    let h1 := h.setCh c (if dir = 0 then { ch with everyOn := left' } else { ch with everyOff := left' })
    if !offer || (h.capturing c).isSome then h1
    else match h1.freeEngine c with
      | some k =>
        -- a capture whose converter is fenced has none of its samples: it ends at once (07 R216)
        let h2 := h1.startCapture k c dir cyc
        if h2.adcFenced (c / 32) then h2.engAbort k 4 else h2
      | none =>
        let h2 := (h1.incSat (CH_GEYCNT_SKIP.pg c)).incSat GEY_CNT_SKIP
        (h2.evt (0x40 + c) 21).report pgGEY 8 0x1401 0 sevINFO [(0, 1, c), (1, 1, dir)]

end Sys2Proof.Machine
end

