-- ==== Sys2Proof/Machine/Channels.lean ====
section
/-! DEFINITION. Load channels (chapter 05): what the output follows, the PWM grid, hit and hold, protection,
retry and latching, and the metering of a frame. -/

namespace Sys2Proof.Machine

/-- Page of channel n. -/
abbrev chPage (n : Nat) : Nat := 0x40 + n
abbrev Hub.chSt (h : Hub) (n : Nat) : Nat := h.get (CH_STAT_STATE.pg n)
/-- PG_CTL.EN of a page; of a channel page it is CH_CTL.EN (05 R138). -/
abbrev Hub.en (h : Hub) (page : Nat) : Bool := h.flag (PG_CTL_EN.pg page)
/-- The group's PWM frequency stands on channel 8g (05 R146). -/
def Hub.grpFreq (h : Hub) (n : Nat) : Nat := h.get (CH_GRP_FREQ.pg (n / 8 * 8))

/-- A channel enters a state of 05 R165, and the ticks in it count from there. -/
def Hub.chTo (h : Hub) (n st : Nat) : Hub := (h.put (CH_STAT_STATE.pg n) st).ch! n fun c => { c with stRun := 0 }

/-- LB switches, or the hold-up bypass is closed: the channels have a supply (05 R141 rule 2, 09 R262). -/
def Hub.lbSupplies (h : Hub) : Bool :=
  let s := h.get LB_STAT_STATE
  s == 3 || s == 4 || s == 5 || (s == 9 && h.get LB_STAT_NPH != 0) || h.flag CHG_STAT_BYPASS

/-- The mode the rules of a channel use: the held mode in HOLDUP (05 R141 rule 4, 06 R202). -/
def Hub.ruleMode (h : Hub) : Nat := if h.mode = mHOLDUP then h.md.heldMode else h.mode

/-- A fence other than a latched trip holds the channel, or the CLK fence holds every channel
(05 R141 rule 3, 21 R521). -/
def Hub.chFenceSafe (h : Hub) (n : Nat) : Bool :=
  (h.page (chPage n)).causes.any (fun c => c.code != 2) || h.fenced 0x01

/-- Rule 4 of 05 R141 applies. -/
def Hub.chHoldupSafe (h : Hub) (n : Nat) : Bool :=
  h.mode == mHOLDUP && !h.flag (CH_CLASS_HOLDUP_EN.pg n)

/-- The condition of rule 3 or rule 4 of 05 R141 holds. -/
def Hub.safeCond (h : Hub) (n : Nat) : Bool := h.chFenceSafe n || h.chHoldupSafe n

/-- Rule 1 of 05 R141: while DISABLED, WAIT, LATCHED or BLOCKED the output is off whatever the later rules say. -/
def Hub.ruleOne (h : Hub) (n : Nat) : Bool := [0, 4, 6, 7].contains (h.get (CH_STAT_STATE.pg n))

/-- The safe state gives the command: rule 3 or 4 of 05 R141 is the first that applies. (DEDUCED, log entry 19.) -/
def Hub.safeActive (h : Hub) (n : Nat) : Bool := h.safeCond n && h.lbSupplies && !h.ruleOne n

/-- The command of the safe state (05 R143); `c` is frozen at the cause. -/
def Hub.safeCmd (h : Hub) (n : Nat) : Bool :=
  match h.get (CH_SAFE_SAFE.pg n) with
  | 1 => true
  | 2 => (h.ch n).holdCmd && !h.chHoldupSafe n
  | _ => false

/-- The section engine's present state for a channel; with SEC fenced it equals the safe-state command and with
SEC disabled it is off (06 R202). -/
def Hub.engState (h : Hub) (n : Nat) : Bool :=
  if !h.en 0x16 then false
  else if h.fenced 0x16 then h.safeCmd n
  else h.flag (CH_SECSTAT_ENG.pg n)

/-- SERVICE on phantom power holds every channel off (04 R117). -/
def Hub.forceApplies (h : Hub) (n : Nat) : Bool :=
  let m := h.ruleMode
  !h.safeCond n && !h.ruleOne n && (m == mFIELD || m == mSERVICE && !h.md.serviceByPhantom
    || m == mTRANSPORT && h.flag (CH_CLASS_TRANSPORT_EN.pg n))
  && h.get (CH_FORCE_FORCE.pg n) != 0

/-- The command by rules 2–7 of 05 R141 and the table of R142, for an engine state. -/
def Hub.rawWith (h : Hub) (n : Nat) (engine : Bool) : Bool :=
  let m := h.ruleMode
  if !h.lbSupplies then false
  else if h.safeCond n then h.safeCmd n
  else if m = mFIELD then
    match h.get (CH_FORCE_FORCE.pg n) with | 1 => true | 2 => false | _ => engine
  else if m = mTRANSPORT then
    h.flag (CH_CLASS_TRANSPORT_EN.pg n) &&
      (match h.get (CH_FORCE_FORCE.pg n) with | 2 => false | _ => true)
  else if m = mSERVICE then
    !h.md.serviceByPhantom && h.get (CH_FORCE_FORCE.pg n) == 1
  else false

/-- The command by rules 2–7 of 05 R141. -/
def Hub.rawCmd (h : Hub) (n : Nat) : Bool := h.rawWith n (h.engState n)

/-- The class that governs the channel: that of the executed ON entry, else CH_CLASS (06 R198). -/
def Hub.effClass (h : Hub) (n : Nat) : Nat := ((h.ch n).fldCls).getD (h.get (CH_CLASS_CLASS.pg n))

/-! ## Duty and the PWM grid (05 R146–R150, R153) -/

abbrev Hub.chMode (h : Hub) (n : Nat) : Nat := h.get (CH_MODE_MODE.pg n)

/-- The duty a channel wants before any scaling (10 R279). -/
def Hub.dbase (h : Hub) (n : Nat) : Nat :=
  if h.chMode n = 2 ∨ h.chMode n = 4 then h.get (CH_PWM_DUTY.pg n) else 1000

/-- The same by a value of CH_PWM.DUTY. -/
def Hub.baseOf (h : Hub) (n duty : Nat) : Nat := if h.chMode n = 2 ∨ h.chMode n = 4 then duty else 1000

/-- The budget scale of the channel: 1,024 when it is not capped (10 R285, R288). -/
def Hub.chScale (h : Hub) (n : Nat) : Nat :=
  if !h.en 0x0D || h.safeCond n then 1024
  else match h.effClass n with | 1 => h.bud.sBNow | 2 => h.bud.sCNow | _ => 1024

/-- The duty to be in use by a value of CH_PWM.DUTY (05 R143, R153, 10 R285). -/
def Hub.dutyFor (h : Hub) (n duty : Nat) : Nat :=
  if h.safeCond n then
    if h.get (CH_SAFE_SAFE.pg n) = 2 then (h.ch n).holdDuty else h.baseOf n duty
  else h.baseOf n duty * h.chScale n / 1024

/-- The duty to be in use, by the value of CH_PWM.DUTY in force (05 R150). -/
def Hub.dutyWanted (h : Hub) (n : Nat) : Nat := h.dutyFor n (h.ch n).dutyUse

/-- The channel runs on its grid: a PWM mode, or an ON or HIT-HOLD channel that is capped (05 R153). -/
def Hub.onGrid (h : Hub) (n : Nat) : Bool :=
  h.chMode n == 2 || h.chMode n == 4 || decide (h.get (CH_APPLIED_DUTY.pg n) < 1000)

def Hub.hitMode (h : Hub) (n : Nat) : Bool := h.chMode n == 3 || h.chMode n == 4

/-- period_cyc, on_cyc and phase_cyc of 05 R146. -/
def periodCyc (freq : Nat) : Nat := 400000000 / freq
def onCyc (period duty : Nat) : Nat := period * duty / 1000
def phaseCyc (period phase : Nat) : Nat := period * phase / 65536

/-- Cycles from the last period start to engine cycle e. -/
def intoPeriod (period ph e : Nat) : Nat := (e + period - ph) % period

/-- The automatic phase of 05 R147, and the explicit one with PHAUTO = 0. -/
def Hub.phaseNow (h : Hub) (n : Nat) : Nat :=
  if h.flag (CH_PWM_PHAUTO.pg n) then
    let nh := max 1 (h.get STR_STAT_NHUBS)
    (h.get DEV_POS_POS * 64 + n) * 65536 / (nh * 64)
  else h.get (CH_PWM_PHASE.pg n)

def Hub.chPeriod (h : Hub) (n : Nat) : Nat := periodCyc (h.grpFreq n)
def Hub.chPhaseCyc (h : Hub) (n : Nat) : Nat := phaseCyc (h.chPeriod n) (h.get (CH_APPLIED_PHASE.pg n))

/-- Cycles at engine cycle e since the last period start of the channel's grid; none before the first start of a count of
FRM_NO, to which the off-phase is stretched (05 R146). -/
def Hub.intoGrid (h : Hub) (n e : Nat) : Option Nat :=
  if e < h.chPhaseCyc n then none else some (intoPeriod (h.chPeriod n) (h.chPhaseCyc n) e)

/-- The first period start at or after engine cycle e (05 R146, R150). -/
def Hub.nextStart (h : Hub) (n e : Nat) : Int :=
  match h.intoGrid n e with
  | none => h.chPhaseCyc n
  | some 0 => e
  | some i => (e : Int) - i + h.chPeriod n

/-! ## Chopping (05 R140, R152) -/

/-- The current of the hit in progress has reached IHIT by engine cycle e. (DESIGN CHOICE, log entry 79.) -/
def Hub.hitChops (h : Hub) (n : Nat) (e : Int) : Bool :=
  let s := (h.ch n).hitStart
  decide (s + (Config.hitRise n (s / 40000).toNat).toNat ≤ e)

/-- The channel chops at cycle cyc of this frame: in hold, and in a hit whose current has reached IHIT (05 R152). -/
def Hub.chops (h : Hub) (n cyc : Nat) : Bool :=
  h.flag (CH_STAT_OUT.pg n) && (h.get (CH_MODE_MODE.pg n) == 3 || h.get (CH_MODE_MODE.pg n) == 4)
    && (!(h.ch n).hit || h.hitChops n (h.eng cyc))

/-- A chopping channel is in an off-interval at cycle cyc: its periods of 20,000 cycles begin (n mod 8) × 2,500 cycles after
each tick, and each begins with an on-interval of a free length (05 R152). -/
def Hub.chopOff (h : Hub) (n cyc : Nat) : Bool :=
  let t := h.eng cyc + 20000 - n % 8 * 2500
  h.chops n cyc && decide ((Config.chopLen n (t / 20000)).toNat ≤ t % 20000)

/-- The low side of channel n is closed at cycle cyc: in a chopping off-interval it always closes, 50 ns after the high side
opens, and opens when the load current has fallen to zero (05 R140). -/
def Hub.lowSide (h : Hub) (n cyc : Nat) : Bool :=
  if h.chopOff n cyc then !Config.freewheelOver n h.mea.ticks else (h.ch n).lsClosed

/-- End of an on-phase that starts a period at `ps`: the whole period where the off-phase would be shorter than
1,600 cycles (05 R148). -/
def onEndOf (ps : Int) (period on : Nat) : Int := if period - on < 1600 then ps + period else ps + on

/-- What the limit timer has counted by engine cycle e: high-side on-time in limitation (05 R154). -/
def Chan.limRan (c : Chan) (e : Int) : Nat :=
  match c.limSince with | some t => c.limAcc + (e - t).toNat | none => c.limAcc

/-- The high side turns on (05 R140, R152, R158, 07 R212, R217): the low side is open, OPEN clears, a hit starts in the hit
modes, an off capture's window closes, and the edge is offered unless it is the transition into ATTEMPT. -/
def Hub.outOn (h : Hub) (n cyc : Nat) (offer : Bool) : Hub :=
  if h.flag (CH_STAT_OUT.pg n) then h
  else
    let h1 := ((h.put (CH_STAT_OUT.pg n) 1).put (CH_STAT_OPEN.pg n) 0).geyClose n 1
    let h2 := h1.ch! n fun c => { c with
      hit := h1.hitMode n, hitStart := h1.eng cyc, offRun := 0, refreshing := false, lsClosed := false,
      limSince := if h1.flag (CH_STAT_LIMITING.pg n) then some (h1.eng cyc : Int) else none }
    if offer then h2.geyEdge n 0 cyc else h2

/-- The high side turns off; `offer` unless a trip or BLOCKED turns it off (07 R212).  The low side closes for SYNC decay,
and stays open with CLAMP, at a trip and in BLOCKED (05 R140, R159–R160). -/
def Hub.outOff (h : Hub) (n cyc : Nat) (offer : Bool) : Hub :=
  if h.flag (CH_STAT_OUT.pg n) then
    let h1 := (h.put (CH_STAT_OUT.pg n) 0).geyClose n 0
    let h2 := h1.ch! n fun c => { c with
      onPhase := false, hit := false, onAll := false, lsClosed := offer && !h1.flag (CH_MODE_OFFDECAY.pg n),
      limAcc := c.limRan (h1.eng cyc), limSince := none }
    if offer then h2.geyEdge n 1 cyc else h2
  else h.ch! n fun c => { c with onPhase := false, hit := false, onAll := false, lsClosed := c.lsClosed && offer }

/-- An ON action at cycle cyc (05 R149): straight on off the grid; on the grid, to the end of the on-phase in
progress, or for on_cyc cut short at the next period start; no pulse below 1,600 cycles (R148); `offer` unless the action is
the transition into ATTEMPT. (DEDUCED, log entry 20.) -/
def Hub.driveOn (h : Hub) (n cyc : Nat) (offer : Bool) : Hub :=
  let e := h.eng cyc
  if !h.onGrid n then
    (h.ch! n fun c =>
      { c with onPhase := true, pStart := e, onEnd := e, dutyInUse := 1000, gridOn := false }).outOn n cyc offer
  else
    let period := h.chPeriod n
    let duty := h.get (CH_APPLIED_DUTY.pg n)
    let on := onCyc period duty
    if on < 1600 then h.ch! n fun c => { c with onPhase := false, dutyInUse := duty, gridOn := true }
    else
      let next := h.nextStart n (e + 1)
      let ps : Int := next - period
      let inOn : Bool := match h.intoGrid n e with | some i => decide (i < on) || decide (period - on < 1600) | none => false
      let stop : Int := if inOn then onEndOf ps period on else min (e + on : Nat) next
      (h.ch! n fun c => { c with onPhase := true, pStart := ps, onEnd := stop, dutyInUse := duty, gridOn := true }).outOn
        n cyc offer

/-- The on-phase of the grid that cycle cyc lies in, from a period start, for a duty; the output turns off where it is over.
-/
def Hub.joinPhase (h : Hub) (n cyc : Nat) (ps : Int) (duty : Nat) : Hub :=
  let period := h.chPeriod n
  let on := onCyc period duty
  let stop := onEndOf ps period on
  let h1 := h.ch! n fun c => { c with pStart := ps, onEnd := stop, dutyInUse := duty, nextDuty := none, gridOn := true }
  if stop ≤ (h.eng cyc : Int) ∨ on < 1600 then h1.outOff n cyc true else h1

/-- The output is driven: states ON, LIMIT and ATTEMPT. -/
def Hub.driven (h : Hub) (n : Nat) : Bool := h.chSt n == 2 || h.chSt n == 3 || h.chSt n == 5

/-- CH_PWM.DUTY is looked at at cycle cyc: under profile 1 it comes into force at once, under profile 2 at the first period
start from now; at a start that is this very cycle a driven grid takes it itself (05 R150). (DEDUCED, log entry 20.) -/
def Hub.takeDuty (h : Hub) (n cyc : Nat) : Hub :=
  let c := h.ch n
  let e := h.eng cyc
  let live := h.driven n && c.gridOn
  let come (at_ : Int) : Bool := if live then decide (at_ < (e : Int)) else decide (at_ ≤ (e : Int))
  let c1 := match c.dutyNext with
    | some (v, at_) => if come at_ then { c with dutyUse := v, dutyNext := none }
        else { c with dutyNext := some (v, h.nextStart n e) }
    | none => c
  let d := h.get (CH_PWM_DUTY.pg n)
  h.setCh n (if d = c1.dutyUse then { c1 with dutyNext := none }
    else if h.get DEV_PROFILE_PROFILE = 2 ∧ !come (h.nextStart n e) then { c1 with dutyNext := some (d, h.nextStart n e) }
    else { c1 with dutyUse := d, dutyNext := none })

/-- A new duty, or a new drive, at cycle cyc: on the grid the on-phase in progress ends by it (05 R150). A period that is to
start at this very cycle takes it itself. An output that comes onto the grid takes the phase that its grid is in (R145,
R153). (DEDUCED, log entry 20.) -/
def Hub.newDuty (h0 : Hub) (n cyc : Nat) : Hub :=
  let h := h0.takeDuty n cyc
  let want := h.dutyWanted n
  let c := h.ch n
  let next := c.dutyNext.map fun x => h.dutyFor n x.1
  let h1 := (h.put (CH_APPLIED_DUTY.pg n) want).ch! n fun c => { c with nextDuty := next }
  let e := h.eng cyc
  if !h.driven n ∨ (want = c.dutyInUse ∧ c.gridOn = h1.onGrid n) then h1
  else if c.gridOn ∧ h1.onGrid n ∧ h.intoGrid n e = some 0 ∧ c.pStart ≠ e then
    h.ch! n fun c => { c with nextDuty := some (next.getD want) }
  else if !h1.onGrid n then h1.driveOn n cyc true
  else if !c.onPhase then h1.ch! n fun c => { c with dutyInUse := want, gridOn := true }
  else (h1.joinPhase n cyc (if c.gridOn then c.pStart else h.nextStart n (e + 1) - h.chPeriod n) want).ch! n
    fun c => { c with nextDuty := next }

/-! ## State machine (05 R165) -/

/-- Cancel an ON that the budget has deferred (10 R287). -/
def Hub.cancelDeferred (h : Hub) (n : Nat) : Hub :=
  let mine := h.bud.deferred.filter (fun d => d.ch == n)
  if mine.isEmpty && (h.ch n).tickDefer.isNone then h
  else
    let h1 := h.bud! fun b => { b with deferred := b.deferred.filter (fun d => d.ch != n) }
    let h2 := h1.setCh n { h1.ch n with tickDefer := none }
    (h2.incSat BUD_CNT2_CANCELLED (max 1 mine.length)).put (CH_STAT_CAPPED.pg n) 0

/-- A transition into ON, or into ATTEMPT when a retry is pending or the wait was served (05 R165). -/
def Hub.turnOn (h : Hub) (n cyc : Nat) : Hub :=
  let att := h.flag (CH_STAT_RETRY_PEND.pg n) || h.chSt n == 4
  let h1 := (h.chTo n (if att then 5 else 2)).incWrap (CH_SWCNT_SW.pg n)
  let h2 := h1.put (CH_STAT_CMD.pg n) 1
  (if att then h2.put (CH_STAT_RETRY_PEND.pg n) 1 else h2).driveOn n cyc (!att)

/-- Command off: back to OFF, the limit timer cleared (05 R154, R165). -/
def Hub.turnOff (h : Hub) (n cyc : Nat) : Hub :=
  ((h.outOff n cyc true).chTo n 1).put (CH_STAT_LIMITING.pg n) 0

/-- A cause that freezes the command and the duty HOLD_LAST keeps: rule 3 or 4 of 05 R141, or a fence of SEC
(06 R202). (DEDUCED, log entry 19.) -/
def Hub.holdCause (h : Hub) (n : Nat) : Bool := h.safeCond n || h.fenced 0x16

/-- The causes one by one. -/
def Hub.holdCauses (h : Hub) (n : Nat) : List Bool := [h.chFenceSafe n, h.chHoldupSafe n, h.fenced 0x16]

/-- The command and the duty of the last tick before the cause are kept (05 R143): of a cause that arises while another
stands, too. (DEDUCED, log entry 19.) -/
def Hub.holdTake (h : Hub) (n : Nat) : Hub :=
  let c := h.ch n
  let now := h.holdCauses n
  let c1 := if (List.zip now c.safeWas).any fun x => x.1 && !x.2 then { c with holdCmd := c.prevCmd, holdDuty := c.prevDuty }
    else c
  if now = c.safeWas then h else h.setCh n { c1 with safeWas := now }

/-- The hub raises SAFE_ACT, or drops it (05 R141, R143, R173); the command to hold is that before the cause.
The cause byte of SAFE_APPLIED: DESIGN CHOICE, log entry 84. (DEDUCED, log entry 19.) -/
def Hub.settleSafe (h : Hub) (n : Nat) : Hub :=
  let h0 := h.holdTake n
  let act := h0.safeActive n
  let was := h0.flag (CH_STAT_SAFE_ACT.pg n)
  if act && !was then
    let h1 := h0.put (CH_STAT_SAFE_ACT.pg n) 1
    let cause := if h.chFenceSafe n then
        (match ((h.page (chPage n)).causes.filter (fun c => c.code != 2)).head? with
         | some c => c.code | none => 6) else 0x10
    -- what HOLDUP turns off stays deferred (10 R291)
    (if h.chFenceSafe n then h1.cancelDeferred n
        else h1).report (chPage n) 7 0x1806 n sevINFO [(0, 1, cause), (1, 1, h.get (CH_SAFE_SAFE.pg n))]
  else if !act && was then h0.put (CH_STAT_SAFE_ACT.pg n) 0
  else h0

/-- The engine state turns off, and with it starvation ends (06 R200). -/
def Hub.engOff (h : Hub) (n : Nat) : Hub :=
  ((h.put (CH_SECSTAT_ENG.pg n) 0).put (CH_SECSTAT_STARVED.pg n) 0).ch! n fun c => { c with fldCls := none, starve := 0 }

/-- While SEC is fenced, the engine state of a channel equals its safe-state command (06 R202). -/
def Hub.engFenced (h : Hub) (n : Nat) : Hub :=
  if h.en 0x16 && h.fenced 0x16 then
    let h1 := h.holdTake n
    if h1.safeCmd n then h1.put (CH_SECSTAT_ENG.pg n) 1
    else if h1.flag (CH_SECSTAT_ENG.pg n) then h1.engOff n else h1
  else h

/-- Settle the output of channel n by 05 R141 at cycle cyc. `tick`: an ON comes from a change that acts at a tick, so
that of a class-B channel is held off for the budget's decision (10 R286). What is deferred when HOLDUP begins stays
deferred (10 R291). An ON on a command that is on already starts no on-phase (05 R149; DEDUCED, log entry 20). -/
def Hub.settle (h : Hub) (n cyc : Nat) (tick : Bool) : Hub :=
  let h0 := (h.settleSafe n).putb (CH_STAT_FORCED.pg n) (h.forceApplies n && h.lbSupplies)
  let raw := h0.rawCmd n && h0.chMode n != 0
  let st := h0.chSt n
  if st = 0 ∨ st = 4 ∨ st = 6 ∨ st = 7 then (h0.cancelDeferred n).put (CH_STAT_CMD.pg n) 0
  else if st = 1 then
    if !raw then
      let h1 := if h0.chHoldupSafe n && !h0.chFenceSafe n then h0
        else if !h0.rawWith n true || h0.chMode n == 0 then h0.cancelDeferred n
        else if (h0.ch n).tickDefer.isSome then
          (h0.setCh n { h0.ch n with tickDefer := none }).incSat BUD_CNT2_CANCELLED
        else h0
      h1.put (CH_STAT_CMD.pg n) (boolNat (h0.rawCmd n))
    else if h0.flag (CH_STAT_OT.pg n) then h0.put (CH_STAT_CMD.pg n) 1
    else if (h0.ch n).tickDefer.isSome || h0.bud.deferred.any (fun d => d.ch == n) then h0.put (CH_STAT_CMD.pg n) 0
    else if tick && h0.effClass n == 1 && h0.en 0x0D && h0.cfg BUD_CFG_DEFERMAX != 0 && !h0.safeCond n then
      let h1 := h0.setCh n { h0.ch n with tickDefer := some h0.frmNo }
      (h1.put (CH_STAT_CAPPED.pg n) 1).put (CH_STAT_CMD.pg n) 0
    else
      let h1 := h0.takeDuty n cyc
      let next := (h1.ch n).dutyNext.map fun x => h1.dutyFor n x.1
      ((h1.put (CH_APPLIED_DUTY.pg n) (h1.dutyWanted n)).ch! n fun c => { c with nextDuty := next }).turnOn n cyc
  else if !raw then (h0.turnOff n cyc).put (CH_STAT_CMD.pg n) (boolNat (h0.rawCmd n))
  else h0.put (CH_STAT_CMD.pg n) 1

/-- A trip of channel n (05 R160–R164). -/
def Hub.chTrip (h : Hub) (n cause : Nat) (m : TripMeas) (cyc : Nat) : Hub :=
  let att := if h.chSt n = 5 then min 15 (h.get (CH_STAT_ATTEMPTS.pg n) + 1) else h.get (CH_STAT_ATTEMPTS.pg n)
  let h1 := ((h.geyAbort n 1).outOff n cyc false).put (CH_STAT_ATTEMPTS.pg n) att
  let h2 := (h1.put (CH_STAT_LIMITING.pg n) 0).put (CH_STAT_CMD.pg n) 0
  let h3 := (h2.incWrap (CH_TRIPCNT_TRIPS.pg n)).put (CH_TRIP_CAUSE.pg n) cause
  let h4 := (h3.put (CH_TRIP_ATTEMPT.pg n) att).put (CH_TRIP_FRM.pg n) h3.frmNo
  let c := h4.ch n
  let h5 := (h4.setCh n { c with quiet := 0, i2t := if cause = 3 then 0 else c.i2t }).put (CH_TEMP_I2T.pg n)
    (if cause = 3 then 0 else h4.get (CH_TEMP_I2T.pg n))
  let h6 := if cause = 4 then h5.put (CH_STAT_OT.pg n) 1 else h5
  let h7 := (h6.cancelDeferred n).report (chPage n) 0 0x1801 n sevWARN
    [(0, 1, cause), (2, 2, m.peak.toNat), (4, 1, m.temp.toNat), (5, 1, att), (6, 2, m.vlb.toNat)]
  if h.get (CH_RETRY_MAX.pg n) ≤ att then
    let h8 := (h7.chTo n 6).report (chPage n) 1 0x1802 n sevFAULT [(0, 1, cause), (1, 1, att)]
    h8.fence (chPage n) 2
  else h7.chTo n 4

/-- The latch cause has cleared: below 140 °C and no short to supply (05 R164). -/
def Hub.latchCleared (h : Hub) (n : Nat) : Bool :=
  decide (h.geti (CH_TEMP_TEMP.pg n) < 280) && !h.flag (CH_STAT_SSUP.pg n)

/-- The channel enters DISABLED from whatever state (05 R165); SSUP clears with it (DEDUCED, log entry 83). -/
def Hub.chDrop (h : Hub) (n : Nat) : Hub :=
  let b := (((h.geyAbort n 3).outOff n 0 true).cancelDeferred n).ch! n fun c => { c with i2t := 0, tickDefer := none }
  let d := (((b.chTo n 0).put (CH_STAT_ATTEMPTS.pg n) 0).put (CH_STAT_RETRY_PEND.pg n) 0).put
    (CH_STAT_LIMITING.pg n) 0
  ((d.put (CH_TEMP_I2T.pg n) 0).put (CH_STAT_CMD.pg n) 0).put (CH_STAT_SSUP.pg n) 0

/-- EN = 0 acts at a tick (05 R164, R165). -/
def Hub.chDisable (h : Hub) (n : Nat) : Hub :=
  if h.chSt n = 6 then
    if h.latchCleared n then (h.chDrop n).dropCause (chPage n) 2 else h
  else if h.chSt n = 0 then h
  else h.chDrop n

/-- EN = 1 acts at a tick (05 R165); CH_PRV.ION is 0 after enable (06 R204). -/
def Hub.chEnable (h : Hub) (n : Nat) : Hub :=
  if h.chSt n = 0 ∧ ¬ h.hasCause (chPage n) 2 then (h.chTo n 1).put (CH_PRV_ION.pg n) 0 else h

/-- A release of a latched channel (05 R164; DEDUCED, log entry 83). -/
def Hub.chReleased (h : Hub) (n : Nat) : Hub :=
  if h.chSt n = 6 then
    let h1 := (h.put (CH_STAT_ATTEMPTS.pg n) 0).put (CH_STAT_RETRY_PEND.pg n) 0
    (h1.chTo n (boolNat (h.en (chPage n)))).ch! n fun c => { c with freed := true }
  else h

/-- BLOCKED is entered (05 R159). -/
def Hub.chBlock (h : Hub) (n mv how cyc : Nat) : Hub :=
  let h1 := ((h.geyAbort n 2).outOff n cyc false).cancelDeferred n
  let h2 := ((h1.chTo n 7).put (CH_STAT_LIMITING.pg n) 0).put (CH_STAT_CMD.pg n) 0
  (h2.put (CH_STAT_SSUP.pg n) 1).report (chPage n) 4 0x1805 n sevFAULT [(0, 2, mv), (2, 1, how)]

/-- wait_frames of 05 R161. -/
def Hub.waitFrames (h : Hub) (n : Nat) : Nat :=
  max (h.get (CH_RETRY_WAIT.pg n) * 10) (19 * h.get (CH_LIM_TLIM.pg n))

/-! ## Metering and the work of a tick (05 R156, R163, R168–R171) -/

/-- The I²t accumulator after a frame of average current i mA (05 R156). -/
def i2tStep (acc : Nat) (iAvg iocMa : Int) : Nat :=
  (max 0 ((acc : Int) + floorDiv (iAvg * iAvg - iocMa * iocMa) 10000)).toNat

/-- A tick of the frames that a channel's state, open load and quiet time count (05 R154, R158–R163); they
run in every mode that counts frames. -/
def Hub.chClock (h : Hub) (n : Nat) : Hub :=
  h.ch! n fun c => { c with
    stRun := min 100000 (c.stRun + 1)
    openRun := if h.flag (CH_STAT_OPEN.pg n) then min 100000 (c.openRun + 1) else 0
    quiet := if h.chSt n = 4 ∨ h.chSt n = 6 then 0 else min 100000 (c.quiet + 1) }

/-- The frame charge q (2^-8 µC, negative for reverse current) of channel n is digitised (05 R168–R170, R156). The
energy of the frame in µJ goes to the budget window (10 R279). The charge and the energy of reverse current are taken
back (DEDUCED, log entry 63); the frame counts in CH_ONT by the command at its end (DEDUCED, log entry 83). -/
def Hub.meterCh (h : Hub) (n : Nat) (q : Int) : Hub × Nat :=
  let c := h.ch n
  let lost (o : Nat) : Bool := c.cntLost.contains o
  let qa : Int := c.qFrac + q
  let q48 := if lost 0x1A ∨ lost 0x1B then 0 else wrapTo 48 (h.getPair (CH_Q_LO_Q.pg n) (CH_Q_HI_Q.pg n) + qa / 256)
  let avg := truncDiv (q * 10) 256
  let ea : Int := c.eFrac + (h.get LB_MEAS_V * 10 : Nat) * q
  let de := ea / 256000
  let e48 := if lost 0x1C ∨ lost 0x1D then 0 else wrapTo 48 (h.getPair (CH_E_LO_E.pg n) (CH_E_HI_E.pg n) + de)
  let ocMa : Int := h.get (CH_OCL_IOC.pg n) * 10
  let acc := if h.chSt n = 0 then 0 else i2tStep c.i2t avg ocMa
  let h1 := (h.putPair (CH_Q_LO_Q.pg n) (CH_Q_HI_Q.pg n) q48).putPair (CH_E_LO_E.pg n) (CH_E_HI_E.pg n) e48
  let h2 := (h1.puti (CH_IMEAS_AVG.pg n) avg).putSat (CH_TEMP_I2T.pg n) (acc / 100000)
  let h3 := if c.onAll then h2.put (CH_PRV_ION.pg n) (wrapTo 16 avg) else h2
  let h4 := if lost 0x1E then h3.put (CH_ONT_ONT.pg n) 0
            else if h.flag (CH_STAT_CMD.pg n) then h3.incWrap (CH_ONT_ONT.pg n) else h3
  let h5 := if lost 0x1F then h4.put (CH_SWCNT_SW.pg n) 0 else h4
  let h6 := if lost 0x20 then h5.put (CH_TRIPCNT_TRIPS.pg n) 0 else h5
  let h7 := [0x42, 0x43, 0x44].foldl (fun a o => if lost o then a.setWord (chPage n * 256 + o) 0 else a) h6
  let off := if h7.flag (CH_STAT_OUT.pg n) then 0 else min 10 (c.offRun + 1)
  ((h7.ch! n fun c => { c with
    qFrac := (qa % 256).toNat, eFrac := (ea % 256000).toNat, i2t := acc, cntLost := [], offRun := off,
    lsClosed := c.lsClosed && !Config.freewheelOver n h.mea.ticks }).chClock n, de.toNat)

/-- Hold begins: the hit is over, and an on capture's window closes with the start of chopping (05 R152, 07 R217). -/
def Hub.hitEnd (h : Hub) (n : Nat) : Hub := (h.ch! n fun c => { c with hit := false }).geyClose n 0

/-- THIT has run by engine cycle e (05 R152). -/
def Hub.hitOver (h : Hub) (n : Nat) (e : Int) : Bool :=
  (h.ch n).hit && h.flag (CH_STAT_OUT.pg n) && decide ((h.ch n).hitStart + (h.get (CH_HIT_THIT.pg n) * 4000 : Nat) ≤ e)

/-- What a tick finds changed under an output that is on: a hit that has run its time ends, a new drive mode enters hold
without a hit (05 R152), and a new mode or duty closes the detection window of a capture (07 R216). -/
def Hub.modeDutySeen (h : Hub) (n : Nat) : Hub :=
  let c := h.ch n
  let h1 := if h.hitOver n (h.eng 0) then h.hitEnd n else h
  let mode := h.chMode n
  let duty := h.get (CH_PWM_DUTY.pg n)
  let h2 := if mode = c.modeSeen then h1 else h1.ch! n fun c => { c with hit := false }
  let h3 := if mode = c.modeSeen ∧ duty = c.dutySeen then h2 else h2.geyShut n
  h3.ch! n fun c => { c with modeSeen := mode, dutySeen := duty }

/-- An ON of this tick comes from a change of CH_FORCE, a change of the hub's mode, the release of a fence or the start of a
retry attempt (10 R286). (DEDUCED, log entry 64.) -/
def Hub.tickEdge (h : Hub) (n : Nat) : Bool :=
  let c := h.ch n
  c.forceSeen != h.get (CH_FORCE_FORCE.pg n) || c.hubSeen != h.mode || (c.safeWas.any id && !h.holdCause n)
    || c.freed || h.flag (CH_STAT_RETRY_PEND.pg n)

/-- The wait after a trip has been served, and no overtemperature stands in the way (05 R161–R162). -/
def Hub.waitServed (h : Hub) (n : Nat) : Bool :=
  h.chSt n == 4 && decide (h.waitFrames n ≤ (h.ch n).stRun) && !h.flag (CH_STAT_OT.pg n)

/-- The attempt starts if the command is on; else the channel goes to OFF, and its next ON is the attempt (05 R162).  Within a
frame whose P2 has run, a budgeted attempt is an edge of the next frame (10 R286). -/
def Hub.retryWaitEnd (h : Hub) (n : Nat) : Hub :=
  let h1 := ((h.chTo n 1).put (CH_STAT_RETRY_PEND.pg n) 1).settle n 0 true
  if h.frm.p2Due then h1 else h1.ch! n fun c => { c with tickDefer := c.tickDefer.map fun _ => wrapTo 32 (h.frmNo + 1) }

/-- At a tick: the end of a wait, the phase, the duty, the settled output, and what the next tick must remember. -/
def Hub.chTick (h0 : Hub) (n : Nat) : Hub :=
  let h := if h0.waitServed n then (h0.chTo n 1).put (CH_STAT_RETRY_PEND.pg n) 1 else h0
  let edge := h.tickEdge n
  let h1 := ((h.put (CH_APPLIED_PHASE.pg n) (h.phaseNow n)).engFenced n).modeDutySeen n
  let h2 := if h1.safeCond n then h1.settle n 0 edge else h1
  let h3 := (h2.newDuty n 0).settle n 0 edge
  let on := h3.chSt n == 2 || h3.chSt n == 3 || h3.chSt n == 5
  let capped := !h3.safeActive n && ((h3.ch n).tickDefer.isSome || h3.bud.deferred.any (fun d => d.ch == n)
    || (on && h3.chScale n < 1024))
  let h4 := h3.putb (CH_STAT_CAPPED.pg n) capped
  h4.setCh n { h4.ch n with prevCmd := h4.flag (CH_STAT_CMD.pg n), prevDuty := h4.get (CH_APPLIED_DUTY.pg n),
                            onAll := h4.flag (CH_STAT_OUT.pg n), freed := false,
                            forceSeen := h4.get (CH_FORCE_FORCE.pg n), hubSeen := h4.mode }

/-- FRM_NO is set otherwise than by the passing of a frame, or wraps: the on-phase in progress and the hit keep their times,
though the engine cycle of 05 R146 jumps by the given cycles. (DEDUCED, log entry 20.) -/
def Hub.rebase (h : Hub) (d : Int) : Hub :=
  if d = 0 then h
  else h.chans! fun l => l.map fun c => { c with
    pStart := c.pStart + d, onEnd := c.onEnd + d, hitStart := c.hitStart + d, limSince := c.limSince.map (· + d) }

/-- A change of CH_FORCE acts (05 R144). -/
def Hub.chForceActs (h : Hub) (n old new : Nat) (port : Port) : Hub :=
  if old = new then h
  else h.report (chPage n) 9 0x1808 n sevINFO
    [(0, 1, old), (1, 1, new), (2, 1, if port = .w then 1 else 0)]

end Sys2Proof.Machine
end

