-- ==== Sys2Proof/Machine/Section.lean ====
section
/-! DEFINITION. The section engine (chapter 06) and the leads that GEYSER supplies to it (07 R222–R223):
reference travel, odometers, lanes, evaluation and arming, edges at their instants, starvation, previews. -/

namespace Sys2Proof.Machine

abbrev pgSEC : Nat := 0x16

/-- The hub measures travel, decides modes and allocates for itself: the lead, or a hub with no string
(06 R176, 04 R108, 10 R283). (DEDUCED, log entry 30.) -/
def Hub.leads (h : Hub) : Bool := h.flag DEV_POS_LEAD || !h.flag DEV_POS_VALID

/-! ## Learned leads (07 R222–R223) -/

/-- The two learned records of a channel as register fields: L, COUNT, V, T, state, direction 0 on, 1 off. -/
def recL (n dir : Nat) : Fld := if dir = 0 then CH_GEYLON_L.pg n else CH_GEYLOFF_L.pg n
def recCount (n dir : Nat) : Fld := if dir = 0 then CH_GEYLON_COUNT.pg n else CH_GEYLOFF_COUNT.pg n
def recV (n dir : Nat) : Fld := if dir = 0 then CH_GEYLONPT_V.pg n else CH_GEYLOFFPT_V.pg n
def recT (n dir : Nat) : Fld := if dir = 0 then CH_GEYLONPT_T.pg n else CH_GEYLOFFPT_T.pg n
def recState (n dir : Nat) : Fld := if dir = 0 then CH_GEYSTAT_LST_ON.pg n else CH_GEYSTAT_LST_OFF.pg n
def confLead (n dir : Nat) : Fld := if dir = 0 then CH_LEADON_LEAD.pg n else CH_LEADOFF_LEAD.pg n

/-- GEY_KV of the channel's group (07 R229). -/
def Hub.geyKv (h : Hub) (n : Nat) : Int :=
  let g := n / 8
  if g % 2 = 0 then h.geti (GEY_KV_KVA.nth (g / 2)) else h.geti (GEY_KV_KVB.nth (g / 2))

/-- State of a learned record and the lead it supplies in µs (07 R222; every record reads NONE while the GEY
page or ADC3 is fenced, 21 R521–R522). -/
def Hub.learnedLead (h : Hub) (n dir : Nat) : Nat × Nat :=
  let l : Int := h.get (recL n dir)
  let dv : Int := (h.get LB_MEAS_V : Int) - h.get (recV n dir)
  let dt : Int := h.geti (CH_TEMP_TEMP.pg n) - h.geti (recT n dir)
  if h.get (recCount n dir) = 0 ∨ h.fenced pgGEY ∨ h.adcFenced 3 then (0, h.get (confLead n dir))
  else if dv.natAbs ≤ h.get GEY_BAND_VBAND ∧ dt.natAbs ≤ h.get GEY_BAND_TBAND then (1, (floorDiv (l + 8) 16).toNat)
  else if h.get GEY_VXMAX_VX < dv.natAbs then (3, h.get (confLead n dir))
  else (2, (clampInt 0 500000 (floorDiv (l * 100 + h.geyKv n * dv + 800) 1600)).toNat)

/-- Set the record's state with its flags, and give its lead (07 R222–R223). -/
def Hub.classRecord (h : Hub) (n dir : Nat) : Hub × Nat :=
  let r := h.learnedLead n dir
  let old := h.get (recState n dir)
  let h1 := h.put (recState n dir) r.1
  let h2 := if r.1 = 2 ∧ (old = 0 ∨ old = 1) then h1.evt (chPage n) 18 else h1
  let h3 := if r.1 = 3 ∧ old ≠ 3 then
      h2.report (chPage n) 19 0x1821 n sevWARN [(0, 1, dir), (2, 2, h.get (recV n dir)), (4, 2, h.get LB_MEAS_V)]
    else h2
  (h3, r.2)

/-- The effective leads of a channel are latched at the start of P1 (06 R194, 07 R222). -/
def Hub.latchLeads (h : Hub) (n : Nat) : Hub :=
  let a := h.classRecord n 0
  let b := a.1.classRecord n 1
  let learned := h.flag (CH_LANECTL_LEADSRC.pg n)
  (b.1.put (CH_LEADEFF_ON_LEAD.pg n) (if learned then a.2 else h.get (CH_LEADON_LEAD.pg n))).put
    (CH_LEADEFF_OFF_LEAD.pg n) (if learned then b.2 else h.get (CH_LEADOFF_LEAD.pg n))

/-! ## Reference travel (06 R176–R179) -/

def sat32 (v : Int) : Int := clampInt (-2147483648) 2147483647 v

/-- Speed is the source of the frame just ended (06 R176). (DEDUCED, log entry 25.) -/
def Hub.speedInUse (h : Hub) : Bool :=
  match h.get SEC_TRVSRC_SRC with
  | 2 => true
  | 3 => h.flag SEC_STAT_TRVACT && h.sec.count == 0
  | _ => false

/-- Speed is in use and has not been written in time (06 R178). (DEDUCED, log entry 25.) -/
def Hub.speedStaleDue (h : Hub) : Bool :=
  h.leads && h.speedInUse && !h.flag SEC_STAT_SPDSTALE && decide (h.get SEC_SPDTMO_FRAMES ≤ h.sec.speedAge)

/-- SPEED_STALE: 0 is integrated from the next tick until the next write. -/
def Hub.speedStale (h : Hub) : Hub :=
  (h.put SEC_STAT_SPDSTALE 1).report pgSEC 2 0x1303 0 sevWARN [(0, 2, h.get SEC_SPEED_SPEED)]

/-- HYBRID turns to speed after 500 frames without a count, and back to pulses with the first count; a follower ignores its
SEC_TRVSRC (06 R176). -/
def Hub.fallbackDue (h : Hub) : Bool :=
  h.leads && h.get SEC_TRVSRC_SRC == 3 &&
    (if h.flag SEC_STAT_TRVACT then h.sec.count != 0 else h.sec.count == 0 && decide (500 ≤ h.sec.zeroRun))

/-- TRV_FALLBACK (06 R176, R178, R208). -/
def Hub.trvFallback (h : Hub) : Hub :=
  let speed := !h.flag SEC_STAT_TRVACT
  ((h.putb SEC_STAT_TRVACT speed).sec! fun x => { x with rem := if speed then x.rem
      else 0 }).report pgSEC 5 0x1306 0 sevINFO
    [(0, 1, boolNat speed)]

/-- Δd_ref of the frame just ended on the lead, with the running remainder (06 R176–R178). -/
def Hub.drefOf (h : Hub) : Int × Int :=
  match h.get SEC_TRVSRC_SRC with
  | 0 => (0, h.sec.rem)
  | _ =>
    if h.speedInUse then
      let sp : Int := if h.flag SEC_STAT_SPDSTALE then 0 else h.geti SEC_SPEED_SPEED
      let acc := sp * 65536 + h.sec.rem
      (floorDiv acc 1000, acc % 1000)
    else (sat32 (h.sec.count * (h.get SEC_TRVSCALE_SCALE : Int)),
          if h.get SEC_TRVSRC_SRC = 3 ∧ h.sec.count ≠ 0 then 0 else h.sec.rem)

/-- At a tick the lead closes the frame's count: Δd_ref of the ended frame, with κ for the new one (06 R177–R179).
The last 64 pairs are kept for replay (06 R183). -/
def Hub.closeTravel (h : Hub) (frm : Nat) (kappa : Int) : Hub :=
  let d := h.drefOf
  let t : Travel := ⟨frm, d.1, kappa⟩
  let zr := if h.sec.count = 0 then min 65535 (h.sec.zeroRun + 1) else 0
  h.sec! fun x => { x with
    rem := d.2, drefNow := d.1, count := 0, zeroRun := zr, queue := x.queue ++ [t],
    kappaNow := kappa, last64 := (t :: x.last64).take 64, speedAge := min 65535 (x.speedAge + 1),
    needFrm := if x.haveTravel then x.needFrm else frm, haveTravel := true }

/-- Levels of the travel inputs that have held for 2 µs (06 R177). (PRESUMED, log entry 24.) -/
def quadStep (a b a' b' : Bool) : Int :=
  -- phase order A leads B: 00 → 10 → 11 → 01 → 00
  let pos (x y : Bool) : Int := match x, y with
    | false, false => 0 | true, false => 1 | true, true => 2 | false, true => 3
  match (pos a' b' - pos a b) % 4 with
  | 1 => 1
  | 3 => -1
  | _ => 0

/-- An accepted edge of TRV_A or TRV_B (06 R177): only the hub that measures travel counts it, and no travel counts in NAP
(R176, R180). (PRESUMED, log entry 24.) -/
def Hub.travelEdge (h : Hub) (a b : Bool) : Hub :=
  let s := h.sec
  if !h.leads || h.mode == mNAP then h.sec! fun x => { x with trvA := a, trvB := b }
  else
  let inv (v : Int) : Int := if h.flag SEC_TRVSRC_DIRINV then -v else v
  if h.flag SEC_TRVSRC_DECODE then
    let v : Int := if a && !s.trvA then inv (if b then -1 else 1) else 0
    (h.sec! fun x => { x with trvA := a, trvB := b, count := x.count + v }).puti SEC_PULSES_COUNT
      (h.get SEC_PULSES_COUNT + v)
  else if a != s.trvA && b != s.trvB then
    ((h.sec! fun x => { x with trvA := a, trvB := b }).incSat SEC_CNT_QERR).evt pgSEC 7
  else
    let v := inv (quadStep s.trvA s.trvB a b)
    (h.sec! fun x => { x with trvA := a, trvB := b, count := x.count + v }).puti SEC_PULSES_COUNT
      (h.get SEC_PULSES_COUNT + v)

/-! ## Odometers (06 R180–R182) -/

def Hub.odo (h : Hub) (n : Nat) : Nat := h.getPair (CH_ODO_LO_ODO.pg n) (CH_ODO_HI_ODO.pg n)

/-- The channel increment of 06 R180. -/
def chanStep (dref kap y : Int) : Int := dref + floorDiv (dref * (kap * y)) 16777216000

/-- One channel advances by d: odometer, history, speed and REVERSE (06 R180–R181). -/
def Hub.odoStep (h : Hub) (n : Nat) (d : Int) : Hub :=
  let c := h.ch n
  let hist := (d :: c.hist).take 8
  let v := floorDiv (hist.foldl (· + ·) 0) 8
  let h1 := h.putPair (CH_ODO_LO_ODO.pg n) (CH_ODO_HI_ODO.pg n) (wrapTo 48 ((h.odo n : Int) + d))
  let h2 := (h1.setCh n { c with hist := hist, dLast := d, vNow := v }).puti (CH_SPEED_V.pg n) (sat32 v)
  if d < 0 then
    if h2.flag (CH_SECSTAT_REVERSE.pg n) then h2 else (h2.put (CH_SECSTAT_REVERSE.pg n) 1).evt (chPage n) 14
  else if 0 < d then h2.put (CH_SECSTAT_REVERSE.pg n) 0 else h2

/-- The zero branch of 06 R180: reference and odometers to 0, increments 0, distance order references cleared. -/
def Hub.zeroAll (h : Hub) : Hub :=
  let h1 := h.putPair SEC_REFODO_LO_ODO SEC_REFODO_HI_ODO 0
  h1.chList.foldl (fun a n => (a.putPair (CH_ODO_LO_ODO.pg n) (CH_ODO_HI_ODO.pg n) 0).ch! n
    (fun c => { c with dLast := 0, tailD := none })) h1

/-- The zero frame of 06 R182 is due: the hub zeroes, or finds the frame already past. -/
def Hub.zeroAct (h : Hub) (n : Nat) : Hub :=
  let f := h.get SEC_ZEROAT_FRAME
  let h1 := (h.put SEC_CTL_ZEROARM 0).sec! fun x => { x with zeroDue := false }
  if f = n then (h1.zeroAll).report pgSEC 0 0x1301 0 sevINFO [(0, 4, f)]
  else h1.report pgSEC 1 0x1302 0 sevWARN [(0, 4, f), (4, 4, n)]

/-- One frame of travel is applied (06 R180); `cur` is the present frame, in which the ZERO step itself does the
zeroing, while a caught-up zero frame is zeroed here. -/
def Hub.applyTravel (h : Hub) (t : Travel) (cur : Nat) : Hub :=
  let kap := h.sec.kappaPrev
  let h0 := (h.puti SEC_DREF_DREF t.dref).puti SEC_KAPUSED_KAPPA kap
  let zero := h0.flag SEC_CTL_ZEROARM && h0.get SEC_ZEROAT_FRAME == t.frm
  let h1 := h0.sec! fun x => { x with kappaPrev := t.kappa, needFrm := wrapTo 32 (t.frm + 1) }
  if zero then
    if t.frm = cur then
      h1.chList.foldl (fun a n => a.ch! n fun c => { c with dLast := 0 }) (h1.sec! fun x => { x with zeroDue := true })
    else h1.zeroAct t.frm
  else
    let h2 := h1.putPair SEC_REFODO_LO_ODO SEC_REFODO_HI_ODO
      (wrapTo 48 ((h1.getPair SEC_REFODO_LO_ODO SEC_REFODO_HI_ODO : Int) + t.dref))
    h2.chList.foldl (fun a n => a.odoStep n (chanStep t.dref kap (a.geti (CH_YOFS_Y.pg n)))) h2

/-- Apply queued travel in frame order, at most `fuel` frames (06 R183). -/
def Hub.applyQueue (fuel : Nat) (h : Hub) (cur : Nat) : Hub :=
  match fuel with
  | 0 => h
  | k + 1 =>
    match h.sec.queue.find? (fun t => t.frm == h.sec.needFrm && decide (diff32 t.frm cur ≤ 0)) with
    | none => h
    | some t =>
      let h1 := h.sec! fun x => { x with queue := x.queue.filter fun u => u.frm != t.frm }
      Hub.applyQueue k (h1.applyTravel t cur) cur

/-! ## Lanes (06 R185–R192) -/

def Entry.action (e : Entry) : Nat := bitsOf e.w1 24 2
def Entry.key (e : Entry) : Nat := bitsOf e.w1 13 1
def Entry.tag (e : Entry) : Nat := bitsOf e.w1 0 8
def Entry.duty (e : Entry) : Nat := bitsOf e.w1 14 10
def Entry.chan (e : Entry) : Nat := bitsOf e.w1 26 6
def Entry.target (e : Entry) : Nat := e.w0.toNat

/-- The effective class of an entry (06 R186, R198). -/
def Hub.entryClass (h : Hub) (n : Nat) (e : Entry) : Nat :=
  match bitsOf e.w1 10 2 with | 1 => 0 | 2 => 1 | 3 => 2 | _ => h.get (CH_CLASS_CLASS.pg n)

abbrev Hub.laneLen (h : Hub) (n : Nat) : Nat := h.get (CH_LANE_LENGTH.pg n)
def Hub.laneFree (h : Hub) (n : Nat) : Nat := h.laneLen n - (h.ch n).lane.length

/-- The outcome an entry gets (06 R187–R189): 0 ACCEPTED, 1 INVALID, 2 FULL, 3 ORDER. -/
def Hub.judgeEntry (h : Hub) (e : Entry) : Nat :=
  let n := e.chan
  if h.nch ≤ n ∨ (e.action = 2 ∧ 1000 < e.duty) ∨ bitsOf e.w1 8 2 ≠ 0 then 1
  else if h.laneLen n ≤ (h.ch n).lane.length then 2
  else
    let ref := if e.key = 0 then (h.ch n).tailD else (h.ch n).tailT
    match ref with
    | some r => if diff32 e.target r < 0 then 3 else 0
    | none => 0

/-- One entry is appended or refused (06 R188, R200, R206–R207).  Answers the outcome. -/
def Hub.appendEntry (h : Hub) (e : Entry) : Hub × Nat :=
  let n := e.chan
  let o := h.judgeEntry e
  match o with
  | 0 =>
    let c := h.ch n
    let c1 := { c with lane := c.lane ++ [e], starve := 0,
                       tailD := if e.key = 0 then some e.target else c.tailD,
                       tailT := if e.key = 1 then some e.target else c.tailT }
    ((h.setCh n c1).put (CH_SECSTAT_STARVED.pg n) 0, 0)
  | 1 => (h.incSat SEC_CNT2_INVAL, 1)
  | o => ((h.incSat (CH_SECCNT1_REFUSED.pg n)).report (chPage n) 15 0x1815 n sevINFO [(0, 1, o), (1, 1, e.tag)], o)

/-- Append a packet's entries in order; stop at the first refusal.  Answers accepted count, outcome, free slots
of the lane last examined, and its channel (06 R188). -/
def Hub.appendAll (h : Hub) (es : List Entry) (acc : Nat) (lastFree lastCh : Nat) : Hub × Nat × Nat × Nat × Nat :=
  match es with
  | [] => (h, acc, 0, lastFree, lastCh)
  | e :: rest =>
    let r := h.appendEntry e
    let free := if e.chan < h.nch then r.1.laneFree e.chan else 0
    if r.2 = 0 then Hub.appendAll r.1 rest (acc + 1) free e.chan else (r.1, acc, r.2, free, e.chan)

/-- Flush a lane; cause as 06 R207 codes it (06 R190). -/
def Hub.flushLane (h : Hub) (n cause : Nat) : Hub :=
  let c := h.ch n
  let k := c.lane.length
  let len := max 1 (h.laneLen n)
  (h.setCh n { c with lane := [], tailD := none, tailT := none,
                      laneHead := (c.laneHead + k) % len }).record 0x1814 n sevINFO
    (payload [(0, 2, k), (2, 1, cause)])

/-! ## Evaluation and arming (06 R193–R199) -/

/-- What the examination of a head finds: wait, late with its r, or an instant in cycles after the tick. -/
inductive Exam | wait | late (r : Int) | arm (cyc : Nat) (r : Int)
  deriving DecidableEq, Repr

/-- The lead of an entry in µs (06 R194). -/
def Hub.entryLead (h : Hub) (n : Nat) (e : Entry) : Nat :=
  if bitsOf e.w1 12 1 = 0 ∨ e.action = 3 then 0
  else if e.action = 0 then h.get (CH_LEADEFF_OFF_LEAD.pg n) else h.get (CH_LEADEFF_ON_LEAD.pg n)

/-- r of 06 R195, in 2^-16 TU. -/
def Hub.distR (h : Hub) (n : Nat) (e : Entry) : Int :=
  let pos := (h.odo n : Int) + h.geti (CH_XOFS_X.pg n) * 655360
  let ld := floorDiv ((h.ch n).vNow * h.entryLead n e) 100
  signed 48 (wrapTo 48 ((e.target : Int) * 65536 - ld - pos))

/-- r of 06 R196, in µs. -/
def Hub.timeR (h : Hub) (n : Nat) (e : Entry) (frm : Nat) : Int :=
  signed 32 (wrapTo 32 ((e.target : Int) - h.entryLead n e - (frm * 100 : Nat)))

/-- Examine a head at frame frm (06 R195–R196); distance heads only when `dist`. -/
def Hub.exam (h : Hub) (n : Nat) (e : Entry) (frm : Nat) (dist : Bool) : Exam :=
  if e.key = 0 then
    let c := h.ch n
    if !dist ∨ c.dLast ≤ 0 ∨ c.vNow ≤ 0 then .wait
    else
      let r := h.distR n e
      if r ≤ 0 then .late r
      else if 2 * c.vNow ≤ r then .wait
      else
        let cyc := truncDiv (r * 40000) c.vNow
        if cyc < 40000 then .late r else .arm cyc.toNat r
  else
    let r := h.timeR n e frm
    if r < 100 then .late r else if 200 ≤ r then .wait else .arm (r.toNat * 400) r

/-- The predicted instant of the OFF after an ON (06 R199); none where it is unknown. -/
def Hub.predict (h : Hub) (n : Nat) (e : Entry) (frm : Nat) (dist : Bool) : Option Int :=
  if e.key = 0 then
    let c := h.ch n
    if !dist ∨ c.dLast ≤ 0 ∨ c.vNow ≤ 0 then none
    else
      let r := h.distR n e
      let t := truncDiv (r * 40000) c.vNow
      some (if r ≤ 0 ∨ t < 40000 then 40000 else t)
  else
    let r := h.timeR n e frm
    some (if r < 100 then 40000 else r * 400)

/-- Insert an armed edge by instant, after those of the same instant. -/
def insertArmed (a : Armed) : List Armed → List Armed
  | [] => [a]
  | b :: bs => if diff32 a.frm b.frm < 0 ∨ (a.frm = b.frm ∧ a.cyc < b.cyc) then a :: b :: bs else b :: insertArmed a bs

/-- Engine state just before an instant: the armed edges up to it have acted (06 R199). -/
def engBefore (s : Bool) (l : List Armed) (frm cyc : Nat) : Bool :=
  let acted := l.filter fun a => decide (diff32 a.frm frm < 0) || (a.frm == frm && decide (a.cyc ≤ cyc))
  acted.foldl (fun a e => match e.kind with | .on => true | .off => false | .starve => false | _ => a) s

def Entry.kind (e : Entry) : ArmKind :=
  match e.action with | 0 => .off | 1 => .on | 2 => .duty e.duty | _ => .mark

/-- The head leaves its lane. -/
def Hub.popHead (h : Hub) (n k : Nat) : Hub :=
  h.ch! n fun c => { c with lane := c.lane.drop k, laneHead := (c.laneHead + k) % max 1 (h.laneLen n) }

/-- r as the LATE record shows it: TU for distance, µs for time (06 R207). -/
def lateR (e : Entry) (r : Int) : Nat := if e.key = 0 then wrapTo 32 (floorDiv r 65536) else wrapTo 32 r

/-- One head of channel n is acted on; answers the entries consumed, 0 to stop (06 R193, R197, R199). -/
def Hub.evalHead (h : Hub) (n frm : Nat) (dist : Bool) : Hub × Nat :=
  let c := h.ch n
  match c.lane with
  | [] => (h, 0)
  | e :: rest =>
    if e.bad then
      let slot := (h.get (CH_LANE_BASE.pg n) + c.laneHead) % 16384
      let h1 := ((h.flushLane n 1).fence (chPage n) 1).clearCause (chPage n) 1
      ((h1.geyAbort n 3).report (chPage n) 16 0x1813 n sevFAULT [(0, 2, slot)], 0)
    else match h.exam n e frm dist with
    | .wait => (h, 0)
    | x =>
      let next := wrapTo 32 (frm + 1)
      let pol := h.flag (CH_LANECTL_LATEPOL.pg n)
      let late : Bool := match x with | .late _ => true | _ => false
      let h1 := match x with
        | .late r => (h.incSat (CH_SECCNT0_LATE.pg n)).report (chPage n) 10 0x1810 n sevWARN
            [(0, 1, e.tag), (1, 1, e.action), (2, 1, e.key), (3, 1, boolNat pol), (4, 4, lateR e r)]
        | _ => h
      if late && pol then (h1.popHead n 1, 1)
      else
        let t1 : Int := match x with | .arm cy _ => (cy : Int) | _ => 40000
        let dwell := h1.get (CH_MINDWELL_DWELL.pg n) * 40000
        let off? := match rest with | e2 :: _ => if e2.action = 0 then some e2 else none | [] => none
        let pair := e.action = 1 ∧ dwell ≠ 0 ∧ !engBefore (h1.engState n) c.armed next (t1 - 40000).toNat
        let collapse : Option (Entry × Int) :=
          if pair then
            match off? with
            | some e2 => match h1.predict n e2 frm dist with
              | some t2 => if t2 - t1 < (dwell : Int) then some (e2, t2 - t1) else none
              | none => none
            | none => none
          else none
        match collapse with
        | some (e2, dt) =>
          ((((h1.popHead n 2).incSat (CH_SECCNT0_COLLAPSED.pg n)).report (chPage n) 11 0x1811 n sevINFO
            [(0, 1, e.tag), (1, 1, e2.tag), (4, 4, wrapTo 32 dt)]), 2)
        | none =>
          let a : Armed := { frm := next, cyc := (t1 - 40000).toNat, kind := e.kind, tag := e.tag,
                             cls := h1.entryClass n e, late := late, key := e.key,
                             r := match x with | .arm _ r => lateR e r | .late r => lateR e r | .wait => 0 }
          ((h1.popHead n 1).ch! n fun d => { d with armed := insertArmed a d.armed }, 1)

/-- Examine heads of channel n until it waits or four entries are consumed (06 R193). -/
def Hub.evalChan (fuel : Nat) (h : Hub) (n frm : Nat) (dist : Bool) (taken : Nat) : Hub :=
  match fuel with
  | 0 => h
  | k + 1 =>
    if 4 ≤ taken then h
    else
      let r := h.evalHead n frm dist
      if r.2 = 0 then r.1 else Hub.evalChan k r.1 n frm dist (taken + r.2)

/-- Starvation travel of channel n (06 R200). -/
def Hub.starveChan (h : Hub) (n : Nat) : Hub :=
  let c := h.ch n
  if h.ruleMode = mFIELD ∧ h.engState n ∧ c.lane.isEmpty ∧ 0 < c.dLast then
    h.setCh n { c with starve := c.starve + c.dLast.toNat }
  else h

/-- STARVED is due on channel n (06 R200). -/
def Hub.starveReached (h : Hub) (n : Nat) : Bool :=
  h.get (CH_STARVE_TU.pg n) != 0 && decide (h.get (CH_STARVE_TU.pg n) * 65536 ≤ (h.ch n).starve)
    && !h.flag (CH_SECSTAT_STARVED.pg n) && h.ruleMode == mFIELD

/-- The whole of P1 for frame n (06 R180, R183, R193–R200, 07 R222). -/
def Hub.sectionP1 (h : Hub) : Hub :=
  let n := h.frmNo
  let h1 := h.chList.foldl Hub.latchLeads h
  let wasGap := h1.flag SEC_STAT_GAP
  let h2 := Hub.applyQueue 16 (h1.chList.foldl (fun a k => a.ch! k fun c => { c with dLast := 0 }) h1) n
  let inStep := !h2.sec.haveTravel || h2.sec.needFrm == wrapTo 32 (n + 1)
  let h3 :=
    if inStep then h2.put SEC_STAT_GAP 0
    else if wasGap then h2
    else ((h2.put SEC_STAT_GAP 1).incSat SEC_CNT2_GAPS |>.sec! fun x => { x with gapFirst := h2.sec.needFrm }).report
      pgSEC 3 0x1304 0 sevWARN [(0, 4, h2.sec.needFrm), (4, 1, h2.sec.queue.length)]
  let h3 := h3.putSat SEC_STAT_QUEUED (if inStep then 0 else h3.sec.queue.length)
  -- a zero frame before the present one is missed (06 R182), unless it is among the frames of a gap that is still to be
  -- caught up (R183)
  let f := h3.get SEC_ZEROAT_FRAME
  let h4 := if h3.flag SEC_CTL_ZEROARM ∧ diff32 f n < 0 ∧ (!h3.sec.haveTravel ∨ diff32 f h3.sec.needFrm < 0) then
      h3.sec! fun x => { x with zeroDue := true } else h3
  if h4.en pgSEC && !h4.fenced pgSEC then
    let go := h4.chList.filter fun k => 0 < h4.laneLen k
    let h5 := go.foldl (fun a k => Hub.evalChan 5 a k n inStep 0) h4
    if inStep then go.foldl Hub.starveChan h5 else h5
  else h4

/-- The OFF at the start of the next frame. -/
def Hub.starveEdge (h : Hub) : Armed := { frm := wrapTo 32 (h.frmNo + 1), cyc := 0, kind := .starve, tag := 0, cls := 0 }

/-- STARVED (06 R200): once per episode, with an OFF at the start of the next frame where EMPTYACT asks for it. -/
def Hub.starved (h : Hub) (n : Nat) : Hub :=
  let off := h.flag (CH_LANECTL_EMPTYACT.pg n)
  let h1 := (h.put (CH_SECSTAT_STARVED.pg n) 1).report (chPage n) 12 0x1812 n sevWARN [(0, 1, boolNat off)]
  if off then h1.ch! n fun c => { c with armed := insertArmed h.starveEdge c.armed } else h1

/-! ## Gaps (06 R183–R184) -/

/-- The first frame from `f` on whose travel has not come, looking at most `fuel` frames ahead. -/
def Hub.firstMissing (fuel : Nat) (h : Hub) (f : Nat) : Nat :=
  match fuel with
  | 0 => f
  | k + 1 => if h.sec.queue.any (fun t => t.frm == f) then Hub.firstMissing k h (wrapTo 32 (f + 1)) else f

/-- A frame of travel reaches a follower; what is past or known already changes nothing. (DEDUCED, log entry 85.) -/
def Hub.takeTravel (h0 : Hub) (t : Travel) : Hub :=
  let h := h0.sec! fun x => if decide (diff32 t.frm x.kapFrm ≤ 0) && x.haveTravel then x
    else { x with kapFrm := t.frm, kapLast := t.kappa }
  if !h.sec.haveTravel then
    -- κ of the frame before is that of the TICK before, where that one came (06 R180, R184)
    let kap := if wrapTo 32 (h0.sec.kapFrm + 1) = t.frm then h0.sec.kapLast else h0.sec.kappaPrev
    h.sec! fun x => { x with haveTravel := true, needFrm := t.frm, queue := [t], kappaPrev := kap }
  else if diff32 t.frm h.sec.needFrm < 0 ∨ h.sec.queue.any (fun u => u.frm == t.frm) then h
  else h.sec! fun x => { x with queue := x.queue ++ [t] }

/-- A gap that 64 frames have not closed (06 R184). -/
def Hub.desyncDue (h : Hub) : Bool := h.flag SEC_STAT_GAP && decide (64 ≤ diff32 h.frmNo h.sec.gapFirst)

/-- DESYNC: lanes are flushed, the missing travel is dropped, and increments apply again from the next valid TICK. -/
def Hub.desync (h : Hub) : Hub :=
  let h1 := (h.chList.filter fun n => 0 < h.laneLen n).foldl (fun a n => a.flushLane n 2) h
  let h2 := ((h1.put SEC_STAT_GAP 0).put SEC_STAT_QUEUED 0).sec! fun x => { x with queue := [], haveTravel := false }
  (h2.setFlag SEC_STAT_DESYNC).report pgSEC 4 0x1305 0 sevFAULT [(0, 4, h.sec.gapFirst)]

/-! ## Edges at their instants (06 R198, R201–R202) -/

/-- One armed edge acts on the engine state, under a force as well (06 R202; DEDUCED, log entry 83). -/
def Hub.actEdge (h : Hub) (n : Nat) (a : Armed) : Hub :=
  let m := h.ruleMode
  match a.kind with
  | .release => h.ch! n fun c => { c with tickDefer := none }
  | .starve => if h.en pgSEC && !h.fenced pgSEC && m == mFIELD then h.engOff n else h
  | .mark =>
    if !h.en pgSEC || h.fenced pgSEC then h
    else
      let h1 := (h.put (CH_LASTMARK_TAG.pg n) a.tag).put (CH_LASTMARK_FRM.pg n) h.frmNo
      ((h1.incWrap (CH_SECCNT2_EXEC.pg n)).put (CH_SECSTAT_LASTTAG.pg n) a.tag).evt (chPage n) 13
  | k =>
    if !h.en pgSEC || h.fenced pgSEC then h
    else if m = mREADY ∨ m = mTRANSPORT ∨ m = mSERVICE then h.incSat (CH_SECCNT1_SKIPPED.pg n)
    else if m = mFIELD then
      let h1 := (h.incWrap (CH_SECCNT2_EXEC.pg n)).put (CH_SECSTAT_LASTTAG.pg n) a.tag
      match k with
      | .on => ((h1.put (CH_SECSTAT_ENG.pg n) 1).put (CH_SECSTAT_ECLASS.pg n) a.cls).ch! n
          fun c => { c with fldCls := some a.cls }
      | .duty d =>
        let h2 := (h1.put (CH_PWM_DUTY.pg n) d).ch! n fun c => { c with dutySeen := d }
        if d = h.get (CH_PWM_DUTY.pg n) then h2 else h2.geyShut n
      | _ => h1.engOff n
    else h

/-- Armed edges of channel n leave and act in lane order at cycle cyc, and the resulting state reaches the output; an OFF
that takes the command away cancels an ON that the budget has deferred (06 R198, 10 R287). -/
def Hub.edgesAct (h : Hub) (n : Nat) (l : List Armed) (cyc : Nat) : Hub :=
  let h1 := h.ch! n fun c => { c with armed := c.armed.drop l.length }
  let h2 := l.foldl (fun x b => x.actEdge n b) h1
  let off := l.any (fun b => b.kind == .off || b.kind == .starve) && !h2.rawCmd n
  let h3 := if off then h2.cancelDeferred n else h2
  (h3.newDuty n cyc).settle n cyc false

/-- The armed edges of channel n at its next due instant. -/
def Hub.edgeTimer (h : Hub) (n : Nat) : Hub :=
  match (h.ch n).armed with
  | [] => h
  | a :: _ => h.edgesAct n ((h.ch n).armed.takeWhile fun b => b.frm == a.frm && b.cyc == a.cyc) a.cyc

def ArmKind.action : ArmKind → Nat | .off | .starve => 0 | .on | .release => 1 | .duty _ => 2 | .mark => 3

/-- An edge whose instant has passed when the work that armed it is done counts as late, whatever LATEPOL says; one that
was late already has been counted (06 R203). (DEDUCED, log entry 26.) -/
def Hub.lateEdge (h : Hub) (n : Nat) (a : Armed) : Hub :=
  if a.late || a.kind == .starve || a.kind == .release then h
  else (h.incSat (CH_SECCNT0_LATE.pg n)).report (chPage n) 10 0x1810 n sevWARN
    [(0, 1, a.tag), (1, 1, a.kind.action), (2, 1, a.key), (3, 1, h.get (CH_LANECTL_LATEPOL.pg n)), (4, 4, a.r)]

/-- The edges of channel n whose instants lie before cycle cyc of the present frame act at once (02 R50, 06 R203). Where
only P2 was deferred (`p1` false), they are those up to one that waited for the budget's decision, and none is late (10
R293). (DEDUCED, log entry 26.) -/
def Hub.passedEdges (h : Hub) (n cyc : Nat) (p1 : Bool) : Hub :=
  let l := (h.ch n).armed.takeWhile fun a => decide (diff32 a.frm h.frmNo < 0) || (a.frm == h.frmNo && decide (a.cyc < cyc))
  if p1 then (if l.isEmpty then h else (l.foldl (fun x a => x.lateEdge n a) h).edgesAct n l cyc)
  else if l.any fun a => a.kind == .release || (a.kind == .on && a.cls == 1) then h.edgesAct n l cyc
  else h

end Sys2Proof.Machine
end

