-- ==== Sys2Proof/Machine/Converters.lean ====
section
/-! DEFINITION. The load bus converter and the rails (chapter 09): states, references and tracking, trips, vent
sinks, phases, feedforward and synchronisation.  Converter 0 is LB, converter n is Hn; page 0x11 + n. -/

namespace Sys2Proof.Machine

/-! ## Names -/

def convNum : ConvId → Nat | .lb => 0 | .h1 => 1 | .h2 => 2 | .h3 => 3 | .h4 => 4

/-- The page of converter i. -/
def convPage (i : Nat) : Nat := 0x11 + i

/-! The STAT, VSET, SLEW and CTL registers of LB and of the rails have one layout (09 R275–R276). -/

abbrev cSTATE (i : Nat) : Fld := LB_STAT_STATE.pg i
def cDONE (i : Nat) : Fld := LB_STAT_DONE.pg i
def cLIMIT (i : Nat) : Fld := LB_STAT_LIMIT.pg i
def cDROPOUT (i : Nat) : Fld := LB_STAT_DROPOUT.pg i
abbrev cHIGH (i : Nat) : Fld := LB_STAT_HIGH.pg i
def cATTEMPTS (i : Nat) : Fld := LB_STAT_ATTEMPTS.pg i
def cTRACKING (i : Nat) : Fld := H_STAT_TRACKING.pg (i - 1)
def cTARGET (i : Nat) : Fld := LB_VSET_TARGET.pg i
def cRATE (i : Nat) : Fld := LB_SLEW_RATE.pg i
def cVENT (i : Nat) : Fld := LB_CTL_VENT.pg i
def cDNASSIST (i : Nat) : Fld := LB_CTL_DNASSIST.pg i
def cSOFTSTOP (i : Nat) : Fld := LB_CTL_SOFTSTOP.pg i
def cREF (i : Nat) : Fld := if i = 0 then LB_REF_REF else H_REF_REF.pg (i - 1)
def cGOAL (i : Nat) : Fld := if i = 0 then LB_REF_GOAL else H_REF_GOAL.pg (i - 1)
def cTRIPS (i : Nat) : Fld := if i = 0 then LB_CNT_TRIPS else H_CNT_TRIPS.pg (i - 1)

def Hub.conv (h : Hub) (i : Nat) : Conv := nth h.convs i {}
def Hub.setConv (h : Hub) (i : Nat) (c : Conv) : Hub := h.convs! fun l => setNth l i {} c
def Hub.conv! (h : Hub) (i : Nat) (f : Conv → Conv) : Hub := h.setConv i (f (h.conv i))

abbrev Hub.convSt (h : Hub) (i : Nat) : Nat := h.get (cSTATE i)
def Hub.refMv (h : Hub) (i : Nat) : Nat := h.get (cREF i)
def Hub.goalMv (h : Hub) (i : Nat) : Nat := h.get (cGOAL i) * 10

/-- The output as last measured, in mV. -/
def Hub.outMv (h : Hub) (i : Nat) : Nat := if i = 0 then h.get LB_MEAS_V * 10 else h.get (H_MEAS_V.pg (i - 1))

/-- The state lets the converter switch (09 R262): in HANDBACK only with phases running (11 R319). -/
def Hub.convRuns (h : Hub) (i : Nat) : Bool :=
  let s := h.convSt i
  s == 3 || s == 4 || s == 5 || (s == 9 && h.get LB_STAT_NPH != 0)

/-- The converter switches: not while its output stands above the reference (09 R255). -/
def Hub.switching (h : Hub) (i : Nat) : Bool := h.convRuns i && !(h.conv i).idle

/-- The absolute output level in mV (09 R263). -/
def absLevel (i : Nat) : Nat := if i = 0 then 30000 else 13500

/-- The record code of a converter: 0x11xx for LB, 0x12xx for a rail (09 R274). -/
def convCode (i n : Nat) : Nat := if i = 0 then 0x1100 + n else 0x1200 + n

/-- A feed is ON (08 R243). -/
def Hub.feedOn (h : Hub) (k : Nat) : Bool := h.get (FEED_STAT_STATE.pg k) == 5
def Hub.anyFeedOn (h : Hub) : Bool := h.feedOn 0 || h.feedOn 1

/-! ## Moving between states (09 R260) -/

/-- At a start the output stands at the reference or above it: no switching before the reference exceeds it (09 R255). -/
def Hub.startIdle (h : Hub) (i : Nat) : Hub := h.conv! i fun c => { c with idle := decide (h.refMv i ≤ h.outMv i) }

/-- Enter a state; DONE reads 0 outside REGULATE and the limit, dropout and tracking bits outside switching. -/
def Hub.convTo (h : Hub) (i st : Nat) : Hub :=
  let h1 := h.put (cSTATE i) st
  let sw : Bool := st == 3 || st == 4 || st == 5 || st == 9
  let h2 := (if st = 4 then h1 else h1.put (cDONE i) 0).conv! i fun c => { c with
    run := if st = h.convSt i then c.run else 0, idle := sw && c.idle, stepped := false,
    limRun := if st = h.convSt i then c.limRun else 0 }
  let h3 := if sw then h2
    else
      let h4 := (h2.put (cLIMIT i) 0).put (cDROPOUT i) 0
      if i = 0 then h4 else h4.put (cTRACKING i) 0
  if i = 0 then h3.put LB_STAT_NPH (if sw then (if h.get LB_STAT_NPH = 0 then 3 else h.get LB_STAT_NPH) else 0) else h3

/-- The sink closes until the output is below 0.4 V; that of LB not while the bypass is closed, its output being VSYS then
(09 R259). -/
def Hub.sinkClose (h : Hub) (i : Nat) : Hub :=
  h.conv! i fun c => { c with vent := decide (400 ≤ h.outMv i) && !(i == 0 && h.flag CHG_STAT_BYPASS), assist := false }

/-- At a switch-off the sink follows VENT; the sequencer drives it in its own power-down (09 R259). -/
def Hub.ventOnOff (h : Hub) (i : Nat) : Hub :=
  if (h.conv i).seqVent || (h.conv i).noVent then h
  else if h.flag (cVENT i) then h.sinkClose i else h.conv! i fun c => { c with vent := false, assist := false }

/-- The bypass opens; a disabled LB then vents as VENT says, or as the sequencer does (09 R259). -/
def Hub.openBypass (h : Hub) : Hub :=
  if !h.flag CHG_STAT_BYPASS then h
  else
    let h1 := h.put CHG_STAT_BYPASS 0
    if h1.convSt 0 ≠ 0 then h1 else if (h1.conv 0).seqVent then h1.sinkClose 0 else h1.ventOnOff 0

/-- Switching stops and the converter is DISABLED. -/
def Hub.convOff (h : Hub) (i : Nat) : Hub :=
  ((h.convTo i 0).ventOnOff i).conv! i fun c => { c with trackStop := false }

/-- Rails that follow converter i and run stop with it (09 R271); `hard`: the leader stopped at once. -/
def Hub.stopFollowers (fuel : Nat) (h : Hub) (i : Nat) (hard : Bool) : Hub :=
  match fuel with
  | 0 => h
  | k + 1 =>
    [1, 2, 3, 4].foldl (fun a j =>
      if a.cfg (H_TRACK_MODE.pg (j - 1)) ≠ 0 ∧ a.cfg (H_TRACK_LEADER.pg (j - 1)) = i
          ∧ (a.convSt j = 3 ∨ a.convSt j = 4) then
        let b := (a.conv! j fun c => { c with stopGoal := a.goalMv j, trackStop := true }).convTo j 5
        let d := (b.put (cGOAL j) 0).put (cTRACKING j) 1
        if hard then
          Hub.stopFollowers k (((d.put (cREF j) 0).convOff j).conv! j fun c => { c with enDrop := true }) j true
        else Hub.stopFollowers k d j false
      else a) h

/-- EN = 0 acts (09 R260, R259). -/
def Hub.convDisable (h : Hub) (i : Nat) : Hub :=
  let st := h.convSt i
  if st = 3 ∨ st = 4 then
    if h.flag (cSOFTSTOP i) then
      let a := (h.conv! i fun c => { c with stopGoal := h.goalMv i, trackStop := false }).convTo i 5
      let h1 := if i = 0 then a else a.put (cTRACKING i) 0
      Hub.stopFollowers 5 (h1.put (cGOAL i) 0) i false
    else Hub.stopFollowers 5 (h.convOff i) i true
  else if st = 1 ∨ st = 2 ∨ st = 6 ∨ st = 8 ∨ st = 9 then
    Hub.stopFollowers 5 ((h.convOff i).lb! fun l => if i = 0 then { l with hbCal := false } else l) i true
  else h

/-- A rail enters RAMP and finds its leader (09 R271). -/
def Hub.trackStart (h : Hub) (i : Nat) : Hub :=
  if i = 0 ∨ h.cfg (H_TRACK_MODE.pg (i - 1)) = 0 then h
  else
    let j := h.cfg (H_TRACK_LEADER.pg (i - 1))
    let st := h.convSt j
    if st = 1 ∨ st = 2 ∨ (st = 3 ∧ h.refMv j < h.goalMv j) then ((h.put (cTRACKING i) 1).put (cREF i) 0).startIdle i
    else if st = 0 ∨ st = 4 then h.report (convPage i) 9 0x1209 (i - 1) sevINFO [(0, 1, st)]
    else h

/-- A fence that holds the converter off: any but that for parity, under which it goes on at its goal (09 R273). -/
def Hub.convFenced (h : Hub) (i : Nat) : Bool := (h.page (convPage i)).causes.any (·.code != 1)

/-- A converter in IDLE finds its supply (09 R256, R260); SERVICE on phantom power holds it in IDLE (04 R117).  Under a
parity fence it starts toward the goal it held, where it has held one (R273). -/
def Hub.convStart (h : Hub) (i : Nat) : Hub :=
  let supply := if i = 0 then h.anyFeedOn else decide (900 ≤ h.get CHG_MEAS2_VSYS)
  let held := h.mode == mSERVICE && h.md.serviceByPhantom
  if h.convSt i = 1 ∧ h.en (convPage i) ∧ !h.convFenced i ∧ supply ∧ !held then
    let t := if h.fenced (convPage i) ∧ h.get (cGOAL i) ≠ 0 then h.get (cGOAL i) else h.get (cTARGET i)
    let h1 := ((h.put (cREF i) (h.outMv i)).put (cGOAL i) t).conv! i fun c =>
      { c with seen := t, vent := false, assist := false, trackStop := false }
    if i = 0 then h1.convTo 0 2 else ((h1.convTo i 3).startIdle i).trackStart i
  else h

/-- EN = 1 acts on a page not fenced (09 R260). -/
def Hub.convEnable (h : Hub) (i : Nat) : Hub :=
  if h.convSt i = 0 ∧ !h.fenced (convPage i) then
    (h.convTo i 1).conv! i fun c => { c with seqVent := false, noVent := false, enDrop := false }
  else h

/-- A release of the page's fence (09 R260). -/
def Hub.convReleased (h : Hub) (i : Nat) : Hub :=
  let h1 := h.put (cATTEMPTS i) 0
  if h.convSt i = 7 then h1.convTo i (if h.en (convPage i) then 1 else 0) else h1

/-- SERVICE on phantom power: every converter goes to IDLE and the bypass opens (04 R117, 09 R260, 11 R320). -/
def Hub.convPhantom (h : Hub) : Hub :=
  let go (a : Hub) (i : Nat) : Hub :=
    let st := a.convSt i
    if st = 2 ∨ st = 3 ∨ st = 4 ∨ st = 6 ∨ st = 8 ∨ st = 9 then a.convTo i 1
    else if st = 5 then a.convOff i else a
  ([0, 1, 2, 3, 4].foldl go h.openBypass).lb! fun l => { l with hbCal := false }

/-! ## Reference and slew (09 R256, R258, R271) -/

/-- One 10 µs step of a reference toward a goal. -/
def slewTo (ref goal rate : Nat) (limiting : Bool) : Nat :=
  if ref < goal then (if limiting then ref else min (ref + rate) goal) else max (ref - rate) goal

/-- The follower's reference from its leader's (09 R271). -/
def trackRef (mode goal refL goalL : Nat) : Nat :=
  if mode = 1 then min refL goal else if goalL = 0 then 0 else goal * refL / goalL

/-- The reference of converter i after the next update; one whose MODE has become NONE slews on alone. -/
def Hub.nextRef (h : Hub) (i vsys : Nat) : Nat :=
  let ref := h.refMv i
  let goal := h.goalMv i
  let m := h.cfg (H_TRACK_MODE.pg (i - 1))
  let j := h.cfg (H_TRACK_LEADER.pg (i - 1))
  if i ≠ 0 ∧ m ≠ 0 ∧ (h.conv i).trackStop then
    if h.convSt j = 0 then 0
    else min ref (if m = 1 then h.refMv j else trackRef 2 (h.conv i).stopGoal (h.refMv j) (h.conv j).stopGoal)
  else if i ≠ 0 ∧ m ≠ 0 ∧ h.flag (cTRACKING i) then
    if h.convSt j = 1 ∨ h.convSt j = 2 then 0
    else
      let r := trackRef m goal (h.refMv j) (h.goalMv j)
      if h.flag (cLIMIT i) ∧ ref < r then ref else r
  else slewTo ref (if i = 0 ∧ h.convSt 0 = 9 then max goal (vsys + 400) else goal) (h.get (cRATE i)) (h.flag (cLIMIT i))

/-- The sink that helps a downward slew (09 R258); never in HANDBACK. -/
def Hub.assist (h : Hub) (i out : Nat) : Hub :=
  if (h.conv i).seqVent then h
  else if h.convSt i = 9 then h.conv! i fun c => { c with vent := false, assist := false }
  else
    let far := decide (h.refMv i * 51 < out * 50)
    let down := decide (h.goalMv i < h.refMv i)
    let on := h.flag (cDNASSIST i) && far && ((h.conv i).vent || down)
    h.conv! i fun c => { c with vent := on, assist := on }

/-- A sink that a slew has left closed opens once the output is within 2 % of ref, though the converter no longer runs
(09 R258). -/
def Hub.assistEnd (h : Hub) (i : Nat) : Hub :=
  if (h.conv i).assist && !h.convRuns i && decide (h.outMv i * 50 ≤ h.refMv i * 51) then
    h.conv! i fun c => { c with vent := false, assist := false }
  else h

/-- One update of one converter: its reference, its sink, and whether it switches after it (09 R255–R256, R258). -/
def Hub.slewOne (h : Hub) (i out vsys : Nat) : Hub :=
  let h1 := ((h.put (cREF i) (h.nextRef i vsys)).assist i out)
  let h2 := h1.conv! i fun c => { c with idle := decide (h1.refMv i < out) || (c.idle && decide (h1.refMv i = out)) }
  let j := h.cfg (H_TRACK_LEADER.pg (i - 1))
  let alone := h.cfg (H_TRACK_MODE.pg (i - 1)) == 0
  let ended : Bool := i != 0 && h.flag (cTRACKING i) && !(h.conv i).trackStop
    && (alone || (h.convSt j != 1 && h.convSt j != 2 && h.refMv j == h.goalMv j))
  let h3 := if ended then (h2.put (cTRACKING i) 0).conv! i fun c => { c with stepped := !alone } else h2
  let ref := h3.refMv i
  if h3.convSt i = 3 ∧ ref = h3.goalMv i then h3.convTo i 4
  else if h3.convSt i = 5 ∧ ref = 0 then
    let dr := (h3.conv i).trackStop
    Hub.stopFollowers 5 ((h3.convOff i).conv! i fun c => { c with enDrop := dr }) i true
  else h3

/-- The rails that follow converter i are updated after it, and their own followers after them (09 R271). -/
def Hub.slewFollow (fuel : Nat) (h : Hub) (i vsys : Nat) : Hub :=
  match fuel with
  | 0 => h
  | k + 1 =>
    [1, 2, 3, 4].foldl (fun a j =>
      if a.cfg (H_TRACK_MODE.pg (j - 1)) ≠ 0 ∧ a.cfg (H_TRACK_LEADER.pg (j - 1)) = i ∧ a.flag (cTRACKING j)
          ∧ a.convRuns j then
        Hub.slewFollow k (a.slewOne j (a.outMv j) vsys) j vsys
      else a) h

/-- SLEW_UPDATE: one update of one converter and of the rails that follow it; a follower whose tracking its leader has just
ended has had this instant's update with it (09 R271). -/
def Hub.slewUpdate (h : Hub) (i out vsys : Nat) : Hub :=
  if !h.convRuns i then h
  else if (h.conv i).stepped then h.conv! i fun c => { c with stepped := false }
  else Hub.slewFollow 5 (h.slewOne i out vsys) i vsys

/-! ## Trips and supervision (09 R262–R264) -/

/-- A hand-back that has started is aborted (11 R316, R319): REPEAT rises and the dwell starts again. -/
def Hub.handbackAbort (h : Hub) : Hub :=
  let rep := h.get CHG_STAT_REPEAT
  let h1 := ((h.incSat CHG_HUCNT2_ABORTS).put CHG_STAT_HANDBACK 0).chg! fun c => { c with dwell := 0 }
  let h2 := if rep < 4 then (h1.put CHG_STAT_REPEAT (rep + 1)).evt 0x10 15 else h1
  (h2.lb! fun l => { l with hbCal := false }).report 0x10 10 0x1012 0 sevWARN [(0, 1, min 4 (rep + 1))]

/-- I_lim of LB in A (09 R262). -/
def Hub.lbLimit (h : Hub) : Nat :=
  let r := h.refMv 0
  min (h.cfg LB_LIM_ILIM) (if r = 0 then 100 else 2400000 / r)

/-- The limit timer has run: TLIM, or 5 ms on a rail (09 R262). -/
def Hub.limitTripDue (h : Hub) (i : Nat) : Bool :=
  h.switching i && h.flag (cLIMIT i) && decide ((if i = 0 then h.cfg LB_LIM_TLIM * 10 else 50) ≤ (h.conv i).limRun)

/-- In limitation with the output below half of ref, on a rail for 1 ms (09 R262); out in 10 mV. -/
def Hub.shortTripDue (h : Hub) (i out : Nat) : Bool :=
  h.switching i && h.flag (cLIMIT i) && decide (out * 20 < h.refMv i)
      && decide ((if i = 0 then 1 else 10) ≤ (h.conv i).limRun)

/-- The output of a switching converter stands above 1.1 × ref + 0.2 V or the absolute level (09 R263); out in 10 mV. -/
def Hub.ovTripDue (h : Hub) (i out : Nat) : Bool :=
  h.switching i && (decide (h.refMv i * 11 + 2000 < out * 100) || decide (absLevel i < out * 10))

/-- A trip of a converter with cause 1 LIMIT, 2 SHORT or 3 OV. -/
def Hub.convTrip (h : Hub) (i cause : Nat) (m : ConvMeas) : Hub :=
  if !h.convRuns i then h
  else
    let st := h.convSt i
    let att := h.get (cATTEMPTS i)
    let h1 := (h.incSat (cTRIPS i)).report (convPage i) 1
      (convCode i 1) (i - 1) sevWARN [(0, 1, cause), (1, 1, att), (2, 2, m.out.toNat), (4, 2, m.cur.toNat)]
    if st = 5 then Hub.stopFollowers 5 (h1.convOff i) i true
    else if att < 3 then
      if st = 9 then ((h1.put (cATTEMPTS i) (att + 1)).convTo i 8).handbackAbort else h1.convTo i 6
    else
      ((h1.convTo i 7).report (convPage i) 2 (convCode i 2) (i - 1) sevFAULT [(0, 1, cause)]).fence (convPage i) 2

/-- The wait after a trip is over: LB 1 s, a rail 100 ms (09 R260). -/
def Hub.convRetryDue (h : Hub) (i : Nat) : Bool :=
  h.convSt i == 6 && decide ((if i = 0 then 10000 else 1000) ≤ (h.conv i).run)

def Hub.convRetry (h : Hub) (i : Nat) : Hub := (h.convTo i 1).putSat (cATTEMPTS i) (h.get (cATTEMPTS i) + 1)

/-- BACKFEED: the output stands above the absolute level while the converter does not switch (09 R263). -/
def Hub.backfeed (h : Hub) (i out : Nat) : Hub :=
  (h.put (cHIGH i) 1).report (convPage i) 4 (convCode i 4) (i - 1) sevWARN [(0, 2, out)]

def Hub.dropout (h : Hub) (i vin : Nat) : Hub :=
  (h.put (cDROPOUT i) 1).report (convPage i) 3 (convCode i 3) (i - 1) sevWARN [(0, 2, vin), (2, 2, h.refMv i / 10)]

/-! ## The load bus: offsets, phases, feedforward, sync (09 R265–R270) -/

/-- The offset of phase k has been measured. -/
def Hub.phaseOffset (h : Hub) (k ofs : Nat) (extrap : Bool) : Hub :=
  ((((h.put (LB_PHSTAT_OFS.nth k) ofs).put (LB_PHSTAT_AGE.nth k) 0).putb (LB_PHSTAT_EXTRAP.nth k) extrap).lb!
    fun l => { l with phAge := setNth l.phAge k 0 0 })

/-- CAL is over: the offsets of all phases, then RAMP, or HANDBACK from the measured voltage; with an open bypass
the hand-back completes as LB enters RAMP (09 R260, R268, 11 R317–R318). -/
def Hub.calDone (h : Hub) (out : Nat) (offs : List Int) (extrap : BitVec 4) : Hub :=
  if h.convSt 0 ≠ 2 then h
  else
    let h1 := [0, 1, 2, 3].foldl (fun a k => a.phaseOffset k (wrapTo 16 (nth offs k 0)) (extrap.getLsbD k)) h
    if h.lb.hbCal then
      let h2 := (h1.lb! fun l => { l with hbCal := false }).put (cREF 0) out
      if !h.flag CHG_STAT_BYPASS then ((h2.convTo 0 3).startIdle 0).md! fun m => { m with handback := true }
      else (h2.convTo 0 9).startIdle 0
    else (h1.convTo 0 3).startIdle 0

/-- The number of phases changes (09 R265). -/
def Hub.setPhases (h : Hub) (nph : Nat) : Hub :=
  ((h.put LB_STAT_NPH nph).incSat LB_CNT_SHEDS).evt 0x11 7 |>.lb! fun l => { l with shedRun := 0, unshedDue := false }

def Hub.shedDue (h : Hub) (shed : Bool) : Bool :=
  let sw := h.convRuns 0
  if shed then sw && h.get LB_STAT_NPH == 3 && h.get LB_SHED_I != 0 && decide (16 ≤ h.lb.shedRun)
  else sw && h.get LB_STAT_NPH == 2 && h.lb.unshedDue

/-- The switching period that LB_SYNC asks for, in core cycles (09 R269): that of CLKIN by the last gate counted, where
2^GATE counts stand for 25 MHz. -/
def Hub.lbPeriodSet (h : Hub) : Nat :=
  let f := max 1 (h.get LB_SYNC_FREQ)
  match h.get LB_SYNC_SRC with
  | 0 => (80000 + f) / (2 * f)
  | 1 => 40000 / f
  | _ => let c := h.clk.clkin; if c.1 = 0 then h.lb.period else (h.get LB_SYNC_CLKDIV * 32 * c.2 + c.1) / (2 * c.1)

/-- CLKIN can time LB: READY, and CLKIN / CLKDIV within 250–600 kHz (09 R269). -/
def Hub.lbClkOk (h : Hub) : Bool :=
  let c := h.clk.clkin
  let d := c.2 * h.get LB_SYNC_CLKDIV
  h.flag CLK_STAT_CLKIN_RDY && decide (d ≤ c.1 * 100) && decide (c.1 * 1000 ≤ d * 24)

/-- The switching period that cycle c of a frame falls in, counted from the first that begins in the frame: PHASE after the
tick or the edge, rounded (09 R269), or where LB's own periods stand. -/
def Hub.lbPeriodOf (h : Hub) (c : Nat) : Int :=
  let p := max 1 h.lb.period
  let off := if h.get LB_SYNC_SRC = 1 ∧ h.flag LB_STAT_SYNC then (h.get LB_SYNC_PHASE * p + 128) / 256
    else (Config.lbGrid h.mea.ticks).toNat % p
  floorDiv ((c : Int) - off) p

/-- The instants of two previews fall within one switching period (09 R266). -/
def Hub.samePeriod (h : Hub) (p q : Preview) : Bool := q.frm == p.frm && h.lbPeriodOf q.cyc == h.lbPeriodOf p.cyc

/-- The first preview's instant has come: it is one of the present frame, or of one before it. -/
def Hub.previewDue (h : Hub) : Bool :=
  match h.sec.previews with
  | [] => false
  | p :: _ => decide (diff32 p.frm h.frmNo ≤ 0)

/-- FEEDFORWARD: the previews of the next switching period are injected, each 1.5 µs after its instant; beyond ±40 A the sum
is clipped (09 R266). -/
def Hub.feedforward (h : Hub) : Hub :=
  match h.sec.previews with
  | [] => h
  | p :: _ =>
    let now := h.sec.previews.filter (h.samePeriod p)
    let sum : Int := now.foldl (fun a q => a + q.step) 0
    let h1 := h.sec! fun x => { x with previews := x.previews.filter fun q => !h.samePeriod p q }
    let h2 := h1.incWrap LB_FFCNT_PREV now.length
    if 40000 < sum.natAbs then (h2.incSat LB_FFCNT_CLIP).evt 0x11 8 else h2

/-- LB loses its sync source (09 R270). -/
def Hub.lbSyncLost (h : Hub) : Hub :=
  if h.flag LB_STAT_SYNC then
    ((h.put LB_STAT_SYNC 0).incSat LB_CNT_SYNCLOSS).report 0x11 5 0x1105 0 sevWARN [(0, 1, h.get LB_SYNC_SRC)]
  else h

/-- Sync may return (09 R270, 02 R72). -/
def Hub.lbSyncDue (h : Hub) : Bool :=
  !h.flag LB_STAT_SYNC &&
  (match h.get LB_SYNC_SRC with
   | 1 => h.leads || decide (4 ≤ h.frm.quietTicks) && !h.frm.tofsBad
   | 2 => h.lbClkOk && decide (1000 ≤ h.lb.clkRun)
   | _ => false)

/-! ## Work of a tick -/

/-- LB in RAMP or REGULATE goes back to IDLE where no feed is ON, the hub is not in HOLDUP and the detector is not
armed; then a converter in IDLE may start (09 R260). -/
def Hub.convSupply (h : Hub) (i : Nat) : Hub :=
  let st := h.convSt i
  let gone : Bool := i == 0 && (st == 3 || st == 4) && !h.anyFeedOn && h.mode != mHOLDUP && !h.flag CHG_STAT_ARMED
    && h.chg.trig.isNone && !h.md.holdupDue
  (if gone then h.convTo i 1 else h).convStart i

/-- A frame in the present state, in every mode (09 R260). -/
def Hub.convClock (h : Hub) (i : Nat) : Hub := h.conv! i fun c => { c with run := min 100000 (c.run + 1) }

/-- LIMIT with its timer, and the ends of DROPOUT, of a converter at a tick, in NAP too (09 R262, R264). -/
def Hub.convLimits (h : Hub) (t : TickIn) (i : Nat) : Hub :=
  let lim : Bool := h.switching i && (t.limiting.toNat.testBit i || (i == 0 && decide ((h.lbLimit * 10 : Nat) ≤ t.lbI)))
  let drop : Bool := h.switching i && t.maxDuty.toNat.testBit i && h.flag (cDROPOUT i)
  ((h.putb (cLIMIT i) lim).putb (cDROPOUT i) drop).conv! i fun c =>
    { c with limRun := if lim then min 65535 (c.limRun + 1) else 0 }

/-- What the converters do at a tick for the ended frame (09 R256–R257, R260, R262–R265). -/
def Hub.convTick (h : Hub) (t : TickIn) (i : Nat) : Hub :=
  let h0 := if (h.conv i).enDrop then (h.put (PG_CTL_EN.pg (convPage i)) 0).conv! i fun c => { c with enDrop := false }
      else h
  let tgt := h0.get (cTARGET i)
  let st0 := h0.convSt i
  let held := h0.hasCause (convPage i) 1
  let h1 := if held ∨ tgt = (h0.conv i).seen then h0
    else
      let a := h0.conv! i fun c => { c with seen := tgt }
      if st0 = 2 ∨ st0 = 3 ∨ st0 = 4 ∨ st0 = 8 ∨ st0 = 9 then (a.put (cGOAL i) tgt).put (cDONE i) 0 else a
  let h2 := h1.convSupply i
  let h3 := (h2.convLimits t i).assistEnd i
  let h4 := if h3.switching i ∨ h3.outMv i ≤ absLevel i then h3.put (cHIGH i) 0 else h3
  let goal := h4.goalMv i
  let dev := ((h4.outMv i : Int) - goal).natAbs
  let near : Bool := decide (dev * 50 ≤ goal) || (i != 0 && decide (dev ≤ 20))
  let done := h4.convSt i == 4 && h4.refMv i == goal && near && !h4.adcFenced 3
  let h5 := if done && !h4.flag (cDONE i) then (h4.put (cDONE i) 1).evt (convPage i) 0 else h4
  let h6 := h5.convClock i
  if i = 0 then h6 else h6.putSat (H_MEAS_I.pg (i - 1)) (nth t.railI (i - 1) 0)

/-- LB's current, energy, shedding counts and the ages of its phase offsets. -/
def Hub.lbTick (h : Hub) (t : TickIn) : Hub :=
  let e := h.lb.eFrac + t.lbIn
  let shed : Int := h.get LB_SHED_I * 10
  let ages := (List.range 4).map fun k => nth h.lb.phAge k 0 + 1
  let aged := (List.range 4).foldl (fun (a : Hub) k =>
    if nth ages k 0 % 10000 = 0 ∧ a.get (LB_PHSTAT_AGE.nth k) ≠ 255 then a.incSat (LB_PHSTAT_AGE.nth k) else a) h
  let hot := (List.range 4).foldl (fun (a : Hub) k => a.putb (LB_PHSTAT_EXTRAP.nth k) (t.phExtrap.getLsbD k)) aged
  let own : Bool := h.flag LB_STAT_SYNC || h.get LB_SYNC_SRC == 0 || !h.convRuns 0
  ((hot.puti LB_MEAS_I t.lbI).put LB_E_IN_E (h.get LB_E_IN_E + e / 1000000)).lb! fun l => { l with
    eFrac := e % 1000000, phAge := ages.map (· % 10000), clkRun := if h.lbClkOk then min 65535 (l.clkRun + 1) else 0,
    twoRun := if h.get LB_STAT_NPH = 2 then min 65535 (l.twoRun + 1) else 0,
    period := if own then h.lbPeriodSet else l.period,
    shedRun := if t.lbI < shed ∧ h.get LB_STAT_NPH = 3 then min 16 (l.shedRun + 1) else 0,
    unshedDue := l.unshedDue || (h.get LB_STAT_NPH == 2 && (decide (shed + 20 ≤ t.lbI) || shed == 0)) }

end Sys2Proof.Machine
end

