-- ==== Sys2Proof/Machine/Irq.lean ====
section
/-! DEFINITION. The interrupt controller (chapter 17): pending sources, presentation, acknowledge and end of
interrupt.  Target E is the ECU, target W the two-wire host. -/

namespace Sys2Proof.Machine

abbrev pgIRQ : Nat := 0x03

/-- The stack of a target, bottom first. -/
def IrqStacks.stack (q : IrqStacks) (t : Port) : List Active := match t with | .e => q.stkE | .w => q.stkW
def IrqStacks.setStack (q : IrqStacks) (t : Port) (l : List Active) : IrqStacks :=
  match t with | .e => { q with stkE := l } | .w => { q with stkW := l }

/-- The word of a source's register (17 R462). -/
def srcIdx (s : Nat) : Nat := 0x2008 + 256 * (s / 64) + s % 64

/-- The sources whose PEND is 1, rising: only listed registers of the IRQS pages can hold it. -/
def Hub.pendSources (h : Hub) : List Nat :=
  h.regs.filterMap fun e =>
    if 0x2000 ≤ e.1 ∧ e.1 < 0x2400 ∧ 8 ≤ e.1 % 256 ∧ e.1 % 256 < 0x48 ∧ bitsOf e.2 16 1 = 1
        then some ((e.1 / 256 - 0x20) * 64 + e.1 % 256 - 8) else none

/-- A source is pending at a target (17 R450); a source whose register fails parity counts as EN = 0 (R460). -/
def Hub.pendingAt (h : Hub) (t : Port) (s : Nat) : Bool :=
  let w := h.word (srcIdx s)
  bitsOf w 16 1 == 1 && bitsOf w 9 1 == 1 && (bitsOf w 8 1 == 1) == (t == .w)
    && !h.bad.any (fun b => b.idx == srcIdx s && !b.shadow)

/-- Any source is pending at a target (04 R126, R130). -/
def Hub.anyPending (h : Hub) : Bool := h.pendSources.any fun s => h.pendingAt .e s || h.pendingAt .w s

def Hub.srcPrio (h : Hub) (s : Nat) : Nat := bitsOf (h.word (srcIdx s)) 0 6

/-- The candidate of a target: lowest PRIO, then lowest number (17 R452). -/
def Hub.candidate (h : Hub) (t : Port) : Option Nat :=
  (h.pendSources.filter (h.pendingAt t)).foldl (fun best s =>
    match best with
    | none => some s
    | some b => if h.srcPrio s < h.srcPrio b then some s else some b) none

/-- The running group of a target: 64 on an empty stack (17 R451). -/
def Hub.runningGroup (h : Hub) (stk : List Active) : Nat :=
  match stk.getLast? with | none => 64 | some a => a.prio / 2 ^ h.cfgSafe IRQ_PRIGROUP_G

/-- The source a target presents (17 R452). -/
def State.presents (s : State) (t : Port) : Option Nat :=
  let stk := s.irq.stack t
  match s.hub.candidate t with
  | none => none
  | some c =>
    if stk.length < 8 ∧ s.hub.srcPrio c / 2 ^ s.hub.cfgSafe IRQ_PRIGROUP_G < s.hub.runningGroup stk then some c else none

/-- IRQ_PEEKx, and IRQ_ACKx apart from its effect (17 R453, R461). -/
def State.peekWord (s : State) (t : Port) : Word :=
  let depth := (s.irq.stack t).length
  match s.presents t with
  | none => BitVec.ofNat 32 (depth * 2 ^ 24)
  | some v => BitVec.ofNat 32 (v + 2 ^ 8 + s.hub.srcPrio v * 2 ^ 16 + depth * 2 ^ 24)

/-- Acknowledge at a target: the answer, and the state with the source pushed and its PEND clear (17 R453). -/
def State.ackRead (s : State) (t : Port) : State × Word :=
  match s.presents t with
  | none => (s, 0)
  | some v =>
    let p := s.hub.srcPrio v
    let stk := s.irq.stack t ++ [⟨v, p⟩]
    ({ s with irq := s.irq.setStack t stk, hub := s.hub.put (pendFld v) 0 },
     BitVec.ofNat 32 (v + 2 ^ 8 + p * 2 ^ 16 + stk.length * 2 ^ 24))

/-- IRQ_STKLOx (`hi` 0) and IRQ_STKHIx (`hi` 1). -/
def State.stackWord (s : State) (t : Port) (hi : Nat) : Word :=
  let e (i : Nat) : Nat := match (s.irq.stack t)[4 * hi + i]? with | some a => a.src * 256 ^ i | none => 0
  BitVec.ofNat 32 (e 0 + e 1 + e 2 + e 3)

/-- EOIs that a target has queued (17 R454). -/
def IrqStacks.queued (q : IrqStacks) (t : Port) : Nat := (q.eoi.filter fun e => e.1 == t).length

/-- A source is on a target's stack. -/
def IrqStacks.active (q : IrqStacks) (s : Nat) : Bool := q.stkE.any (·.src == s) || q.stkW.any (·.src == s)

/-- The word of IRQ_PENDk (17 R461). -/
def Hub.pendWord (h : Hub) (k : Nat) : Word :=
  BitVec.ofNat 32 (h.pendSources.foldl (fun a s => if s / 32 = k then a + 2 ^ (s % 32) else a) 0)

/-- One EOI acts: it removes its source wherever it stands, or is stray (17 R454, R459).  A source acknowledged again at a
more urgent PRIO while it was active stands on the stack twice, and one EOI takes both away.
(DESIGN CHOICE, log entry 76.) -/
def State.eoiActs (s : State) (t : Port) (src : Nat) : State :=
  let stk := s.irq.stack t
  if stk.any (·.src == src) then { s with irq := s.irq.setStack t (stk.filter fun a => a.src != src) }
  else
    let h1 := ((s.hub.incSat IRQ_EOISTRAY_COUNT).put IRQ_EOISTRAY_LASTSRC src).putb IRQ_EOISTRAY_LASTTGT (t == .w)
    { s with hub := h1.record 0x0401 0 sevINFO (payload [(0, 1, src), (1, 1, boolNat (t == .w)), (2, 1, stk.length)]) }

/-- At the tick: queued EOIs act in order, and software sources set their PEND (17 R454, R457). -/
def State.irqTick (s : State) : State :=
  let s1 := s.irq.eoi.foldl (fun a e => a.eoiActs e.1 e.2) { s with irq := { s.irq with eoi := [], swset := [] } }
  { s1 with hub := s1.hub.raiseAll s.irq.swset }

/-- IRQ# is pulled low: target E presents a source, on a hub that is no follower (17 R452, R456). -/
def State.irqLow (s : State) : Bool := (s.presents .e).isSome && !s.hub.follower

/-- Word 5 of a poll reply: target E's attention (17 R456). -/
def State.attnWord (s : State) : Word :=
  let full := boolNat ((s.irq.stack .e).length == 8)
  match s.presents .e with
  | none => BitVec.ofNat 32 (full * 2 ^ 14)
  | some v => BitVec.ofNat 32 (v + s.hub.srcPrio v * 2 ^ 8 + full * 2 ^ 14 + 2 ^ 15)

end Sys2Proof.Machine
end

