-- ==== Sys2Proof/Machine/Rtc.lean ====
section
/-! DEFINITION. The real-time clock (chapter 19): calendar, setting, trust, rate correction, KEEP cell, alarms and
the slaving of followers. -/

namespace Sys2Proof.Machine

abbrev pgRTC : Nat := 0x05

/-! ## Calendar (19 R478) -/

/-- A calendar date and time; the year counts from 2000. -/
structure Cal where
  sec : Nat
  min : Nat
  hour : Nat
  date : Nat
  month : Nat
  year : Nat
  deriving DecidableEq, Repr

/-- Every year of 2000–2099 divisible by 4 is a leap year. -/
def monthDays (month year : Nat) : Nat :=
  if month = 2 then (if year % 4 = 0 then 29 else 28)
  else if month = 4 ∨ month = 6 ∨ month = 9 ∨ month = 11 then 30 else 31

/-- The date exists (19 R482). -/
def dateOk (date month year : Nat) : Bool :=
  decide (1 ≤ month) && decide (month ≤ 12) && decide (1 ≤ date) && decide (date ≤ monthDays month year)

/-- Days before January 1 of a year. -/
def yearStart (year : Nat) : Nat := year * 365 + (year + 3) / 4

/-- Days of a year before a month. -/
def monthStart (month year : Nat) : Nat := ((List.range (month - 1)).map fun k => monthDays (k + 1) year).foldl (· + ·) 0

/-- Seconds since 2000-01-01 00:00:00. -/
def Cal.epoch (c : Cal) : Nat :=
  (yearStart c.year + monthStart c.month c.year + (c.date - 1)) * 86400 + c.hour * 3600 + c.min * 60 + c.sec

/-- Seconds from 2000 to the end of 2099. -/
def calendarEnd : Nat := 36525 * 86400

/-- The date of a day count, month by month. -/
def dateOf (fuel day month year : Nat) : Nat × Nat :=
  match fuel with
  | 0 => (month, day + 1)
  | k + 1 => if day < monthDays month year then (month, day + 1) else dateOf k (day - monthDays month year) (month + 1) year

/-- The calendar of a second count. -/
def calOf (e : Nat) : Cal :=
  let day := e / 86400 % 36525
  let r := day % 1461
  let year := day / 1461 * 4 + (if r < 366 then 0 else 1 + (r - 366) / 365)
  let d := dateOf 12 (day - yearStart year) 1 year
  { sec := e % 60, min := e / 60 % 60, hour := e / 3600 % 24, date := d.2, month := d.1, year := year }

/-- 1 Monday to 7 Sunday; 2000-01-01 is a Saturday. -/
def dayOfWeek (e : Nat) : Nat := (e / 86400 + 5) % 7 + 1

/-- The calendar registers as numbers. -/
def Hub.cal (h : Hub) : Cal :=
  { sec := h.get RTC_TIME_SEC, min := h.get RTC_TIME_MIN, hour := h.get RTC_TIME_HOUR,
    date := h.get RTC_DATE_DATE, month := h.get RTC_DATE_MONTH, year := h.get RTC_DATE_YEAR }

/-- Every calendar register takes the value of a second count. -/
def Hub.setEpoch (h : Hub) (e : Nat) : Hub :=
  let c := calOf e
  let h1 := (((h.put RTC_EPOCH_SECONDS e).put RTC_TIME_SEC c.sec).put RTC_TIME_MIN c.min).put RTC_TIME_HOUR c.hour
  (((h1.put RTC_TIME_DAY (dayOfWeek e)).put RTC_DATE_DATE c.date).put RTC_DATE_MONTH c.month).put RTC_DATE_YEAR c.year

/-- RTC_CTL with its reset values where a byte fails parity (19 R490). -/
def Hub.rtcHalted (h : Hub) : Bool := h.cfgSafe RTC_CTL_HALT == 1
def Hub.rtcSlave (h : Hub) : Bool := h.cfgSafe RTC_CTL_SLAVE == 1 && h.follower

/-! ## Trust (19 R483) -/

/-- OSF sets; its record waits for the logic's power (19 R491). -/
def Hub.osfSet (h : Hub) (cause : Nat) : Hub :=
  let h1 := (h.put RTC_STAT_OSF 1).put RTC_STAT_OSFCAUSE cause
  if h1.running then h1.report pgRTC 2 0x0601 0 sevWARN [(0, 1, cause)]
  else (h1.evt pgRTC 2).rtc! fun r => { r with osfSay := some cause }

/-- The record that waited is written at the next cold start or wake. -/
def Hub.osfSay (h : Hub) : Hub :=
  match h.rtc.osfSay with
  | some c => (h.rtc! fun r => { r with osfSay := none }).record 0x0601 0 sevWARN (payload [(0, 1, c)])
  | none => h

/-! ## Alarms (19 R486–R487) -/

/-- Alarm k matches a second count with the settings in force; a failing byte disables it (19 R490). -/
def Hub.almMatch (h : Hub) (k e : Nat) : Bool :=
  let f (x : Fld) : Nat := h.get (x.nth (2 * k))
  let c := calOf e
  let bad := h.bad.any fun b => !b.shadow && (b.idx == 0x050E + 2 * k || b.idx == 0x050F + 2 * k)
  let at_ (mask fld : Fld) (v : Nat) : Bool := f mask == 1 || f fld == v
  f RTC_AD_EN == 1 && !bad && at_ RTC_AD_M_SEC RTC_AT_SEC c.sec && at_ RTC_AD_M_MIN RTC_AT_MIN c.min
    && at_ RTC_AD_M_HOUR RTC_AT_HOUR c.hour && at_ RTC_AD_M_DAY RTC_AT_DAY (dayOfWeek e)
    && at_ RTC_AD_M_DATE RTC_AD_DATE c.date

/-- A second boundary: alarms fire whose match has become true (19 R486). -/
def Hub.almBoundary (h : Hub) : Hub :=
  let e := h.get RTC_EPOCH_SECONDS
  [0, 1].foldl (fun a k =>
    let m := a.almMatch k e
    let b := if m && !nth a.rtc.prevMatch k false then a.evt pgRTC k else a
    b.rtc! fun r => { r with prevMatch := setNth r.prevMatch k false m }) h

/-- A commit of the page: the match-before is evaluated anew (19 R487). -/
def Hub.almCommitted (h : Hub) : Hub :=
  h.rtc! fun r => { r with prevMatch := [0, 1].map fun k => h.almMatch k (h.get RTC_EPOCH_SECONDS) }

/-- Seconds to the next boundary at which alarm k would fire, looking at most `fuel` boundaries ahead. -/
def Hub.almNext (h : Hub) (k : Nat) : (fuel e : Nat) → (prev : Bool) → (ahead : Nat) → Option Nat
  | 0, _, _, _ => none
  | n + 1, e, prev, ahead =>
    let m := h.almMatch k (e + 1)
    if m && !prev then some (ahead + 1) else h.almNext k n (e + 1) m (ahead + 1)

/-! ## Rate correction (19 R484) -/

/-- Cycles inserted or deleted in second k of an interval of n cycles (19 R484). -/
def trimOfSecond (n : Int) (k : Nat) : Int := floorDiv ((k + 1 : Nat) * n) 60 - floorDiv ((k : Nat) * n) 60

/-- RTC_SUBSEC by the KRES cycles of the second: it waits for the cycles that this second inserts and passes over those
that it deletes, at the second's start, and holds at its end for the boundary. (DESIGN CHOICE, log entry 78.) -/
def Hub.subsec (h : Hub) : Nat :=
  (clampInt 0 32767 ((h.rtc.sub : Int) - trimOfSecond h.rtc.cycles h.rtc.second)).toNat

/-! ## Events -/

/-- A second boundary can have come: in a hub that runs, 9,900 frames since the last one have passed.
(DESIGN CHOICE, log entry 78.) -/
def Hub.rtcSecondDue (h : Hub) : Bool := !h.rtcHalted && (!h.running || decide (9900 ≤ h.rtc.ran))

/-- The boundary leaves a new second of the trim interval: the frames that it has run are known only while ticks count them.
-/
def Hub.secondOpens (h : Hub) : Hub :=
  h.rtc! fun r => { r with
    sub := 0, ran := if h.running then 0 else 100000
    second := (r.second + 1) % 60, trimmed := r.trimmed && r.second != 59 }

/-- A calendar second has passed (19 R478, R486); a slaved follower rolls no second of its own (R488).
(DEDUCED, log entry 48.) -/
def Hub.rtcSecond (h : Hub) : Hub :=
  if h.rtcHalted || h.flag RTC_STAT_SLAVED then h
  else
    let e := h.get RTC_EPOCH_SECONDS + 1
    let wrap := decide (calendarEnd ≤ e)
    let h1 := (h.setEpoch (if wrap then 0 else e)).secondOpens.rtc! fun r => { r with kresStopped := false }
    let h2 := if wrap then h1.osfSet 3 else h1
    let h3 := if h2.flag RTC_STAT_ONKEEP then h2.incSat RTC_KEEPT_SECONDS else h2
    h3.almBoundary

/-- A follower without an RTC_OK TICK for 20,000 frames (19 R488). -/
def Hub.slaveLostDue (h : Hub) : Bool := h.flag RTC_STAT_SLAVED && decide (20000 ≤ h.rtc.slaveAge)
def Hub.slaveLost (h : Hub) : Hub := (h.put RTC_STAT_SLAVED 0).evt pgRTC 4

/-- The second advances by the KRES cycles of a frame, and waits at its end for the boundary (19 R478, R488); the loss
of the lead's time that no command has brought comes one frame later. (DEDUCED, log entry 48; DESIGN CHOICE,
log entry 7.) -/
def Hub.rtcFrame (h : Hub) : Hub :=
  let h1 := if h.rtcHalted || h.rtc.kresStopped then h
    else h.rtc! fun r => { r with sub := min 32800 (r.sub + (Config.kresEdges h.mea.ticks).toNat) }
  let h2 := if h1.slaveLostDue then h1.slaveLost else h1
  h2.rtc! fun r => { r with slaveAge := min 20000 (r.slaveAge + 1), ran := min 100000 (r.ran + 1) }

/-- SLAVED reads 1 only while the rule applies (19 R488). -/
def Hub.slavedCheck (h : Hub) : Hub :=
  if h.flag RTC_STAT_SLAVED && !h.rtcSlave then h.put RTC_STAT_SLAVED 0 else h

/-- A TICK with RTC_OK reaches a slaved follower (19 R488–R489). -/
def Hub.slaveTick (h : Hub) (word10 : Nat) : Hub :=
  if !h.rtcSlave then h
  else
    let old := h.get RTC_EPOCH_SECONDS
    let h1 := (h.put RTC_STAT_SLAVED 1).rtc! fun r => { r with slaveAge := 0 }
    if word10 = old then h1
    else
      let h2 := ((h1.setEpoch word10).put RTC_EPOCH_SECONDS word10).secondOpens
      let h3 := h2.put RTC_STAT_OSF 0
      let h4 := if word10 = old + 1 then h3
        else h3.record 0x0603 0 sevINFO (payload [(0, 4, old), (4, 4, word10), (8, 1, 2)])
      if h4.rtcHalted then h4 else h4.almBoundary

/-- RTC_CTL acts at a tick, after the Idle writes of the frame (19 R481–R483): what HALT was before, and the port of
the write. (DEDUCED, log entry 48.) -/
def Hub.rtcCtlActs (h : Hub) (was : Bool) (port : Port) : Hub :=
  let halt := h.flag RTC_CTL_HALT
  if halt && !was then (h.put RTC_STAT_TWR 0).put RTC_STAT_DWR 0
  else if !halt && was then
    let c := h.cal
    if !dateOk c.date c.month c.year then
      (((h.put RTC_CTL_HALT 1).put (PG_ERR_CODE.pg pgRTC) 0x04).put (PG_ERR_OFFSET.pg pgRTC) 0x0C).incSat
        (PG_ERR_COUNT.pg pgRTC)
    else
      let old := h.get RTC_EPOCH_SECONDS
      let t := h.flag RTC_STAT_TWR
      let d := h.flag RTC_STAT_DWR
      let e := if t || d then c.epoch else old
      let h1 := (h.setEpoch e).secondOpens.rtc! fun r => { r with second := 0, trimmed := false }
      let h2 := if t && d then h1.put RTC_STAT_OSF 0 else h1
      if t || d then
        h2.record 0x0603 0 sevINFO (payload [(0, 4, old), (4, 4, e), (8, 1, if port = .w then 1 else 0)])
      else h2
  else h

/-- A read of RTC_TIME captures for its port (19 R479). -/
def Hub.rtcCapture (h : Hub) (p : Port) : Hub :=
  let c : RtcCap := ⟨h.word 0x0509, BitVec.ofNat 32 h.subsec, h.word 0x050B, h.frmNo⟩
  h.rtc! fun r => match p with | .e => { r with capE := some c } | .w => { r with capW := some c }

/-- The capture that stands for a port in this frame. -/
def Hub.rtcCap (h : Hub) (p : Port) : Option RtcCap :=
  match (match p with | .e => h.rtc.capE | .w => h.rtc.capW) with
  | some c => if c.frm = h.frmNo then some c else none
  | none => none

/-! ## Rate correction and KEEP (19 R484–R485) -/

/-- The factory curve at a temperature in 0.5 °C, in ppb: linear between its points, held beyond them. -/
def trimError (t : Int) : Int :=
  let p (i : Nat) : Int := (Config.trimCurve i).toInt
  let seg (i : Nat) (t0 t1 : Int) : Int := p i + truncDiv ((p (i + 1) - p i) * (t - t0)) (t1 - t0)
  let e := if t ≤ -80 then p 0 else if t < -20 then seg 0 (-80) (-20) else if t < 50 then seg 1 (-20) 50
    else if t < 110 then seg 2 50 110 else if t < 170 then seg 3 110 170 else p 4
  clampInt (-250000) 250000 e

/-- The accumulator and the interval's cycles after an error of e ppb. -/
def trimStep (acc e : Int) : Int × Int :=
  let a := acc + truncDiv (e * 1966080) 1000000
  let n := truncDiv a 1000
  (a - n * 1000, n)

/-- A trim interval has started, and its sensor read has not taken place (19 R484). -/
def Hub.rtcTrimDue (h : Hub) : Bool := !h.rtcHalted && h.rtc.second == 0 && !h.rtc.trimmed

/-- The sensor read at the start of a trim interval (19 R484–R485). -/
def Hub.rtcTrim (h : Hub) (temp : Int) (keepMv : Nat) : Hub :=
  let e := trimError temp
  let s := trimStep h.rtc.acc e
  let h1 := (h.rtc! fun r => { r with ppb := e, acc := s.1, cycles := s.2, trimmed := true }).puti RTC_TRIM_TEMP temp
  if keepMv < 2400 ∧ ¬ h1.flag RTC_STAT_KEEPLOW then
    let h2 := h1.put RTC_STAT_KEEPLOW 1
    if h2.running then h2.report pgRTC 3 0x0602 0 sevWARN [(0, 2, keepMv)] else h2.evt pgRTC 3
  else if 2600 < keepMv then h1.put RTC_STAT_KEEPLOW 0 else h1

/-- KRES has shown no edge for 1 ms (19 R483). -/
def Hub.kresStop (h : Hub) : Hub := (h.osfSet 2).rtc! fun r => { r with kresStopped := true }

/-- The domain changes its supply (19 R485). -/
def Hub.keepChange (h : Hub) (toKeep : Bool) : Hub :=
  if toKeep = h.flag RTC_STAT_ONKEEP then h
  else if toKeep then (h.put RTC_STAT_ONKEEP 1).put RTC_KEEPT_SECONDS 0 else h.put RTC_STAT_ONKEEP 0

/-- Every register of the page at its reset value, as at the domain's power-up (19 R480). -/
def Hub.rtcReset (h : Hub) : Hub :=
  { h with
    regs := h.regs.filter (fun e => e.1 / 256 != pgRTC), pend := h.pend.filter (fun e => e.1 / 256 != pgRTC),
    shadow := h.shadow.filter (fun e => e.1 / 256 != pgRTC), bad := h.bad.filter (fun b => b.idx / 256 != pgRTC),
    rtc := {}, md := { h.md with retained := none } }

def Hub.rtcPowerUp (h : Hub) : Hub := (h.rtcReset).osfSet 1

/-- RTC_OK in TICK: the lead's OSF is clear (14 R383). -/
def Hub.rtcOk (h : Hub) : Bool := !h.flag RTC_STAT_OSF

end Sys2Proof.Machine
end

