-- ==== Sys2Proof/Machine/Clocks.lean ====
section
/-! DEFINITION. Clock sources, monitors, reference selection and the frequency meter (02 R59–R69). -/

namespace Sys2Proof.Machine

abbrev pgCLK : Nat := 0x01
abbrev pgFRM : Nat := 0x02

/-- Monitor number: the bit of CLK_MONCTL.EN and CLK_MONSTAT.FAILNOW. -/
def monNum : ClkMon → Nat | .mosc => 0 | .lrec => 1 | .clkin => 2 | .pll => 3 | .kres => 4
/-- Source code of 02 R59. -/
def monCode : ClkMon → Nat | .mosc => 1 | .lrec => 2 | .clkin => 3 | .pll => 4 | .kres => 5

def rdyFld : Nat → Fld
  | 0 => CLK_STAT_RCO_RDY | 1 => CLK_STAT_MOSC_RDY | 2 => CLK_STAT_LREC_RDY | 3 => CLK_STAT_CLKIN_RDY
  | 4 => CLK_STAT_PLL_RDY | _ => CLK_STAT_KRES_RDY

/-- A source is READY. -/
def Hub.ready (h : Hub) (code : Nat) : Bool := h.flag (rdyFld code)

/-- A source may be the PLL reference: READY, and CLKIN near 25 MHz (02 R62). -/
def Hub.refOk (h : Hub) (code : Nat) : Bool := h.ready code && (code != 3 || h.flag CLK_STAT_CLKIN_REFOK)

/-- Bounds of a count rounded outward, at least 2 counts to either side of the expected one (02 R60). -/
def bounds (num den tolNum tolDen : Nat) : Nat × Nat :=
  let mid := num / den
  let lo := num * (tolDen - tolNum) / (den * tolDen)
  let hi := (num * (tolDen + tolNum) + den * tolDen - 1) / (den * tolDen)
  (min lo (mid - 2), max hi (mid + 2))

/-- The bounds of a monitor (02 R59–R60); the PLL is held to TOLF as LREC is. -/
def Hub.monBounds (h : Hub) (m : ClkMon) : Nat × Nat :=
  let g := 2 ^ h.cfgSafe CLK_MONCTL_GATE
  let tol := h.cfgSafe CLK_MONTOL_TOLF
  match m with
  | .mosc => bounds (5 * g) 4 5 100
  | .lrec => bounds g 1 tol 10000
  | .clkin => (g / 25, 2 * g)
  | .pll => bounds g 1 tol 10000
  | .kres => bounds 24414 1 1 100

/-- The reference PLLREF_ACT takes over glitch-free (02 R63). -/
def Hub.switchRef (h : Hub) (code : Nat) : Hub :=
  let h1 := h.put CLK_STAT_PLLREF_ACT code
  if h1.ready code then h1.put CLK_STAT_HOLDOVER 0 else h1

/-- A selection is refused (02 R62). -/
def Hub.switchRefused (h : Hub) (code : Nat) : Hub :=
  ((h.put CLK_STAT_REFUSED 1).incSat CLK_ERRCNT_REFCNT).report pgCLK 0 0x0201 0 sevINFO
    [(0, 1, code), (1, 1, h.get CLK_STAT_PLLREF_ACT), (2, 1, bitsOf (h.word 0x0108) 0 8)]

/-- The tick at which a selection acts (02 R62); `old` stands again where it is refused, which PG_ERR shows. -/
def Hub.selActs (h : Hub) (old : Nat) : Hub :=
  let new := h.get CLK_SEL_PLLREF
  if new = h.get CLK_STAT_PLLREF_ACT then h
  else if h.refOk new then h.switchRef new
  else
    let h1 := ((h.put CLK_SEL_PLLREF old).switchRefused new).put (PG_ERR_CODE.pg pgCLK) 0x0B
    (h1.put (PG_ERR_OFFSET.pg pgCLK) 0x09).incSat (PG_ERR_COUNT.pg pgCLK)

/-- LREC_RDY clears: the fallback of 02 R64 where LREC is the reference. -/
def Hub.lrecLost (h : Hub) : Hub :=
  if !h.flag CLK_STAT_LREC_RDY then h
  else
    let h1 := h.put CLK_STAT_LREC_RDY 0
    if h1.get CLK_SEL_PLLREF ≠ 2 then h1
    else
      let h2 := ((h1.put CLK_SEL_PLLREF 1).switchRef 1).setFlag CLK_STAT_FALLBACK
      (h2.incSat CLK_ERRCNT_FALLCNT).report pgCLK 1 0x0202 0 sevWARN [(0, 4, h.clk.lrecCount)]

/-- The reference in use has failed: holdover, and the clock block is fenced (02 R66). -/
def Hub.refLost (h : Hub) (code : Nat) : Hub :=
  ((h.put CLK_STAT_HOLDOVER 1).report pgCLK 3 0x0204 0 sevFAULT [(0, 1, code)]).fence pgCLK 6

def Hub.monFail (h : Hub) (code count : Nat) : Hub :=
  h.report pgCLK 2 0x0203 0 sevWARN [(0, 1, code), (4, 4, count)]

/-- Bit n of FAILNOW. -/
def Hub.setFailNow (h : Hub) (n : Nat) (b : Bool) : Hub :=
  let m := h.get CLK_MONSTAT_FAILNOW
  h.put CLK_MONSTAT_FAILNOW (m - (if m.testBit n then 2 ^ n else 0) + boolNat b * 2 ^ n)

/-- A monitor runs while it is enabled (02 R60); in STANDBY the logic has no power and no monitor runs. -/
def Hub.monOn (h : Hub) (m : ClkMon) : Bool := (h.cfgSafe CLK_MONCTL_EN).testBit (monNum m)

/-- A source in bounds for two gates becomes READY (02 R59). -/
def Hub.monGood (h : Hub) (m : ClkMon) (count : Nat) : Hub :=
  let n := monNum m
  let k := min 2 (nth h.clk.good n 0 + 1)
  let h1 := (h.setFailNow n false).clk! fun c => { c with good := setNth c.good n 0 k }
  let rdy := decide (k = 2) && (match m with | .pll => false | .lrec => h.clk.symLock | _ => true)
  let h2 := if rdy then h1.put (rdyFld (monCode m)) 1 else h1
  let h3 := if rdy && h2.get CLK_STAT_PLLREF_ACT == monCode m then h2.put CLK_STAT_HOLDOVER 0 else h2
  match m with
  | .clkin =>
    let b := bounds (2 ^ h.cfgSafe CLK_MONCTL_GATE) 1 (h.cfgSafe CLK_MONTOL_TOLF) 10000
    h3.putb CLK_STAT_CLKIN_REFOK (h3.flag CLK_STAT_CLKIN_RDY && decide (b.1 ≤ count) && decide (count ≤ b.2))
  | _ => h3

/-- A source out of bounds: READY clears, with the consequence of 02 R64 or R66.  A failure that FAILCNT and LASTFAIL show
is a gate that takes READY away, for the PLL the first failing gate (DEDUCED, log entry 62). -/
def Hub.monBad (h : Hub) (m : ClkMon) (count : Nat) : Hub :=
  let n := monNum m
  let code := monCode m
  let was := match m with | .pll => !(h.get CLK_MONSTAT_FAILNOW).testBit n | _ => h.ready code
  let h1 := (h.setFailNow n true).clk! fun c => { c with good := setNth c.good n 0 0 }
  if !was then h1
  else
    let h2 := (h1.incSat CLK_MONSTAT_FAILCNT).put CLK_MONSTAT_LASTFAIL code
    match m with
    | .lrec => if h2.get CLK_SEL_PLLREF = 2 then h2.lrecLost else h2.lrecLost.monFail code count
    | .pll => h2.monFail code count
    | .kres => ((h2.put CLK_STAT_KRES_RDY 0).monFail code count).osfSet 2
    | _ =>
      let h3 := h2.put (rdyFld code) 0
      let h4 := if m = .clkin then
          let a := h3.put CLK_STAT_CLKIN_REFOK 0
          if a.get LB_SYNC_SRC = 2 then a.lbSyncLost else a
        else h3
      if h4.get CLK_STAT_PLLREF_ACT = code then h4.refLost code else h4.monFail code count

/-- CLOCK_MONITOR_GATE: a gate of a monitor ends with its count. -/
def Hub.monGate (h : Hub) (m : ClkMon) (count : Nat) : Hub :=
  let h1 := match m with
    | .lrec => h.clk! fun c => { c with lrecCount := count }
    | .clkin => h.clk! fun c => { c with clkin := (count, 2 ^ h.cfgSafe CLK_MONCTL_GATE) }
    | _ => h
  let b := h1.monBounds m
  let h2 := if b.1 ≤ count ∧ count ≤ b.2 then h1.monGood m count else h1.monBad m count
  -- CLKIN / CLKDIV leaves 250–600 kHz (09 R269)
  if m = .clkin ∧ h2.get LB_SYNC_SRC = 2 ∧ !h2.lbClkOk then h2.lbSyncLost else h2

/-- KRES has shown no edge for 1 ms (19 R483): on a running hub that finds KRES READY it is a failure of the source, with
MON_FAIL (02 R59, R66; the count of no edges is 0, DEDUCED, log entry 62). -/
def Hub.kresLost (h : Hub) : Hub :=
  (if h.running && h.flag CLK_STAT_KRES_RDY then h.monBad .kres 0 else h).kresStop

/-- The UP port gains or loses symbol lock (02 R59). -/
def Hub.symLock (h : Hub) (on : Bool) : Hub :=
  let h1 := h.clk! fun c => { c with symLock := on }
  if on then h1 else (h1.clk! fun c => { c with good := setNth c.good 1 0 0 }).lrecLost

/-! ## PLL (02 R59, R61, R66) -/

def Hub.pllLock (h : Hub) (us : Nat) : Hub :=
  let h1 := (h.put CLK_STAT_PLL_RDY 1).putSat CLK_PLLSTAT_LOCKTIME us
  if h.mode = mNAP ∧ ¬ h.md.waking then h1 else h1.put CLK_STAT_CORE_SRC 4

def Hub.pllUnlock (h : Hub) : Hub :=
  let h1 := (h.put CLK_STAT_PLL_RDY 0).incSat CLK_PLLSTAT_UNLOCKCNT
  if h.ready (h.get CLK_STAT_PLLREF_ACT) then
    (h1.report pgCLK 4 0x0205 0 sevFATAL [(0, 2, h1.get CLK_PLLSTAT_UNLOCKCNT)]).fence pgCLK 6
  else h1

/-- The cause of a clock fence has cleared: the PLL is locked to a reference that is READY (02 R67). -/
def Hub.clkCleared (h : Hub) : Bool := h.flag CLK_STAT_PLL_RDY && h.ready (h.get CLK_STAT_PLLREF_ACT)

/-! ## Frequency meter (02 R68–R69) -/

/-- START acts at the tick. -/
def Hub.fmStart (h : Hub) : Hub :=
  (((h.put CLK_FMCTL_BUSY 1).put CLK_FMCTL_DONE 0).put CLK_FMCTL_OVF 0).put CLK_FMCTL_TIMEOUT 0

def Hub.fmEnd (h : Hub) (count : Nat) (timeout : Bool) : Hub :=
  let n := if h.get CLK_FMCTL_SRC = h.get CLK_FMCTL_REF ∧ !timeout then 2 ^ h.get CLK_FMCTL_GATE else count
  let h1 := ((h.putSat CLK_FMCOUNT_COUNT n).putb CLK_FMCTL_OVF (decide (2 ^ 32 ≤ n))).put CLK_FMCTL_BUSY 0
  ((h1.setFlag CLK_FMCTL_DONE).putb CLK_FMCTL_TIMEOUT timeout).evt pgCLK 5

/-! ## Overruns (02 R49–R51) -/

/-- A phase is unfinished at its deadline: bit 0 P1, bit 1 P2.  OVERRUN is recorded at the first deadline that is missed
(DEDUCED, log entry 62). -/
def Hub.overrun (h : Hub) (phase : Nat) : Hub :=
  let first := h.frm.ovr == 0
  let m := h.frm.ovr ||| phase
  let h1 := ((h.put FRM_OVRINFO_PHASE m).put FRM_OVRFRM_FRAME h.frmNo)
  let h2 := h1.frm! fun f => { f with
    ovr := m, clean := 0, defP1 := f.defP1 || phase.testBit 0, defP2 := f.defP2 || phase.testBit 1 }
  if !first then h2
  else
    let run := h2.get FRM_OVRINFO_RUN + 1
    let h3 := (h2.geyShutAll.incWrap FRM_OVR_COUNT).putSat FRM_OVRINFO_RUN run
    let h4 := h3.report pgFRM 0 0x0301 0 sevWARN [(0, 1, m), (4, 4, h.frmNo)]
    if run = h4.cfgSafe FRM_STALLN_N then h4.frm! fun f => { f with stallDue := true } else h4

/-- FRAME_STALL: recorded, and the section engine is fenced (02 R51, 21 R517). -/
def Hub.frameStall (h : Hub) : Hub :=
  let h1 := h.frm! fun f => { f with stallDue := false }
  (h1.report pgFRM 1 0x0302 0 sevFATAL [(0, 1, h.get FRM_OVRINFO_RUN)]).fence 0x16 7

/-- OPH adds 1 at every 1,000th frame, and the lockout runs on it (02 R56, 20 R508). -/
def Hub.ophStep (h : Hub) : Hub :=
  let h1 := if h.oph = 0xFFFFFFFFF then h else h.putPair FRM_OPH_LO_OPH FRM_OPH_HI_OPH (h.oph + 1)
  if h1.flag KEY_STAT_LOCKOUT then h1.put KEY_LOCKLEFT_LEFT (h1.get KEY_LOCKLEFT_LEFT - 1) else h1

end Sys2Proof.Machine
end

