-- ==== Sys2Proof/Machine/Charger.lean ====
section
/-! DEFINITION. The charger, BATFET, the hold-up detector, the bypass and hand-back (chapter 11). -/

namespace Sys2Proof.Machine

abbrev pgCHG : Nat := 0x10

abbrev Hub.chgSt (h : Hub) : Nat := h.get CHG_STAT_STATE

/-! ## Quantities (11 R302, R306) -/

def Hub.cells (h : Hub) : Nat := h.cfgSafe CHG_BATCFG_CELLS
def Hub.zone (h : Hub) : Nat := h.get CHG_STAT_ZONE
def Hub.vbatMv (h : Hub) : Nat := h.get CHG_MEAS_VBAT * 10
def Hub.ibatMa (h : Hub) : Int := h.geti CHG_MEAS_IBAT * 10

/-- v_chg, iset and ipre of 11 R302. -/
def Hub.vChg (h : Hub) : Nat :=
  h.get CHG_BATCFG_CELLS * h.get CHG_VBAT_VCELL * 10 - (if h.zone = 3 then h.get CHG_BATCFG_CELLS * 100 else 0)
def Hub.iSet (h : Hub) : Nat :=
  min (h.get CHG_ICFG_ICHG * 50 / (if h.zone = 1 then 2 else 1)) (292000000 / max 1 h.vbatMv)
def Hub.iPre (h : Hub) : Nat := h.get CHG_ICFG_IPRE * 50
def Hub.vPre (h : Hub) : Nat := h.get CHG_BATCFG_CELLS * h.get CHG_VBAT_VPRE * 10
def Hub.vRech (h : Hub) : Nat := h.vChg - h.get CHG_BATCFG_CELLS * h.get CHG_VLIM_VRECH * 10

/-- The current setpoint of the present state. -/
def Hub.iTarget (h : Hub) : Nat := if h.chgSt = 2 then h.iPre else h.iSet

/-- i_req, p_chg, p_chgreq and i_bud of 11 R306. -/
def Hub.iReq (h : Hub) : Nat :=
  match h.chgSt with
  | 2 => h.iPre
  | 3 => h.iSet
  | 4 => if h.get CHG_STAT_LIMITERS ≠ 0 then h.iSet else (max h.ibatMa 0).toNat
  | _ => 0
def Hub.pChgMw (h : Hub) : Nat := h.vbatMv * (max h.ibatMa 0).toNat * 1086 / 1024000
def Hub.pReqMw (h : Hub) : Nat := h.vbatMv * h.iReq * 1086 / 1024000
def Hub.iBud (h : Hub) : Nat := h.bud.gChg * 1024000 / (1086 * max 1 h.vbatMv)

/-- The zone forbids charging (11 R303). -/
def badZone (z : Nat) : Bool := z == 0 || z == 4 || z == 5

/-! ## BATFET and VSYS (11 R296–R298) -/

/-- A field of page CHG as the power stage uses it: the reset value without logic or under a parity fence (11 R297,
R321). -/
def Hub.chgCfg (h : Hub) (f : Fld) : Nat :=
    if h.md.power = .on then h.cfgSafe f else bitsOf (resetWord h.part f.idx) f.lo f.w

/-- The hub is in a hold-up, or a trigger has fired: the battery supplies VSYS (11 R312, R314). -/
def Hub.inHoldup (h : Hub) : Bool := h.mode == mHOLDUP || h.md.holdupDue

/-- CHG_STAT.BATFET (11 R296).  No command brings a reversed battery: such a hub stays off (01 R41). -/
def Hub.batfet (h : Hub) : Nat :=
  let st := h.chgSt
  let off : Bool := h.md.power == .ship || (h.md.power == .off && h.md.cutoffDue)
      || (h.md.power == .booting && h.md.resetCause == 3)
  if off || st == 8 then 0
  else if st = 0 ∨ h.fenced pgCHG then 3
  else if (st = 2 ∨ st = 3 ∨ st = 4) ∧ h.vbatMv < 9500 then 2
  else 1

/-- The VSYS target in mV while the charger holds VSYS: 500 mV lower in a presence test, CHG_VNOBAT without a battery, above
the battery while charging is disabled, 9.50 V in the linear condition (11 R296–R297, R301, R305). -/
def Hub.vsysHold (h : Hub) : Option Nat :=
  let nobat := h.chgCfg CHG_VNOBAT_V * 10
  if !h.anyFeedOn || h.inHoldup then none
  else if h.chg.presTest then some (h.get CHG_MEAS2_VSYS * 10 - 500)
  else if h.chgSt = 8 then some nobat
  else if h.chgSt = 0 ∨ h.fenced pgCHG ∨ h.md.power ≠ .on then some (min 36000 (max nobat (h.vbatMv + 200)))
  else if h.batfet = 2 then some 9500
  else none

/-- The power stage follows the charger's state. -/
def Hub.chgPower (h : Hub) : Hub := (h.put CHG_STAT_BATFET h.batfet).chg! fun c => { c with hold := h.vsysHold }

/-- The charger is switching (11 R298). -/
def Hub.chgSwitching (h : Hub) : Bool :=
  let st := h.chgSt
  st == 2 || st == 3 || st == 4 || st == 8 || (st == 0 && h.anyFeedOn) || h.vsysHold.isSome

/-! ## Charger states (11 R301) -/

/-- Charging is permitted (11 R301): not from a trigger on, which ends it (R312). -/
def Hub.chgPermitted (h : Hub) : Bool :=
  let m := h.mode
  h.en pgCHG && h.anyFeedOn && h.flag CHG_STAT_BATPRES && !h.fenced pgCHG && !h.md.holdupDue &&
  (m == mREADY || m == mFIELD || m == mTRANSPORT || m == mNAP || (m == mSERVICE && !h.md.serviceByPhantom))

/-- The timer, its half-rate seconds and the running second are cleared (11 R307). -/
def Hub.timerClear (h : Hub) : Hub :=
  (((h.put CHG_TIMERSTAT_COUNT 0).put CHG_HALFSEC_HALFSEC 0).put CHG_STAT_HALFRATE 0).chg!
    fun c => { c with secFrames := 0, full := 0 }

/-- Enter a state: PAUSED in place of charging in a zone that forbids it; a presence test on entry to DONE, PAUSED
or SUSPENDED while a feed is ON (11 R301, R305). -/
def Hub.chgTo (h : Hub) (st : Nat) : Hub :=
  let st' := if (st = 2 ∨ st = 3 ∨ st = 4) ∧ badZone h.zone then 6 else st
  let h1 := ((h.put CHG_STAT_STATE st').chg! fun c => { c with
    taper := 0, sinceCheck := 0,
    presTest := (st' == 5 || st' == 6 || st' == 7) && h.chgSt != st' && h.anyFeedOn }).chgPower
  if st' = 5 then h1.timerClear else h1

/-- The charging state for a battery voltage in mV: by VBAT from PAUSED or DONE (11 R301). -/
def Hub.byVbat (h : Hub) (mv : Nat) : Nat := if mv < h.vPre then 2 else if mv < h.vChg then 3 else 4

/-- The charger die is below 130 °C (CHG_MEAS2.TDIE is °C + 64). -/
def Hub.dieCool (h : Hub) : Bool := decide (h.get CHG_MEAS2_TDIE < 194)

/-- The battery is found absent (11 R305). -/
def Hub.batAbsent (h : Hub) : Hub :=
  let st := h.chgSt
  let h1 := (h.put CHG_STAT_BATPRES 0).chg! fun c => { c with presTest := false, sinceCheck := 0 }
  (if 1 ≤ st ∧ st ≤ 7 then h1.put CHG_STAT_STATE 8 else h1).chgPower.report pgCHG 3 0x1004 0 sevWARN
    [(0, 1, st), (2, 2, h.get CHG_MEAS2_VSYS)]

/-- The battery is found present (11 R305). -/
def Hub.batPresent (h : Hub) (mv : Nat) : Hub :=
  let h1 := h.put CHG_STAT_BATPRES 1
  (if h.chgSt = 8 then h1.put CHG_STAT_STATE 1 else h1).chgPower.report pgCHG 4 0x1005 0 sevINFO [(0, 2, mv / 10)]

/-- Charging that is no longer permitted stops (11 R301, R314). -/
def Hub.chgStop (h : Hub) : Hub := if 2 ≤ h.chgSt ∧ h.chgSt ≤ 6 ∧ !h.chgPermitted then h.chgTo 1 else h

/-- State changes a tick makes (11 R301).  An enabled charger that has not found a battery goes to NOBAT, where the contacts
are measured. (DEDUCED, log entry 75.) -/
def Hub.chgStep (h : Hub) : Hub :=
  let st := h.chgSt
  if 2 ≤ st ∧ st ≤ 6 ∧ !h.chgPermitted then h.chgTo 1
  else if st = 1 ∧ !h.flag CHG_STAT_BATPRES ∧ h.anyFeedOn ∧ !h.inHoldup ∧ !h.fenced pgCHG then h.batAbsent
  else if st = 1 ∧ h.chgPermitted then
    h.chgTo (if h.vbatMv < h.vPre then 2 else if h.vbatMv < h.vRech then 3 else 5)
  else if (st = 2 ∨ st = 3 ∨ st = 4) ∧ badZone h.zone then h.chgTo 6
  else if st = 6 ∧ !badZone h.zone ∧ h.dieCool then h.chgTo (h.byVbat h.vbatMv)
  else h

/-- EN = 1 and EN = 0 act (11 R301). -/
def Hub.chgEnable (h : Hub) : Hub :=
  if h.chgSt = 0 then (((h.put CHG_STAT_STATE 1).timerClear).put CHG_FAULT_CODE 0).chgPower else h
def Hub.chgDisable (h : Hub) : Hub :=
    ((h.put CHG_STAT_STATE 0).chg! fun c => { c with presTest := false, taper := 0, iGoal := 0 }).chgPower

/-- A fenced page: the charger enters IDLE (11 R321); SUSPENDED ends only through EN (R308). (DEDUCED, log entry 75.) -/
def Hub.chgFenced (h : Hub) : Hub := (if 2 ≤ h.chgSt ∧ h.chgSt ≠ 7 then h.chgTo 1 else h).chgPower

/-- The zone of a temperature in 0.5 °C (11 R303). -/
def Hub.rawZone (h : Hub) (t : Int) : Nat :=
  if t < 2 * h.geti CHG_NTC_T1 then 0 else if t < 2 * h.geti CHG_NTC_T2 then 1
  else if t < 2 * h.geti CHG_NTC_T3 then 2 else if t < 2 * h.geti CHG_NTC_T4 then 3 else 4

/-- Lower and upper bound of a zone in °C. -/
def Hub.zoneLo (h : Hub) (z : Nat) : Int :=
  match z with
  | 1 => h.geti CHG_NTC_T1 | 2 => h.geti CHG_NTC_T2 | 3 => h.geti CHG_NTC_T3 | 4 => h.geti CHG_NTC_T4 | _ => -1000
def Hub.zoneHi (h : Hub) (z : Nat) : Int :=
  match z with | 0 => h.geti CHG_NTC_T1 | 1 => h.geti CHG_NTC_T2 | 2 => h.geti CHG_NTC_T3 | 3 => h.geti CHG_NTC_T4 | _ => 1000

/-- The zone after a reading in 0.5 °C: a zone is left only 2 °C past its boundary (11 R303). -/
def Hub.nextZone (h : Hub) (t : Int) (bad : Bool) : Nat :=
  let z := h.zone
  if bad then 5
  else if z = 5 then h.rawZone t
  else if t ≤ 2 * h.zoneLo z - 4 ∨ 2 * h.zoneHi z + 4 ≤ t then h.rawZone t else z

/-- TBAT and the zone take values; a zone that forbids charging pauses it (11 R301, R303, R322). -/
def Hub.zoneTo (h : Hub) (z : Nat) (tb : Int) : Hub :=
  let h1 := (h.puti CHG_MEAS2_TBAT tb).put CHG_STAT_ZONE z
  let h2 := if z = h.zone then h1
    else if badZone z then h1.report pgCHG 2 0x1003 0 sevINFO [(0, 1, z), (1, 1, wrapTo 8 tb)] else h1.evt pgCHG 2
  let st := h2.chgSt
  if (st = 2 ∨ st = 3 ∨ st = 4) ∧ badZone z then h2.chgTo 6 else h2

/-- A battery temperature in 0.5 °C sets TBAT and the zone (11 R303, R322); TBAT is the whole degrees, rounded down.
(DEDUCED, log entry 75.) -/
def Hub.ntcZone (h : Hub) (t : Int) (bad : Bool) : Hub :=
  h.zoneTo (h.nextZone t bad) (if bad then -128 else clampInt (-127) 127 (floorDiv t 2))

/-- The BNTC result of a frame in 0.5 °C: above 150 °C it reads open, below −50 °C shorted (01 R18, 11 R303, 13 R349). -/
def Hub.bntc (h : Hub) (t : Int) : Hub := h.ntcZone t (decide (300 < t) || decide (t < -100))

/-- The charger die reaches 150 °C (11 R301, R322). -/
def Hub.chgShutdown (h : Hub) (die : Nat) : Hub :=
  ((h.put CHG_MEAS2_TDIE die).chgTo 6).report pgCHG 5 0x1006 0 sevFAULT [(0, 1, die)]

/-- CHARGE_DONE (11 R301, R322): the count is that of the finished cycle. -/
def Hub.chargeDone (h : Hub) (vbat : Nat) : Hub :=
  (h.chgTo 5).report pgCHG 0 0x1001 0 sevINFO [(0, 2, vbat), (4, 4, h.get CHG_TIMERSTAT_COUNT)]

/-- One counted second of the safety timer (11 R307–R308); in NAP the charger keeps its state (R298), and an expiry
waits for the next second after the wake. (DEDUCED, log entry 75.) -/
def Hub.timerSecond (h : Hub) : Hub :=
  let full : Bool := decide (5000 ≤ h.chg.full)
  let h1 := (h.put CHG_TIMERSTAT_COUNT (h.get CHG_TIMERSTAT_COUNT + (if full then 2 else 1))).putb CHG_STAT_HALFRATE (!full)
  let h2 := (if full then h1 else h1.incWrap CHG_HALFSEC_HALFSEC).chg!
    fun c => { c with secFrames := c.secFrames - 10000, full := 0 }
  if h2.get CHG_TIMER_TMAX * 120 ≤ h2.get CHG_TIMERSTAT_COUNT ∧ h2.mode ≠ mNAP then
    let code := if h2.get CHG_HALFSEC_HALFSEC = 0 then 1 else 2
    ((h2.chgTo 7).put CHG_FAULT_CODE code).report pgCHG 1 0x1002 0 sevFAULT
      [(0, 1, code), (4, 4, h2.get CHG_HALFSEC_HALFSEC)]
  else h2

/-! ## Low battery and cutoff (11 R309–R310), voltages in 10 mV -/

def Hub.lowLevel (h : Hub) : Nat := h.cells * (h.cfgSafe CHG_VLIM_VCUT + 20)

/-- The cutoff level: the 7.0 V floor until the page has been committed and where CELLS reads 0. -/
def Hub.cutLevel (h : Hub) : Nat :=
  if h.chg.committed ∧ h.cells ≠ 0 then h.cells * h.cfgSafe CHG_VLIM_VCUT else 700

def Hub.batLow (h : Hub) (vbat : Nat) : Hub :=
  (h.put CHG_STAT_LOWBAT 1).report pgCHG 13 0x1015 0 sevWARN [(0, 2, vbat)]

/-- BAT_CUTOFF is recorded; the hub goes off when the record is committed (11 R310). -/
def Hub.batCutoff (h : Hub) (vbat : Nat) : Hub :=
  let h1 := h.report pgCHG 14 0x1016 0 sevFATAL [(0, 2, vbat), (2, 1, h.mode)]
  h1.md! fun m => { m with cutoffDue := true, downFrames := 0 }

/-! ## Hold-up (11 R311–R320) -/

/-- Modes in which the detector may be armed (11 R311). -/
def Hub.armMode (h : Hub) : Bool :=
  let m := h.mode
  m == mREADY || m == mFIELD || m == mTRANSPORT || (m == mSERVICE && !h.md.serviceByPhantom)

/-- The detector re-arms, or disarms in a mode where it is never armed (11 R311). -/
def Hub.armCheck (h : Hub) : Hub :=
  if !h.armMode then h.put CHG_STAT_ARMED 0
  else if h.anyFeedOn ∧ !h.chg.needRise ∧ h.chg.trig.isNone then h.put CHG_STAT_ARMED 1 else h

def trigNum : HoldTrig → Nat | .level => 1 | .slope => 2 | .noFeed => 3

/-- The trigger's condition as far as the hub can judge it: 15.0 V, SLOPE set, no feed ON (11 R311).
(DEDUCED, log entry 55.) -/
def Hub.trigHolds (h : Hub) (t : HoldTrig) (vinb : Nat) : Bool :=
  match t with
  | .level => decide (vinb < 150)
  | .slope => h.cfgSafe CHG_HOLD_SLOPE != 0
  | .noFeed => !h.anyFeedOn

/-- A trigger fires: LB in CAL, RAMP or REGULATE goes to BYPASS and the bypass is enabled, and the charger stops switching
(11 R312). -/
def Hub.holdupTrigger (h : Hub) (t : HoldTrig) (vinb : Nat) : Hub :=
  let st := h.convSt 0
  let into : Bool := st == 2 || st == 3 || st == 4
  let h1 := (h.put CHG_STAT_ARMED 0).chg! fun c => { c with
    needRise := true, bypTripped := false, trig := some (trigNum t, h.mode, vinb, h.get CHG_MEAS2_VSYS) }
  let h2 := if into then ((h1.convTo 0 8).conv! 0 fun c => { c with vent := false, assist := false }).put CHG_STAT_BYPASS 1
    else h1
  let h3 := h2.md! fun m => { m with holdupDue := true }
  (if 2 ≤ h3.chgSt ∧ h3.chgSt ≤ 4 then h3.chgTo 1 else h3).chgPower

/-- HOLDUP is entered at the tick after the trigger (11 R312, R316). -/
def Hub.holdupEntered (h : Hub) : Hub :=
  let t := h.chg.trig.getD (0, 0, 0, 0)
  let again : Bool := match h.chg.sinceHb with | some k => decide (k ≤ 100000) | none => false
  let rep := h.get CHG_STAT_REPEAT
  let h1 := if again && decide (rep < 4) then (h.put CHG_STAT_REPEAT (rep + 1)).evt pgCHG 15 else h
  let h2 := ((h1.put CHG_STAT_HOLDUP 1).put CHG_HULAST_FRAMES 0).incSat CHG_HUCNT_ENTRIES
  (h2.chg! fun c =>
      { c with trig := none, dwell := 0, hbDue := false, outside := 0, sinceHb := none }).report pgCHG 8 0x1010 0
    sevWARN [(0, 1, t.1), (1, 1, t.2.1), (2, 2, t.2.2.1), (4, 2, t.2.2.2)]

/-- A bypass trip (11 R313); one that opens it in a running hand-back completes the hand-back (R318, 09 R260). -/
def Hub.bypassTrip (h : Hub) (byLimit : Bool) (cur : Nat) : Hub :=
  let h1 := (h.openBypass.incSat CHG_HUCNT2_BYPTRIPS).chg! fun c => { c with bypTripped := true }
  let h2 := if h.convSt 0 = 9 ∧ h.flag CHG_STAT_HANDBACK then (h1.convTo 0 3).md! fun m => { m with handback := true }
      else h1
  h2.report pgCHG 12 0x1014 0 sevFAULT [(0, 1, if byLimit then 2 else 1), (2, 2, cur)]

/-- P2 in HOLDUP: hand-back falls due (11 R317). (DEDUCED, log entry 55.) -/
def Hub.holdupP2 (h : Hub) : Hub :=
  if h.mode = mHOLDUP ∧ !h.flag CHG_STAT_HANDBACK ∧ !h.md.handback ∧ !h.md.holdmaxDue
      ∧ h.anyFeedOn ∧ h.cfgSafe CHG_HOLDDWELL_MS * 10 * 2 ^ h.get CHG_STAT_REPEAT ≤ h.chg.dwell then
    h.chg! fun c => { c with hbDue := true }
  else h

/-- Hand-back starts at a tick (11 R317); a feed lost meanwhile stops it (R320). (DEDUCED, log entry 55.) -/
def Hub.handbackStart (h : Hub) : Hub :=
  if !h.chg.hbDue then h
  else
    let h1 := h.chg! fun c => { c with hbDue := false }
    if !h1.anyFeedOn ∨ h1.mode ≠ mHOLDUP then h1
    else
      let h2 := h1.put CHG_STAT_HANDBACK 1
      if h2.convSt 0 = 8 ∨ h2.convSt 0 = 9 then (h2.convTo 0 2).lb! fun l => { l with hbCal := true }
      else h2.openBypass.md! fun m => { m with handback := true }

/-- The bypass opens in a hand-back: LB stands 0.3 V above VSYS, or is no longer in HANDBACK (11 R317–R318). -/
def Hub.bypassOpen (h : Hub) : Hub :=
  let h1 := if h.convSt 0 = 9 then h.openBypass.convTo 0 3 else h.openBypass
  h1.md! fun m => { m with handback := true }

/-- The tick after a completed hand-back (11 R318). (DEDUCED, log entry 55.) -/
def Hub.handedBack (h : Hub) : Hub :=
  let h1 := ((h.put CHG_STAT_HANDBACK 0).put CHG_STAT_HOLDUP 0).openBypass
  let h2 := (h1.incSat CHG_HUCNT_HANDBACKS).chg! fun c => { c with needRise := false, sinceHb := some 0, outside := 0 }
  -- the detector re-arms although the last feed may have gone since the hand-back completed (R320)
  let h3 := if h2.armMode then h2.put CHG_STAT_ARMED 1 else h2
  (h3.bud! fun b => { b with afterHoldup := true, hbReplied := false }).report pgCHG 9 0x1011 0 sevINFO
      [(0, 4, h.get CHG_HULAST_FRAMES), (4, 1, h.get CHG_STAT_REPEAT)]

/-- HOLDUP ends without a hand-back (11 R315, R320). -/
def Hub.holdupEnded (h : Hub) : Hub :=
  ((h.put CHG_STAT_HANDBACK 0).put CHG_STAT_HOLDUP 0).openBypass.chg!
      fun c => { c with hbDue := false, trig := none, outside := 0 }

/-- HOLDMAX expires (11 R315): READY at the next tick, the bypass opens and LB is disabled. -/
def Hub.holdmaxExpired (h : Hub) : Hub :=
  let h1 := ((h.openBypass).put (PG_CTL_EN.pg 0x11) 0).convDisable 0
  let h2 := (h1.incSat CHG_HUCNT2_HOLDMAXCNT).report pgCHG 11 0x1013 0 sevWARN [(0, 2, h.get CHG_MEAS2_VSYS)]
  h2.md! fun m => { m with holdmaxDue := true }

/-- HOLDMAX is reached and nothing of R320 comes before it. -/
def Hub.holdmaxDue (h : Hub) : Bool :=
  h.mode == mHOLDUP && !h.flag CHG_STAT_HANDBACK && !h.chg.hbDue && !h.md.handback
    && !h.md.holdmaxDue && h.cfgSafe CHG_HOLD_HOLDMAX != 0
    && decide (h.cfgSafe CHG_HOLD_HOLDMAX * 10000 ≤ h.get CHG_HULAST_FRAMES)

/-! ## Work of a tick -/

/-- Time as the charger counts it, tick by tick, in NAP too: the check of DONE, PAUSED and NOBAT, the safety timer, the ten
seconds of REPEAT; and the end of a low-battery episode (11 R298, R305, R307, R309, R316). -/
def Hub.chgClock (h : Hub) : Hub :=
  let st := h.chgSt
  let inHold := h.mode == mHOLDUP
  let h1 := h.chg! fun c => { c with
    secFrames := if st = 2 ∨ st = 3 ∨ st = 4 ∨ st = 6 then c.secFrames + 1 else c.secFrames,
    sinceCheck := if st = 5 ∨ st = 6 ∨ st = 8 then c.sinceCheck + 1 else 0,
    dwell := if inHold then c.dwell + 1 else c.dwell,
    outside := if inHold then 0 else min 100000 (c.outside + 1),
    sinceHb := c.sinceHb.map fun k => min 100001 (k + 1) }
  -- in NAP nothing measures VBAT (DESIGN CHOICE, log entry 81)
  (if h1.flag CHG_STAT_LOWBAT ∧ (h1.anyFeedOn
      ∨ (h1.mode ≠ mNAP ∧ h1.cells * (h1.cfgSafe CHG_VLIM_VCUT + 30) ≤ h1.get CHG_MEAS_VBAT)) then
    h1.put CHG_STAT_LOWBAT 0 else h1).chgPower

/-- CHG_STAT.LIMITERS: INPUT while INB stands below VINREG, or is held there, THERMAL while the die is above TREG, or is
held there, BUDGET by i_bud, SYSTEM as the power stage reports it; none but while charging (11 R304). (DEDUCED,
log entry 75.) -/
def Hub.limiters (h : Hub) (t : TickIn) : Nat :=
  let charging : Bool := h.chgSt == 2 || h.chgSt == 3 || h.chgSt == 4
  let input := decide (h.get (FEED_V_VINB.pg 0) < h.get CHG_REG_VINREG * 10) || t.lims.getLsbD 0
  let treg := h.get CHG_REG_TREG + 64
  let thermal := decide (treg < t.die.toNat) || (t.lims.getLsbD 1 && t.die.toNat == treg)
  let capped := h.en 0x0D && decide (h.iBud < h.iTarget)
  if charging then boolNat input + 2 * boolNat thermal + 4 * boolNat capped + 8 * boolNat (t.lims.getLsbD 2) else 0

/-- The current held under these limiters: the lowest limit wins (11 R302, R304). -/
def Hub.iHeld (h : Hub) (lims : Nat) : Nat :=
  let a := if h.chgSt = 2 ∨ h.chgSt = 3 ∨ h.chgSt = 4 then h.iTarget else 0
  let b := if lims.testBit 2 then min a h.iBud else a
  if lims.testBit 0 || lims.testBit 1 || lims.testBit 3 then min b (Config.chgLimit h.mea.ticks).toNat else b

/-- The charger at a tick for the frame just ended (11 R301, R304, R306–R307, R314, R316). -/
def Hub.chgTick (h : Hub) (t : TickIn) : Hub :=
  let i := h.ibatMa
  let st := h.chgSt
  let qin := h.chg.qinFrac + (max i 0).toNat
  let qout := h.chg.qoutFrac + (max (-i) 0).toNat
  let charging : Bool := st == 2 || st == 3 || st == 4
  let lims := h.limiters t
  let h1 := ((h.put CHG_MEAS2_TDIE t.die.toNat).put CHG_STAT_LIMITERS lims).put CHG_QIN_Q (h.get CHG_QIN_Q + qin / 3600000)
  let h2 := h1.put CHG_QOUT_Q (h.get CHG_QOUT_Q + qout / 3600000)
  let p := h2.pChgMw
  let r := h2.pReqMw
  let h3 := (h2.putSat CHG_PWR_PCHG (p / 100)).putSat CHG_PWR_PREQ (r / 100)
  let isFull : Bool := charging && (decide ((h3.iTarget / 2 : Nat) ≤ i) || lims == 0)
  let h4 := h3.chg! fun c => { c with
    qinFrac := qin % 3600000, qoutFrac := qout % 3600000, pChg := p, pReq := r, lims := t.lims, iGoal := h3.iHeld lims,
    full := if isFull then c.full + 1 else c.full,
    taper := if st = 4 ∧ i < (h3.get CHG_ICFG_ITERM * 50 : Nat) ∧ lims = 0 then min 1000 (c.taper + 1) else 0 }
  let h5 := if h4.mode == mHOLDUP then h4.incWrap CHG_HULAST_FRAMES else h4
  h5.chgClock.chgStep.chgPower.armCheck

end Sys2Proof.Machine
end

