-- ==== Sys2Proof/Machine/TestPage.lean ====
section
/-! DEFINITION. The test page (chapter 22). -/

namespace Sys2Proof.Machine

abbrev pgTST : Nat := 0x1E

/-- The bits of TST_STAT.ACTIVE (22 R530, R534). -/
def Hub.tstActive (h : Hub) : Nat :=
  let b (i : Nat) (c : Bool) : Nat := if c then 2 ^ i else 0
  b 0 (h.get TST_POLL_DLY != 0) + b 1 (h.get TST_PKT_ACT != 0)
    + b 2 (h.get TST_CRED_CLASS != 0 && h.get TST_CRED_FRAMES != 0)
    + b 3 (h.get TST_ADC_MASK != 0 && h.get TST_ADC_EXTRA != 0) + b 4 (h.flag TST_SUPCHAT_EN)
    + b 5 h.tst.skew.isSome + b 6 (h.get TST_NV_STALL != 0) + b 7 (h.flag TST_BUD_EN) + b 8 (h.get TST_OVR_N != 0)

/-- SERVICE with a session (22 R528). -/
def Hub.tstArmed (h : Hub) : Bool := h.mode == mSERVICE && h.flag KEY_STAT_SESSION

/-- TST_STAT (22 R534). -/
def Hub.tstStat (h : Hub) : Word := BitVec.ofNat 32 (h.tstActive + boolNat h.tstArmed * 2 ^ 16)

/-- The perturbation of a register offset (22 R530). -/
def tstBit (off : Nat) : Nat := off - 9

/-- A write of the page has acted: it is recorded when it makes its perturbation active or changes it while active
(22 R532).  `old` is the register before it. -/
def Hub.tstActs (h : Hub) (off : Nat) (old : Word) (port : Port) : Hub :=
  let idx := pgTST * 256 + off
  let new := h.word idx
  let h1 := if off = 0x0E then
      let c := signed 16 (bitsOf new 0 16)
      (h.setWord idx 0).tst! fun t => { t with skew := if c = 0 then none else some c }
    else h
  if h1.tstActive.testBit (tstBit off) ∧ new ≠ old then
    (h1.incSat TST_CNT_APPLIED).report pgTST 0 0x1601 0 sevWARN
      [(0, 1, tstBit off), (1, 1, if port = .w then 1 else 0), (4, 4, new.toNat)]
  else h1

/-- Every perturbation returns to its reset value (22 R529); cause as R533 codes it. -/
def Hub.tstClear (h : Hub) (cause : Nat) : Hub :=
  let mask := h.tstActive
  let on (i : Nat) : Bool := decide (0x1E09 ≤ i) && decide (i ≤ 0x1E11)
  let h1 := { h with
    regs := h.regs.filter (fun e => !on e.1), pend := h.pend.filter (fun e => !on e.1),
    tst := { h.tst with skew := none }, seq := { h.seq with chatForced := false } }
  if mask = 0 then h1 else h1.report pgTST 1 0x1602 0 sevINFO [(0, 1, cause), (2, 2, mask)]

/-- TICK_SKEW: the next frame's length changes once (22 R530). -/
def Hub.tickSkew (h : Hub) : Hub :=
  match h.tst.skew with
  | none => h
  | some c => { h.tst! (fun t => { t with skew := none }) with
      frm := { h.frm with nextLen := ((h.frm.nextLen : Int) + c).toNat } }

/-- Frames by which every acknowledgement of the non-volatile store is delayed (22 R530). -/
def Hub.nvStall (h : Hub) : Nat := 10 * h.get TST_NV_STALL

/-- The core cycles of a scan or class H conversion on converter k (13 R349, 22 R530). -/
def Hub.convCycles (h : Hub) (k : Nat) : Nat :=
  320 + (if (h.get TST_ADC_MASK).testBit k then 10 * h.get TST_ADC_EXTRA else 0)

/-- The forced outside time of the chatter starts at every PERIOD µs since the chatter is on, and ends WIDTH µs later
(22 R530). -/
def Hub.chatterDue (h : Hub) (start : Bool) (us : Nat) : Bool :=
  h.flag TST_SUPCHAT_EN && us % h.get TST_SUPCHAT_PERIOD == (if start then 0 else h.get TST_SUPCHAT_WIDTH)

/-- Credit withholding and the forced overrun have used up the frame that ends (22 R532). -/
def Hub.tstUsed (h : Hub) : Hub :=
  let h1 := if h.get TST_CRED_CLASS = 0 then h else h.put TST_CRED_FRAMES (h.get TST_CRED_FRAMES - 1)
  if h.tst.ovr = 0 then h1 else h1.put TST_OVR_N (h.get TST_OVR_N - 1)

/-- The phases whose deadlines the frame that begins has no time for (22 R530). -/
def Hub.tstTick (h : Hub) : Hub :=
  h.tst! fun t => { t with ovr := if h.get TST_OVR_N = 0 then 0 else h.get TST_OVR_PHASE }

end Sys2Proof.Machine
end

