-- ==== Sys2Proof/Machine/Measure.lean ====
section
/-! DEFINITION. Converters, correction and snapshots (chapter 13). -/

namespace Sys2Proof.Machine

abbrev pgADC : Nat := 0x09
abbrev pgCAL : Nat := 0x0A
abbrev pgSNAP : Nat := 0x18

/-! ## Inputs (13 R349) -/

/-- An input of a converter; `rotV` and `rotT` stand for the next channel in rotation. -/
inductive Input
  | hs (n : Nat) | load (n : Nat) | volt (n : Nat) | temp (n : Nat) | rotV | rotT | head (i : Nat) | ref
  deriving DecidableEq, Repr

/-- DESIGN CHOICE, log entry 54. -/
def Part.channels (p : Part) : Nat := if p = .pqh64 then 64 else 32

/-- The input a code names; none where the code is INVALID or its channel is not fitted. -/
def inputOf (p : Part) (code : Nat) : Option Input :=
  let fit (n : Nat) (i : Input) : Option Input := if n < p.channels then some i else none
  if code < 0x40 then fit code (.hs code)
  else if code < 0x80 then fit (code - 0x40) (.load (code - 0x40))
  else if code < 0xC0 then fit (code - 0x80) (.volt (code - 0x80))
  else if code = 0xC0 then some .rotV
  else if code = 0xC1 then some .rotT
  else if 0xD0 ≤ code ∧ code ≤ 0xDF then some (.head (code - 0xD0))
  else if code = 0xE0 then some .ref
  else none

/-- The converter that serves an input. -/
def Input.conv : Input → Nat
  | .hs n => n / 32 | .load n => n / 32 | .volt _ => 2 | .temp _ => 2 | .rotV => 2 | .rotT => 2
  | .head _ => 3 | .ref => 3

def Input.bipolar : Input → Bool
  | .hs _ => true | .load _ => true
  | .head i => i < 4 || i == 8
  | _ => false

/-- S in lowest terms, units per code, and the base. -/
def Input.scale : Input → Int × Int × Int
  | .hs _ => (8, 1, 0) | .load _ => (8, 1, 0)
  | .volt _ => (10, 1, 0) | .rotV => (10, 1, 0)
  | .temp _ => (1, 4, -120) | .rotT => (1, 4, -120)
  | .head i =>
    if i < 2 then (16, 5, 0) else if i < 4 then (2, 1, 0) else if i < 8 then (8, 5, 0)
    else if i = 8 then (1, 1, 0) else if i < 13 then (4, 1, 0) else if i < 15 then (1, 4, -120) else (1, 1, 0)
  | .ref => (1, 1, 0)

/-- Temperature inputs, whose TC is ignored. -/
def Input.isTemp : Input → Bool
  | .temp _ => true | .rotT => true
  | .head i => 13 ≤ i
  | _ => false

/-- raw16 of an entry's sum (13 R350). -/
def Input.raw16 (i : Input) (acc os : Nat) : Int :=
  let v : Int := acc * 2 ^ (4 - os)
  if i.bipolar then v - 32768 else v

/-- The averaged code stands at 0 or at 4,095 (13 R359). -/
def clipped (acc os : Nat) : Bool := acc == 0 || acc == 4095 * 2 ^ os

/-! ## Correction records (13 R356) -/

/-- The record of a non-current input. -/
def Input.calIndex : Input → Nat
  | .hs n => 3 * n + 1 | .load n => 192 + 3 * n + 1
  | .volt n => 384 + n | .temp n => 448 + n
  | .head i => 512 + i
  | _ => 528

/-- The segment a record holds: 0 light, 1 mid, 2 heavy, 3 none. -/
def segOf (idx : Nat) : Nat := if idx < 384 then idx % 3 else 3

/-- The record whose OFS a current record shares: its mid record (13 R357). -/
def midOf (idx : Nat) : Nat := if idx < 384 then idx / 3 * 3 + 1 else idx

/-- The factory record (13 R356, R359). -/
def factoryRec (idx : Nat) : CalRec :=
  { ofs := (Config.calOfs (midOf idx)).toInt, gain := (Config.calGain idx).toNat, tc := (Config.calTc idx).toInt,
    tcal := (Config.calTcal idx).toInt, tlo := -40, thi := if idx < 512 then 150 else 125, src := 0 }

/-- The record in the non-volatile store. -/
def Hub.storedRec (h : Hub) (idx : Nat) : CalRec := (mapFind h.mea.nv idx).getD (factoryRec idx)

/-- The record in the table, nominal where it was lost to parity (13 R368). (DEDUCED, log entry 58.) -/
def Hub.calRec (h : Hub) (idx : Nat) : CalRec :=
  let r := (mapFind h.mea.ram idx).getD (h.storedRec idx)
  if h.mea.nominal.contains idx then { r with ofs := 0, gain := 0x8000, tc := 0 } else r

/-- The record's temperature-adjusted gain (13 R357). -/
def CalRec.gainAt (r : CalRec) (t : Int) (useTc : Bool) : Int :=
  (r.gain : Int) + (if useTc then floorDiv ((r.gain : Int) * r.tc * (t - r.tcal)) 2000000 else 0)

/-- t lies outside the record's envelope (13 R359). -/
def CalRec.outside (r : CalRec) (t : Int) : Bool := decide (t < 2 * r.tlo) || decide (2 * r.thi < t)

/-- The key of an input's zero-refresh offset. -/
def Input.zeroKey : Input → Option Nat
  | .hs n => some (2 * n) | .load n => some (2 * n + 1)
  | _ => none

/-- ofs_eff (13 R357). (DEDUCED, log entry 58.) -/
def Hub.ofsEff (h : Hub) (i : Input) : Int :=
  let r := h.calRec i.calIndex
  if h.mea.nominal.contains i.calIndex then r.ofs
  else match i.zeroKey with
    | none => r.ofs
    | some k => match mapFind h.mea.zero k with | some z => z.1 | none => r.ofs

/-- The correction temperature (13 R357). -/
def Hub.corrTemp (h : Hub) : Input → Int
  | .hs n => h.geti (CH_TEMP_TEMP.pg n) | .load n => h.geti (CH_TEMP_TEMP.pg n)
  | .volt n => h.geti (CH_TEMP_TEMP.pg n) | .temp n => h.geti (CH_TEMP_TEMP.pg n)
  | _ => h.geti ADC_TEMP_TDIE

/-- The gain of a channel current by load, and the segments that contribute besides mid (13 R358). -/
def seamGain (a g0 g1 g2 : Int) : Int × List Nat :=
  if a < 250 then (g0, [0])
  else if a < 350 then (truncDiv (g0 * (350 - a) + g1 * (a - 250)) 100, [0])
  else if a < 1350 then (g1, [])
  else if a < 1650 then (truncDiv (g1 * (1650 - a) + g2 * (a - 1350)) 300, [2])
  else (g2, [2])

/-- What correction makes of a raw value: result, EXTRAP but for the clip, i0 of a current, gain used. -/
structure Corrected where
  y : Int
  extrap : Bool
  i0 : Int := 0
  g : Int := 0x8000
  deriving DecidableEq, Repr

/-- R357–R359 for one raw value. -/
def Hub.correct (h : Hub) (i : Input) (raw : Int) : Corrected :=
  let s := i.scale
  let t := h.corrTemp i
  let scaled (x g : Int) : Int := floorDiv (x * g * s.1) (s.2.1.toNat * 2 ^ 19) + s.2.2
  match i with
  | .ref => { y := scaled raw 0x8000, extrap := false }
  | .head 15 =>
    let r := h.calRec i.calIndex
    { y := (Config.ntc (floorDiv ((raw - h.ofsEff i) * r.gainAt t false) (2 ^ 15))).toInt,
      extrap := r.outside t || h.mea.nominal.contains i.calIndex, g := r.gainAt t false }
  | _ =>
    let idx := i.calIndex
    let x := raw - h.ofsEff i
    let r1 := h.calRec idx
    let g1 := r1.gainAt t (!i.isTemp)
    if i.zeroKey.isSome then
      let i0 := scaled x g1
      let gs := seamGain i0.natAbs ((h.calRec (idx - 1)).gainAt t true) g1 ((h.calRec (idx + 1)).gainAt t true)
      let used := idx :: gs.2.map (fun k => idx - 1 + k)
      let y := scaled x gs.1
      { y := y, i0 := i0, g := gs.1,
        extrap := used.any (fun k => (h.calRec k).outside t || h.mea.nominal.contains k)
          || decide (12000 < y) || decide (y < -1000) }
    else
      { y := scaled x g1, extrap := r1.outside t || h.mea.nominal.contains idx, g := g1 }

/-! ## Destinations (13 R349–R350) -/

/-- Give a field the value saturated to it, unsigned or signed (13 R357). -/
def Hub.putClampU (h : Hub) (f : Fld) (v : Int) : Hub := h.put f (clampInt 0 (2 ^ f.w - 1 : Nat) v).toNat
def Hub.putClampS (h : Hub) (f : Fld) (v : Int) : Hub :=
  h.puti f (clampInt (-(2 ^ (f.w - 1) : Nat)) (2 ^ (f.w - 1) - 1 : Nat) v)

/-- The threshold of THERM and its rearming (17 R458); failing fields use their reset values (17 R460). -/
def Hub.thermCheck (h : Hub) : Hub :=
  let warn : Int := signed 10 (h.cfgSafe IRQ_THERM_WARN)
  let hys : Nat := h.cfgSafe IRQ_THERM_HYS
  let t := h.geti ADC_TEMP_TMOD
  if warn ≤ t then
    if h.mea.thermArmed then
      (h.mea! fun m => { m with thermArmed := false }).report 0x03 0 0x0402 0 sevWARN [(0, 2, wrapTo 16 t)]
    else h
  else if t < warn - 2 * hys then h.mea! fun m => { m with thermArmed := true }
  else h

/-- The voltage of feed k inside its window (08 R235), FEED_V in 10 mV; the reset window under a parity fence (R251). -/
def Hub.feedWindow (h : Hub) (k : Nat) : Bool :=
  let v := h.geti (FEED_V_V.pg k)
  decide ((h.feedCfg (FEED_WIN_UV.pg k) * 10 : Nat) ≤ v) && decide (v ≤ (h.feedCfg (FEED_WIN_OV.pg k) * 10 : Nat))

/-- INWIN follows the window; outside it the qualification timer restarts (08 R235). -/
def Hub.feedInWin (h : Hub) (k : Nat) (b : Bool) : Hub :=
  let h1 := h.putb (FEED_STAT_INWIN.pg k) b
  if b || h.get (FEED_STAT_STATE.pg k) != 3 then h1
  else
    let z (f : Feed) : Feed := { f with run := if h.running then 0 else 100000 }
    if k = 0 then h1.feedA! z else h1.feedB! z

/-- The standard destination of an input. -/
def Hub.deliver (h : Hub) (i : Input) (y : Int) : Hub :=
  match i with
  | .hs n => h.putClampS (CH_IMEAS_INST.pg n) y
  | .volt n => (h.putClampU (CH_VMEAS_V.pg n) y).put (CH_VMEAS_AGE.pg n) 0
  | .temp n => h.putClampS (CH_TEMP_TEMP.pg n) y
  | .ref => h.putClampU ADC_REFCHK_MV y
  | .head i =>
    match i with
    | 0 | 1 =>
      let h1 := h.putClampS (FEED_V_V.pg i) y
      h1.feedInWin i (h1.feedWindow i)
    | 2 | 3 => h.putClampS (FEED_I_INST.pg (i - 2)) y
    | 4 => (h.putClampU (FEED_V_VINB.pg 0) y).putClampU (FEED_V_VINB.pg 1) y
    | 5 =>
      -- a capture of this frame takes it as its V_m (07 R219)
      let h1 := h.putClampU LB_MEAS_V y
      h1.engines! fun l => l.mapIdx fun k e =>
        if h1.get (engF GEY_ENG_STAT_STATE k) = 1 ∧ h1.get (engF GEY_ENG_FRM_FRM k) = h1.frmNo then
          { e with vM := (h1.get LB_MEAS_V : Int) } else e
    | 6 => h.putClampU CHG_MEAS2_VSYS y
    | 7 => h.putClampU CHG_MEAS_VBAT y
    | 8 => h.putClampS CHG_MEAS_IBAT y
    | 9 | 10 | 11 | 12 => h.putClampU (H_MEAS_V.pg (i - 9)) y
    | 13 => (h.putClampS ADC_TEMP_TMOD y).thermCheck
    | 14 => h.putClampS ADC_TEMP_TDIE y
    | 15 => h.bntc y
    | _ => h
  | _ => h

/-- The next fitted channel in rotation, and the pointer moved on (13 R349). -/
def Hub.rotate (h : Hub) : Input → Hub × Input
  | .rotV => let n := h.get ADC_ROT_CHV; (h.put ADC_ROT_CHV ((n + 1) % h.nch), .volt n)
  | .rotT => let n := h.get ADC_ROT_CHT; (h.put ADC_ROT_CHT ((n + 1) % h.nch), .temp n)
  | i => (h, i)

/-! ## Scans (13 R350–R352) -/

/-- The scan-list entry of converter k. -/
def Hub.scanWord (h : Hub) (k pos : Nat) : Nat :=
  bitsOf (h.word (0x0940 + 32 * k + pos / 2)) (16 * (pos % 2)) 16

def Hub.adcLen (h : Hub) (k : Nat) : Nat := h.get (ADC_LEN_LEN.nth k)
abbrev Hub.adcState (h : Hub) (k : Nat) : Nat := h.get (ADC_STAT_STATE.nth k)

/-- The entry that converter k works on, and its list runs. -/
def Hub.scanAt (h : Hub) (k pos : Nat) : Bool :=
  h.adcState k == 1 && h.get (ADC_STAT_POS.nth k) == pos && !h.adcFenced k

/-! ## Class F conversions (13 R353, R355) -/

/-- The input that a field calibration converts, a rotation's channel included (13 R361). -/
def Hub.fcalInput (h : Hub) (f : FieldCal) : Option Input :=
  match inputOf h.part f.input with
  | some .rotV => some (.volt f.rot)
  | some .rotT => some (.temp f.rot)
  | i => i

def Hub.host (h : Hub) (p : Port) : HostReq := match p with | .e => h.mea.hostE | .w => h.mea.hostW
def Hub.host! (h : Hub) (p : Port) (f : HostReq → HostReq) : Hub :=
  h.mea! fun m => match p with
    | .e => { m with hostE := f m.hostE }
    | .w => { m with hostW := f m.hostW }

/-- The input a running request of the port converts. -/
def Hub.hostInput (h : Hub) (p : Port) : Option Input :=
  let r := h.host p
  if bitsOf r.res 18 1 = 1 then inputOf h.part (bitsOf r.run 0 8) else none

/-- A class H request has entered converter k's queue by a cycle of this frame: of a port at its CYC, or the sixteen
conversions of a field calibration at 20,000 (13 R354, R361). -/
def Hub.classHRuns (h : Hub) (k cyc : Nat) : Bool :=
  let port (p : Port) : Bool := match h.hostInput p with
    | some i => i.conv == k && ((h.host p).late || decide (bitsOf (h.host p).run 16 16 ≤ cyc))
    | none => false
  let cal : Bool := match h.mea.fcal with
    | some f => f.started && decide (20000 ≤ cyc) && decide (cyc < 20000 + 16 * h.convCycles k)
        && (h.fcalInput f).any (·.conv == k)
    | none => false
  port .e || port .w || cal

/-- A zero refresh is in progress on converter k (13 R360). -/
def Hub.refreshOn (h : Hub) (k : Nat) : Bool := h.chList.any fun n => n / 32 == k && (h.ch n).refreshing

/-- A class F request comes to converter k at a cycle of this frame: it waits for the class F conversions ahead of it, and
otherwise aborts the conversion that runs; a fenced converter serves none (13 R353, R355). (DEDUCED, log entry 22.) -/
def Hub.classF (h : Hub) (k cyc : Nat) : Hub :=
  if h.adcFenced k then h
  else
    let u := nth h.mea.fUntil k 0
    let h1 := h.mea! fun m => { m with fUntil := setNth m.fUntil k 0 (max u cyc + 320) }
    if cyc < u then h1
    else if h.adcState k == 1 || h.classHRuns k cyc || h.refreshOn k then h1.incSat (ADC_CNT_FABORT.nth k)
    else h1

/-! ## The ends of scan entries (13 R350–R352) -/

/-- CH_STAT.EXTRAP follows the channel's last high-side result, wherever it goes (13 R359). -/
def Hub.extrapSeen (h : Hub) (i : Input) (ex : Bool) : Hub :=
  match i with
  | .hs n => h.putb (CH_STAT_EXTRAP.pg n) ex
  | _ => h

/-- An entry is complete: corrected, written to its destinations, and the scan moves on (13 R350, R352, R354); only a
class H request that ran meanwhile splits it. -/
def Hub.scanDone (h : Hub) (k pos acc : Nat) (splitIn : Bool) : Hub :=
  let e := h.scanWord k pos
  let split := splitIn && h.mea.hRan.contains k
  let os := e / 256 % 8
  let dest := e / 2048 % 4
  let aux := e / 8192
  let hs := if split then h.incSat (ADC_CNT2_SPLIT.nth k) else h
  let h0 := hs.mea! fun x => { x with hRan := x.hRan.filter (· != k) }
  let h1 := match inputOf h.part (e % 256) with
    | none => h0
    | some i0 =>
      let r := h0.rotate i0
      let c := r.1.correct r.2 (r.2.raw16 acc os)
      let ex := c.extrap || clipped acc os
      let b := r.1.extrapSeen r.2 ex
      let a := if dest = 1 then b else b.deliver r.2 c.y
      if dest = 0 then a
      else
        let b := ((a.putClampS (ADC_AUX_VALUE.nth aux) c.y).putb (ADC_AUX_SPLIT.nth aux) split).putb
          (ADC_AUX_EXTRAP.nth aux) ex
        (b.put (ADC_AUX_NEW.nth aux) 1).put (ADC_AUX_AGE.nth aux) 0
  if pos + 1 < h1.adcLen k then h1.put (ADC_STAT_POS.nth k) (pos + 1)
  else (h1.put (ADC_STAT_STATE.nth k) 0).put (ADC_STAT_POS.nth k) (pos + 1)

/-- The tick comes: what the ended frame left unconverted on converter k is skipped (13 R352). -/
def Hub.scanEnd (h : Hub) (k : Nat) : Hub :=
  if h.adcFenced k then h
  else
    let skipped := if h.adcState k = 1 then h.adcLen k - h.get (ADC_STAT_POS.nth k) else 0
    let epi := mapFind h.mea.overload k
    if skipped = 0 then
        match epi with
        | none => h
        | some c => h.mea! fun m => { m with
            overload := if 99 ≤ c then mapDel m.overload k else mapPut m.overload k (c + 1) }
      else
        let a := ((h.incSat (ADC_CNT_SKIP.nth k) skipped).evt pgADC k).mea! fun m => { m with
          overload := mapPut m.overload k 0 }
        if epi.isSome then a else a.record 0x0A01 0 sevWARN (payload [(0, 1, k), (2, 2, skipped)])

def Hub.scansEnd (h : Hub) : Hub := (List.range 4).foldl Hub.scanEnd h

/-- Step 4 of P0 on converter k: the list starts at entry 0, unless the converter is fenced or the hub naps (13 R352, 02
R53). -/
def Hub.scanStart (h : Hub) (k : Nat) : Hub :=
  (h.putb (ADC_STAT_STATE.nth k) (!h.adcFenced k && h.mode != mNAP && decide (0 < h.adcLen k))).put (ADC_STAT_POS.nth k) 0

/-- The registers of the head's results (13 R351). -/
def headFlds : List Fld :=
  [FEED_V_V.pg 0, FEED_V_V.pg 1, FEED_I_INST.pg 0, FEED_I_INST.pg 1, FEED_V_VINB.pg 0, FEED_V_VINB.pg 1, LB_MEAS_V,
   CHG_MEAS2_VSYS, CHG_MEAS_VBAT, CHG_MEAS_IBAT, H_MEAS_V.pg 0, H_MEAS_V.pg 1, H_MEAS_V.pg 2, H_MEAS_V.pg 3,
   ADC_TEMP_TMOD, ADC_TEMP_TDIE, CHG_MEAS2_TBAT]

/-- The head's registers take these values. -/
def Hub.putHead (h : Hub) (vs : List Nat) : Hub := (headFlds.zip vs).foldl (fun a e => a.put e.1 e.2) h

/-- The scans start; a field calibration that starts now interrupts its converter's scan later in the frame (13 R352, R354,
R361). -/
def Hub.scansStart (h : Hub) : Hub :=
  let cal := match h.mea.fcal with
    | some f => if f.started then (h.fcalInput f).toList.map Input.conv else []
    | none => []
  ((List.range 4).foldl Hub.scanStart h).mea! fun m => { m with
    headSaid := false, headWas := headFlds.map h.get, hRan := cal, fUntil := m.fUntil.map (· - 40000) }

/-- Ages of measured values count every frame, those of NAP too (05 R167, 13 R371; DEDUCED, log entry 83). -/
def Hub.auxAge (h : Hub) : Hub :=
  h.chList.foldl (fun a n => a.incSat (CH_VMEAS_AGE.pg n)) ((List.range 8).foldl (fun a j => a.incSat (ADC_AUX_AGE.nth j)) h)

/-- The head is incomplete at cycle 12,000 (13 R352). -/
def Hub.headLateDue (h : Hub) : Bool :=
  h.adcState 3 == 1 && decide (h.get (ADC_STAT_POS.nth 3) < 16) && !h.adcFenced 3 && !h.mea.headSaid
def Hub.headLate (h : Hub) : Hub :=
  ((h.incSat (ADC_CNT2_HEADLATE.nth 3)).mea! fun m => { m with headSaid := true }).report pgADC 8 0x0A02 0 sevWARN
      [(0, 4, h.frmNo)]

/-! ## Host requests (13 R354–R355) -/

/-- BUSY, a GO that awaits its tick included. -/
def HostReq.busy (r : HostReq) : Bool :=
    bitsOf r.res 18 1 == 1 || (match r.next with | some w => bitsOf w 15 1 == 1 | none => false)

/-- A write of the port's ADC_HREQ acts at the tick (13 R354); DONE cleared by the port clears (R371). -/
def Hub.hostTick (h : Hub) (p : Port) : Hub :=
  let r := h.host p
  let res0 := if r.clr then putBits r.res 16 1 0 else r.res
  match r.next with
  | none => h.host! p fun x => { x with clr := false, res := res0, late := true }
  | some w =>
    let req := putBits w 15 1 0
    let h1 := h.host! p fun x => { x with clr := false, next := none, req := req, res := res0, late := true }
    if bitsOf w 15 1 = 0 then h1
    else
      let k := match inputOf h.part (bitsOf w 0 8) with | some i => i.conv | none => 4
      let err := boolNat (h.adcFenced k)
      h1.host! p fun x => { x with
        late := false, run := req, res := putBits (putBits (putBits x.res 16 1 0) 18 1 (1 - err)) 19 1 err }

/-- The request p entered its queue before the other port's q, port E first on the same cycle (13 R354). -/
def Hub.hostAhead (h : Hub) (p q : Port) : Bool :=
  let a := h.host p
  let b := h.host q
  let ca := bitsOf a.run 16 16
  let cb := bitsOf b.run 16 16
  if a.late == b.late then decide (ca < cb) || (ca == cb && p == .e) else a.late

/-- By this cycle the request's 2^OS conversions can have run: it entered its queue at CYC of this frame or in
an earlier one, no request of the other port stands before it, and after class F conversions at least one conversion has
restarted (13 R349, R353–R355, 22 R530). -/
def Hub.hostReady (h : Hub) (p : Port) (cyc : Nat) : Bool :=
  let r := h.host p
  let q : Port := match p with | .e => .w | .w => .e
  match h.hostInput p with
  | none => false
  | some i =>
    let blocked := match h.hostInput q with | some j => i.conv == j.conv && h.hostAhead q p | none => false
    let u := nth h.mea.fUntil i.conv 0
    let entry := if r.late then 0 else bitsOf r.run 16 16
    !h.adcFenced i.conv && !blocked
        && (r.late || decide (entry + h.convCycles i.conv * 2 ^ bitsOf r.run 8 3 ≤ cyc))
        && (decide (u ≤ entry) || decide (u + h.convCycles i.conv ≤ cyc))

/-- The request's conversions are complete (13 R354, R357, R370). -/
def Hub.hostDone (h : Hub) (p : Port) (acc : Nat) : Hub :=
  match h.hostInput p with
  | none => h
  | some i0 =>
    let os := bitsOf (h.host p).run 8 3
    let r := h.rotate i0
    let c := r.1.correct r.2 (r.2.raw16 acc os)
    let ex := c.extrap || clipped acc os
    let v := wrapTo 16 (clampInt (-32768) 32767 c.y)
    ((r.1.extrapSeen r.2 ex).host! p fun x => { x with res := BitVec.ofNat 32 (v + 2 ^ 16 + (if ex then 2 ^ 17 else 0)) }).evt
      pgADC (4 + r.2.conv) |>.mea! fun m => { m with hRan := if m.hRan.contains r.2.conv then m.hRan
          else r.2.conv :: m.hRan }

/-- Converter k stops: its requests end with ERR and its captures abort (13 R355, R368); without ADC3 the charger takes the
battery's zone as FAULT, and the temperature holds (21 R522). -/
def Hub.adcFence (h : Hub) (k : Nat) : Hub :=
  let drop (a : Hub) (p : Port) : Hub :=
    match a.hostInput p with
    | some i => if i.conv = k then a.host! p fun x => { x with res := putBits (putBits x.res 18 1 0) 19 1 1 } else a
    | none => a
  let h1 := ((h.put (ADC_STAT_FENCED.nth k) 1).put (ADC_STAT_STATE.nth k) 0)
  let h2 := drop (drop h1 .e) .w
  if k < 2 then h2.geyAbortAdc k else if k = 3 then h2.zoneTo 5 (h2.geti CHG_MEAS2_TBAT) else h2

/-- The scan list of converter k holds a failing active byte. -/
def Hub.listBad (h : Hub) (k : Nat) : Bool :=
  h.bad.any fun b => !b.shadow && decide (0x0940 + 32 * k ≤ b.idx) && decide (b.idx < 0x0960 + 32 * k)

/-- A release of the ADC page restarts every converter whose cause has cleared (13 R368). -/
def Hub.adcReleased (h : Hub) : Hub :=
  (List.range 4).foldl (fun a k => if a.listBad k then a else a.put (ADC_STAT_FENCED.nth k) 0) h

/-- The store has had its oldest write a frame longer. -/
def Hub.nvTime (h : Hub) : Hub := h.mea! fun m => { m with nvAge := if m.nvq.isEmpty then 0 else min 1000 (m.nvAge + 1) }

/-! ## Zero refresh (13 R360) -/

/-- Channel n is due and may be refreshed; `lsOpen` is the low side's part of the condition. -/
def Hub.zeroDue (h : Hub) (n : Nat) (lsOpen : Bool) : Bool :=
  decide (h.frmNo % 10000 = 300 * (n % 32)) && !h.adcFenced (n / 32) && decide (h.chSt n < 2)
      && decide (10 ≤ (h.ch n).offRun) && lsOpen

/-- Judge the mean of one input; key as `zeroKey`. -/
def Hub.zeroJudge (h : Hub) (n which : Nat) (m : Int) : Hub :=
  let key := 2 * n + which
  let fac := (factoryRec (if which = 0 then 3 * n + 1 else 192 + 3 * n + 1)).ofs
  if (m - fac).natAbs ≤ 32 then
    h.mea! fun x => { x with zero := mapPut x.zero key (m, x.ticks), rejSaid := x.rejSaid.filter (· != key) }
  else
    let h1 := (h.incSat CAL_CNT_ZREJ).evt pgCAL 1
    if h.mea.rejSaid.contains key then h1
    else (h1.mea! fun x => { x with rejSaid := key :: x.rejSaid }).record 0x0B02 0 sevWARN
      (payload [(0, 1, n), (1, 1, which), (2, 2, wrapTo 16 m)])

/-- The refresh of channel n is complete: means of both inputs. -/
def Hub.zeroDone (h : Hub) (n : Nat) (hs ld : Int) : Hub :=
  ((h.setCh n { h.ch n with refreshing := false }).zeroJudge n 0 hs).zeroJudge n 1 ld

/-- CAL_ZERO of a record (13 R372): current records show their input's refresh. -/
def Hub.zeroWord (h : Hub) (idx : Nat) : Word :=
  let key? := if idx < 192 then some (2 * (idx / 3)) else if idx < 384 then some (2 * ((idx - 192) / 3) + 1) else none
  match key? with
  | none => 0xFFFF0000
  | some k => match mapFind h.mea.zero k with
    | none => 0xFFFF0000
    | some z => BitVec.ofNat 32 (wrapTo 16 z.1 + min 65534 ((h.mea.ticks - z.2) / 10000) * 2 ^ 16)

/-! ## Field calibration (13 R361–R362) -/

/-- The record at index idx takes new values in the SRAM table. -/
def Hub.setCalRam (h : Hub) (idx : Nat) (r : CalRec) : Hub :=
  h.mea! fun m => { m with
    nominal := m.nominal.filter (· != idx), ram := if r = h.storedRec idx then mapDel m.ram idx else mapPut m.ram idx r }

/-- The record at index idx takes new values in the non-volatile store. -/
def Hub.setCalNv (h : Hub) (idx : Nat) (r : CalRec) : Hub :=
  h.mea! fun m => { m with nv := if r = factoryRec idx then mapDel m.nv idx else mapPut m.nv idx r }

/-- Records of an input: the three segments of a current, else its one record. -/
def Input.allIndices (i : Input) : List Nat :=
  if i.zeroKey.isSome then [i.calIndex - 1, i.calIndex, i.calIndex + 1] else [i.calIndex]

/-- Modes in which GO is accepted (13 R361). -/
def Hub.fcalMode (h : Hub) : Bool := h.mode == mREADY || h.mode == mFIELD || h.mode == mSERVICE

/-- FIELD_CAL: RESULT OK, the flag and the record (13 R361, R370). -/
def Hub.fieldCalOk (h : Hub) (idx old new kind : Nat) : Hub :=
  let h1 := (((h.put CAL_FSTAT_RESULT 2).put CAL_FSTAT_BUSY 0).put CAL_FSTAT_INDEX idx).incSat CAL_CNT_FIELD
  h1.report pgCAL 0 0x0B01 0 sevINFO [(0, 2, idx), (2, 2, old), (4, 2, new), (6, 1, kind)]

/-- The input a calibration takes at its start: of a rotation the channel whose turn it is, and a conversion moves the pointer
on (13 R349). -/
def Hub.fcalTurn (h : Hub) (f : FieldCal) : Hub × FieldCal :=
  let r := match inputOf h.part f.input with | some i => if f.kind = 2 then h else (h.rotate i).1 | none => h
  let n := match inputOf h.part f.input with
    | some .rotV => h.get ADC_ROT_CHV
    | some .rotT => h.get ADC_ROT_CHT
    | _ => 0
  (r, { f with rot := n })

/-- GO acts at the tick, on INPUT and KIND as they are in force then: RESTORE is done at once, the others start (13 R361).
(DESIGN CHOICE, log entry 42.) -/
def Hub.fcalStart (h0 : Hub) : Hub :=
  match h0.mea.fcal with
  | none => h0
  | some f0 =>
    if f0.started then h0
    else
    let r := h0.fcalTurn { f0 with input := h0.get CAL_FCMD_INPUT, kind := h0.get CAL_FCMD_KIND }
    let h := r.1
    let f := r.2
    match h.fcalInput f with
    | none => h.mea! fun m => { m with fcal := none }
    | some .ref => h.mea! fun m => { m with fcal := none }
    | some i =>
      if f.kind = 2 then
        let old := (h.calRec i.calIndex).gain
        let h1 := i.allIndices.foldl (fun a k => (a.setCalNv k (factoryRec k)).setCalRam k (factoryRec k)) h
        (h1.mea! fun m => { m with
            fcal := none, 
            nvq := if f.port = .w then m.nvq ++ [.other .w] else m.nvq }).fieldCalOk i.calIndex old (factoryRec i.calIndex).gain 2
      else ((h.put CAL_FSTAT_RESULT 1).put CAL_FSTAT_BUSY 1).mea! fun m => { m with
        fcal := some { f with started := true } }

/-- Half-degrees to whole degrees, rounded half up (13 R361). -/
def wholeDeg (t : Int) : Int := floorDiv (t + 1) 2

/-- What steps 1–5 of 13 R361 make of the sixteen codes: a RESULT code, or the index, record, old and new value. -/
inductive FcalOut | fail (result seg : Nat) | ok (idx seg : Nat) (r : CalRec) (old new : Nat)
  deriving DecidableEq, Repr

/-- Mean raw16 of sixteen codes: their sum is an entry's with OS = 4. -/
def Hub.fcalOutcome (h : Hub) (i : Input) (f : FieldCal) : FcalOut × Int :=
  let sum := f.codes.foldl (· + ·) 0
  let hi := f.codes.foldl max 0
  let lo := f.codes.foldl min 4095
  let raw := i.raw16 sum 4
  let c := h.correct i raw
  let cur := i.zeroKey.isSome
  let a := c.i0.natAbs
  let seam := (250 ≤ a ∧ a ≤ 350) ∨ (1350 ≤ a ∧ a ≤ 1650)
  let seg := if !cur then 3 else if a < 250 then 0 else if a < 1350 then 1 else 2
  let idx := if cur then i.calIndex - 1 + seg else i.calIndex
  let r := h.calRec idx
  let t := h.corrTemp i
  let s := i.scale
  let ref := signed 32 (h.get CAL_FREF_REF)
  let env (x : CalRec) : CalRec := { x with tcal := t, tlo := wholeDeg (t - 30), thi := wholeDeg (t + 30), src := 1 }
  let out : FcalOut :=
    if h.adcFenced i.conv then .fail 6 seg
    else if 4 * 1600 + 2 * sum < (hi - lo) * 1600 then .fail 5 seg
    else if cur ∧ seam then .fail 3 seg
    else if f.kind = 0 then
      let small : Bool := if cur then decide (ref.natAbs < 100) else decide ((ref.natAbs : Int) * s.2.1 < 256 * s.1)
      let g := floorDiv (c.g * ref * (if c.y < 0 then -1 else 1)) c.y.natAbs
      if small ∨ c.y = 0 ∨ g < 0x4000 ∨ 0xC000 < g then .fail 4 seg
      else .ok idx seg { env r with gain := g.toNat } r.gain g.toNat
    else
      let o := raw - truncDiv ((ref - s.2.2) * 16 * s.2.1) s.1
      let o16 := clampInt (-32768) 32767 o
      .ok idx seg { env r with ofs := o16 } (wrapTo 16 r.ofs) (wrapTo 16 o16)
  (out, c.y)

/-- The outcome in P3 (13 R361): a failure ends it, a success goes to the store. (DESIGN CHOICE, log entry 42.) -/
def Hub.fcalP3 (h : Hub) : Hub :=
  match h.mea.fcal with
  | none => h
  | some f =>
    if !f.started then h
    else match h.fcalInput f with
    | none => h
    | some i =>
      let o := h.fcalOutcome i f
      let h1 := (h.puti CAL_FMEAS_Y o.2).mea! fun m => { m with fcal := none }
      match o.1 with
      | .fail r seg => ((h1.put CAL_FSTAT_RESULT r).put CAL_FSTAT_BUSY 0).put CAL_FSTAT_SEG (seg % 4)
      | .ok idx seg r old new =>
        (h1.put CAL_FSTAT_SEG (seg % 4)).mea! fun m => { m with nvq := m.nvq ++ [.field idx r old new f.kind f.port] }

/-- A failed write of the store (13 R361). -/
def Hub.calNvFail (h : Hub) (idx : Nat) : Hub := h.report pgCAL 2 0x0B03 0 sevFAULT [(0, 2, idx)]

/-- The store's write of a calibration record ends (13 R361–R362). -/
def Hub.calWritten (h : Hub) (job : NvJob) (ok : Bool) : Hub :=
  match job with
  | .field idx r old new kind _ =>
    let h1 := h.mea! fun m => { m with apply := m.apply ++ [(idx, r)] }
    if ok then (h1.setCalNv idx r).fieldCalOk idx old new kind
    else (((h1.put CAL_FSTAT_RESULT 7).put CAL_FSTAT_BUSY 0).put CAL_FSTAT_INDEX idx).calNvFail idx
  | .commit idx r _ => if ok then h.setCalNv idx r else h.calNvFail idx
  | .key _ => h
  | .other _ => h

/-- New records apply at the tick after their write (13 R361). -/
def Hub.calApply (h : Hub) : Hub :=
  (h.mea.apply.foldl (fun a e => a.setCalRam e.1 e.2) h).mea! fun m => { m with apply := [] }

/-- Reload of records that failed parity, in P3; nominal values stand where the store cannot give the record
(13 R368). -/
def Hub.calReload (h : Hub) : Hub :=
  h.mea.reloadDue.foldl (fun a e =>
    let b := if e.2 then a.mea! fun m => { m with
        nominal := m.nominal.filter (· != e.1), ram := mapDel m.ram e.1 } else a
    b.report pgCAL 3 0x0B04 0 sevWARN [(0, 2, e.1), (2, 1, boolNat (!e.2))])
    (h.mea! fun m => { m with reloadDue := [] })

/-- The record window of the CAL page (13 R362, R372): OFSGAIN, TC, ENV. -/
def CalRec.window (r : CalRec) (idx : Nat) (nominal : Bool) : List Word :=
  [BitVec.ofNat 32 (wrapTo 16 r.ofs + r.gain % 2 ^ 16 * 2 ^ 16),
   BitVec.ofNat 32 (wrapTo 16 r.tc + wrapTo 16 r.tcal * 2 ^ 16),
   BitVec.ofNat 32 (wrapTo 8 r.tlo + wrapTo 8 r.thi * 2 ^ 8 + segOf idx * 2 ^ 16 + r.src % 2 * 2 ^ 18
     + boolNat nominal * 2 ^ 19)]

def Hub.calWindow (h : Hub) : List Word :=
  let idx := h.get CAL_SEL_INDEX
  (h.calRec idx).window idx (h.mea.nominal.contains idx)

/-- The record that staged window words make of the selected record; a field none of whose bits is staged keeps its value,
be it one that the window cannot show (13 R362). -/
def calFromWords (r : CalRec) (masks ws : List Word) : CalRec :=
  let put {α : Type} (i lo w : Nat) (old new : α) : α := if bitsOf (nth masks i 0) lo w = 0 then old else new
  let v (i lo w : Nat) : Nat := bitsOf (nth ws i 0) lo w
  { r with ofs := put 0 0 16 r.ofs (signed 16 (v 0 0 16)), gain := put 0 16 16 r.gain (v 0 16 16),
           tc := put 1 0 16 r.tc (signed 16 (v 1 0 16)), tcal := put 1 16 16 r.tcal (signed 16 (v 1 16 16)),
           tlo := put 2 0 8 r.tlo (signed 8 (v 2 0 8)), thi := put 2 8 8 r.thi (signed 8 (v 2 8 8)) }

/-- A parity failure of a correction record (13 R368). -/
def Hub.calParity (h : Hub) (idx : Nat) (reloads : Bool) : Hub :=
  h.mea! fun m => { m with nominal := if m.nominal.contains idx then m.nominal else idx :: m.nominal,
                           reloadDue := if m.reloadDue.any (·.1 == idx) then m.reloadDue
                               else m.reloadDue ++ [(idx, reloads)] }

/-- The table is loaded from the store (13 R356): at cold start and on wake from STANDBY. -/
def Hub.calLoad (h : Hub) : Hub :=
  h.mea! fun m => { m with ram := [], nominal := [], reloadDue := [], apply := [], zero := [], rejSaid := [] }

/-! ## Snapshots (13 R363–R368) -/

/-- The pending registers follow the pending requests (13 R373). -/
def Hub.snapShow (h : Hub) : Hub :=
  let p := h.mea.snapPend
  ((h.put SNAP_STAT_PEND p.length).put SNAP_PEND0_FRAME (nth p 0 (0, 0, 0)).1).put SNAP_PEND1_FRAME (nth p 1 (0, 0, 0)).1

/-- A request that arrived in some frame is missed (13 R366, R370). -/
def Hub.snapMissed (h : Hub) (f cause arrived : Nat) : Hub :=
  ((h.incSat SNAP_CNT_MISSED).put SNAP_LASTMISS_F f).report pgSNAP 1 0x1501 0 sevWARN
    [(0, 4, f), (4, 1, cause), (8, 4, arrived)]

/-- Judge a request for frame f in frame n (13 R364); a request too far is refused before it comes here. -/
def Hub.snapJudge (h : Hub) (f src : Nat) : Hub :=
  let d := diff32 f h.frmNo
  if d ≤ 0 then h.snapMissed f 1 h.frmNo
  else if 2 ^ 20 ≤ d then h
  else if h.mea.snapPend.any (·.1 == f) then h
  else if 2 ≤ h.mea.snapPend.length then h.snapMissed f 3 h.frmNo
  else
    let q : Nat × Nat × Nat := (f, src, h.frmNo)
    let ins (l : List (Nat × Nat × Nat)) : List (Nat × Nat × Nat) :=
      match l with
      | [] => [q]
      | e :: rest => if diff32 f e.1 < 0 then q :: e :: rest else e :: rest ++ [q]
    (h.mea! fun m => { m with snapPend := ins m.snapPend }).snapShow

/-- Pending requests are discarded (13 R366, R368). -/
def Hub.snapDiscard (h : Hub) : Hub :=
  let p := h.mea.snapPend
  (p.foldl (fun a e => a.snapMissed e.1 4 e.2.2) (h.mea! fun m => { m with snapPend := [] })).snapShow

/-- The words of a snapshot that are not 0 (13 R363): word number and value. -/
def Hub.snapWords (h : Hub) (f src taken flags : Nat) : List (Nat × Word) :=
  let b (v : Nat) : Word := BitVec.ofNat 32 v
  let front : List (Nat × Word) := [(0, b f), (1, b h.frmNo), (2, b h.oph), (3, b (h.oph / 2 ^ 32)),
    (4, b (h.get FRM_PCC_PCC)), (5, b taken), (6, b (flags + src * 256)),
    (8, h.word 0x160D), (9, h.word 0x160E), (10, h.word 0x1616),
    (11, h.word 0x0E12), (12, h.word 0x0E13), (13, h.word 0x0E0F), (14, h.word 0x0E10),
    (15, h.word 0x0F12), (16, h.word 0x0F13), (17, h.word 0x0F0F), (18, h.word 0x0F10),
    (19, h.word 0x101B), (20, h.word 0x101C), (21, h.word 0x1018), (22, h.word 0x1117), (23, h.word 0x110F)]
  let offs : List Nat := [CH_Q_LO_Q.idx, CH_Q_HI_Q.idx, CH_E_LO_E.idx, CH_E_HI_E.idx, CH_ONT_ONT.idx, CH_SWCNT_SW.idx,
    CH_TRIPCNT_TRIPS.idx, CH_ODO_LO_ODO.idx, CH_ODO_HI_ODO.idx, CH_SECCNT0_LATE.idx, CH_SECCNT1_SKIPPED.idx,
    CH_SECCNT2_EXEC.idx, CH_IMEAS_INST.idx, CH_VMEAS_V.idx, CH_TEMP_TEMP.idx, CH_STAT_STATE.idx]
  let chans := h.chList.flatMap fun n =>
    (List.range 16).map fun i => (64 + 16 * n + i, h.word (nth offs i 0 + 256 * n))
  (front ++ chans).filter fun e => e.2 != 0

def Hub.bank (h : Hub) (b : Nat) : List (Nat × Word) := if b = 0 then h.mea.bank0 else h.mea.bank1

/-- The latch of a pending frame (13 R365). -/
def Hub.snapLatch (h : Hub) (f src arrived : Nat) : Hub :=
  let h0 := (h.mea! fun m => { m with snapPend := m.snapPend.filter (·.1 != f) }).snapShow
  let b := 1 - h.get SNAP_STAT_NEWEST
  let held := if b = 0 then h.flag SNAP_CTL_HOLD0 else h.flag SNAP_CTL_HOLD1
  if held then h0.snapMissed f 2 arrived
  else
    let flags := 1 + (if h.flag SEC_STAT_GAP then 2 else 0) + (if h.frm.defP1 then 4 else 0) + (if h.mode = mNAP then 8
        else 0)
    (h0.mea! fun m => { m with
      writing := some ⟨b, h.snapWords f src ((h.get SNAP_CNT_TAKEN + 1) % 65536) flags⟩ }).put SNAP_STAT_BUSY 1

/-- The requests for the frame that FRM_NO now shows latch; those it has passed are missed (13 R364–R365). -/
def Hub.snapAt (h : Hub) : Hub :=
  h.mea.snapPend.foldl (fun a e =>
    if e.1 = a.frmNo then a.snapLatch e.1 e.2.1 e.2.2
    else if diff32 e.1 a.frmNo < 0 then
      (((a.mea! fun m => { m with snapPend := m.snapPend.filter (·.1 != e.1) }).snapShow).snapMissed e.1 1 e.2.2)
    else a) h

/-- The bank write completes (13 R365). -/
def Hub.snapDone (h : Hub) : Hub :=
  match h.mea.writing with
  | none => h
  | some w =>
    let word (i : Nat) : Nat := ((mapFind w.words i).getD 0).toNat
    let h1 := h.mea! fun m =>
      let x := { m with writing := none, bankBad := m.bankBad.filter (·.1 != w.bank) }
      if w.bank = 0 then { x with bank0 := w.words } else { x with bank1 := w.words }
    let h2 := ((h1.put SNAP_STAT_BUSY 0).put SNAP_STAT_NEWEST w.bank).incWrap SNAP_CNT_TAKEN
    let h3 := if w.bank = 0 then (h2.put SNAP_B0TAG_F (word 0)).put SNAP_B0FLG_FLAGS (word 6)
      else (h2.put SNAP_B1TAG_F (word 0)).put SNAP_B1FLG_FLAGS (word 6)
    h3.evt pgSNAP 0

/-- A word of a bank fails parity: it reads 0 (13 R367). -/
def Hub.bankParity (h : Hub) (b w : Nat) : Hub :=
  let h1 := h.mea! fun m => { m with bankBad := if m.bankBad.contains (b, w) then m.bankBad else (b, w) :: m.bankBad }
  let f := if b = 0 then SNAP_B0FLG_FLAGS else SNAP_B1FLG_FLAGS
  let h2 := h1.putb ⟨f.idx, 4, 1⟩ true
  h2.report pgSNAP 2 0x1502 0 sevWARN [(0, 1, b), (2, 2, w)]

/-- A word of a bank as it reads (13 R367). -/
def Hub.bankWord (h : Hub) (b w : Nat) : Word :=
  if h.mea.bankBad.contains (b, w) then 0
  else
    let v := (mapFind (h.bank b) w).getD 0
    if w = 6 ∧ h.mea.bankBad.any (·.1 == b) then v ||| 16 else v

/-- SNAP_WDATAi (13 R367). -/
def Hub.snapWindow (h : Hub) (i : Nat) : Word := h.bankWord (h.get SNAP_WSEL_BANK) (h.get SNAP_WSEL_WORD + i)

end Sys2Proof.Machine
end

