-- ==== Sys2Proof/Machine/Geyser.lean ====
section
/-! DEFINITION. GEYSER captures sample by sample, their results, and learning (07 R215–R221). -/

namespace Sys2Proof.Machine

/-- The sample interval of a channel in µs (07 R215). -/
def Hub.geyInterval (h : Hub) (c : Nat) : Nat :=
  match h.get (CH_GEYCTL_INTERVAL.pg c) with | 0 => 25 | 1 => 50 | _ => 100

def Hub.cuspMin (h : Hub) : Int := h.get GEY_CUSP_CUSPMIN

/-- cusp_rise (07 R217). -/
def Hub.cuspRise (h : Hub) : Int := max (floorDiv h.cuspMin 4) 10

/-- The detector examines sample k (07 R217). -/
def detectStep (cuspmin rise : Int) (e : Engine) (k : Nat) (i : Int) : Engine :=
  match e.det with
  | .seekMax =>
    if k = 0 ∨ e.pk < i then { e with pk := i }
    else if cuspmin ≤ e.pk - i then { e with det := .seekMin, vm := i, kv := k }
    else e
  | .seekMin =>
    if i < e.vm then { e with vm := i, kv := k }
    else if rise ≤ i - e.vm then { e with det := .found e.kv }
    else e
  | .found _ => { e with after := e.after + 1 }
  | .closed => e

/-- An engine takes no sample of a fenced converter; CAPTURE otherwise (07 R215–R216). -/
def Hub.geySampling (h : Hub) (k : Nat) : Bool :=
  h.get (engF GEY_ENG_STAT_STATE k) == 1 && !h.adcFenced (h.get (engF GEY_ENG_STAT_CH k) / 32)

/-- The measured latency of 07 R219. -/
def measuredM (kv interval : Nat) (mechofs : Int) : Nat := (clampInt 0 500000 ((kv : Int) * interval + mechofs)).toNat

/-- A capture ends FULL (1) or EARLY (2): results of engine and channel, the cusp's measurement for learning
(07 R216, R218–R220). -/
def Hub.geyEnd (h : Hub) (k endCode : Nat) : Hub :=
  let e := h.engine k
  let c := h.get (engF GEY_ENG_STAT_CH k)
  let dir := h.get (engF GEY_ENG_STAT_DIR k)
  let iv := h.geyInterval c
  let h1 := ((h.geyLeave k).put (engF GEY_ENG_STAT_END k) endCode).incWrap (CH_GEYCNT_CAPT.pg c)
  let h2 := (h1.evt pgGEY k).put (CH_GEYMEAS_DIR.pg c) dir
  match e.det with
  | .found kv =>
    let m := measuredM kv iv (h.geti (CH_MECHOFS_OFS.pg c))
    let start := h.get (engF GEY_ENG_CYC_CYC k) + (e.samples.length - 1) * iv * 400
    let frm := wrapTo 32 ((h.get (engF GEY_ENG_FRM_FRM k) : Int) + (start / 40000 : Nat))
    let h3 := ((h2.put (engF GEY_ENG_STAT_CUSP k) 1).put (engF GEY_ENG_CYC_KCUSP k) kv).put (CH_GEYMEAS_M.pg c) m
    let h4 := (h3.put (CH_GEYMEAS_RESULT.pg c) 1).put (CH_GEYSTAT_NMRUN.pg c) 0
    h4.meas! fun l => l ++ [⟨c, dir, m, e.vM, e.tM, frm, start % 40000⟩]
  | _ =>
    let h3 := ((h2.put (CH_GEYMEAS_RESULT.pg c) 2).incSat (CH_GEYSTAT_NMRUN.pg c)).incSat (CH_GEYCNT2_NOMOTION.pg c)
    h3.report (chPage c) 17 0x1820 c sevWARN
      [(0, 1, dir), (1, 1, h3.get (CH_GEYSTAT_NMRUN.pg c)), (2, 2, wrapTo 16 e.pk), (4, 2, wrapTo 16 e.vM)]

/-- A sample of engine k: its class F conversion, correction, storage, the detector, and the capture's end
(07 R215–R217, 13 R353). -/
def Hub.geySample (h : Hub) (k code : Nat) : Hub :=
  let c := h.get (engF GEY_ENG_STAT_CH k)
  let raw := (Input.load c).raw16 code 0
  let v := clampInt (-32767) 32767 (h.correct (.load c) raw).y
  -- the sample's nominal instant, as a cycle of the present frame
  let start := h.get (engF GEY_ENG_CYC_CYC k) + (h.engine k).samples.length * h.geyInterval c * 400
  let at_ := (diff32 (h.get (engF GEY_ENG_FRM_FRM k)) h.frmNo * 40000 + start).toNat
  let h1 := h.classF (c / 32) at_
  -- a hit whose current has reached IHIT chops: the window of its capture is closed (07 R217)
  let peaked := (h.ch c).hit && decide ((h.get (CH_HH_IHIT.pg c) * 10 : Nat) ≤ v)
  let e := (if peaked then h1.geyClose c 0 else h1).engine k
  let n := e.samples.length
  let e1 := detectStep h1.cuspMin h1.cuspRise { e with samples := e.samples ++ [v] } n v
  let h2 := (h1.setEngine k e1).put (engF GEY_ENG_STAT_NS k) (n + 1)
  if h.get (CH_GEYCTL_NSAMP.pg c) * 16 ≤ n + 1 then h2.geyEnd k 1
  else if h.flag (CH_GEYCTL_STOPEARLY.pg c) ∧ 16 ≤ e1.after then h2.geyEnd k 2
  else h2

/-! ## Learning (07 R220) -/

def outrunFld (c dir : Nat) : Fld := if dir = 0 then CH_GEYSTAT_OUTRUN_ON.pg c else CH_GEYSTAT_OUTRUN_OFF.pg c

/-- A record takes new values. -/
def Hub.setLearned (h : Hub) (c dir l v : Nat) (t : Int) (count : Nat) : Hub :=
  (((h.put (recL c dir) l).put (recV c dir) v).puti (recT c dir) t).put (recCount c dir) count

/-- One measurement seeds, merges, is discarded or reseeds (07 R220). -/
def Hub.learn (h : Hub) (m : Meas) : Hub :=
  let c := m.ch
  if !h.flag (CH_GEYCTL_LEARN.pg c) || h.adcFenced 3 then h
  else
    let m16 : Int := m.m * 16
    let vm := wrapTo 16 m.vM
    let l : Int := h.get (recL c m.dir)
    let v : Int := h.get (recV c m.dir)
    let t := h.geti (recT c m.dir)
    let count := h.get (recCount c m.dir)
    let out := outrunFld c m.dir
    if count = 0 then ((h.setLearned c m.dir m16.toNat vm m.tM 1).put out 0).evt (chPage c) 23
    else if (m.vM - v).natAbs ≤ h.get GEY_BAND_VBAND ∧ (m.tM - t).natAbs ≤ h.get GEY_BAND_TBAND then
      (h.setLearned c m.dir (l + floorDiv (m16 - l + 4) 8).toNat (v + floorDiv (m.vM - v + 4) 8).toNat
        (t + floorDiv (m.tM - t + 4) 8) (min (count + 1) 255)).put out 0
    else
      let run := h.get out + 1
      if h.get GEY_RESEED_N ≤ run then
        let h1 := ((h.setLearned c m.dir m16.toNat vm m.tM 1).put out 0).put (CH_GEYMEAS_RESULT.pg c) 5
        (h1.incSat (CH_GEYCNT2_RESEEDS.pg c)).report (chPage c) 20 0x1822 c sevINFO [(0, 1, m.dir), (4, 4, m16.toNat)]
      else (h.put out run).put (CH_GEYMEAS_RESULT.pg c) 4

/-- Learning in P3 of the present frame: what was captured by its cycle 18,000, and the later captures of the frame
before (07 R220). (DEDUCED, log entry 59.) -/
def Hub.learnP3 (h : Hub) : Hub :=
  let due (m : Meas) : Bool := m.frm != h.frmNo || decide (m.cyc ≤ 18000)
  (h.meas.filter due).foldl Hub.learn (h.meas! fun l => l.filter fun m => !due m)

/-- RELEASE acts at the tick (07 R211). -/
def Hub.engRelease (h : Hub) (k : Nat) : Hub :=
  if h.get (engF GEY_ENG_STAT_STATE k) = 2 then h.put (engF GEY_ENG_STAT_STATE k) 0 else h

/-- A sample of a buffer fails parity: in a capture the capture aborts (07 R216), at read-out it is returned as
0x8000 and said (07 R224). -/
def Hub.bufParity (h : Hub) (k n : Nat) : Hub :=
  if h.get (engF GEY_ENG_STAT_STATE k) = 1 then h.engAbort k 6
  else
    let e := h.engine k
    let h1 := h.setEngine k { e with badSamples := if e.badSamples.contains n then e.badSamples else n :: e.badSamples }
    (h1.incSat GEY_CNT_BUFPAR).report pgGEY 9 0x1402 0 sevWARN [(0, 1, k), (2, 2, n)]

/-- A stored sample as it reads out, 16 bits (07 R224). -/
def Hub.sampleWord (h : Hub) (k n : Nat) : Nat :=
  let e := h.engine k
  if e.badSamples.contains n then 0x8000 else wrapTo 16 (nth e.samples n 0)

end Sys2Proof.Machine
end

