-- ==== Sys2Proof/Machine/Recorder.lean ====
section
/-! DEFINITION. The event recorder's store (20 R493–R504, R511): placement, committing, clearing and reading. -/

namespace Sys2Proof.Machine

abbrev pgREC : Nat := 0x06

abbrev protFirst : Nat := 8192
abbrev ringFirst : Nat := 8448
abbrev storeSlots : Nat := 16384

/-- The i-th slot of the ring from a slot on, wrapping from 16,383 to 8,448 (20 R500). -/
def ringSlot (s i : Nat) : Nat := ringFirst + (s - ringFirst + i) % (storeSlots - ringFirst)

/-- REC_STAT.HEAD as the ring uses it: the stored count reads 0 on the first power-up (20 R500, R515). -/
def Hub.ringHead (h : Hub) : Nat := max ringFirst (h.get REC_STAT_HEAD)

/-- Low 24 bits of the SEQ a slot belongs to, and the mark of a record slot (20 R494, R502). -/
def slotSeq (ws : List Word) : Nat := bitsOf (nth ws 15 0) 0 24
def isRecord (ws : List Word) : Bool := bitsOf (nth ws 15 0) 24 8 == 0xA5

/-- The snapshot slots of a record (20 R502). -/
def Rec.snapSlots (r : Rec) : List (List Word) :=
  let n := (r.pairs.length + 6) / 7
  (List.range n).map fun k =>
    let part := (r.pairs.drop (7 * k)).take 7
    let pair (p : Nat) : List Word := match part[p]? with
      | some (i, st, v) => [BitVec.ofNat 32 (i + st * 2 ^ 16), v]
      | none => [0, 0]
    (List.range 7).flatMap pair ++
      [BitVec.ofNat 32 (k + part.length * 2 ^ 8), BitVec.ofNat 32 (0xC3 * 2 ^ 24 + r.seq % 2 ^ 24)]

/-- Every slot of the record that owns a slot is freed (20 R500). -/
def Hub.freeOwner (h : Hub) (slot : Nat) : Hub :=
  match mapFind h.rcd.store slot with
  | none => h
  | some ws => h.rcd! fun r => { r with
      store := r.store.filter fun e => !(decide (ringFirst ≤ e.1) && slotSeq e.2 == slotSeq ws) }

/-- A slot takes sixteen words; an earlier error of it is over. -/
def Hub.storeSlot (h : Hub) (slot : Nat) (ws : List Word) : Hub :=
  h.rcd! fun r => { r with
    store := mapPut r.store slot ws, badWords := r.badWords.filter (·.1 != slot),
    uncorrSaid := r.uncorrSaid.filter (· != slot) }

/-- A record and its snapshot go to the ring at HEAD (20 R500). -/
def Hub.placeRing (h : Hub) (r : Rec) : Hub × Nat :=
  let head := h.ringHead
  let snaps := r.snapSlots
  let n := 1 + snaps.length
  let h1 := (List.range n).foldl (fun a i => a.freeOwner (ringSlot head i)) h
  let h2 := h1.storeSlot head (r.words (ringSlot head 1) snaps.length)
  let h3 := (snaps.zip (List.range snaps.length)).foldl (fun a p => a.storeSlot (ringSlot head (p.2 + 1)) p.1) h2
  let h4 := h3.put REC_STAT_HEAD (ringSlot head n)
  (if storeSlots ≤ head + n then h4.put REC_STAT_WRAPPED 1 else h4, head)

/-- The lowest slot of the protected region from which n slots are free (20 R500). -/
def Hub.protFree (h : Hub) (n : Nat) : Option Nat :=
  match (List.range 256).find? (fun i => (mapFind h.rcd.store (protFirst + i)).isNone) with
  | none => none
  | some i =>
    if i + n ≤ 256 ∧ (List.range n).all (fun k => (mapFind h.rcd.store (protFirst + i + k)).isNone) then
      some (protFirst + i) else none

/-- A FATAL record goes to the protected region; with no room there, to the ring, said once per clear. -/
def Hub.placeFatal (h : Hub) (r : Rec) : Hub × Nat :=
  let snaps := r.snapSlots
  match h.protFree (1 + snaps.length) with
  | some s =>
    let h1 := h.storeSlot s (r.words (s + 1) snaps.length)
    let h2 := (snaps.zip (List.range snaps.length)).foldl (fun a p => a.storeSlot (s + 1 + p.2) p.1) h1
    let h3 := h2.put REC_FATALN_N (h2.get REC_FATALN_N + 1)
    (if (h3.protFree 1).isNone then h3.put REC_STAT_FATALFULL 1 else h3, s)
  | none =>
    let p := h.placeRing r
    let h1 := p.1.put REC_STAT_FATALFULL 1
    if h1.rcd.fatalFullSaid then (h1, p.2)
    else ((h1.rcd! fun x => { x with fatalFullSaid := true }).report pgREC 2 0x0704 0 sevWARN [(0, 4, r.seq)], p.2)

/-- A record gets its slot and counts as committed (20 R496, R500). -/
def Hub.commitRec (h : Hub) (r : Rec) : Hub :=
  let p := if r.sev = sevFATAL then h.placeFatal r else h.placeRing r
  let h1 := p.1.rcd! fun x => { x with newest := some r }
  if h1.flag REC_STAT_CLEARING then h1
  else (h1.put REC_NEWEST_SLOT p.2).put REC_NEWEST_REPEAT r.rep

/-- The queue has room again after drops (20 R497). -/
def Hub.sayLost (h : Hub) : Hub :=
  if h.rcd.lostCount = 0 ∨ 64 ≤ h.rcd.queue.length then h
  else (h.rcd! fun r => { r with lostCount := 0 }).report pgREC 0 0x0701 0 sevWARN [(0, 2, min 65535 h.rcd.lostCount)]

/-- The oldest queued record can be committed: P3 writes it any time after its event, or after its snapshot reads when
it has a snapshot, and a stall of the store's acknowledgements after that (20 R497, R511, 22 R530). (DEDUCED,
log entry 35.) -/
def Hub.commitDue (h : Hub) : Bool :=
  h.rcd.clearing.isNone && (match h.rcd.queue with
    | r :: _ => (r.done || r.set.isNone) && decide (h.nvStall ≤ r.age)
    | [] => false)

/-- RECORD_COMMIT: the trailer of the oldest queued record is written. -/
def Hub.recordCommit (h : Hub) : Hub :=
  match h.rcd.queue with
  | [] => h
  | r :: rest => ((h.rcd! fun x => { x with queue := rest }).commitRec r).sayLost

/-- Queued records are committed at once; a snapshot not yet read is lost. -/
def Hub.flushQueue (h : Hub) (q : List Rec) : Hub :=
  q.foldl (fun a r => a.commitRec (if r.done then r else { r with lost := r.set.isSome, pairs := [] }))
    (h.rcd! fun x => { x with queue := [] })

/-- The reserve completes the queue when logic power fails, the FATAL_FULL record among them that the commits may bring; a
CLEARED record that stands in front is made again at the next start (20 R499, R511). (DEDUCED, log entry 35.) -/
def Hub.reserveFlush (h : Hub) : Hub :=
  let h1 := h.flushQueue (if h.rcd.clearing.isSome then h.rcd.queue.drop 1 else h.rcd.queue)
  h1.flushQueue h1.rcd.queue

/-- The CLEARED record of a clear (20 R514). -/
def Hub.clearedRec (h : Hub) (c : Clearing) : Rec :=
  { code := 0x0702, inst := 0, sev := sevWARN, osf := h.get RTC_STAT_OSF, seq := max 1 (h.get REC_SEQ_NEXT), oph := h.oph,
    pcc := h.get FRM_PCC_PCC, frm := h.frmNo, rtc := h.get RTC_EPOCH_SECONDS, lastOph := h.oph, done := true,
    payload := payload [(0, 1, c.slot), (1, 1, boolNat c.resumed), (4, 4, c.ring), (8, 2, c.fatal), (12, 4, c.mark)] }

/-- Steps 1–4 of 20 R511, or their completion after a power loss. -/
def Hub.clearRun (h : Hub) (slot mark : Nat) (resumed : Bool) (ring0 fatal0 : Nat) : Hub :=
  let newer := (h.rcd.store.filter fun e => isRecord e.2 && decide (mark < (nth e.2 1 0).toNat)).map fun e => slotSeq e.2
  let old (ws : List Word) : Bool := !newer.contains (slotSeq ws)
  let gone := h.rcd.store.filter fun e => old e.2
  let recs := gone.filter fun e => isRecord e.2
  let fatal := fatal0 + (recs.filter fun e => e.1 < ringFirst).length
  let ring := ring0 + (recs.filter fun e => !(e.1 < ringFirst)).length
  let c : Clearing := { slot := slot, mark := mark, resumed := resumed, ring := ring, fatal := fatal }
  let h1 := h.put REC_STAT_CLEARING 1
  let h2 := h1.rcd! fun r => { r with
    store := r.store.filter (fun e => !old e.2), clearing := some c, clearDue := none, fatalFullSaid := false }
  let r := h2.clearedRec c
  (h2.put REC_SEQ_NEXT (r.seq + 1)).rcd! fun x => { x with queue := r :: x.queue }

/-- RECORDER_CLEAR: the clear that a judgement made due (20 R511). What is queued is completed and freed with the rest, so that
every record that comes later has a SEQ above the mark. (DEDUCED, log entry 35.) -/
def Hub.recorderClear (h0 : Hub) (slot : Nat) : Hub :=
  let h := h0.reserveFlush
  let mark := max 1 (h.get REC_SEQ_NEXT) - 1
  let h1 := ((h.put REC_STAT_HEAD ringFirst).put REC_FATALN_N 0).put REC_STAT_WRAPPED 0
  ((h1.put REC_STAT_FATALFULL 0).incSat REC_CNT2_CLEARS).clearRun slot mark false 0 0

/-- The CLEARED record of a clear can be committed. -/
def Hub.clearedDue (h : Hub) : Bool :=
  h.rcd.clearing.isSome && (match h.rcd.queue with | r :: _ => decide (h.nvStall ≤ r.age) | [] => false)

/-- CLEARED: its record commits at HEAD, and CLEARING ends (20 R511). -/
def Hub.clearedCommit (h : Hub) : Hub :=
  match h.rcd.queue with
  | [] => h
  | r :: rest =>
    let h1 := (h.rcd! fun x => { x with queue := rest, clearing := none }).put REC_STAT_CLEARING 0
    ((h1.commitRec r).evt pgREC 3).sayLost

/-- P3 holds to its bounds: what has waited 2 ms is committed; CLEARED, which follows 20 ms of freeing, 22 ms after the
clear began; a stall of the store's acknowledgements comes on top (20 R497, R511, 22 R530). (DESIGN CHOICE,
log entry 7.) -/
def Hub.recEnds (h : Hub) : Hub :=
  let h1 := h.rcd! fun r => { r with queue := r.queue.map fun q => { q with age := min 2000 (q.age + 1) } }
  let h2 := match h1.rcd.clearing, h1.rcd.queue with
    | some _, r :: _ => if 220 + h1.nvStall ≤ r.age then h1.clearedCommit else h1
    | _, _ => h1
  (List.range 64).foldl (fun (a : Hub) _ =>
    if a.commitDue && (match a.rcd.queue with | r :: _ => decide (20 + a.nvStall ≤ r.age) | [] => false)
        then a.recordCommit else a) h2

/-- A word of a slot as it reads (20 R493, R503–R504, R511). -/
def Hub.storeWord (h : Hub) (slot w : Nat) : Word :=
  if slot < protFirst ∨ h.flag REC_STAT_CLEARING ∨ h.rcd.badWords.contains (slot, w) then 0
  else match mapFind h.rcd.store slot with
    | some ws => nth ws w 0
    | none => 0

/-- A word that reads 0 for an uncorrectable error. -/
def Hub.storeBad (h : Hub) (slot w : Nat) : Bool :=
  decide (protFirst ≤ slot) && !h.flag REC_STAT_CLEARING && h.rcd.badWords.contains (slot, w)

/-- STORE_UNCORR: a word reads 0 from now on; a record without its trailer is free (20 R504). -/
def Hub.storeUncorr (h : Hub) (slot w : Nat) : Hub :=
  let said := h.rcd.uncorrSaid.contains slot
  let h1 := (h.incSat REC_CNT2_UNCORR).rcd! fun r => { r with
    badWords := if r.badWords.contains (slot, w) then r.badWords else (slot, w) :: r.badWords,
    uncorrSaid := if said then r.uncorrSaid else slot :: r.uncorrSaid,
    store := if w = 15 then mapDel r.store slot else r.store }
  if said then h1 else h1.report pgREC 1 0x0703 0 sevFAULT [(0, 2, slot), (2, 1, w)]

/-- The window takes the selected slot: at every tick, and at once where an error of the slot shows or a clear ends
(20 R503–R504, R511–R512). -/
def Hub.winTake (h : Hub) : Hub :=
  let s := h.get REC_RSEL_SLOT
  h.rcd! fun r => { r with window := (List.range 16).map (h.storeWord s), winBad := (List.range 16).any (h.storeBad s) }

/-- REC_RDATAi and REC_RSTAT (20 R503–R504, R511, R515). -/
def Hub.recWindow (h : Hub) (i : Nat) : Word := if h.flag REC_STAT_CLEARING then 0 else nth h.rcd.window i 0
def Hub.recRstat (h : Hub) : Word := if h.rcd.winBad && !h.flag REC_STAT_CLEARING then 1 else 0

/-- The selected snapshot set, and index k of a set (20 R501, R515). -/
def Hub.selSet (h : Hub) : SnapSet := nth h.rcd.sets (h.get REC_SETSEL_SET) {}
def SnapSet.word (s : SnapSet) (i : Nat) : Word := (mapFind s.words i).getD 0
def SnapSet.index (s : SnapSet) (k : Nat) : Nat := bitsOf (s.word (k / 2)) (16 * (k % 2)) 16
def SnapSet.indices (s : SnapSet) : List Nat := (List.range s.len).map s.index

end Sys2Proof.Machine
end

