-- ==== Sys2Proof/Machine/Sha256.lean ====
section
/-! DEFINITION. HMAC-SHA-256 (FIPS 198-1, FIPS 180-4), which 20 R507 names, over lists of bytes held as numbers.  The
constants are computed from what the standard says of them.  PRESUMED, log entry 43: the standards are outside the spec. -/

namespace Sys2Proof.Machine

/-- The largest number below `r + 2 ^ n` whose k-th power is at most v, bit by bit. -/
def rootFrom (k v : Nat) : (n r : Nat) → Nat
  | 0, r => r
  | n + 1, r => rootFrom k v n (if (r + 2 ^ n) ^ k ≤ v then r + 2 ^ n else r)

/-- The first 32 bits of the fractional part of the k-th root of p. -/
def rootFraction (k p : Nat) : Word := BitVec.ofNat 32 (rootFrom k (p * 2 ^ (32 * k)) 36 0)

/-- The primes below 312: the first 64. -/
def shaPrimes : List Nat :=
  (List.range 312).filter fun p => decide (2 ≤ p) && (List.range 18).all fun d => decide (d < 2) || p == d || p % d != 0

/-- Round constants: cube roots of the first 64 primes; starting values: square roots of the first eight. -/
def shaRoundConstants : List Word := shaPrimes.map (rootFraction 3)
def shaStart : List Word := (shaPrimes.take 8).map (rootFraction 2)

/-- The sum modulo 2 of several rotations of a word. -/
def rotations (rs : List Nat) (x : Word) : Word := (rs.map x.rotateRight).foldl (· ^^^ ·) 0

/-- The message schedule, newest word first, n words longer. -/
def shaSchedule : Nat → List Word → List Word
  | 0, w => w
  | n + 1, w =>
    let at_ (back : Nat) : Word := nth w (back - 1) 0
    let small0 := rotations [7, 18] (at_ 15) ^^^ (at_ 15 >>> 3)
    let small1 := rotations [17, 19] (at_ 2) ^^^ (at_ 2 >>> 10)
    shaSchedule n ((at_ 16 + small0 + at_ 7 + small1) :: w)

/-- A round: the eight working words move on by one place; the fifth takes up the fourth, and the first is new. -/
def shaStep (v : List Word) (input : Word) : List Word :=
  let w (i : Nat) : Word := nth v i 0
  let choice := w 6 ^^^ (w 4 &&& (w 5 ^^^ w 6))
  let majority := (w 0 &&& w 1) ||| (w 2 &&& (w 0 ||| w 1))
  let feed := w 7 + input + choice + rotations [6, 11, 25] (w 4)
  [feed + majority + rotations [2, 13, 22] (w 0), w 0, w 1, w 2, w 3 + feed, w 4, w 5, w 6]

/-- A block of sixteen words enters the hash value. -/
def shaAbsorb (value block : List Word) : List Word :=
  let inputs := List.zipWith (· + ·) shaRoundConstants (shaSchedule 48 block.reverse).reverse
  List.zipWith (· + ·) value (inputs.foldl shaStep value)

/-- A number as n bytes, most significant first, and bytes as a number. -/
def bigEndian (n v : Nat) : List Nat := (List.range n).reverse.map fun i => v / 256 ^ i % 256
def ofBigEndian (bs : List Nat) : Nat := bs.foldl (fun a b => a * 256 + b) 0

/-- A message with the one bit, the zeros and its length in bits that fill its last block. -/
def shaPadded (m : List Nat) : List Nat :=
  let n := m.length
  m ++ 0x80 :: List.replicate ((119 - n % 64) % 64) 0 ++ bigEndian 8 (8 * n)

/-- Block i of a padded message. -/
def shaBlockOf (p : List Nat) (i : Nat) : List Word :=
  (List.range 16).map fun j => BitVec.ofNat 32 (ofBigEndian ((p.drop (64 * i + 4 * j)).take 4))

/-- SHA-256 of a message of bytes. -/
def sha256 (m : List Nat) : List Nat :=
  let p := shaPadded m
  ((List.range (p.length / 64)).foldl (fun v i => shaAbsorb v (shaBlockOf p i)) shaStart).flatMap
      fun w => bigEndian 4 w.toNat

/-- HMAC-SHA-256 with a key of at most 64 bytes. -/
def hmacSha256 (key m : List Nat) : List Nat :=
  let padded (c : Nat) : List Nat := (List.range 64).map fun i => Nat.xor (nth key i 0) c
  sha256 (padded 0x5C ++ sha256 (padded 0x36 ++ m))

end Sys2Proof.Machine
end

