-- ==== Sys2Proof/Machine/Keys.lean ====
section
/-! DEFINITION. Keys, challenges, authorisation and sessions (20 R505–R512). -/

namespace Sys2Proof.Machine

abbrev pgKEY : Nat := 0x1F

/-- The value a register will hold: writes that await the tick counted (03 R92). -/
def Hub.newWord (h : Hub) (idx : Nat) : Word :=
  match mapFind h.pend idx with
  | none => h.word idx
  | some p => ((h.word idx &&& ~~~ p.mask) ||| (p.val &&& p.mask)) &&& ~~~ p.clr

/-- The four bytes of a word, least significant first. -/
def wordBytes (w : Word) : List Nat := [w.toNat % 256, w.toNat / 256 % 256, w.toNat / 65536 % 256, w.toNat / 16777216]

/-- KEY_CHALi as it reads (20 R506). -/
def Hub.chalWord (h : Hub) (i : Nat) : Word :=
    if h.keys.draws = 0 ∨ !h.keys.chalShown then 0 else Config.challenge (h.keys.draws - 1) i

/-- The response of 20 R507 for a key. (PRESUMED, log entry 43.) -/
def Hub.response (h : Hub) (key : List Nat) (op : Nat) : List Nat :=
  let msg := (List.range 4).flatMap (fun i => wordBytes (h.chalWord i)) ++
    (List.range 4).flatMap (fun i => wordBytes (Config.serial i)) ++ [op]
  (hmacSha256 key msg).take 16

/-- The response that the RESP registers hold. -/
def Hub.given (h : Hub) : List Nat := (List.range 4).flatMap fun i => wordBytes (h.newWord (0x1F0E + i))

/-- The session ends; the test page clears at the tick (20 R510, 22 R529). -/
def Hub.sessionEnd (h : Hub) : Hub :=
  if h.flag KEY_STAT_SESSION then
    ((h.put KEY_STAT_SESSION 0).put KEY_STAT_SESSSLOT 0).key! fun k => { k with sessOver := true }
  else h

/-- A new challenge (20 R506). -/
def Hub.drawChallenge (h : Hub) : Hub :=
  (h.put KEY_STAT_CHALVALID 1).key! fun k => { k with draws := k.draws + 1, chalShown := true, chalAge := 0 }

/-- The status of an AUTH at its arrival, in the order of 20 R508, with the RESULT it leaves. -/
def Hub.authCheck (h : Hub) (slot op : Nat) : Nat × Option Nat :=
  let m := if h.mode = mNAP then mREADY else h.mode
  let rate := match h.keys.sinceFail with | some n => decide (n < 20000) | none => false
  if h.flag KEY_STAT_LOCKOUT then (0x05, some 5)
  else if rate then (0x05, some 4)
  else if !h.flag KEY_STAT_CHALVALID then (0x0B, some 3)
  else if !(h.get KEY_STAT_SLOTSET).testBit slot then (0x04, some 6)
  else if op = 0 then (0x04, none)
  else if m ≠ mREADY ∧ m ≠ mSERVICE then (0x05, some 7)
  else (0, some 8)

/-- An AUTH write: judged when every check passes (20 R508). -/
def Hub.authWrite (h : Hub) (slot op : Nat) (port : Port) : Hub × Nat :=
  let c := h.authCheck slot op
  let h1 := match c.2 with | some r => h.put KEY_STAT_RESULT r | none => h
  if c.1 ≠ 0 then (h1, c.1)
  else
    let ok := match nth h.keys.slots slot none with | some key => h.response key op == h.given | none => false
    ((h1.put KEY_STAT_CHALVALID 0).key! fun k => { k with judge := some ⟨slot, op, port, ok⟩ }, 0)

/-- The store takes a write of the recorder's header or of the system area that port W began (16 R437). (DESIGN CHOICE, log
entry 42.) -/
def Hub.nvOther (h : Hub) (p : Port) : Hub := if p = .w then h.mea! fun m => { m with nvq := m.nvq ++ [.other .w] } else h

/-- The judgement completes at a tick; FAILS and the lockout stand in the store's header (20 R508–R511). -/
def Hub.judge (h : Hub) : Hub :=
  match h.keys.judge with
  | none => h
  | some j =>
    let h0 := (h.key! fun k => { k with judge := none, clearW := j.ok && j.op != 1 && j.port == .w }).nvOther j.port
    let who : List (Nat × Nat × Nat) := [(0, 1, j.slot), (1, 1, j.op), (2, 1, if j.port = .w then 1 else 0)]
    if j.ok then
      let h1 := (((h0.put KEY_STAT_RESULT 1).put KEY_STAT_FAILS 0).incSat KEY_CNT_OKTOTAL).report pgKEY 0 0x1701 0 sevINFO who
      if j.op = 1 then
        ((h1.put KEY_STAT_SESSION 1).put KEY_STAT_SESSSLOT j.slot).key!
          fun k => { k with sessAge := 0, sessService := h.mode == mSERVICE }
      else h1.rcd! fun r => { r with clearNext := some j.slot }
    else
      let n := min 8 (h0.get KEY_STAT_FAILS + 1)
      let h1 := (((h0.put KEY_STAT_RESULT 2).put KEY_STAT_FAILS n).incSat KEY_CNT_FAILTOTAL).key!
        fun k => { k with sinceFail := some 0 }
      let h2 := h1.report pgKEY 1 0x1702 0 sevWARN (who ++ [(3, 1, n)])
      if n = 8 then
        ((h2.put KEY_STAT_LOCKOUT 1).put KEY_LOCKLEFT_LEFT 6000).report pgKEY 2 0x1703 0 sevFAULT [(0, 1, j.slot)]
      else h2

/-- PROG: the key goes to the store, and the load registers clear (20 R505). -/
def Hub.progWrite (h : Hub) (slot : Nat) (port : Port) : Hub × Nat :=
  if (h.get KEY_STAT_SLOTSET).testBit slot ∨ h.keys.progBusy.any (·.1 == slot) then (h, 0x06)
  else
    let key := (List.range 8).flatMap fun i => wordBytes (h.newWord (0x1F12 + i))
    let clear (i : Nat) : Bool := decide (0x1F12 ≤ i) && decide (i < 0x1F1A)
    let h1 := (h.regs! fun m => m.filter fun e => !clear e.1).pend! fun m => m.filter fun e => !clear e.1
    let h2 := h1.key! fun k => { k with progBusy := k.progBusy ++ [(slot, port)], loaded := setNth k.loaded slot [] key }
    (h2.mea! fun m => { m with nvq := m.nvq ++ [.key slot] }, 0)

/-- The key store has taken the key, or has failed and the slot stays empty (20 R505, R514). -/
def Hub.keyWritten (h : Hub) (slot : Nat) (ok : Bool) : Hub :=
  let port := match h.keys.progBusy.find? (·.1 == slot) with | some p => p.2 | none => .e
  let h1 := h.key! fun k => { k with progBusy := k.progBusy.filter (·.1 != slot) }
  if ok then
    let m := h1.get KEY_STAT_SLOTSET
    let h2 := (h1.put KEY_STAT_SLOTSET (m ||| 2 ^ slot)).key! fun k => { k with
      slots := setNth k.slots slot none (some (nth k.loaded slot [])) }
    h2.report pgKEY 3 0x1704 0 sevINFO [(0, 1, slot), (1, 1, if port = .w then 1 else 0)]
  else h1

/-- A session is in SERVICE, or has been (20 R510). -/
def Hub.keyTick (h : Hub) : Hub :=
  let svc := h.mode == mSERVICE
  h.key! fun k => { k with sessService := k.sessService || svc }

def Hub.chalExpired (h : Hub) : Bool := h.flag KEY_STAT_CHALVALID && decide (600000 ≤ h.keys.chalAge)
def Hub.sessLapsed (h : Hub) : Bool := h.flag KEY_STAT_SESSION && !h.keys.sessService && decide (600000 ≤ h.keys.sessAge)
def Hub.lockoutOver (h : Hub) : Bool := h.flag KEY_STAT_LOCKOUT && h.get KEY_LOCKLEFT_LEFT == 0
def Hub.lockoutEnd (h : Hub) : Hub := (h.put KEY_STAT_LOCKOUT 0).put KEY_STAT_FAILS 0

/-- The challenge lapses (20 R506). -/
def Hub.chalLapse (h : Hub) : Hub := h.put KEY_STAT_CHALVALID 0

/-- The clear that is due runs (20 R511). -/
def Hub.clearActs (h : Hub) : Hub :=
  match h.rcd.clearDue with
  | some slot => ((h.recorderClear slot).nvOther (if h.keys.clearW then .w else .e)).key! fun k => { k with clearW := false }
  | none => h

/-- The end of a frame: what was due in it and no command has brought takes place, times run on, and a clear whose judgement
the frame's tick made is due from the next one (20 R506–R511). (DESIGN CHOICE, log entry 7.) -/
def Hub.keyEnds (h : Hub) : Hub :=
  let h1 := if h.chalExpired then h.chalLapse else h
  let h2 := if h1.sessLapsed then h1.sessionEnd else h1
  let h3 := (if h2.lockoutOver then h2.lockoutEnd else h2).clearActs
  (h3.key! fun k => { k with
    chalAge := min 600000 (k.chalAge + 1), sessAge := min 600000 (k.sessAge + 1), sinceFail :=
        k.sinceFail.map fun n => min 20000 (n + 1) }).rcd!
    fun r => { r with clearDue := r.clearNext, clearNext := none }

end Sys2Proof.Machine
end

