-- ==== Sys2Proof/Machine/Feeds.lean ====
section
/-! DEFINITION. The two trunk feeds (chapter 08): presence, insertion, protection, loss, metering and sharing.
The insertion and protection control needs neither VSYS nor the core (08 R231): its states move whatever the
power, while flags, records and counters need a running hub. -/

namespace Sys2Proof.Machine

def feedNum : FeedId → Nat | .a => 0 | .b => 1

/-- The page of feed k. -/
def feedPage (k : Nat) : Nat := 0x0E + k

abbrev Hub.feedSt (h : Hub) (k : Nat) : Nat := h.get (FEED_STAT_STATE.pg k)
def Hub.feed (h : Hub) (k : Nat) : Feed := if k = 0 then h.feedA else h.feedB
def Hub.feed! (h : Hub) (k : Nat) (f : Feed → Feed) : Hub :=
  if k = 0 then h.feedA! f else h.feedB! f

/-- A flag with its record, while the logic runs. -/
def Hub.feedReport (h : Hub) (k bit code sev : Nat) (pay : List (Nat × Nat × Nat)) : Hub :=
  if h.running then h.report (feedPage k) bit code k sev pay else h

/-- Count, while the logic runs. -/
def Hub.feedCount (h : Hub) (f : Fld) : Hub := if h.running then h.incSat f else h

/-- The feed's page is fenced; the control alone, without the logic, knows no fence. -/
def Hub.feedFenced (h : Hub) (k : Nat) : Bool := h.running && h.fenced (feedPage k)

/-! ## PRIMARY (08 R248–R249) -/

/-- Feed B takes over, or returns to carrying. -/
def Hub.priTakeover (h : Hub) (va : Nat) : Hub :=
  let h1 := (((h.put (FEED_STAT_STANDBY_B.pg 1) 0).put (FEED_STAT_CONDUCT.pg 1) 1).put (FEED_STAT_BLOCKING.pg 1) 0).share!
    fun s => { s with bCarries := true, returnRun := 0 }
  (h1.feedCount FEED_SHARESTAT_PRICNT).feedReport 1 9 0x0F0A sevINFO [(0, 2, va)]

/-- RATIO 0 or 100 puts the whole load on one feed: the other, unless the loaded one has fallen more than 1.0 V below it
(08 R247). -/
def Hub.ratioIdle (h : Hub) : Option FeedId :=
  if h.feedCfg FEED_SHARE_MODE = 1 ∧ h.feedOn 0 ∧ h.feedOn 1 then
    let va := h.geti FEED_V_V
    let vb := h.geti (FEED_V_V.pg 1)
    if h.feedCfg FEED_SHARE_RATIO = 0 ∧ va ≤ vb + 100 then some .a
    else if h.feedCfg FEED_SHARE_RATIO = 100 ∧ vb ≤ va + 100 then some .b else none
  else none

/-- The idle feed of RATIO is held off, and conducts again when it is idle no longer (08 R247). -/
def Hub.ratioHold (h : Hub) : Hub :=
  let now := h.ratioIdle
  let old := h.share.idle
  if now = old then h
  else
    let h1 := match old with
      | some f =>
        let k := feedNum f
        if h.feedOn k then (h.put (FEED_STAT_CONDUCT.pg k) 1).put (FEED_STAT_BLOCKING.pg k) 0 else h
      | none => h
    let h2 := match now with | some f => h1.put (FEED_STAT_CONDUCT.pg (feedNum f)) 0 | none => h1
    h2.share! fun s => { s with idle := now }

/-- Feed B's standing after a change of mode or of a feed's state: in PRIMARY it stands by while A carries the
load and it is not itself carrying after a takeover (08 R248–R249).  Without logic the control shares by the reset values
(R231). -/
def Hub.shareSettle (h0 : Hub) : Hub :=
  let h := h0.ratioHold
  if h.feedCfg FEED_SHARE_MODE = 2 ∧ h.feedOn 1 then
    if h.feedOn 0 ∧ !h.share.bCarries then
      ((h.put (FEED_STAT_STANDBY_B.pg 1) 1).put (FEED_STAT_CONDUCT.pg 1) 0).put (FEED_STAT_BLOCKING.pg 1) 0
    else
      let h1 := if h.flag (FEED_STAT_STANDBY_B.pg 1) then h.put (FEED_STAT_CONDUCT.pg 1) 1 else h
      (h1.put (FEED_STAT_STANDBY_B.pg 1) 0).share! fun s => { s with bCarries := true }
  else
    let h1 := if h.flag (FEED_STAT_STANDBY_B.pg 1) ∧ h.feedOn 1 then h.put (FEED_STAT_CONDUCT.pg 1) 1 else h
    (h1.put (FEED_STAT_STANDBY_B.pg 1) 0).share! fun s => { s with bCarries := false }

/-! ## Moving between states (08 R243) -/

/-- A timer that ran while no tick could count it is taken as elapsed. (DESIGN CHOICE, log entry 6.) -/
def Hub.feedStart (h : Hub) : Nat := if h.running then 0 else 100000

/-- Enter a state: the FETs are closed in ON alone, the state's timer starts, and so does the ramp of a precharge. -/
def Hub.feedTo (h : Hub) (k st : Nat) : Hub :=
  let h1 := (h.put (FEED_STAT_STATE.pg k) st).putb (FEED_STAT_CONDUCT.pg k) (st == 5)
  ((h1.put (FEED_STAT_BLOCKING.pg k) 0).put (FEED_STAT_LIMITING.pg k) 0).feed! k
    fun f => { f with
      fuseRun := h.feedStart, run := h.feedStart, ramp := if h.running then h.get (FEED_V_VINB.pg k) else 10000 }

/-- Feed k has left ON (08 R242, R248): feed B takes over at once; with no feed ON a hand-back in progress is
aborted (11 R319), and LB returns to IDLE unless HOLDUP or the armed detector keeps it (09 R260). -/
def Hub.feedGone (h : Hub) (k v : Nat) : Hub :=
  let h1 := if k = 0 ∧ h.flag (FEED_STAT_STANDBY_B.pg 1) then h.priTakeover v else h.shareSettle
  if h1.anyFeedOn ∨ !h1.running then h1
  else
    let h2 := if h1.flag CHG_STAT_HANDBACK ∧ !h1.md.handback then
        let st := h1.convSt 0
        let a := if st = 2 ∨ st = 9 then (h1.convTo 0 9).put LB_STAT_NPH 0 else h1
        a.handbackAbort
      else h1
    let st := h2.convSt 0
    if (st = 3 ∨ st = 4) ∧ h2.mode ≠ mHOLDUP ∧ !h2.flag CHG_STAT_ARMED ∧ h2.chg.trig.isNone then h2.convTo 0 1 else h2

/-- Leave ON for a state; a fenced feed goes to IDLE (08 R251). -/
def Hub.feedLeave (h : Hub) (k st v : Nat) : Hub :=
  let st' := if h.feedFenced k ∧ st ≠ 0 ∧ st ≠ 7 then 1 else st
  (h.feedTo k st').feedGone k v

/-- FEED_LOST (08 R242). -/
def Hub.feedLost (h : Hub) (k cause v : Nat) : Hub := h.feedReport k 1 0x0F02 sevWARN [(0, 1, cause), (2, 2, v)]

/-- After a trip: retry or latch (08 R241); kind 1 insertion, 2 fuse. -/
def Hub.feedTrip (h : Hub) (k kind v : Nat) : Hub :=
  let att := h.get (FEED_STAT_ATTEMPTS.pg k)
  if att < 3 then (h.put (FEED_STAT_ATTEMPTS.pg k) (att + 1)).feedLeave k 6 v
  else
    let h1 := (h.feedLeave k 7 v).feedReport k 4 0x0F05 sevFAULT [(0, 1, kind)]
    if h1.running then h1.fence (feedPage k) 2 else h1

/-! ## Events -/

/-- The feed becomes present (08 R233, R243). -/
def Hub.feedPresent (h : Hub) (k : Nat) : Hub :=
  let h1 := h.put (FEED_STAT_PRESENT.pg k) 1
  if (h.feedSt k = 1 ∨ h.feedSt k = 2) ∧ !h.feedFenced k then h1.feedTo k 3 else h1

/-- The feed becomes absent (08 R233, R238, R242); v in 10 mV. -/
def Hub.feedAbsent (h : Hub) (k v : Nat) : Hub :=
  let h1 := (h.put (FEED_STAT_PRESENT.pg k) 0).put (FEED_STAT_INWIN.pg k) 0
  let st := h.feedSt k
  if st = 5 then (h1.feedLost k 2 v).feedLeave k 1 v
  else if st = 2 ∨ st = 3 ∨ st = 4 then h1.feedTo k 1
  else h1

/-- Precharge has succeeded: the limiter is not active, INB stands within 0.5 V of the feed, and the ramp has brought it
there unless the other feed holds it (08 R236).  Without logic nobody measures. (DESIGN CHOICE, log entry 6.) -/
def Hub.feedOnDue (h : Hub) (k : Nat) : Bool :=
  let v := h.geti (FEED_V_V.pg k)
  h.feedSt k == 4 && (!h.running || (!h.flag (FEED_STAT_LIMITING.pg k)
    && decide (v ≤ (h.get (FEED_V_VINB.pg k) + 50 : Nat))
    && (h.feedOn (1 - k) || decide (v ≤ ((h.feed k).ramp + h.feedCfg (FEED_RAMP_RATE.pg k) + 50 : Nat)))))

/-- The qualification timer has reached FEED_QUALT with the feed inside its window (08 R235). -/
def Hub.feedQualDue (h : Hub) (k : Nat) : Bool :=
  h.feedSt k == 3 && !h.feedFenced k && (!h.running || h.flag (FEED_STAT_INWIN.pg k))
    && decide (h.feedCfg (FEED_QUALT_T.pg k) * 10 ≤ (h.feed k).run)

/-- The insertion timer has expired (08 R237). -/
def Hub.insTripDue (h : Hub) (k : Nat) : Bool :=
  h.feedSt k == 4 && decide (h.feedCfg (FEED_IRUSHT_T.pg k) * 10 ≤ (h.feed k).run)

/-- Precharge succeeds (08 R236, R243). -/
def Hub.feedOnAct (h : Hub) (k v : Nat) : Hub :=
  let h1 := ((h.feedTo k 5).put (FEED_STAT_INWIN.pg k) 1).feed! k fun f => { f with onV := v }
  let h2 := (h1.feedCount (FEED_CNT2_ONCNT.pg k)).feedReport k 0 0x0F01 sevINFO
    [(0, 2, v), (2, 1, h.get (FEED_STAT_ATTEMPTS.pg k))]
  let h3 := h2.shareSettle
  let h4 := if h3.running ∧ h3.armMode then (h3.chg! fun c => { c with needRise := false }).armCheck else h3
  -- the monitor of the always-on domain sees the feed in STANDBY too (11 R309)
  if h4.running ∨ h4.md.power = .standby then h4.put CHG_STAT_LOWBAT 0 else h4

/-- An insertion trip (08 R237). -/
def Hub.insTrip (h : Hub) (k : Nat) (limiting : Bool) (vinb : Nat) : Hub :=
  let h1 := (h.feedCount (FEED_CNT_INSTRIP.pg k)).feedReport k 2 0x0F03 sevWARN
    [(0, 1, h.get (FEED_STAT_ATTEMPTS.pg k)), (1, 1, if limiting then 1 else 2), (2, 2, vinb)]
  h1.feedTrip k 1 0

/-- A fuse trip, slow (1) or fast (2) (08 R240); peak in 100 mA, v in 10 mV. -/
def Hub.fuseTrip (h : Hub) (k kind peak v : Nat) : Hub :=
  let st := h.feedSt k
  let h1 := (h.feedCount (FEED_CNT_FUSETRIP.pg k)).feedReport k 3 0x0F04 sevFAULT [(0, 1, kind), (1, 1, st), (2, 2, peak)]
  (if st = 5 then h1.feedLost k 3 v else h1).feedTrip k 2 v

/-- A reverse turn-off in ON (08 R239); `above` = V_INB − V, both in 10 mV. -/
def Hub.revOff (h : Hub) (k above v : Nat) : Hub :=
  let h1 := h.put (FEED_STAT_CONDUCT.pg k) 0
  if 1100 ≤ v then
    ((h1.put (FEED_STAT_BLOCKING.pg k) 1).feedCount (FEED_CNT_REVOFF.pg k)).feedReport k 7 0x0F08 sevINFO [(0, 2, above)]
  else h1

/-- One second after a trip (08 R241). -/
def Hub.feedRetry (h : Hub) (k : Nat) (inWin : Bool) : Hub :=
  let h1 := h.putb (FEED_STAT_INWIN.pg k) (inWin && h.flag (FEED_STAT_PRESENT.pg k))
  if h.feedFenced k ∨ !h.flag (FEED_STAT_PRESENT.pg k) then h1.feedTo k 1
  else h1.feedTo k (if inWin then 4 else 3)

def Hub.feedRetryDue (h : Hub) (k : Nat) : Bool :=
  h.feedSt k == 6 && decide (10000 ≤ (h.feed k).run)

/-- Overvoltage in ON (08 R242); peak in 100 mV. -/
def Hub.overvolt (h : Hub) (k peak : Nat) : Hub :=
  let h1 := (h.feedCount (FEED_CNT2_OVCNT.pg k)).feedReport k 5 0x0F06 sevWARN [(0, 2, peak)]
  (h1.put (FEED_STAT_INWIN.pg k) 0).feedLeave k 3 (peak * 10)

/-- Undervoltage in ON (08 R242). -/
def Hub.undervolt (h : Hub) (k v : Nat) : Hub := ((h.put (FEED_STAT_INWIN.pg k) 0).feedLost k 1 v).feedLeave k 3 v

/-- The class F conversion of a feed's trip, on ADC3 (13 R353). (DEDUCED, log entry 22.) -/
def Hub.feedF (h : Hub) : Hub := if h.running then h.classF 3 h.cyc else h

/-- FUSET consecutive frames above ILIM (08 R240). -/
def Hub.slowFuseDue (h : Hub) (k : Nat) : Bool :=
  h.feedSt k == 5 && decide (h.feedCfg (FEED_FUSE_FUSET.pg k) ≤ (h.feed k).fuseRun)

/-- EN = 0 acts on a feed page (08 R242–R243); a latched feed stays latched, and a slow fuse trip of the same tick comes
first (R242; DEDUCED, log entry 80). -/
def Hub.feedDisable (h0 : Hub) (k : Nat) : Hub :=
  let v := h0.get (FEED_V_V.pg k)
  let h := if h0.slowFuseDue k then (h0.fuseTrip k 1 (Config.fusePeak k h0.mea.ticks).toNat v).feedF else h0
  let st := h.feedSt k
  if st = 7 ∨ st = 0 then h
  else if st = 5 then h.feedLeave k 0 v else h.feedTo k 0

/-- A soft reset takes the feed out of ON as a disable does (03 R87, 08 R242). -/
def Hub.feedDrop (h : Hub) (k : Nat) : Hub :=
  if h.feedSt k = 5 then h.feedLeave k 0 (h.get (FEED_V_V.pg k)) else h.feedTo k 0

/-- The logic's power has gone: the control works with the reset values, so it is enabled, knows no fence, and takes a feed
that is present (08 R231). -/
def Hub.feedAlone (h : Hub) (k : Nat) : Hub :=
  let st := h.feedSt k
  let p := h.flag (FEED_STAT_PRESENT.pg k)
  if st = 0 ∨ (st = 1 ∧ p) then h.feedTo k (if p then 3 else 1) else h

/-- EN = 1 acts on a page not fenced; a feed that has stayed present goes on to QUALIFY (08 R243). -/
def Hub.feedEnable (h : Hub) (k : Nat) : Hub :=
  if h.feedSt k = 0 ∧ !h.feedFenced k then h.feedTo k (if h.flag (FEED_STAT_PRESENT.pg k) then 3 else 1) else h

/-- A release (08 R241, R243). -/
def Hub.feedReleased (h : Hub) (k : Nat) : Hub :=
  let h1 := h.put (FEED_STAT_ATTEMPTS.pg k) 0
  let st := h1.feedSt k
  if st = 7 ∨ st = 1 then
    if !h1.en (feedPage k) then h1.feedTo k 0
    else h1.feedTo k (if h1.flag (FEED_STAT_PRESENT.pg k) then 3 else 1)
  else h1

/-- The page is fenced for parity: only an ON feed goes on (08 R251). -/
def Hub.feedParity (h : Hub) (k : Nat) : Hub :=
  let st := h.feedSt k
  if st = 2 ∨ st = 3 ∨ st = 4 ∨ st = 6 then h.feedTo k 1 else h

/-- A frame of the state's timer and of the ramp, in every mode (08 R235–R237, R241). -/
def Hub.feedClock (h : Hub) (k : Nat) : Hub :=
  let held : Bool := h.feedSt k == 3 && !h.flag (FEED_STAT_INWIN.pg k)
  h.feed! k fun f => { f with
    run := if held then 0 else min 100000 (f.run + 1), ramp := min 10000 (f.ramp + h.feedCfg (FEED_RAMP_RATE.pg k)) }

/-! ## Metering and sharing at a tick (08 R240, R244–R248) -/

/-- Feed k at a tick: i is the frame-average current in mA, and `lim` whether the limiter of a precharge holds it (08 R236).
(DEDUCED, log entry 41.) -/
def Hub.feedTick (h0 : Hub) (k : Nat) (i : Int) (lim : Bool) : Hub :=
  let h := h0.putb (FEED_STAT_LIMITING.pg k) (lim && h0.feedSt k == 4)
  let v := h.geti (FEED_V_V.pg k) * 10
  let p := clampInt (-32768) 32767 (truncDiv (v * i) 100000)
  let f := h.feed k
  let ea := if 0 < i then f.eFrac + (max v 0 * i).toNat else f.eFrac
  let h1 := (h.puti (FEED_I_AVG.pg k) (truncDiv i 10)).puti (FEED_P_P.pg k) p
  let h2 := h1.putPair (FEED_E_LO_E.pg k) (FEED_E_HI_E.pg k)
    ((h.getPair (FEED_E_LO_E.pg k) (FEED_E_HI_E.pg k) + ea / 10000000) % 2 ^ 48)
  let on := h.feedOn k
  let counted := on && !(k == 1 && h.flag (FEED_STAT_STANDBY_B.pg 1))
  let ilim := h.cfg (FEED_FUSE_ILIM.pg k)
  let w := (max (h.geti (FEED_V_V.pg k)) 0).toNat * ilim * 95 / 20000
  let h3 := (h2.putSat (FEED_CAP_W.pg k) (if counted then w else 0)).putb (FEED_CAP_COUNTED.pg k) counted
  (h3.feed! k fun g => { g with
    eFrac := ea % 10000000,
    fuseRun := if on ∧ ((ilim * 500 : Nat) : Int) < i then g.fuseRun + 1 else 0 }).feedClock k

/-- RATIO governs: both feeds are ON (08 R246–R247). -/
def Hub.ratioOn (h : Hub) : Bool := h.feedCfg FEED_SHARE_MODE == 1 && h.feedOn 0 && h.feedOn 1

/-- Feed A's share of a total is within tolerance of RATIO (08 R247), currents in mA. -/
def Hub.shareWithin (h : Hub) (a tot : Nat) : Bool :=
  let dev := ((a * 100 : Nat) - (h.get FEED_SHARE_RATIO * tot : Nat) : Int).natAbs
  if 10000 < tot then decide (dev ≤ 5 * tot) else decide (dev ≤ 50000)

/-- The measured share, the end of a limit episode, and the return count of PRIMARY at a tick (08 R247–R248). -/
def Hub.shareTick (h : Hub) (ia ib : Int) (lim : Bool) : Hub :=
  let a := (max ia 0).toNat
  let tot := a + (max ib 0).toNat
  let h1 := h.put FEED_SHARESTAT_SHAREA (if tot < 1000 then 255 else a * 100 / tot)
  let run := if h.shareWithin a tot then min 100 (h.share.tolRun + 1) else 0
  let h2 := if 100 ≤ run then h1.put FEED_SHARESTAT_LIMIT 0 else h1
  let back : Bool := h.feedOn 0 && decide (((h.get FEED_SHARE_PRIV * 10 + 100 : Nat) : Int) ≤ h.geti FEED_V_V)
  h2.share! fun s => { s with
    tolRun := run, returnRun := if back then min 1000 (s.returnRun + 1) else 0, ia := ia, ib := ib, lim := lim }

/-- P2 adjusts the setpoint and the added drop of RATIO from the frame-average currents (08 R247, R249): the drop goes
to the feed that carries more than its share, at most 1.0 V; where that is not enough, LIMIT sets. (DEDUCED,
log entry 73.) -/
def Hub.shareP2 (h : Hub) : Hub :=
  let r := h.get FEED_SHARE_RATIO
  if !h.ratioOn then h.share! fun s => { s with setp := r, moveRun := 0, drop := 0 }
  else
    let s := h.share
    let a := (max s.ia 0).toNat
    let tot := a + (max s.ib 0).toNat
    let move := if s.setp = r then 0 else s.moveRun + 1
    let setp := if s.setp = r ∨ 200 ≤ move then r
      else max (min s.setp r) (min (max s.setp r) (Config.shareSetpoint h.mea.ticks).toNat)
    let mag : Int := if s.lim then 1000 else (min 1000 (Config.shareDrop h.mea.ticks).toNat : Nat)
    let drop : Int := if setp * tot < a * 100 then mag else if a * 100 < setp * tot then -mag else s.drop
    let h1 := h.ratioHold.share! fun s => { s with setp := setp, moveRun := move, drop := drop }
    if s.lim && !h.shareWithin a tot && !h.flag FEED_SHARESTAT_LIMIT then
      (h1.put FEED_SHARESTAT_LIMIT 1).report 0x0E 8 0x0F09 0 sevINFO [(0, 1, r), (1, 1, h.get FEED_SHARESTAT_SHAREA)]
    else h1

/-- PRIMARY_RETURN: B stands by again (08 R248). -/
def Hub.primaryReturnDue (h : Hub) : Bool :=
  h.feedCfg FEED_SHARE_MODE == 2 && h.feedOn 0 && h.feedOn 1 && h.share.bCarries && decide (1000 ≤ h.share.returnRun)
def Hub.primaryReturn (h : Hub) : Hub := (h.share! fun s => { s with bCarries := false }).shareSettle

end Sys2Proof.Machine
end

