-- ==== Sys2Proof/Machine/Budget.lean ====
section
/-! DEFINITION. The power budget (chapter 10): demand and minimum, allocation by the lead, capping and deferral
inside a hub, shortage; and the previews of 06 R204, which follow the deferral decisions. -/

namespace Sys2Proof.Machine

abbrev pgBUD : Nat := 0x0D


/-! ## Windows (10 R279) -/

def Hub.avgn (h : Hub) : Nat := max 1 (h.cfg BUD_CFG_AVGN)

/-- Put the newest value at the front of a window of 64 frames. (DEDUCED, log entry 56.) -/
def push64 {α : Type} (v : α) (l : List α) : List α := (v :: l).take 64

def sumNat (l : List Nat) : Nat := l.foldl (· + ·) 0

/-- Mean power in mW of a window of energies in µJ per frame. (DEDUCED, log entry 56.) -/
def Hub.meanUj (h : Hub) (l : List Nat) : Nat := sumNat (l.take h.avgn) * 10 / h.avgn

/-- Mean of a window of powers in mW. -/
def Hub.meanMw (h : Hub) (l : List Nat) : Nat := sumNat (l.take h.avgn) / h.avgn

/-- The windows take the values of the frame just ended: channel energies in µJ, feed power (10 R277), LB input
and output energy, charger input power, battery and bypass power. -/
def Hub.budWindows (h : Hub) (de : List Nat) (lbIn : Nat) : Hub :=
  let pf : Int := (h.geti FEED_P_P + h.geti (FEED_P_P.pg 1)) * 100
  let lbI := max (h.geti LB_MEAS_I) 0 |>.toNat
  let pout := h.get LB_MEAS_V * lbI
  let bat := h.vbatMv * (max (-h.ibatMa) 0).toNat / 1000
  h.bud! fun b => { b with
    eCh := h.chList.map fun n => push64 (nth de n 0) (nth b.eCh n []),
    eFeed := push64 pf b.eFeed, eLbIn := push64 lbIn b.eLbIn, eLbOut := push64 (pout / 10) b.eLbOut,
    eChg := push64 h.chg.pChg b.eChg, eReq := push64 h.chg.pReq b.eReq, eBat := push64 bat b.eBat,
    eByp := push64 (if h.flag CHG_STAT_BYPASS then pout else 0) b.eByp }

/-! ## Ceiling and factors (10 R278–R279, 23 R544) -/

/-- p_therm of 23 R544 from TMOD in 0.5 °C. -/
def ptherm (t : Int) : Nat :=
  if t < 190 then 4095 else if t < 230 then (3000 - truncDiv ((t - 190) * 135) 2).toNat else 300

def Hub.feedCap (h : Hub) : Nat :=
  [0, 1].foldl (fun a k => if h.flag (FEED_CAP_COUNTED.pg k) then a + h.get (FEED_CAP_W.pg k) else a) 0

def Hub.ceiling (h : Hub) : Nat := min (min h.feedCap (ptherm (h.geti ADC_TEMP_TMOD))) 4095

/-- k of 10 R279; 1,024 in HOLDUP (R291). -/
def Hub.kLb (h : Hub) : Nat :=
  if h.mode = mHOLDUP then 1024
  else
    let din := sumNat (h.bud.eLbIn.take h.avgn)
    let dout := sumNat (h.bud.eLbOut.take h.avgn)
    if h.convSt 0 ≠ 4 ∨ h.meanUj h.bud.eLbOut < 50000 ∨ dout = 0 then 1086
    else min 1280 (max 1024 (1024 * din / dout))

def Hub.pBase (h : Hub) : Nat :=
  if h.mode = mHOLDUP then h.meanMw h.bud.eBat - h.meanMw h.bud.eByp
  else
    let pf : Int := ((h.bud.eFeed.take h.avgn).foldl (fun a x => a + x) (0 : Int)) / (h.avgn : Int)
    (max 0 (pf - (h.meanUj h.bud.eLbIn : Nat) - (h.meanMw h.bud.eChg : Nat))).toNat

/-! ## Edges the budget judges (10 R286) -/

/-- An edge in judgement: channel, original instant, and what it is: a deferred edge, one armed for the next
frame, or a change that acts at a tick. -/
inductive EdgeKind | deferred (d : DefEdge) | armed (a : Armed) | tick
  deriving DecidableEq, Repr

structure EdgeItem where
  ch : Nat
  frm : Nat
  cyc : Nat
  kind : EdgeKind
  deriving DecidableEq, Repr

/-- Channel n may turn on when commanded: OFF, ON, LIMIT or ATTEMPT. -/
def Hub.chReady (h : Hub) (n : Nat) : Bool :=
  let s := h.chSt n
  s == 1 || s == 2 || s == 3 || s == 5

/-- The class-B off-to-on edges armed for frame f on channel n. -/
def Hub.newEdges (h : Hub) (n f : Nat) : List Armed :=
  if !h.chReady n || h.safeCond n || !h.rawWith n true || h.chMode n == 0 then []
  else
    ((h.ch n).armed.foldl (fun (a : Bool × List Armed) e =>
      match e.kind with
      | .on =>
        if e.frm = f ∧ !h.rawWith n a.1 ∧ e.cls = 1 then (true, a.2 ++ [e]) else (true, a.2)
      | .off => (false, a.2)
      | .starve => (false, a.2)
      | _ => a) (h.engState n, [])).2

/-- The budget has released the channel's held ON, and the instant of R287 is still to come. -/
def Hub.releaseDue (h : Hub) (n : Nat) : Bool := (h.ch n).armed.any fun e => e.kind == .release

/-- The command of channel n when P2 begins, at cycle 12,000: the edges of this frame that lie before it have acted.
(DEDUCED, log entry 27.) -/
def Hub.cmdAtP2 (h : Hub) (n : Nat) : Bool :=
  let es := (h.ch n).armed.filter fun e => decide (diff32 e.frm h.frmNo ≤ 0) && decide (e.cyc < 12000)
  if es.isEmpty then h.flag (CH_STAT_CMD.pg n)
  else
    let free := (h.ch n).tickDefer.isNone || es.any fun e => e.kind == .release
    h.chReady n && h.chMode n != 0 && free && h.rawWith n (engBefore (h.engState n) es h.frmNo 12000)

/-- Earlier original instant first, then the lower channel. (DEDUCED, log entry 56.) -/
def edgeBefore (n : Nat) (a b : EdgeItem) : Bool :=
  let da := diff32 a.frm n
  let db := diff32 b.frm n
  decide (da < db) || (da == db && (decide (a.cyc < b.cyc) || (a.cyc == b.cyc && decide (a.ch < b.ch))))

def insertEdge (n : Nat) (x : EdgeItem) : List EdgeItem → List EdgeItem
  | [] => [x]
  | y :: ys => if edgeBefore n x y then x :: y :: ys else y :: insertEdge n x ys

/-- All edges of this P2 in order (10 R286). -/
def Hub.edgeItems (h : Hub) : List EdgeItem :=
  let n := h.frmNo
  let d := h.bud.deferred.map fun e => (⟨e.ch, e.frm, e.cyc, .deferred e⟩ : EdgeItem)
  let t := h.chList.filterMap fun k =>
    if h.releaseDue k then none else (h.ch k).tickDefer.map fun f => (⟨k, f, 0, .tick⟩ : EdgeItem)
  let a := h.chList.flatMap fun k =>
    (h.newEdges k (wrapTo 32 (n + 1))).map fun e => (⟨k, e.frm, e.cyc, .armed e⟩ : EdgeItem)
  (d ++ t ++ a).foldl (fun l x => insertEdge n x l) []

/-! ## Demand (10 R279) -/

/-- The channel is capped as P2 finds it: one that this frame's edges have turned on is deferred no longer, and capped by its
scale alone. -/
def Hub.cappedAtP2 (h : Hub) (n : Nat) : Bool :=
  if h.cmdAtP2 n && !h.flag (CH_STAT_CMD.pg n) then decide (h.chScale n < 1024) else h.flag (CH_STAT_CAPPED.pg n)

/-- p_want of a channel in mW; `held`: its ON is deferred or awaits the judgement of this P2. -/
def Hub.pWant (h : Hub) (n : Nat) (held : Bool) : Nat :=
  if h.cappedAtP2 n || held then
    h.get LB_MEAS_V * 10 * h.get (CH_PRV_ION.pg n) * h.dbase n / 1000000
  else h.meanUj (nth h.bud.eCh n [])

/-- Sums of p_want over sets A, B and C, and over the class-B channels that are on. -/
structure Sums where
  a : Nat := 0
  b : Nat := 0
  c : Nat := 0
  onB : Nat := 0
  deriving DecidableEq, Repr

def Hub.sums (h : Hub) (pend : List Nat) : Sums :=
  h.chList.foldl (fun (s : Sums) n =>
    let on := h.cmdAtP2 n
    let held := pend.contains n
    if !on && !held then s
    else
      let w := h.pWant n (held && !on)
      let cls := if h.flag (CH_STAT_SAFE_ACT.pg n) then 0 else if on then h.effClass n else 1
      match cls with
      | 0 => { s with a := s.a + w }
      | 1 => { s with b := s.b + w, onB := if on then s.onB + w else s.onB }
      | _ => { s with c := s.c + w }) {}

/-- Channels whose ON is deferred still: in the queue, or held off since a tick and not released. -/
def Hub.stillHeld (h : Hub) : List Nat :=
  h.bud.deferred.map (·.ch) ++ h.chList.filter fun n => (h.ch n).tickDefer.isSome && !h.releaseDue n

/-! ## Allocation in force (10 R283, R291) -/

/-- The allocation a and the SRC code; m is this P2's M. -/
def Hub.allocNow (h : Hub) (c m : Nat) : Nat × Nat :=
  if h.mode = mHOLDUP then (h.get BUD_HOLDW_W, h.get BUD_STAT_SRC)
  else if !h.flag DEV_POS_VALID then (c, 1)
  else if h.bud.afterHoldup then (m, h.get BUD_STAT_SRC)
  else if h.flag DEV_POS_LEAD then
    (match h.bud.alloc with | [] => c | l => nth l (h.get DEV_POS_POS) 0, 0)
  else if h.bud.loss then (min h.bud.lastA c, 3)
  else if !h.bud.polled then (c, 1)
  else match h.bud.tickA with
    | some a => (a, 0)
    | none => (h.bud.lastA, 2)

/-! ## Deferral and release (10 R286–R287) -/

/-- Progress of the pass over the edges. -/
structure Pass where
  hub : Hub
  room : Int
  blocked : Bool := false
  j : Nat := 0
  passedMw : Nat := 0

/-- An armed edge leaves the channel's armed list for the deferred queue. -/
def Hub.deferArmed (h : Hub) (n : Nat) (a : Armed) : Hub :=
  let h1 := h.ch! n fun c => { c with armed := c.armed.erase a }
  h1.bud! fun b => { b with deferred := b.deferred ++ [⟨n, a.frm, a.cyc, some a⟩] }

/-- One edge is released, or deferred. -/
def judgeEdge (k : Nat) (gate short : Bool) (defermax : Nat) (pend : List Nat) (p : Pass) (e : EdgeItem) : Pass :=
  let h := p.hub
  let n := h.frmNo
  let next := wrapTo 32 (n + 1)
  let pe := k * h.pWant e.ch (pend.contains e.ch) / 1024
  let age := (1 - diff32 e.frm n).toNat
  let expired := gate && decide (defermax * 10 ≤ age)
  let go := !gate || expired || (!p.blocked && !short && decide ((pe : Int) ≤ p.room))
  let waits : Bool := match e.kind with | .armed _ => false | _ => decide (16 ≤ p.j)
  if go && waits then
    -- a release that waits for the next P2 has its room, and blocks nothing (10 R287)
    { p with passedMw := p.passedMw + pe, room := if expired then p.room else p.room - pe }
  else if go then
    let h1 := if expired then
        (h.incSat BUD_CNT_EXPIRED).report pgBUD 4 0x0E04 0 sevINFO [(0, 1, e.ch), (2, 2, min age 65535)]
      else h
    let p1 : Pass := { p with hub := h1, passedMw := p.passedMw + pe, room := if expired then p.room else p.room - pe }
    match e.kind with
    | .armed _ => p1
    | .deferred d =>
      let h2 := h1.bud! fun b => { b with deferred := b.deferred.erase d }
      let a : Armed := match d.edge with
        | some a => { a with frm := next, cyc := 2500 * p.j }
        | none => { frm := next, cyc := 2500 * p.j, kind := .release, tag := 0, cls := 1 }
      { p1 with hub := h2.ch! e.ch fun c => { c with armed := insertArmed a c.armed }, j := p.j + 1 }
    | .tick =>
      let a : Armed := { frm := next, cyc := 2500 * p.j, kind := .release, tag := 0, cls := 1 }
      { p1 with hub := h1.ch! e.ch fun c => { c with armed := insertArmed a (c.armed.filter fun b => b.kind != .release) },
                j := p.j + 1 }
  else
    let h1 := match e.kind with
      | .armed a => ((h.deferArmed e.ch a).incWrap BUD_CNT_DEFERRED).put (CH_STAT_CAPPED.pg e.ch) 1
      | .tick => if e.frm = n then h.incWrap BUD_CNT_DEFERRED else h
      | .deferred _ => h
    { p with hub := h1, blocked := true }

/-! ## Scales and states (10 R285, R289–R290) -/

/-- A scale follows its target down at once and up by REL (10 R285). -/
def nextScale (s target rel : Nat) : Nat := let t := min target 1024; if t < s then t else min t (s + rel)

/-- BUD_STAT.STATE with its flags and records (10 R289–R290). -/
def Hub.budState (h : Hub) (short : Bool) (mMw a gB bMw gC cMw gChg pReq : Nat) : Hub :=
  let st := h.get BUD_STAT_STATE
  if !h.en pgBUD then (h.put BUD_STAT_STATE 0).bud! fun b => { b with capB := false }
  else
    let st0 := if st = 0 then 1 else st
    let wants : Bool := decide (gChg < pReq) || decide (gC < cMw) || decide (gB < bMw)
    let quiet : Bool := h.stillHeld.isEmpty && h.bud.sB == 1024 && h.bud.sC == 1024
    let h1 := if short then
        let a0 := (h.put BUD_STAT_STATE 3).bud! fun b => { b with notShort := 0 }
        if st0 = 3 then a0 else a0.report pgBUD 0 0x0E01 0 sevFAULT [(0, 2, mMw / 1000), (2, 2, a)]
      else if st0 = 3 then
        let k := h.bud.notShort + 1
        (if 100 ≤ k then h.put BUD_STAT_STATE 2 else h).bud! fun b => { b with notShort := k }
      else if st0 = 1 ∧ wants then h.put BUD_STAT_STATE 2
      else if st0 = 2 ∧ !wants ∧ quiet then (h.put BUD_STAT_STATE 1).bud! fun b => { b with capB := false }
      else h.put BUD_STAT_STATE st0
    let h2 := if h1.get BUD_STAT_STATE = 3 then h1.incSat BUD_CNT2_SHORTFR else h1
    if h2.get BUD_STAT_STATE = 2 ∧ gB < bMw ∧ !h2.bud.capB then
      (h2.bud! fun b => { b with capB := true }).report pgBUD 2 0x0E03 0 sevINFO [(0, 2, gB / 1000), (2, 2, bMw / 1000)]
    else h2

/-- The whole of the budget's P2 (10 R278–R291, 17 R458). -/
def Hub.budgetP2 (h : Hub) : Hub :=
  let on := h.en pgBUD
  let pt := ptherm (h.geti ADC_TEMP_TMOD)
  let armed := h.bud! fun b => { b with derateArmed := pt == 4095 }
  let h0 := if pt < 4095 ∧ h.bud.derateArmed then armed.report 0x03 1 0x0403 0 sevINFO [(0, 2, pt)]
    else if pt = 4095 then armed else h
  let c := h0.ceiling
  let k := h0.kLb
  let all := h0.edgeItems
  let pend := all.map (·.ch)
  -- what HOLDUP holds off stays deferred (R291)
  let items := all.filter fun e => !h0.chHoldupSafe e.ch
  let s := h0.sums pend
  let mMw := h0.pBase + k * s.a / 1024
  let bMw := k * s.b / 1024
  let cMw := k * s.c / 1024
  let req := h0.meanMw h0.bud.eReq
  let m := min (mMw / 1000) 4095
  let src := h0.allocNow c m
  let a := if h0.flag TST_BUD_EN then min src.1 (h0.get TST_BUD_W) else src.1
  let room : Int := (a * 1000 : Nat) - (mMw : Nat)
  let gB := (clampInt 0 bMw room).toNat
  let room1 := room - gB
  let gC := (clampInt 0 cMw room1).toNat
  let gChg := (clampInt 0 req (room1 - gC)).toNat
  let short := on && decide (a * 1000 < mMw)
  let defermax := h0.cfg BUD_CFG_DEFERMAX
  let gate := on && defermax != 0
  let onMw := k * s.onB / 1024
  let p := items.foldl (judgeEdge k gate short defermax pend) { hub := h0, room := (gB : Int) - onMw }
  let h1 := p.hub
  let rel := h0.cfg BUD_CFG_REL
  let onPass := onMw + p.passedMw
  let tB := if onPass = 0 then 1024 else 1024 * gB / onPass
  let tC := if cMw = 0 then 1024 else 1024 * gC / cMw
  let sB := if on then nextScale h1.bud.sB tB rel else 1024
  let sC := if on then nextScale h1.bud.sC tC rel else 1024
  let h2 := if h1.bud.sC = 1024 ∧ sC < 1024 then h1.evt pgBUD 3 else h1
  -- D and M follow the decisions: what was released is no longer deferred (R279)
  let s' := h1.sums h1.stillHeld
  let mRep := min ((h1.pBase + k * s'.a / 1024) / 1000) 4095
  let d := min ((h1.pBase + k * s'.a / 1024 + k * s'.b / 1024 + k * s'.c / 1024 + req) / 1000) 4095
  let w := h0.cfg BUD_WEIGHT_WEIGHT
  let rep : Report := if h0.mode = mHOLDUP then { weight := w, holdup := true, live := true, fresh := true }
    else { d := d, m := mRep, c := c, weight := w, live := true, fresh := true }
  let h3 := h2.bud! fun b => { b with
    sB := sB, sC := sC, gChg := if on then gChg else 4095000000, ownPrev := b.own, own := rep }
  let h4 := h3.budState short mMw a gB bMw gC cMw gChg req
  let h5 := (((h4.put BUD_STAT_SRC src.2).putb BUD_STAT_HOLDUP (h0.mode == mHOLDUP)).putSat BUD_STAT_DEFERQ
    h4.stillHeld.length).putSat BUD_ALLOC_A a
  let h6 := ((((h5.put BUD_ALLOC_PTHERM pt).put BUD_DEMAND_D rep.d).put BUD_DEMAND_M rep.m).put BUD_CEIL_C c).putSat
    BUD_CEIL_FEEDCAP h0.feedCap
  ((((h6.putSat BUD_GRANT_GB (gB / 1000)).putSat BUD_GRANT_GC (gC / 1000)).putSat BUD_GRANT2_GCHG (gChg / 1000)).put
    BUD_GRANT2_KLB k).put BUD_SCALE_SB sB |>.put BUD_SCALE_SC sC

/-! ## Allocation by the lead (10 R281–R282) -/

/-- The pool P, the sum S, and the allocations of the counted reports (10 R281). -/
def allocate (avail : Nat) (reps : List (Option Report)) : Nat × Nat × List Nat :=
  let cs := reps.filterMap id
  let p := min avail (sumNat (cs.map (·.c)))
  let s := sumNat (cs.map (·.m))
  let ds := sumNat (cs.map (·.d))
  let want (r : Report) : Nat := (r.d - r.m) * r.weight
  let w := sumNat (cs.map want)
  let one (r : Report) : Nat :=
    let a := if p ≤ s then r.m
      else if ds ≤ p then min r.c (r.d + (p - ds) / cs.length)
      else
        let x := if w = 0 then r.m else r.m + (p - s) * want r / w
        min (min x r.d) (max r.c r.m)
    min a 4095
  (p, s, reps.map fun r => match r with | some r => one r | none => 0)

/-- The lead's own values of the P2 before this frame's: this frame's P2 has not run where an overrun has deferred it
(10 R280). -/
def Hub.ownReport (h : Hub) : Report := if h.frm.defP2 then h.bud.own else h.bud.ownPrev

/-- The report the lead uses for a position, if it counts the position, and whether it is stale (10 R282). -/
def Hub.countedReport (h : Hub) (i : Nat) : Option Report × Bool :=
  if i = h.get DEV_POS_POS then (if h.ownReport.holdup ∨ !h.ownReport.live then none else some h.ownReport, false)
  else if h.get STR_STAT_NHUBS ≤ i ∨ (h.get STR_LIVE_LOST).testBit i then (none, false)
  else
    let r := nth h.bud.reports i {}
    if r.fresh then (if r.holdup then none else some r, false)
    else (if r.holdup then none else some r, true)

/-- P3 of the lead: allocations for the next TICK (10 R281–R282, R289). -/
def Hub.budgetP3 (h : Hub) : Hub :=
  if !h.flag DEV_POS_LEAD then h
  else
    let pos := List.range 16
    let counted := pos.map h.countedReport
    let al := allocate (h.cfg BUD_AVAIL_W) (counted.map (·.1))
    let h1 := (h.putSat BUD_POOL_P al.1).putSat BUD_POOL_SUMM al.2.1
    let h2 := pos.foldl (fun a i =>
      let cr := nth counted i (none, false)
      let r := if i = h.get DEV_POS_POS then h.ownReport else nth h.bud.reports i {}
      let b := ((a.put (BUD_HUB_A.nth i) (nth al.2.2 i 0)).put (BUD_HUB_D.nth i) r.d).putb (BUD_HUB_VALID.nth i) cr.1.isSome
      let b := ((b.putb (BUD_HUB_LOST.nth i) ((h.get STR_LIVE_LOST).testBit i)).putb (BUD_HUB_HOLDUP.nth i) r.holdup).putb
        (BUD_HUB_STALE.nth i) cr.2
      let b := ((b.put (BUD_HUBM_M.nth i) r.m).put (BUD_HUBM_C.nth i) r.c).put (BUD_HUBM_WEIGHT.nth i) r.weight
      if cr.2 then b.report pgBUD 5 0x0E05 0 sevINFO [(0, 1, i)] else b) h1
    let strShort := decide (al.1 ≤ al.2.1)
    let h3 := if strShort then
        let x := (h2.put BUD_STAT_STRSHORT 1).bud! fun b => { b with notStrShort := 0 }
        if h2.flag BUD_STAT_STRSHORT then x else x.report pgBUD 1 0x0E02 0 sevWARN [(0, 2, al.2.1), (2, 2, al.1)]
      else
        let n := h2.bud.notStrShort + 1
        let x := h2.bud! fun b => { b with notStrShort := n }
        if 100 ≤ n then x.put BUD_STAT_STRSHORT 0 else x
    h3.bud! fun b => { b with
      alloc := al.2.2, reports := b.reports.map fun r => { r with fresh := false },
      afterHoldup := b.afterHoldup && h.ownReport.holdup }

/-- The page is enabled or disabled at a tick (10 R288, R290). -/
def Hub.budEnable (h : Hub) (on : Bool) : Hub :=
  if on then (if h.get BUD_STAT_STATE = 0 then h.put BUD_STAT_STATE 1 else h)
  else (h.put BUD_STAT_STATE 0).bud! fun b => { b with capB := false }

/-- ALLOC_HELD once per episode (10 R283, R294): cause 1 TICK missing, 2 string loss. -/
def Hub.allocHeld (h : Hub) (cause : Nat) : Hub :=
  if h.bud.heldSaid then h
  else (h.bud! fun b => { b with heldSaid := true }).report pgBUD 6 0x0E06 0 sevWARN [(0, 1, cause)]

/-- The string is lost: an episode of its own until a valid TICK (10 R283, R292). (DEDUCED, log entry 64.) -/
def Hub.allocLost (h : Hub) : Hub := (h.bud! fun b => { b with loss := true, heldSaid := false }).allocHeld 2

/-! ## Previews (06 R204) -/

/-- Insert a preview by its instant, after those of the same instant. -/
def insertPreview (x : Preview) : List Preview → List Preview
  | [] => [x]
  | y :: ys => if x.cyc < y.cyc then x :: y :: ys else y :: insertPreview x ys

/-- The edges armed on channel n when P2 ends: with them the OFF of a starvation that P1 has found (06 R200). -/
def Hub.armedAll (h : Hub) (n : Nat) : List Armed :=
  if h.starveReached n && h.flag (CH_LANECTL_EMPTYACT.pg n) then insertArmed h.starveEdge (h.ch n).armed else (h.ch n).armed

/-- The steps of channel n's output at the edges armed for frame f: those of earlier frames have acted by then, and an ON
that is held off begins with its release (06 R204). -/
def Hub.chPreviews (h : Hub) (n f : Nat) : List Preview :=
  if !h.chReady n || h.safeCond n || h.chMode n == 0 then []
  else
    let hm := h.hitMode n
    let up : Int := if hm then h.get (CH_HH_IHIT.pg n) * 10 else h.get (CH_PRV_ION.pg n)
    let dn : Int := if hm then h.get (CH_HH_IHOLD.pg n) * 10 else h.get (CH_PRV_ION.pg n)
    let out (x : Bool × Bool) : Bool := !x.2 && h.rawWith n x.1
    let act (x : Bool × Bool) (e : Armed) : Bool × Bool :=
      match e.kind with
      | .on => (true, x.2)
      | .off => (false, x.2)
      | .starve => (false, x.2)
      | .release => (x.1, false)
      | _ => x
    ((h.armedAll n).foldl (fun (a : (Bool × Bool) × List Preview) e =>
      let x := act a.1 e
      if e.frm ≠ f ∨ out x = out a.1 then (x, a.2) else (x, a.2 ++ [⟨f, e.cyc, n, if out x then up else -dn⟩]))
      ((h.engState n, (h.ch n).tickDefer.isSome), [])).2.filter fun x => x.step != 0

/-- A preview's injection is still to come: its instant lies in this frame, or so late in the one before that the 1.5 µs of
the driver run into this one (09 R266). -/
def Hub.previewLive (h : Hub) (p : Preview) : Bool :=
  p.frm == h.frmNo || (wrapTo 32 (p.frm + 1) == h.frmNo && decide (39400 ≤ p.cyc))

/-- Previews are handed to LB at the end of P2, for the next frame (06 R204, 09 R265); CH_PRV.ISTEP keeps the step of a
channel's last one (06 R210). -/
def Hub.preview (h0 : Hub) : Hub :=
  let h := h0.sec! fun x => { x with previews := x.previews.filter h0.previewLive }
  if h.mode ≠ mFIELD ∨ !h.flag SEC_CTL_PRVEN ∨ !h.en pgSEC ∨ h.fenced pgSEC then h
  else
    let f := wrapTo 32 (h.frmNo + 1)
    let all := (h.chList.flatMap fun n => h.chPreviews n f).foldl (fun l x => insertPreview x l) []
    let kept := all.take 16
    let drop := all.length - kept.length
    let h1 := kept.foldl (fun a x => a.puti (CH_PRV_ISTEP.pg x.ch) x.step)
      (h.sec! fun x => { x with previews := x.previews ++ kept })
    let h2 := if drop = 0 then h1 else (h1.incSat SEC_CNT_PRVDROP drop).evt pgSEC 6
    let ups : Int := kept.foldl (fun a x => a + max x.step 0) 0
    let need : Int := (h.get LB_SHED_I * 1000 : Nat) - h.geti LB_MEAS_I * 100
    if h2.get LB_STAT_NPH = 2 ∧ 0 < ups ∧ need ≤ ups then h2.lb! fun l => { l with unshedDue := true } else h2

end Sys2Proof.Machine
end

