-- ==== Sys2Proof/Machine/Sequencer.lean ====
section
/-! DEFINITION. Rail sequencing and window supervisors (chapter 12).  Slot registers repeat for s = 0–15,
supervisor registers for k = 0–23. -/

namespace Sys2Proof.Machine

abbrev pgSEQ : Nat := 0x07
abbrev pgSUP : Nat := 0x08

def slots : List Nat := List.range 16

def Hub.slotSt (h : Hub) (s : Nat) : Nat := h.get (SEQ_STS_STATE.nth s)
def Hub.rail (h : Hub) (s : Nat) : Nat := h.get (SEQ_CFG_RAIL.nth s)
def Hub.slotGood (h : Hub) (s : Nat) : Bool := h.flag (SEQ_STS_GOOD.nth s)

/-- The page of a rail (12 R324), and the converter or channel behind it. -/
def railPage (r : Nat) : Nat := if r < 64 then 0x10 + r else 0x40 + (r - 64)
def railConv (r : Nat) : Option Nat := if 1 ≤ r ∧ r ≤ 5 then some (r - 1) else none
def railChan (r : Nat) : Nat := r - 64

/-- The last reading of a rail in mV. -/
def Hub.railMv (h : Hub) (r : Nat) : Nat :=
  match railConv r with | some i => h.outMv i | none => h.get (CH_VMEAS_V.pg (railChan r))

/-- The rail is enabled. -/
def Hub.railEn (h : Hub) (r : Nat) : Bool := h.en (railPage r)

/-- Enter a slot state; FRAMES restarts and the masks follow. -/
def Hub.slotTo (h : Hub) (s st : Nat) (good : Bool) : Hub :=
  let h1 := ((h.put (SEQ_STS_STATE.nth s) st).put (SEQ_STS_FRAMES.nth s) 0).putb (SEQ_STS_GOOD.nth s) good
  let bit (m : Nat) (b : Bool) : Nat := m - (if m.testBit s then 2 ^ s else 0) + (if b then 2 ^ s else 0)
  (h1.put SEQ_MASK_GOOD (bit (h1.get SEQ_MASK_GOOD) good)).put SEQ_MASK_FAIL (bit (h1.get SEQ_MASK_FAIL) (st == 5
      || st == 6))

/-- GOOD sets or clears in the present state. -/
def Hub.slotMark (h : Hub) (s : Nat) (good : Bool) : Hub :=
  let m := h.get SEQ_MASK_GOOD
  (h.putb (SEQ_STS_GOOD.nth s) good).put SEQ_MASK_GOOD (m - (if m.testBit s then 2 ^ s else 0) + (if good then 2 ^ s
      else 0))

/-- Ticks since slot s was last switched off (12 R331). -/
def Hub.slotOffRun (h : Hub) (s : Nat) : Nat := nth h.seq.offRun s 65535

/-! ## Sources (12 R325) -/

/-- Supervisor actions run: page enabled, no parity or self-test fence (12 R345). -/
def Hub.supRuns (h : Hub) : Bool := h.en pgSUP && !h.hasCause pgSUP 1 && !h.hasCause pgSUP 8

/-- The built-in source; stale ADC3 results read outside (13 R368). -/
def Hub.builtinInside (h : Hub) (r : Nat) : Bool :=
  match railConv r with
  | some i =>
    let goal := h.goalMv i
    let dev := ((h.outMv i : Int) - goal).natAbs
    h.convSt i == 4 && !h.adcFenced 3 && decide (dev ≤ max (goal * 5 / 100) 50)
  | none => let n := railChan r; h.chSt n == 2 && h.flag (CH_STAT_OUT.pg n)

/-- The supervisor a slot is judged by, if any. -/
def Hub.slotSup (h : Hub) (s : Nat) : Option Nat :=
  let k := h.get (SEQ_CFG_SUPSEL.nth s)
  if h.seq.builtin || !h.supRuns || decide (24 ≤ k) then none else some k

def Hub.slotInside (h : Hub) (s : Nat) : Bool :=
  match h.slotSup s with
  | some k => (h.get SUP_INSIDE_INSIDE).testBit k
  | none => h.builtinInside (h.rail s)

/-- The supply condition of a rail (12 R326). -/
def Hub.supplyHolds (h : Hub) (r : Nat) : Bool :=
  if r = 1 then h.anyFeedOn
  else if r ≤ 5 then decide (900 ≤ h.get CHG_MEAS2_VSYS)
  else
    let m := h.ruleMode
    h.convSt 0 == 4 && (m == mFIELD || m == mTRANSPORT || m == mSERVICE)

/-- Slot s depends on slot j. -/
def Hub.dep (h : Hub) (s j : Nat) : Bool := (h.get (SEQ_DEP_DEP.nth s)).testBit j

/-- The slots that depend on slot j, directly or through others. -/
def Hub.dependants (fuel : Nat) (h : Hub) (js : List Nat) : List Nat :=
  match fuel with
  | 0 => js
  | k + 1 => Hub.dependants k h (js ++ slots.filter fun s => !js.contains s && js.any (h.dep s))

def Hub.dependsOn (h : Hub) (j : Nat) : List Nat :=
  slots.filter fun s => s != j && h.rail s != 0 && (Hub.dependants 16 h [j]).contains s

/-! ## Turning rails on and off -/

/-- Set the enable of a rail. -/
def Hub.railOn (h : Hub) (r : Nat) : Hub :=
  let h1 := h.put (PG_CTL_EN.pg (railPage r)) 1
  match railConv r with | some i => h1.convEnable i | none => h1.chEnable (railChan r)

/-- What becomes of the sink of a rail that is switched off: the sequencer holds it closed until the output is below LEVEL
(12 R335), holds it open (R334), or leaves it to VENT (09 R259). -/
inductive SinkHold | closed | opened | byVent
  deriving DecidableEq, Repr

/-- Clear the enable of a rail; `now`: without soft stop. -/
def Hub.railOff (h : Hub) (s r : Nat) (sink : SinkHold) (now : Bool) : Hub :=
  let h1 := (h.put (PG_CTL_EN.pg (railPage r)) 0).seq! fun q => { q with
    offRun := setNth q.offRun s 65535 0, qual := setNth q.qual s 0 0 }
  match railConv r with
  | some i =>
    let h2 := h1.conv! i fun c => { c with seqVent := sink == .closed, noVent := sink == .opened }
    let h3 := if now ∧ h2.convSt i ≠ 0 ∧ h2.convSt i ≠ 7 then Hub.stopFollowers 5 (h2.convOff i) i true
        else h2.convDisable i
    match sink with
    | .closed => h3.conv! i fun c => { c with vent := !(i == 0 && h3.flag CHG_STAT_BYPASS), assist := false }
    | .opened => h3.conv! i fun c => { c with vent := false, assist := false }
    | .byVent => h3
  | none => h1.chDisable (railChan r)

/-- The sink opens. -/
def Hub.sinkOpen (h : Hub) (r : Nat) : Hub :=
  match railConv r with
  | some i => h.conv! i fun c => { c with vent := false, assist := false, seqVent := false }
  | none => h

/-- The slot has had its turn in the running sequence. -/
def Hub.handle (h : Hub) (s : Nat) : Hub :=
  h.seq! fun q => { q with handled := if q.handled.contains s then q.handled else q.handled ++ [s] }

/-- Slot s fails with a code; its rail goes off at the next tick, but for LOST (12 R331, R333). -/
def Hub.slotFail (h : Hub) (s code : Nat) : Hub :=
  let chat := h.get (SEQ_STS_CHAT.nth s)
  let h1 := (((h.handle s).slotTo s 5 false).put (SEQ_STS_CODE.nth s) code).incSat SEQ_CNT_FAILS
  let h2 := h1.report pgSEQ s 0x0803 0 sevFAULT [(0, 1, s), (1, 1, code), (2, 1, chat), (4, 2, h.railMv (h.rail s) / 10)]
  if code = 4 then h2 else h2.seq! fun q => { q with failDue := q.failDue ++ [s] }

/-- Slot s is shut because slot j failed or was lost; a started rail is turned off and vented, one that has not started never
starts (12 R331). -/
def Hub.slotShut (h : Hub) (s j : Nat) : Hub :=
  let st := h.slotSt s
  if st = 5 ∨ st = 6 then h
  else
    let on := st == 3 || st == 4 || h.slotGood s
    let h1 := (if on then h.railOff s (h.rail s) .closed true else h).handle s
    ((h1.slotTo s 6 false).put (SEQ_STS_CODE.nth s) 5).report pgSEQ s 0x0804 0 sevWARN [(0, 1, s), (1, 1, j)]

/-! ## Sequences (12 R327, R339) -/

/-- A sequence begins at this tick. (DEDUCED, log entry 40.) -/
def Hub.seqBegin (h : Hub) (up : Bool) (trigger : Nat) : Hub :=
  if h.fenced pgSEQ then
    -- only a power-down that a change of mode requires (12 R345)
    if up ∨ trigger < 4 then h
    else slots.foldl (fun a s =>
      if a.flag (SEQ_CFG_DN.nth s) ∧ a.rail s ≠ 0 then a.railOff s (a.rail s) .byVent false else a) h
  else
    let st := h.get SEQ_STAT_STATE
    let want := if up then 2 else 3
    if st = want then h
    else
      let h1 := if st = 1 then h
        else
          let a := (h.put SEQ_STAT_RESULT 4).report pgSEQ 17 0x0807 0 sevINFO [(0, 1, st - 1), (1, 1, want - 1)]
          slots.foldl (fun b s =>
            let q := b.slotSt s
            if up then (if q = 7 then (if b.slotInside s then b.slotTo s 4 true else b.slotTo s 0 false) else b)
            else if q = 1 ∨ q = 2 then b.slotTo s 0 false else b) a
      let h2 := ((h1.put SEQ_STAT_STATE want).put SEQ_STAT_TRIGGER trigger).put SEQ_STAT_FRAMES 0
      let h3 := h2.seq! fun q => { q with
        handled := [], collapsed := [], vtSeen := false, fresh := true,
        builtin := up && (trigger == 1 || trigger == 2 || trigger == 3) }
      h3.record 0x0801 0 sevINFO (payload [(0, 1, if up then 1 else 2), (1, 1, trigger)])

/-- A fence of the page stops a running sequence (12 R345); RESULT stands. (DEDUCED, log entry 57.) -/
def Hub.seqStop (h : Hub) : Hub :=
    (h.put SEQ_STAT_STATE 1).seq! fun q => { q with start := none, builtin := false, failDue := [] }

/-- The running sequence ends (12 R332, R337). -/
def Hub.seqEnd (h : Hub) (result : Nat) : Hub :=
  let h1 := (h.put SEQ_STAT_STATE 1).put SEQ_STAT_RESULT result
  (h1.seq! fun q => { q with builtin := false }).report pgSEQ 16 0x0802 0 (if result = 1 then sevINFO else sevWARN)
    [(0, 1, result), (2, 2, h.get SEQ_MASK_FAIL), (4, 4, h.get SEQ_STAT_FRAMES)]

/-- Writes of the enable of a page are held by the running sequence (12 R328). (DEDUCED, log entry 13.) -/
def Hub.seqHolds (h : Hub) (page : Nat) : Bool :=
  let st := h.get SEQ_STAT_STATE
  st != 1 && !h.fenced pgSEQ &&
  slots.any fun s => h.rail s != 0 && railPage (h.rail s) == page &&
    (if st = 2 then h.flag (SEQ_CFG_UP.nth s) else h.flag (SEQ_CFG_DN.nth s))

/-! ## Slot events -/

/-- The slot is due for the tests of 12 R329. -/
def Hub.slotStartDue (h : Hub) (s : Nat) : Bool :=
  let st := h.slotSt s
  h.get SEQ_STAT_STATE == 2 && !h.fenced pgSEQ && h.flag (SEQ_CFG_UP.nth s) && h.rail s != 0
    && decide (h.get (SEQ_DLY_ON.nth s) ≤ h.get SEQ_STAT_FRAMES)
    && (st == 1 || st == 2 || (!h.seq.handled.contains s && st != 8 && st != 7))

/-- A slot at tick S + ON or later (12 R329). -/
def Hub.slotStart (h : Hub) (s : Nat) : Hub :=
  let st := h.slotSt s
  let r := h.rail s
  let h0 := h.handle s
  if h.slotGood s then
    (if st = 4 then h0 else ((h0.slotTo s 4 true).put (SEQ_STS_CHAT.nth s) 0).put (SEQ_STS_CODE.nth s) 0)
  else
    let h1 := if st = 1 ∨ st = 2 then h0 else
      (((h0.slotTo s 1 false).put (SEQ_STS_CHAT.nth s) 0).put (SEQ_STS_CODE.nth s) 0)
    let deps := slots.filter (h.dep s)
    let failed (j : Nat) : Bool := h.slotSt j == 5 || h.slotSt j == 6
    if h.fenced (railPage r) then h1.slotFail s 6
    else match deps.find? failed with
      | some j => ((h1.slotTo s 6 false).put (SEQ_STS_CODE.nth s) 5).report pgSEQ s 0x0804 0 sevWARN [(0, 1, s), (1, 1, j)]
      | none =>
        if deps.all h.slotGood ∧ h.supplyHolds r then
          (h1.slotTo s 3 false).railOn r
        else if h1.slotSt s = 1 then h1.slotTo s 2 false else h1

/-- A timer of slot s has run: its state and frames in it. -/
def Hub.slotTimer (h : Hub) (s st frames : Nat) : Bool :=
  h.slotSt s == st && !h.fenced pgSEQ && decide (frames ≤ h.get (SEQ_STS_FRAMES.nth s))

/-- Slot s has qualified: in any state but those of a switch-off, also of a rail that other means brought up (12 R325). -/
def Hub.slotGoodDue (h : Hub) (s : Nat) : Bool :=
  let st := h.slotSt s
  !h.slotGood s && st != 7 && st != 8 && h.rail s != 0 && !h.fenced pgSEQ
      && decide (h.get (SEQ_CFG_QUAL.nth s) ≤ nth h.seq.qual s 0)
    && h.slotInside s

/-- The slot is GOOD; one that rises, or waits, moves to that state. (DEDUCED, log entry 57.) -/
def Hub.slotGoodAct (h : Hub) (s : Nat) : Hub :=
  let st := h.slotSt s
  if st = 1 ∨ st = 2 ∨ st = 3 then h.slotTo s 4 true else h.slotMark s true

/-- Slot s enters HOLDOFF at T + OFF or later (12 R334). -/
def Hub.holdoffDue (h : Hub) (s : Nat) : Bool :=
  let st := h.slotSt s
  h.get SEQ_STAT_STATE == 3 && !h.fenced pgSEQ && h.flag (SEQ_CFG_DN.nth s) && h.rail s != 0 && h.railEn (h.rail s)
    && decide (h.get (SEQ_DLY_OFF.nth s) ≤ h.get SEQ_STAT_FRAMES) && st != 7 && st != 8

/-- Every DN slot that depends on s is OFF, VENT_TO or was never on (12 R334). -/
def Hub.holdoffOver (h : Hub) (s : Nat) : Bool :=
  slots.all fun d => !(h.dep d s && h.rail d != 0 && h.flag (SEQ_CFG_DN.nth d)) ||
    (!h.railEn (h.rail d) && h.slotSt d != 7 && h.slotSt d != 8)

/-- The output of a VENTING slot is below LEVEL (12 R335); also of a failed or shut one (R331). -/
def Hub.ventedDue (h : Hub) (s : Nat) : Bool :=
  let st := h.slotSt s
  let below := decide (h.railMv (h.rail s) < h.get (SEQ_VENT_LEVEL.nth s) * 10)
  below && !h.fenced pgSEQ && (st == 8 || ((st == 5 || st == 6) && (match railConv (h.rail s) with
    | some i => (h.conv i).seqVent | none => false)))

def Hub.slotVented (h : Hub) (s : Nat) : Hub :=
  let h1 := h.sinkOpen (h.rail s)
  if h.slotSt s = 8 then h1.slotTo s 0 false else h1

def Hub.ventTimeout (h : Hub) (s : Nat) : Hub :=
  let h1 := h.seq! fun q => { q with vtSeen := true }
  (((h1.sinkOpen (h.rail s)).slotTo s 9 false).incSat SEQ_CNT_VENTTO).report pgSEQ s 0x0805 0 sevWARN
    [(0, 1, s), (2, 2, h.railMv (h.rail s) / 10)]

/-- The cause of a sequence failure has cleared (12 R331): the rail is DISABLED and below LEVEL, or VENT_T has passed since its
enable was cleared, also of a rail that has latched. -/
def Hub.seqCauseCleared (h : Hub) (page : Nat) : Bool :=
  match slots.find? (fun s => h.rail s != 0 && railPage (h.rail s) == page) with
  | none => true
  | some s =>
    let r := h.rail s
    let off : Bool := match railConv r with | some i => h.convSt i == 0 | none => h.chSt (railChan r) == 0
    (off && decide (h.railMv r < h.get (SEQ_VENT_LEVEL.nth s) * 10))
      || (!h.railEn r && decide (h.get (SEQ_VENT_VT.nth s) * 10 ≤ h.slotOffRun s))

/-! ## Supervisors (12 R340–R343) -/

def Hub.supInput (h : Hub) (k : Nat) : Nat := h.get (SUP_CFG_INPUT.nth k)

/-- Supervisor k is armed (12 R342). -/
def Hub.supArmed (h : Hub) (k : Nat) : Bool :=
  let i := h.supInput k
  h.flag (SUP_CFG_EN.nth k) && (h.get SUP_INSIDE_INSIDE).testBit k && h.supRuns
    && (!(decide (1 ≤ i) && decide (i ≤ 5)) || h.convSt (i - 1) == 4)
    && slots.all fun s => !(h.slotSt s == 3 && h.get (SEQ_CFG_SUPSEL.nth s) == k && h.rail s != 0)

def Hub.armedMask (h : Hub) : Nat := (List.range 24).foldl (fun a k => if h.supArmed k then a + 2 ^ k else a) 0

/-- The raw state that follows from an input value (12 R341); the chatter of 22 R530 forces it outside. -/
def Hub.supRaw (h : Hub) (k v : Nat) : Bool :=
  let lo := h.get (SUP_THR_LO.nth k)
  let hi := h.get (SUP_THR_HI.nth k)
  let hys := h.get (SUP_CFG_HYS.nth k)
  if h.seq.chatForced ∧ h.flag TST_SUPCHAT_EN ∧ h.get TST_SUPCHAT_SUP = k then false
  else if h.seq.rawIn.testBit k then decide (lo ≤ v) && decide (v ≤ hi)
  else decide (lo + hys ≤ v) && decide (v + hys ≤ hi)

/-- A violation (12 R342); its ACTION is due at the next tick (R343). -/
def Hub.violation (h : Hub) (k v : Nat) : Hub :=
  let act := h.get (SUP_CFG_ACTION.nth k)
  let side := if h.get (SUP_THR_HI.nth k) < v then 1 else 0
  let m := h.get SUP_SIDE_SIDE
  let h1 := (h.put SUP_SIDE_SIDE (m - (if m.testBit k then 2 ^ k else 0) + side * 2 ^ k)).incSat (SUP_CNT_VIOL.nth k)
  let h2 := h1.report pgSUP k 0x0901 0 (if act = 0 then sevWARN else sevFAULT)
    [(0, 1, k), (1, 1, h.supInput k), (2, 1, side), (3, 1, act)]
  if act = 0 then h2 else h2.seq! fun q => { q with supDue := q.supDue ++ [k] }

/-- A slot's source goes outside: CHAT while it rises, a collapse of a DN rail that is on and has not reached HOLDOFF in a
power-down (12 R330, R336). -/
def Hub.slotOutside (h : Hub) (s : Nat) : Hub :=
  let st := h.slotSt s
  let down := h.get SEQ_STAT_STATE = 3
  let h0 := h.seq! fun q => { q with qual := setNth q.qual s 0 0 }
  let h1 := if st = 3 ∧ !down then h0.incSat (SEQ_STS_CHAT.nth s) else h0
  if h.fenced pgSEQ then h0
  else if st = 3 ∧ !down ∧ h1.get (SEQ_CFG_CHATTER.nth s) < h1.get (SEQ_STS_CHAT.nth s) then h1.slotFail s 3
  else if down ∧ (st ≠ 7 ∧ st ≠ 8 ∧ st ≠ 9) ∧ h.railEn (h.rail s) ∧ h.flag (SEQ_CFG_DN.nth s)
      ∧ !h.seq.collapsed.contains s then
    h1.seq! fun q => { q with collapseDue := q.collapseDue ++ [s], collapsed := q.collapsed ++ [s] }
  else h1

/-- SUP_FILTER: the raw state of supervisor k follows an input value, and the filtered state takes it once it has held for the
filter time; a supervisor without an input has none (12 R340–R341). -/
def Hub.supFilter (h0 : Hub) (k v held : Nat) : Hub :=
  let m := h0.get SUP_INSIDE_INSIDE
  let old := m.testBit k
  let new := h0.supRaw k v
  if !h0.flag (SUP_CFG_EN.nth k) || h0.supInput k == 0 then h0
  else
    let h := h0.seq! fun q => { q with
      rawIn := q.rawIn - (if q.rawIn.testBit k then 2 ^ k else 0) + (if new then 2 ^ k else 0) }
    if old == new || decide (held < h0.get (SUP_FILT_T.nth k)) then h
    else
      let h1 := h.put SUP_INSIDE_INSIDE (if new then m + 2 ^ k else m - 2 ^ k)
      let h2 := if old && h.supArmed k then h1.violation k v else h1
      if new then h2
      else slots.foldl (fun a s => if a.rail s ≠ 0 ∧ h.slotSup s = some k then a.slotOutside s else a) h2

/-- The enables of the supervisors that changed at a tick: an enabled one starts outside (12 R341). -/
def Hub.supEnableActs (h : Hub) (k : Nat) : Hub :=
  let m := h.get SUP_INSIDE_INSIDE
  (h.put SUP_INSIDE_INSIDE (m - (if m.testBit k then 2 ^ k else 0))).seq! fun q => { q with
    rawIn := q.rawIn - (if q.rawIn.testBit k then 2 ^ k else 0) }

/-- ACTION FENCE at the tick after a violation: the converter is off and vented (12 R343). -/
def Hub.supFence (h : Hub) (k : Nat) : Hub :=
  let i := h.supInput k - 1
  let h1 := h.put (PG_CTL_EN.pg (convPage i)) 0
  let h2 := if h1.convSt i = 0 ∨ h1.convSt i = 7 then h1 else Hub.stopFollowers 5 (h1.convOff i) i true
  (h2.sinkClose i).fence (convPage i) 9

/-! ## Work of a tick -/

/-- A GOOD slot's rail has stopped without the sequencer (12 R333). -/
def Hub.slotLost (h : Hub) (s : Nat) : Bool :=
  let r := h.rail s
  h.slotGood s && h.slotSt s != 8 && r != 0 &&
  (h.fenced (railPage r) || (match railConv r with
    | some i => h.convSt i == 6 || h.convSt i == 7 || h.convSt i == 1 || h.convSt i == 0
    | none => let c := h.chSt (railChan r); c == 4 || c == 6 || c == 7 || c == 0))

/-- Dependants of a collapsed slot are disabled and vent (12 R336). -/
def Hub.collapse (h : Hub) (s : Nat) : Hub :=
  let ds := (h.dependsOn s).filter fun d => h.railEn (h.rail d) && h.slotSt d != 8
  let h1 := ds.foldl (fun a d => (a.railOff d (a.rail d) .closed false).slotTo d 8 false) h
  h1.report pgSEQ s 0x0806 0 sevWARN [(0, 1, s), (2, 2, ds.foldl (fun a d => a + 2 ^ d) 0)]

/-- A tick of the times since the slots' switch-offs (12 R331). -/
def Hub.offClock (h : Hub) : Hub := h.seq! fun q => { q with offRun := q.offRun.map fun k => min 65535 (k + 1) }

/-- The counts of a tick: frames since S or T, which the start tick leaves at 0, and those of each slot (12 R327, R331). -/
def Hub.seqClock (h : Hub) : Hub :=
  let h1 := if h.get SEQ_STAT_STATE = 1 ∨ h.seq.fresh then h else h.incSat SEQ_STAT_FRAMES
  (slots.foldl (fun a s => a.incSat (SEQ_STS_FRAMES.nth s)) h1).offClock

/-- The sequencer's slot actions in P0 (12 R327, R331, R333–R334, R336). (DEDUCED, log entry 57.) -/
def Hub.seqP0 (h : Hub) : Hub :=
  let h2 := h.seqClock
  let h2a := match h2.seq.start with
    | some (up, t) => (h2.seqBegin up t).seq! fun q => { q with start := none }
    | none => h2
  let h3 := h2a.seq! fun q => { q with fresh := false }
  if h3.fenced pgSEQ then h3
  else
    let fails := slots.filter h3.seq.failDue.contains
    let losses := slots.filter h3.slotLost
    let down := h3.get SEQ_STAT_STATE = 3
    let h3a := (if down then [] else losses).foldl (fun a s => a.slotFail s 4) (h3.seq! fun q => { q with failDue := [] })
    let h3b := fails.foldl (fun a s => (a.railOff s (a.rail s) .closed true).fence (railPage (a.rail s)) 3) h3a
    -- a slot shut by several names the lowest (R339)
    let h4 := (slots.filter fun s => fails.contains s || (!down && losses.contains s)).foldl (fun a s =>
      (a.dependsOn s).foldl (fun x d => x.slotShut d s) a) h3b
    let h5 := (if down then losses else []).foldl (fun a s =>
      if a.seq.collapsed.contains s then a.slotMark s false
      else (if a.railEn (a.rail s) then a.slotMark s false else a.slotTo s 0 false).seq! fun q => { q with
        collapseDue := q.collapseDue ++ [s], collapsed := q.collapsed ++ [s] }) h4
    let due := h5.seq.collapseDue
    let h6 := due.foldl Hub.collapse (h5.seq! fun q => { q with collapseDue := [] })
    let ready := slots.filter fun s => h6.slotSt s == 7 && h6.holdoffOver s
    ready.foldl (fun a s =>
      let b := (a.railOff s (a.rail s) .closed false).slotTo s 8 false
      slots.foldl (fun x d =>
        if x.dep d s ∧ x.rail d ≠ 0 ∧ !x.flag (SEQ_CFG_DN.nth d) ∧ x.railEn (x.rail d) then
          (x.railOff d (x.rail d) .opened false).slotTo d 0 false else x) b) h6

/-- The sequencer's judgements in P2: qualification, chatter and collapse of built-in sources, the end of the
sequence (12 R325, R330, R332, R336–R337). (DEDUCED, log entry 57.) -/
def Hub.seqP2 (h : Hub) : Hub :=
  let h1 := slots.foldl (fun a s =>
    if a.rail s = 0 then a
    else if a.slotInside s then a.seq! fun q => { q with qual := setNth q.qual s 0 (min 255 (nth q.qual s 0 + 1)) }
    else if (a.slotSup s).isNone ∧ nth a.seq.qual s 0 ≠ 0 then a.slotOutside s
    else a.seq! fun q => { q with qual := setNth q.qual s 0 0 }) h
  if h1.fenced pgSEQ then h1
  else match h1.get SEQ_STAT_STATE with
    | 2 =>
      let ups := slots.filter fun s => h1.flag (SEQ_CFG_UP.nth s) && h1.rail s != 0
      let settled := ups.all fun s => let bad := h1.slotSt s == 5 || h1.slotSt s == 6
        if bad then h1.seq.handled.contains s else h1.slotGood s
      if settled then h1.seqEnd (if ups.any fun s => h1.slotSt s == 5 || h1.slotSt s == 6 then 2 else 1) else h1
    | 3 =>
      let dns := slots.filter fun s => h1.flag (SEQ_CFG_DN.nth s) && h1.rail s != 0
      let settled := dns.all fun s => !h1.railEn (h1.rail s) && h1.slotSt s != 7 && h1.slotSt s != 8
      if settled then h1.seqEnd (if h1.seq.vtSeen then 3 else 1) else h1
    | _ => h1

end Sys2Proof.Machine
end

