-- ==== Sys2Proof/Machine/Watchdog.lean ====
section
/-! DEFINITION. The multi-task window watchdog (chapter 18). -/

namespace Sys2Proof.Machine

abbrev pgWDT : Nat := 0x04
def Hub.wdtSt (h : Hub) : Nat := h.get WDT_STAT_STATE

/-- Failing fields use their reset values (18 R476). -/
def Hub.wdtFollow (h : Hub) : Bool :=
  h.cfgSafe WDT_CTL_FOLLOW == 1 && h.follower

/-- A period starts at this tick, with the settings now in force (18 R463, R472). -/
def Hub.wdtPeriod (h : Hub) : Hub :=
  let c := h.cfgSafe WDT_PERIOD_CLOSED
  let o := h.cfgSafe WDT_PERIOD_OPEN
  let h1 := (((h.put WDT_STAT_STATE 2).put WDT_DONE_DONE 0).put WDT_START_FRAME h.frmNo).put WDT_LEFT_FRAMES c
  h1.wd! fun w => { w with closed := c, open_ := o, tasks := h.cfgSafe WDT_TASKEN_EN, success := false, failed := false }

/-- Entry into FIELD arms the watchdog, or makes it follow (18 R471, R473). -/
def Hub.wdtArm (h : Hub) : Hub :=
  if h.wdtFollow then h.put WDT_STAT_STATE 4
  else
    let h1 := h.wdtPeriod
    h1.report pgWDT 2 0x0503 0 sevINFO [(0, 2, h1.wd.closed), (2, 2, h1.wd.open_), (4, 2, h1.wd.tasks)]

/-- IDLE with the status cleared (18 R469–R471). -/
def Hub.wdtIdle (h : Hub) : Hub :=
  let h1 := ((h.put WDT_STAT_STATE 1).put WDT_STAT_FAILRUN 0).put WDT_STAT_LASTCAUSE 0
  (((h1.put WDT_DONE_DONE 0).put WDT_DONE_MISSING 0).put WDT_LEFT_FRAMES 0).wd!
    fun w => { w with success := false, failed := false, safeDue := none }

/-- A failure of this frame: cause 1 EARLY, 2 DUPLICATE, 3 WRONG_KEY, 4 MISSING (18 R468–R469, R476).  FAILRUN keeps
the range 0–1 of R477; the second consecutive failure makes SAFE due. -/
def Hub.wdtFail (h : Hub) (cause task mask : Nat) : Hub :=
  let second := h.get WDT_STAT_FAILRUN == 1
  let h1 := ((h.incSat WDT_CNT_FAILS).put WDT_STAT_FAILRUN 1).put WDT_STAT_LASTCAUSE cause
  let h2 := h1.wd! fun w => { w with failed := true, success := false, safeDue := if second then some cause else w.safeDue }
  h2.report pgWDT 0 0x0501 0 sevWARN [(0, 1, cause), (1, 1, task), (2, 2, mask), (4, 4, h.frmNo)]

/-- The closed phase has run (18 R463). -/
def Hub.wdtOpenDue (h : Hub) : Bool := h.wdtSt == 2 && h.get WDT_LEFT_FRAMES == 0

/-- The open phase begins. -/
def Hub.wdtOpen (h : Hub) : Hub := ((h.put WDT_STAT_STATE 3).put WDT_LEFT_FRAMES h.wd.open_).evt pgWDT 3

/-- The last open frame is ending with a task missing and nothing judged in it (18 R467). -/
def Hub.wdtMissingDue (h : Hub) : Bool :=
  h.wdtSt == 3 && h.get WDT_LEFT_FRAMES == 1 && !h.wd.failed && !h.wd.success

/-- DEDUCED, log entry 36. -/
def Hub.wdtMissing (h : Hub) : Hub :=
  let mask := (h.wd.tasks &&& (65535 - h.get WDT_DONE_DONE))
  (h.put WDT_DONE_MISSING mask).wdtFail 4 0xFF mask

/-- A write of WDT_CHECKIN (18 R464–R466): the hub after it and the status of 03 R82.  A task is enabled where the period in
progress started with it (R472), though R465 names the active `WDT_TASKEN`. (DEDUCED, log entry 77.) -/
def Hub.checkin (h : Hub) (be val : Nat) : Hub × Nat :=
  let h := if h.wdtOpenDue then h.wdtOpen else h
  let st := h.wdtSt
  if st = 1 then (h, 0x0E)
  else if st = 4 then (h, 0x05)
  else if h.wd.failed then (h.incSat WDT_CNT_IGNORED, 0x05)
  else
    let t := val % 256
    if be ≠ 15 ∨ val / 256 ≠ 0xC3A500 ∨ 16 ≤ t ∨ !h.wd.tasks.testBit t then (h.wdtFail 3 0xFF 0, 0x0E)
    else if st = 2 then (h.wdtFail 1 t 0, 0x05)
    else if (h.get WDT_DONE_DONE).testBit t then (h.wdtFail 2 t 0, 0x06)
    else
      let done := h.get WDT_DONE_DONE + 2 ^ t
      let h1 := h.put WDT_DONE_DONE done
      if done &&& h.wd.tasks = h.wd.tasks then
        ((h1.put WDT_STAT_FAILRUN 0).wd! fun w => { w with success := true }, 0)
      else (h1, 0)

/-- The SAFE action (18 R469, R473): channel and SEC pages fenced with cause 5, RST_OUT# low. (DEDUCED, log entry 50.) -/
def Hub.safeAct (h : Hub) (cause : Nat) (fromTick : Bool) : Hub :=
  let h1 := h.chList.foldl (fun a n => (a.geyAbort n 3).fence (chPage n) 5) h
  let h2 := ((h1.fence 0x16 5).incSat WDT_CNT_SAFES).report pgWDT 1 0x0502 0 sevFAULT
    [(0, 1, cause), (1, 1, h.mode), (2, 1, boolNat fromTick)]
  let h3 := h2.wdtIdle
  (h3.wd! fun w => { w with rstRun := 0 }).md! fun m => { m with rstPulse := true, safeSeen := true }

/-- RST_OUT# has been low for 10 ms (01 R32, 18 R469). -/
def Hub.rstOutDue (h : Hub) : Bool := h.md.rstPulse && decide (100 ≤ h.wd.rstRun)

/-- A frame of the RST_OUT# pulse. -/
def Hub.rstTick (h : Hub) : Hub := h.wd! fun w => { w with rstRun := min 100 (w.rstRun + 1) }

/-- RST_OUT# is released: cause 5 has cleared (18 R469). -/
def Hub.rstOutRelease (h : Hub) : Hub :=
  let h1 := h.md! fun m => { m with rstPulse := false }
  h1.chList.foldl (fun a n => a.clearCause (chPage n) 5) (h1.clearCause 0x16 5)

/-- The end of the frame that a tick closes: a phase change not yet taken, and the MISSING failure (18 R463, R467).
(DEDUCED, log entry 36.) -/
def Hub.wdtEnd (h : Hub) : Hub :=
  let h1 := if h.wdtOpenDue then h.wdtOpen else h
  if h1.wdtMissingDue then h1.wdtMissing else h1

/-- The watchdog at a tick, after FRM_NO has advanced: the next period, or one frame less of the phase; SAFE acts
apart (18 R463, R466, R468). -/
def Hub.wdtTick (h : Hub) : Hub :=
  let st := h.wdtSt
  if st = 2 ∨ st = 3 then
    if h.wd.safeDue.isSome then h
    else if h.wd.success ∨ h.wd.failed then h.wdtPeriod
    else h.put WDT_LEFT_FRAMES (h.get WDT_LEFT_FRAMES - 1)
  else h

/-- Bits 7:0 of TICK word 11: the lead's watchdog (18 R473); `safe`: its SAFE action acts at this tick. -/
def Hub.wdtTickBits (h : Hub) (safe : Bool) : Nat :=
  let st := h.wdtSt
  boolNat (st == 2 || st == 3) + boolNat (st == 3 || h.wdtOpenDue) * 2 + h.get WDT_STAT_FAILRUN * 4 + boolNat safe * 16

end Sys2Proof.Machine
end

