-- ==== Sys2Proof/Machine/Views.lean ====
section
/-! DEFINITION. What a register reads as: the page header (03 R85), the registers whose value is computed when they are
read, the two ports' own registers, writes that await the tick (03 R92) and staged values (03 R86, R95).  And when the
cause of a fence has cleared (21 R517). -/

namespace Sys2Proof.Machine

/-! ## Fence causes (21 R517–R518) -/

/-- The clearing condition of a cause a page holds. -/
def Hub.causeCleared (h : Hub) (page : Nat) (c : Cause) : Bool :=
  match c.code with
  | 1 => c.cleared || !h.bad.any (fun b => b.idx / 256 == page && !b.shadow)
  | 2 =>
    match pageKind h.part page with
    | some .ch => h.latchCleared (page - 0x40)
    | some .lb => decide (h.outMv 0 < 400)
    | some .h => decide (h.outMv (page - 0x11) < 400)
    | _ => true
  | 3 => h.seqCauseCleared page
  | 4 => c.cleared
  | 5 => !h.md.rstPulse
  | 6 => h.clkCleared
  | 7 => h.get FRM_OVRINFO_RUN == 0 && decide (1000 ≤ h.frm.clean)
  | 9 => h.convSt (page - 0x11) == 0 && decide (h.outMv (page - 0x11) < 400)
  | _ => false

/-- Every cause the page holds has cleared. -/
def Hub.allCleared (h : Hub) (page : Nat) : Bool := (h.page page).causes.all (h.causeCleared page)

/-- The cause PG_STAT shows: the earliest that has not cleared, else the earliest. -/
def Hub.shownCause (h : Hub) (page : Nat) : Option Cause :=
  let l := (h.page page).causes
  match l.find? (fun c => !h.causeCleared page c) with
  | some c => some c
  | none => l.head?

/-! ## The page header (03 R85) -/

/-- PG_STAT.STATE; the IRQ page's needs its stacks and is given by `State.pgStat`. -/
def Hub.pgState (h : Hub) (page : Nat) : Nat :=
  match pageKind h.part page with
  | none => 0
  | some .sec => if !h.en page then 0 else if h.flag SEC_STAT_GAP then 3 else 2
  | some .gey => h.geyState
  | some .feed => h.feedSt (page - 0x0E)
  | some .lb => h.convSt 0
  | some .h => h.convSt (page - 0x11)
  | some .bud => h.get BUD_STAT_STATE
  | some .chg => h.chgSt
  | some .seq => h.get SEQ_STAT_STATE
  | some .wdt => h.wdtSt
  | some .ch => h.chSt (page - 0x40)
  | some .rtc => if h.rtcHalted then 1 else 2
  | some .tst => if h.tstActive = 0 then 1 else 2
  | some .str =>
    if h.flag STR_STAT_CUTOFF then 4 else if h.link.enum.isSome then 2
    else if h.get STR_STAT_ROLE = 0 then 1 else 3
  | some _ => if h.en page then 1 else 0

/-- A staged byte or an active byte of the page fails parity (03 R101). -/
def Hub.pageBad (h : Hub) (page : Nat) : Bool := h.bad.any fun b => b.idx / 256 == page

/-- PG_STAT with a given STATE. -/
def Hub.pgStatWith (h : Hub) (page st : Nat) : Word :=
  let x := h.page page
  let cause := match h.shownCause page with | some c => c.code | none => 0
  BitVec.ofNat 32 (st + boolNat (!x.causes.isEmpty) * 2 ^ 4 + boolNat x.commit * 2 ^ 5 + boolNat x.dirty * 2 ^ 6
    + boolNat (x.dirty && x.src == .w) * 2 ^ 7 + boolNat (h.pageBad page) * 2 ^ 8 + boolNat x.failed * 2 ^ 9
    + cause * 2 ^ 12)

/-- PG_ID: MAJOR is 2 and MINOR 0 (03 R102). -/
def Hub.pgId (h : Hub) (page : Nat) : Word :=
  match pageKind h.part page with
  | none => 0
  | some k => BitVec.ofNat 32 (k.type * 2 ^ 24 + pageInstance page * 2 ^ 16 + 2 * 2 ^ 8)

/-- PG_CTL.EN as it reads: a write that awaits the tick counts (03 R92). -/
def Hub.enShown (h : Hub) (page : Nat) : Bool :=
  match (h.page page).en with | some e => e.1 | none => h.en page

/-- The VIEW bit of a port as it reads: a write that awaits the tick counts (03 R86, R92). -/
def Hub.viewNext (h : Hub) (p : Port) : Bool := match p with | .e => h.views.nextE | .w => h.views.nextW

/-- PG_CTL for a port: EN of the page and the port's own VIEW, which is the same on every page (03 R85–R86). -/
def Hub.pgCtl (h : Hub) (page : Nat) (p : Port) : Word :=
  BitVec.ofNat 32 (boolNat (h.enShown page) + boolNat (h.viewNext p) * 2)

/-! ## Registers computed on reading -/

/-- The register that holds the values of another: CH_GRP of a group stands on channel 8g (05 R146), FEED_SHARE and
FEED_SHARESTAT stand on FEEDA (08 R253). -/
def homeIdx (idx : Nat) : Nat :=
  let page := idx / 256
  let off := idx % 256
  if 0x40 ≤ page ∧ page < 0x80 ∧ off = 0x0B then (0x40 + (page - 0x40) / 8 * 8) * 256 + off
  else if page = 0x0F ∧ (off = 0x17 ∨ off = 0x18) then 0x0E00 + off
  else idx

/-- A word with bit 0 replaced. -/
def withBit0 (w : Word) (b : Bool) : Word := (w &&& ~~~ (1 : Word)) ||| BitVec.ofNat 32 (boolNat b)

/-- Lane registers of channel n (06 R210). -/
def Hub.laneWord (h : Hub) (n off : Nat) : Option Word :=
  let c := h.ch n
  let b (v : Nat) : Option Word := some (BitVec.ofNat 32 v)
  match off with
  | 0x32 =>
    let key := match c.lane with | e :: _ => e.key | [] => 0
    b (c.lane.length + key * 2 ^ 15 + h.laneFree n * 2 ^ 16)
  | 0x33 => b (match c.lane with | e :: _ => e.target | [] => 0)
  | 0x34 => b (c.tailD.getD 0)
  | 0x35 => b (c.tailT.getD 0)
  | _ => none

/-- CH_STAT while channel n chops: OUT is then the instant's (05 R152, R175). -/
def Hub.chopWord (h : Hub) (n : Nat) : Option Word :=
  if h.chops n h.cyc then
    some (putBits (h.newWord (CH_STAT_OUT.pg n).idx) CH_STAT_OUT.lo 1 (boolNat (!h.chopOff n h.cyc)))
  else none

/-- ADC_STATk at the cycle of the access: a class F conversion before a class H request that has entered its queue, before
the scan, before a zero refresh (13 R352–R355, R371). (DEDUCED, log entry 22.) -/
def Hub.adcStat (h : Hub) (k : Nat) : Word :=
  let w := h.word (ADC_STAT_STATE.idx + k)
  if h.adcFenced k then w
  else if h.cyc < nth h.mea.fUntil k 0 then putBits w 0 3 3
  else if h.classHRuns k h.cyc then putBits w 0 3 2
  else if h.adcState k == 1 then w
  else if h.refreshOn k then putBits w 0 3 4
  else w

/-- The base value of the registers that are computed when read, for a port; none for a register that holds its
value.  Staged values and failing bytes are dealt with by `Hub.shown` and `Hub.read`. -/
def Hub.computed (h : Hub) (p : Port) (idx : Nat) : Option Word :=
  let page := idx / 256
  let off := idx % 256
  match off with
  | 0x00 => some (h.pgId page)
  | 0x01 => some (h.pgCtl page p)
  | 0x02 => some (h.pgStatWith page (h.pgState page))
  | 0x05 => some (h.word idx)
  | _ =>
    if 0x40 ≤ page then
      if off = 0x08 then some (withBit0 (h.newWord idx) (h.enShown page))
      else if off = CH_STAT_OUT.idx % 256 then h.chopWord (page - 0x40)
      else h.laneWord (page - 0x40) off
    else match page with
    | 0x00 => if 0x0C ≤ off ∧ off < 0x10 then some (Config.serial (off - 0x0C)) else none
    | 0x02 => if off = 0x09 then some (BitVec.ofNat 32 (h.cyc % 65536)) else none
    | 0x05 =>
      match off, h.rtcCap p with
      | 0x09, some c => some c.date
      | 0x0A, some c => some c.sub
      | 0x0A, none => some (BitVec.ofNat 32 h.subsec)
      | 0x0B, some c => some c.epoch
      | 0x12, _ => some (BitVec.ofNat 32 (wrapTo 19 h.rtc.ppb + h.get RTC_TRIM_TEMP * 2 ^ 20))
      | _, _ => none
    | 0x06 =>
      if off = 0x08 then some (putBits (h.word idx) 20 7 h.rcd.queue.length)
      else if off = 0x0F then some h.recRstat
      else if 0x10 ≤ off ∧ off < 0x20 then some (h.recWindow (off - 0x10))
      else if off = 0x21 then some (BitVec.ofNat 32 h.selSet.len)
      else if 0x50 ≤ off ∧ off < 0x88 then some (h.selSet.word (off - 0x50))
      else none
    | 0x08 => if off = 0x09 then some (BitVec.ofNat 32 h.armedMask) else none
    | 0x09 =>
      if 0x08 ≤ off ∧ off < 0x0C then some (h.adcStat (off - 0x08))
      else if off = 0x18 then some (((h.host p).next.getD (h.host p).req) &&& ~~~ (0x8000 : Word))
      else if off = 0x19 then
        let r := h.host p
        some ((if r.clr then putBits r.res 16 1 0 else r.res) ||| BitVec.ofNat 32 (boolNat r.busy * 2 ^ 18))
      else none
    | 0x0A =>
      if 0x09 ≤ off ∧ off < 0x0C then some (nth h.calWindow (off - 0x09) 0)
      else if off = 0x0C then some (h.zeroWord (h.get CAL_SEL_INDEX)) else none
    | 0x0C => if !h.flag DEV_POS_LEAD ∧ (off = 0x14 ∨ off = 0x15 ∨ 0x20 ≤ off) then some 0 else none
    | 0x0D => if !h.flag DEV_POS_LEAD ∧ (off = 0x15 ∨ 0x20 ≤ off) then some 0 else none
    | 0x10 => if off = 0x08 then some (withBit0 (h.newWord idx) (h.enShown page)) else none
    | 0x16 =>
      if off = 0x19 then some (match p with | .e => h.sec.appresE | .w => h.sec.appresW) else none
    | 0x18 => if 0x13 ≤ off ∧ off < 0x1B then some (h.snapWindow (off - 0x13)) else none
    | 0x1E => if off = 0x08 then some h.tstStat else none
    | 0x1F => if 0x0A ≤ off ∧ off < 0x0E then some (h.chalWord (off - 0x0A)) else none
    | _ => none

/-- The bits of the fields of a register that satisfy a condition. -/
def RegDef.mask (d : RegDef) (c : FldDef → Bool) : Word :=
  BitVec.ofNat 32 (d.fields.foldl (fun a f => if c f then a + (2 ^ f.w - 1) * 2 ^ f.lo else a) 0)

/-- The active value of a register as a port reads it: writes that await the tick count, write-only bits read 0. -/
def Hub.active (h : Hub) (p : Port) (idx : Nat) : Word :=
  let i := homeIdx idx
  match h.computed p i with
  | some w => w
  | none =>
    match findReg h.part i with
    | some d => h.newWord i &&& ~~~ d.mask (·.acc == .wo)
    | none => 0

/-- The word with its staged values in place of the active ones (03 R86, R95). -/
def Hub.stagedOver (h : Hub) (idx : Nat) (w : Word) : Word :=
  match mapFind h.shadow (homeIdx idx) with
  | none => w
  | some s => (w &&& ~~~ s.mask) ||| (s.val &&& s.mask)

/-- The port sees staged values (03 R86). -/
def Hub.viewOf (h : Hub) (p : Port) : Bool := match p with | .e => h.views.viewE | .w => h.views.viewW

/-- What a port reads at an index. -/
def Hub.shown (h : Hub) (p : Port) (idx : Nat) : Word :=
  let w := h.active p idx
  if h.viewOf p then h.stagedOver idx w else w

/-- A byte of the register fails: in its active value, or in a staged value that the port's view shows. -/
def Hub.byteBad (h : Hub) (p : Port) (idx : Nat) : Bool :=
  h.bad.any fun b => b.idx == homeIdx idx && (!b.shadow || h.viewOf p)

end Sys2Proof.Machine
end

