-- ==== Sys2Proof/Machine/Commit.lean ====
section
/-! DEFINITION. The commit of a page at a tick (03 R97–R98) with the consistency checks of every chapter.  In a check
`n` is the hub with the page's staged values in force and `h` the hub as it stands. -/

namespace Sys2Proof.Machine

/-- A check that fails: its code and the offset PG_COMMIT shows. -/
abbrev Failing := Option (Nat × Nat)

/-- The first failing check of a list of (passes, code, offset). -/
def firstFail : List (Bool × Nat × Nat) → Failing
  | [] => none
  | (ok, code, off) :: l => if ok then firstFail l else some (code, off)

/-- The first instance of a list that fails, with the offset it names. -/
def firstOf (l : List Nat) (ok : Nat → Bool) (code : Nat) (off : Nat → Nat) : Bool × Nat × Nat :=
  match l.find? (fun k => !ok k) with
  | none => (true, code, 0)
  | some k => (false, code, off k)

/-- Registers of windows: their staged words become a calibration record or a snapshot set, not a register. -/
def windowIdx (idx : Nat) : Bool :=
  (decide (0x0A09 ≤ idx) && decide (idx < 0x0A0C)) || idx == 0x0621 || (decide (0x0650 ≤ idx) && decide (idx < 0x0688))

/-- The hub with the staged values of a page in force. -/
def Hub.stagedHub (h : Hub) (page : Nat) : Hub :=
  h.shadow.foldl (fun a e =>
    if e.1 / 256 = page ∧ !windowIdx e.1 then a.setWord e.1 ((a.word e.1 &&& ~~~ e.2.mask) ||| (e.2.val &&& e.2.mask))
        else a) h

/-! ## Checks by page -/

/-- Two lanes share a slot. -/
def lanesMeet (b1 l1 b2 l2 : Nat) : Bool := l1 != 0 && l2 != 0 && decide (b1 < b2 + l2) && decide (b2 < b1 + l1)

/-- THIT × 10 µs is below the period of a frequency in Hz. -/
def hitFits (thit freq : Nat) : Bool := decide (thit * 10 * freq < 1000000)

/-- A learned record may be committed (07 R225, check GEY_RECORD). -/
def Hub.recordOk (n : Hub) (c dir : Nat) : Bool :=
  let v := n.get (recV c dir)
  n.get (recCount c dir) == 0 || (decide (900 ≤ v) && decide (v ≤ 2800) && decide (n.get (recL c dir) ≤ 8000000))

def checkCh (n h : Hub) (c : Nat) : Failing :=
  let g := c / 8 * 8
  let freq := if c = g then n.get (CH_GRP_FREQ.pg c) else h.grpFreq c
  let lane (a : Hub) (k : Nat) : Nat × Nat := (a.get (CH_LANE_BASE.pg k), a.get (CH_LANE_LENGTH.pg k))
  let mine := lane n c
  let others := h.chList.filter fun k => k != c
  firstFail [
    (decide (n.get (CH_HH_IHOLD.pg c) < n.get (CH_HH_IHIT.pg c)), 0x10, 0x0C),
    (decide (n.get (CH_HH_IHIT.pg c) < 10 * n.get (CH_LIM_ILIM.pg c)), 0x11, 0x0C),
    (n.chMode c != 4 || hitFits (n.get (CH_HIT_THIT.pg c)) freq, 0x12, 0x09),
    (c != g || ((List.range 7).map (g + 1 + ·)).all (fun k => h.chMode k != 4 || hitFits (h.get (CH_HIT_THIT.pg k)) freq),
      0x13, 0x0D),
    (decide (n.get (CH_OCL_IOC.pg c) < 10 * n.get (CH_LIM_ILIM.pg c)), 0x14, 0x0F),
    (n.get (CH_SAFE_SAFE.pg c) != 1 || n.flag (CH_CLASS_HOLDUP_EN.pg c), 0x15, 0x11),
    (decide (mine.1 + mine.2 ≤ 16384), 0x20, 0x30),
    (others.all (fun k => !lanesMeet mine.1 mine.2 (lane h k).1 (lane h k).2), 0x21, 0x30),
    ((h.ch c).lane.isEmpty || mine == lane h c, 0x22, 0x30),
    (!n.flag (CH_GEYCTL_OFFEN.pg c) || !n.flag (CH_MODE_OFFDECAY.pg c), 0x28, 0x60),
    (n.recordOk c 0, 0x29, 0x62), (n.recordOk c 1, 0x29, 0x64)]

def checkFeed (n : Hub) (k : Nat) : Failing :=
  let f (x : Fld) : Nat := n.get (x.pg k)
  firstFail [
    (decide (f FEED_WIN_UV + 10 ≤ f FEED_WIN_OV), 0x10, 0x09),
    (decide (600 < f FEED_RAMP_RATE * f FEED_IRUSHT_T), 0x11, 0x0D),
    (decide (22 * f FEED_RAMP_RATE < 10 * f FEED_IRUSH_I), 0x12, 0x0D),
    (k != 0 || n.get FEED_SHARE_MODE != 2 || decide (f FEED_WIN_UV + 5 ≤ n.get FEED_SHARE_PRIV), 0x13, 0x17)]

/-- Following leaders from a rail number (0 LB, 1–4) through the active pages reaches `self`. -/
def trackReaches (fuel : Nat) (h : Hub) (self cur : Nat) : Bool :=
  match fuel with
  | 0 => false
  | k + 1 =>
    if cur = self then true
    else if cur = 0 then false
    else if h.get (H_TRACK_MODE.pg (cur - 1)) = 0 then false
    else trackReaches k h self (h.get (H_TRACK_LEADER.pg (cur - 1)))

def checkH (n h : Hub) (i : Nat) : Failing :=
  let none_ := n.get (H_TRACK_MODE.pg (i - 1)) == 0
  let lead := n.get (H_TRACK_LEADER.pg (i - 1))
  firstFail [
    (none_ || lead != i, 0x10, 0x0C),
    (none_ || !trackReaches 5 h i lead, 0x11, 0x0C)]

def checkChg (n : Hub) : Failing :=
  let c := n.get CHG_BATCFG_CELLS
  let vc := n.get CHG_VBAT_VCELL
  let cut := n.get CHG_VLIM_VCUT
  let pre := n.get CHG_VBAT_VPRE
  let chem := if n.get CHG_BATCFG_CHEM = 0 then decide (400 ≤ vc) && decide (vc ≤ 425)
      else decide (350 ≤ vc) && decide (vc ≤ 370)
  firstFail [
    (decide (3 ≤ c) && decide (c ≤ 8), 0x10, 0x09), (chem, 0x11, 0x0A),
    (decide (cut + 30 ≤ pre) && decide (pre + 20 ≤ vc), 0x12, 0x0B),
    (decide (900 ≤ c * cut) && decide (c * vc ≤ 3600), 0x13, 0x09),
    (decide (n.get CHG_ICFG_ITERM < n.get CHG_ICFG_IPRE) && decide (n.get CHG_ICFG_IPRE ≤ n.get CHG_ICFG_ICHG), 0x14, 0x0C),
    (decide (n.geti CHG_NTC_T1 < n.geti CHG_NTC_T2) && decide (n.geti CHG_NTC_T2 < n.geti CHG_NTC_T3)
      && decide (n.geti CHG_NTC_T3 < n.geti CHG_NTC_T4), 0x15, 0x0D)]

def checkSup (n h : Hub) : Failing :=
  let sups := List.range 24
  let lo (k : Nat) : Nat := n.get (SUP_THR_LO.nth k)
  let hi (k : Nat) : Nat := n.get (SUP_THR_HI.nth k)
  let named (k : Nat) : Bool := slots.any fun s => h.rail s != 0 && h.get (SEQ_CFG_SUPSEL.nth s) == k
  firstFail [
    firstOf sups (fun k => decide (lo k < hi k)) 0x10 (0x28 + ·),
    firstOf sups (fun k => decide (lo k + 2 * n.get (SUP_CFG_HYS.nth k) < hi k)) 0x11 (0x10 + ·),
    firstOf sups (fun k => n.get (SUP_CFG_ACTION.nth k) != 1 || (decide (1 ≤ n.supInput k) && decide (n.supInput k ≤ 5)))
      0x12 (0x10 + ·),
    firstOf sups (fun k => !named k || n.supInput k == h.supInput k) 0x13 (0x10 + ·)]

def checkSeq (n h : Hub) : Failing :=
  let sup (s : Nat) : Bool :=
    let k := n.get (SEQ_CFG_SUPSEL.nth s)
    n.rail s == 0 || k == 31 || (decide (1 ≤ n.rail s) && decide (n.rail s ≤ 5) && h.supInput k == n.rail s)
  firstFail [
    (h.get SEQ_STAT_STATE == 1, 0x10, 0x05),
    firstOf slots (fun s => n.rail s == 0 || !(slots.any fun t => t != s && n.rail t == n.rail s)) 0x11 (0x10 + ·),
    firstOf slots (fun s => !n.dep s s
        && !(Hub.dependants 16 n (slots.filter fun t => n.dep t s)).contains s) 0x12 (0x50 + ·),
    firstOf slots (fun s => !(slots.any fun t => n.dep s t && n.rail t == 0)) 0x13 (0x10 + ·),
    firstOf slots sup 0x14 (0x10 + ·)]

/-- The entries below LEN of converter k in its staged list. -/
def Hub.listEntries (n : Hub) (k : Nat) : List Nat := (List.range (n.adcLen k)).map (n.scanWord k)

/-- An entry that converter k may hold (13 R351, check LIST_INPUT). -/
def entryOk (p : Part) (k e : Nat) : Bool :=
  match inputOf p (bitsOf (BitVec.ofNat 32 e) 0 8) with
  | none => false
  | some i => i.conv == k && (!(decide (0x40 ≤ e % 256) && decide (e % 256 < 0x80)) || bitsOf (BitVec.ofNat 32 e) 11 2 == 1)

def checkAdc (n : Hub) : Failing :=
  let convs := [0, 1, 2, 3]
  firstFail [
    firstOf convs (fun k => (n.listEntries k).all (entryOk n.part k)) 0x10 (0x0C + ·),
    firstOf convs (fun k => decide (((n.listEntries k).map fun e => 2 ^ (e / 256 % 8)).foldl (· + ·) 0 ≤ 80)) 0x11
      (fun k => 0x40 + 32 * k),
    (decide (16 ≤ n.adcLen 3) && decide (n.adcLen 3 ≤ 64), 0x12, 0x0F)]

/-- The record the CAL window's staged words make (13 R362). -/
def Hub.stagedCal (h : Hub) : CalRec :=
  let ws := (List.range 3).map fun i => h.stagedOver (0x0A09 + i) (nth h.calWindow i 0)
  let masks := (List.range 3).map fun i => ((mapFind h.shadow (0x0A09 + i)).getD {}).mask
  calFromWords (h.calRec (h.get CAL_SEL_INDEX)) masks ws

def checkCal (h : Hub) : Failing :=
  let idx := h.get CAL_SEL_INDEX
  let r := h.stagedCal
  firstFail [
    (decide (0x4000 ≤ r.gain) && decide (r.gain ≤ 0xC000), 0x10, 0x09),
    (h.mea.selAtStage == some idx, 0x11, 0x08),
    (decide (r.tlo < r.thi), 0x12, 0x0B),
    (decide (384 ≤ idx) || idx % 3 == 1 || r.ofs == (h.calRec (midOf idx)).ofs, 0x13, 0x09)]

def checkRtc (n : Hub) : Failing :=
  let some1 (k : Nat) : Bool :=
    let f (x : Fld) : Bool := n.flag (x.nth (2 * k))
    !f RTC_AD_EN || !(f RTC_AD_M_SEC && f RTC_AD_M_MIN && f RTC_AD_M_HOUR && f RTC_AD_M_DAY && f RTC_AD_M_DATE)
  firstFail [firstOf [0, 1] some1 0x10 (fun k => 0x0F + 2 * k)]

/-- The snapshot set the REC page's staged words make of the selected set (20 R513). -/
def Hub.stagedSet (h : Hub) : SnapSet :=
  let s := h.selSet
  let len := bitsOf (h.stagedOver 0x0621 (BitVec.ofNat 32 s.len)) 0 7
  let ws := (List.range 56).filterMap fun i =>
    let w := h.stagedOver (0x0650 + i) (s.word i)
    if w = 0 then none else some (i, w)
  { len := len, words := ws }

def checkRec (n h : Hub) : Failing :=
  let on (j : Nat) : Bool := n.flag (REC_MAP_EN.nth j)
  let code (j : Nat) : Nat := n.get (REC_MAP_CODE.nth j)
  let s := h.stagedSet
  firstFail [
    (h.rcd.selAtStage == some (h.get REC_SETSEL_SET), 0x10, 0x20),
    firstOf (List.range 32) (fun j => !on j
        || !((List.range 32).any fun k => k != j && on k && code k == code j)) 0x11 (0x30 + ·),
    (s.indices.all (fun i => i / 256 != 0x1F), 0x12, 0x21)]

/-- The checks of a page, in rising code. -/
def Hub.checks (h : Hub) (page : Nat) : Failing :=
  let n := h.stagedHub page
  match pageKind h.part page with
  | some .ch => checkCh n h (page - 0x40)
  | some .feed => checkFeed n (page - 0x0E)
  | some .h => checkH n h (page - 0x11)
  | some .chg => checkChg n
  | some .sup => checkSup n h
  | some .seq => checkSeq n h
  | some .adc => checkAdc n
  | some .cal => checkCal h
  | some .rtc => checkRtc n
  | some .recd => checkRec n h
  | some .sec => firstFail
        [(n.get SEC_TRVSRC_SRC == 0 || n.get SEC_TRVSRC_SRC == 2 || n.get SEC_TRVSCALE_SCALE != 0, 0x10, 0x08)]
  | some .gey => firstFail [(decide (n.get GEY_BAND_VBAND < n.get GEY_VXMAX_VX), 0x10, 0x09)]
  | some .tst => firstFail [(decide (n.get TST_SUPCHAT_WIDTH < n.get TST_SUPCHAT_PERIOD), 0x10, 0x0D)]
  | _ => none

/-! ## Effects of a commit that applies -/

/-- A new group frequency: an on-phase in progress ends no later than the tick plus the new on_cyc (05 R151). -/
def Hub.groupFreq (h : Hub) (g : Nat) : Hub :=
  ((List.range 8).map (g + ·)).foldl (fun a n =>
    let c := a.ch n
    if c.onPhase then
      a.setCh n { c with onEnd := min c.onEnd (a.eng 0 + onCyc (a.chPeriod n) c.dutyInUse : Nat) }
    else a) h

/-- What the commit of a page does besides putting its values in force; `h` stands before it, `n` after it. -/
def commitEffects (h n : Hub) (page : Nat) (port : Port) : Hub :=
  match pageKind h.part page with
  | some .ch =>
    let c := page - 0x40
    let moved := h.word (page * 256 + 0x30) != n.word (page * 256 + 0x30)
    let n1 := n.ch! c fun x => { x with
      everyOn := 0, everyOff := 0, tailD := if moved then none else x.tailD, tailT := if moved then none else x.tailT,
      laneHead := if moved then 0 else x.laneHead }
    if h.get (CH_GRP_FREQ.pg c) ≠ n.get (CH_GRP_FREQ.pg c) then n1.groupFreq c else n1
  | some .feed => if page = 0x0E then n.shareSettle else n
  | some .chg => n.chg! fun c => { c with committed := true }
  | some .rtc => n.almCommitted
  | some .recd =>
    (n.nvOther port).rcd! fun r => { r with sets := setNth r.sets (h.get REC_SETSEL_SET) {} h.stagedSet, selAtStage := none }
  | some .cal =>
    let idx := h.get CAL_SEL_INDEX
    let r := h.stagedCal
    (n.setCalRam idx r).mea! fun m => { m with nvq := m.nvq ++ [.commit idx r port], selAtStage := none }
  | some .tst => n.tstActs 0x0D (h.word 0x1E0D) port
  | _ => n

/-- Bytes that an applied staged value rewrites no longer fail (03 R100). (DEDUCED, log entry 17.) -/
def Hub.shadowHeals (h : Hub) (page : Nat) : Hub :=
  h.bad! fun l => l.filter fun b => b.shadow || b.idx / 256 != page ||
    !h.shadow.any fun e => e.1 == b.idx && bitsOf e.2.mask (8 * b.byte) 8 != 0

/-- The staged values of a page are gone. -/
def Hub.dropShadow (h : Hub) (page : Nat) : Hub :=
  (h.shadow! fun m => m.filter fun e => e.1 / 256 != page).bad! fun l => l.filter fun b => b.idx / 256 != page || !b.shadow

/-- The lowest register of a page with a failing staged byte. -/
def Hub.shadowBad (h : Hub) (page : Nat) : Option Nat :=
  (h.bad.filter fun b => b.idx / 256 == page && b.shadow).foldl (fun (o : Option Nat) b =>
    match o with | none => some (b.idx % 256) | some k => some (min k (b.idx % 256))) none

/-- PG_COMMIT of a page. -/
def Hub.setResult (h : Hub) (page code off : Nat) : Hub :=
  ((h.put (PG_COMMIT_RESULT.pg page) code).put (PG_COMMIT_OFFSET.pg page) off).put (PG_COMMIT_FRM.pg page) h.frmNo

/-- A pending commit at its tick (03 R97); OFFSET reads 0 after one that applies, which the rule leaves open.
(DEDUCED, log entry 70.) -/
def Hub.commitPage (h : Hub) (page : Nat) : Hub :=
  let x := h.page page
  if !x.commit then h
  else
    let bad := match h.shadowBad page with | some off => some (0x04, off) | none => h.checks page
    match bad with
    | some f =>
      let h1 := (h.setPage page { x with commit := false, failed := true }).setResult page f.1 f.2
      (h1.evt page 30).record (h.hdrCode page 0xF2) (pageInstance page) sevWARN (payload [(0, 1, f.1), (1, 1, f.2)])
    | none =>
      let n := (((h.stagedHub page).shadowHeals page).dropShadow page).setPage page
        { x with commit := false, failed := false, dirty := false, src := .e }
      (commitEffects h n page x.src).setResult page 0x02 0

/-- Step 2 of P0: every pending page in ascending page number. -/
def Hub.commitAll (h : Hub) : Hub :=
  (h.pages.filter (·.2.commit)).foldl (fun a e => a.commitPage e.1) h

end Sys2Proof.Machine
end

