-- ==== Sys2Proof/Machine/Parity.lean ====
section
/-! DEFINITION. Parity failures of the register file and of the stores, with what each chapter makes of them
(03 R100–R101). -/

namespace Sys2Proof.Machine

/-- Bit mask of the failing bytes of a register, active or staged. -/
def Hub.badMask (h : Hub) (idx : Nat) (shadow : Bool) : Nat :=
  [0, 1, 2, 3].foldl (fun a k => if h.bad.any (fun b => b.idx == idx && b.byte == k && b.shadow == shadow) then a + 2 ^ k
      else a) 0

/-- A failing byte is found, for the first time or again: the flag, and the record of the register; a repeat only adds
to the newest record (03 R100). -/
def Hub.paritySaid (h : Hub) (idx : Nat) (shadow first : Bool) : Hub :=
  let page := idx / 256
  let code := h.hdrCode page 0xF1
  let h1 := h.evt page 31
  let again : Bool := match h1.newestRec with
    | some r => r.code == code && r.inst == pageInstance page
    | none => false
  if first || again then
    h1.record code (pageInstance page) sevFAULT
      (payload [(0, 1, idx % 256), (1, 1, h.badMask idx shadow), (2, 1, boolNat shadow)])
  else h1

/-- A calibration in progress ends with RESULT 6, and one whose record is with the store brings nothing more (13 R368).
(DESIGN CHOICE, log entry 42.) -/
def Hub.fcalFail (h : Hub) : Hub :=
  let void (j : NvJob) : NvJob := match j with | .field _ _ _ _ _ p => .other p | j => j
  if h.mea.fcal.isSome || h.flag CAL_FSTAT_BUSY then
    ((h.put CAL_FSTAT_RESULT 6).put CAL_FSTAT_BUSY 0).mea! fun m => { m with fcal := none, nvq := m.nvq.map void }
  else h

/-- A counter or learned record of channel n restarts at 0 (05 R171, 07 R221). -/
def Hub.cntLost (h : Hub) (n off : Nat) : Hub :=
  (h.setFlag (CH_STAT_CNTLOST.pg n)).report (chPage n) 8 0x1807 n sevWARN [(0, 1, off)]

/-- What a failing active byte brings (03 R101). (DEDUCED, log entry 17.) -/
def Hub.parityActs (h : Hub) (idx : Nat) : Hub :=
  let page := idx / 256
  let off := idx % 256
  match pageKind h.part page with
  | none => h
  | some .dev => h
  | some .ch =>
    let n := page - 0x40
    if (0x1A ≤ off ∧ off ≤ 0x20) ∨ (0x42 ≤ off ∧ off ≤ 0x44)
        then (h.ch! n fun c => { c with cntLost := c.cntLost ++ [off] }).cntLost n off
    else if 0x62 ≤ off ∧ off ≤ 0x65 then
      (h.put (recCount n (if off ≤ 0x63 then 0 else 1)) 0).cntLost n off
    else (h.geyAbort n 3).fence page 1
  | some .clk => if off = 0x09 ∨ off = 0x0E ∨ off = 0x0F then h.fence page 1 else h
  | some .frm =>
    if off = 0x11 then h.frm! fun f => { f with tofsBad := true }
    else if 0x0E ≤ off ∧ off ≤ 0x10 then h
    else h.fence page 1
  | some .irqs => h
  | some .rtc => if 0x08 ≤ off ∧ off ≤ 0x0B then h.osfSet 4 else h
  | some .key => (h.fence page 1).sessionEnd
  | some .adc => ([0, 1, 2, 3].foldl (fun a k => if a.listBad k then a.adcFence k else a) h).fence page 1
  | some .cal => (if off = 0x08 ∨ (0x0D ≤ off ∧ off ≤ 0x10) then h.fcalFail else h).fence page 1
  | some .feed => (h.fence page 1).feedParity (page - 0x0E)
  | some .chg => (h.fence page 1).chgFenced
  | some .seq => (h.fence page 1).seqStop
  | some .gey => (h.geyAbortAll 5).fence page 1
  | some .snap => (h.fence page 1).snapDiscard
  | some .tst => (h.fence page 1).tst! fun t => { t with clearDue := some 4 }
  | some _ => h.fence page 1

/-- PARITY_ERROR in a byte of the register file. (DEDUCED, log entry 17.) -/
def Hub.parityByte (h : Hub) (idx byte : Nat) (shadow : Bool) : Hub :=
  if (findReg h.part idx).isNone then h
  else
    let first := !h.bad.any fun b => b.idx == idx && b.shadow == shadow
    let b : BadByte := ⟨idx, byte, shadow⟩
    let h1 := if h.bad.contains b then h else h.bad! (b :: ·)
    let h2 := h1.paritySaid idx shadow first
    if shadow || !first then h2 else h2.parityActs idx

/-- PARITY_ERROR (03 R100, 06 R192, 07 R224, 13 R367–R368). -/
def Hub.parityError (h : Hub) (site : ParitySite) : Hub :=
  match site with
  | .active idx byte => h.parityByte idx.toNat byte.toNat false
  | .shadow idx byte => h.parityByte idx.toNat byte.toNat true
  | .lane ch n =>
    let k := ch.toNat
    match (h.ch k).lane[n.toNat]? with
    | some e => h.ch! k fun c => { c with lane := setNth c.lane n.toNat e { e with bad := true } }
    | none => h
  | .calRec n reloads => if n.toNat < 528 then h.calParity n.toNat reloads else h
  | .bank b w => if w.toNat < 1088 then h.bankParity b.toNat w.toNat else h
  | .geySample e n => if n.toNat < (h.engine e.toNat).samples.length then h.bufParity e.toNat n.toNat else h

/-- Bytes that the tick rewrites: lost counters restart at 0, and OPH and PCC are reloaded (02 R74, 05 R171).
(DEDUCED, log entry 17.) -/
def Hub.parityTick (h : Hub) : Hub :=
  h.bad! fun l => l.filter fun b =>
      !((decide (0x4000 ≤ b.idx) && decide (0x1A ≤ b.idx % 256) && decide (b.idx % 256 ≤ 0x20))
        || (decide (0x4000 ≤ b.idx) && decide (0x42 ≤ b.idx % 256) && decide (b.idx % 256 ≤ 0x44))
        || (decide (0x4000 ≤ b.idx) && decide (0x62 ≤ b.idx % 256) && decide (b.idx % 256 ≤ 0x65))
        || (decide (0x020E ≤ b.idx) && decide (b.idx ≤ 0x0210))) || b.shadow

end Sys2Proof.Machine
end

