-- ==== Sys2Proof/Machine/Requests.lean ====
section
/-! DEFINITION. Requests for a mode: the conditions of 04 R110 and R131, judged when the write arrives and again at
the tick, and the conditions of other blocks that a write must meet when it arrives. -/

namespace Sys2Proof.Machine


/-- The mode by which an access is judged: NAP counts as READY (04 R545). -/
def Hub.judgedMode (h : Hub) : Nat := if h.mode = mNAP then mREADY else h.mode

/-- A hub whose UP port met role UPSTREAM is a follower; every other hub decides string modes for itself (14 R401). -/
abbrev Hub.isFollower (h : Hub) : Bool := h.get STR_STAT_ROLE == 2

/-- TRANSPORT# is debounced low (01 R39). -/
def Hub.transportLow (h : Hub) : Bool := !h.flag DEV_STRAPS_TRANSPORT

/-- The status of a mode request (04 R110), 0 for one that is accepted. -/
def Hub.modeReqStatus (h : Hub) (req : Nat) : Nat :=
  let m := h.judgedMode
  let fol := h.isFollower
  match req with
  | 3 =>
    if m = mREADY then 0
    else if m ≠ mFIELD ∧ m ≠ mTRANSPORT ∧ m ≠ mSERVICE then 0x05
    else if fol ∧ m ≠ mSERVICE then 0x05
    else if m = mTRANSPORT ∧ h.transportLow then 0x0B
    else if m = mSERVICE ∧ h.md.serviceByPhantom then 0x0B
    else 0
  | 4 =>
    if m = mFIELD then 0
    else if fol ∨ m ≠ mREADY then 0x05
    else if h.transportLow ∨ h.link.reps.any (·.service) then 0x0B
    else 0
  | 6 =>
    if m = mTRANSPORT then 0
    else if fol ∨ (m ≠ mREADY ∧ m ≠ mFIELD) then 0x05
    else 0
  | 7 =>
    if m = mSERVICE then 0
    else if m ≠ mREADY then 0x05
    else if fol ∧ h.md.stringMode ≠ mREADY then 0x0B
    else if !h.flag KEY_STAT_SESSION then 0x0F
    else 0
  | _ => 0x04

/-- A feed stands above 12 V, by its last reading (04 R131). -/
def Hub.feedAbove12 (h : Hub) : Bool := decide (1200 < h.geti FEED_V_V) || decide (1200 < h.geti (FEED_V_V.pg 1))

/-- The status of the keyed SHIP entry (04 R131). -/
def Hub.shipStatus (h : Hub) : Nat :=
  if h.judgedMode = mREADY ∧ !h.feedAbove12 ∧ !h.flag STR_PORTUP_PHANTOM then 0 else 0x0B

/-- Staged writes and commits of the CAL page, and writes of the TST page, need a session (13 R362, 22 R528). -/
def Hub.sessionIn (h : Hub) (mode : Nat) : Bool := h.judgedMode == mode && h.flag KEY_STAT_SESSION

/-- A non-volatile write that port W began is in progress: its busy window (16 R437). (DESIGN CHOICE, log entry 42.) -/
def Hub.nvBusyW (h : Hub) : Bool := h.mea.nvq.any fun j =>
  match j with
  | .field _ _ _ _ _ p => p == .w
  | .commit _ _ p => p == .w
  | .key s => h.keys.progBusy.any fun e => e.1 == s && e.2 == .w
  | .other p => p == .w

/-- A busy window of the two-wire port is open; for 500 µs after one the hub is never busy (16 R437–R438). -/
def Hub.twbBusy (h : Hub) : Bool := h.cfgSafe TWB_STAT_QUIET == 0 && (h.twb.commit.isSome || h.nvBusyW)

/-- A write of port W that would open a busy window comes within 500 µs of one (16 R438). -/
def Hub.quietRefuses (h : Hub) (p : Port) : Bool := p == .w && h.cfgSafe TWB_STAT_QUIET == 1

/-- Writes that set or clear an enable: the status of 03 R88, 11 R299 and 12 R328; `rel`: the same write carries REL = 1,
which acts before EN (R87), and is judged as the release. (DEDUCED, log entry 12; DEDUCED, log entry 13.) -/
def Hub.enStatus (h : Hub) (page : Nat) (on rel : Bool) : Nat :=
  if on ∧ h.fenced page ∧ !rel then 0x0D
  else if h.seqHolds page then 0x05
  else if page = 0x10 ∧ on ∧ !h.chg.committed then 0x0B
  else 0

end Sys2Proof.Machine
end

