-- ==== Sys2Proof/Machine/Access.lean ====
section
/-! DEFINITION. Register accesses from the two ports (03 R79–R96): reads, and writes that are refused with a status of
R82 or accepted to act at once, at the next tick, or at a commit. -/

namespace Sys2Proof.Machine

/-! ## Values a field accepts -/

/-- DEDUCED, log entry 16. -/
def Lim.ok (p : Part) (w : Nat) (lim : Lim) (v : Nat) : Bool :=
  match lim with
  | .any => true
  | .span lo hi => decide (lo ≤ v) && decide (v ≤ hi)
  | .signed lo hi => decide (lo ≤ Machine.signed w v) && decide (Machine.signed w v ≤ hi)
  | .zeroOr lo hi => v == 0 || (decide (lo ≤ v) && decide (v ≤ hi))
  | .rail => decide (v ≤ 5) || (decide (64 ≤ v) && decide (v - 64 < p.channels))
  | .supsel => decide (v < 24) || v == 31
  | .input => (inputOf p v).isSome
  | .scanEntry => decide (v / 256 % 8 ≤ 4) && decide (v / 2048 % 4 ≤ 2) && (inputOf p (v % 256)).isSome
  | .calIndex =>
    decide (512 ≤ v) && decide (v < 528) || decide (v < 192) && decide (v / 3 < p.channels)
      || decide (192 ≤ v) && decide (v < 384) && decide ((v - 192) / 3 < p.channels)
      || decide (384 ≤ v) && decide (v < 512) && decide ((v - 384) % 64 < p.channels)
  | .geyCh => decide (v < p.channels)
  | .pktType => v == 0 || [0x01, 0x02, 0x10, 0x11, 0x12, 0x13, 0x20, 0x21, 0x30, 0x38, 0x39, 0x40, 0x50, 0x51,
        0x52].contains v

/-! ## Parts of a write -/

/-- The bits of the enabled bytes. -/
def byteMask (be : Nat) : Word :=
  BitVec.ofNat 32 ((List.range 4).foldl (fun a n => if be.testBit n then a + 255 * 256 ^ n else a) 0)

def FldDef.mask (f : FldDef) : Word := BitVec.ofNat 32 ((2 ^ f.w - 1) * 2 ^ f.lo)
def FldDef.writable (f : FldDef) : Bool := f.acc == .rw || f.acc == .w1c || f.acc == .wo || f.acc == .rwo

/-- The word a write gives, from the value before it. -/
def writeOver (old val : Word) (be : Nat) : Word := (old &&& ~~~ byteMask be) ||| (val &&& byteMask be)

/-- The value of a field that a write would make: bytes not enabled keep their present value, for a Staged field that
of the shadow; a write-only field has none (03 R83). -/
def Hub.fieldNew (h : Hub) (p : Port) (idx be : Nat) (val : Word) (f : FldDef) : Nat :=
  let old := if f.acc == .wo then 0
    else if f.eff == .staged then h.stagedOver idx (h.active p idx)
    else h.active p idx
  bitsOf (writeOver old val be) f.lo f.w

/-- States in which an Idle field may be written (03 R93; 18 R477: the watchdog also in OPEN, WDT_CTL also in FOLLOW;
19 R481: the clock only HALTED; 02 R69: the frequency meter while it does not measure). -/
def Hub.idleNow (h : Hub) (idx : Nat) : Bool :=
  let page := idx / 256
  let st := h.pgState page
  match page with
  | 0x01 => !h.flag CLK_FMCTL_BUSY
  | 0x04 => st == 1 || st == 3 || h.wdtOpenDue || (st == 4 && idx == WDT_CTL_FOLLOW.idx)
  | 0x05 => st == 1
  | _ => decide (st ≤ 1)

/-- The status of one field of a write, 0 where the field accepts it or is not touched.  Of several refusals of one field
R82–R83 name no first: the value comes before the lock, the commit and the owner, and PARTIAL before ONCE_SET (R94).
(DEDUCED, log entry 70.) -/
def Hub.fieldStatus (h : Hub) (p : Port) (idx be : Nat) (val : Word) (f : FldDef) : Nat :=
  let x := h.page (idx / 256)
  if !f.writable || f.mask &&& byteMask be == 0 then 0
  else if !f.lim.ok h.part f.w (h.fieldNew p idx be val f) then 0x04
  else if (f.eff == .staged || f.eff == .idle || f.eff == .once) && h.flag (PG_LOCK_CFG.pg (idx / 256)) then 0x08
  else if f.eff == .staged && x.commit then 0x09
  else if f.eff == .staged && x.dirty && x.src != p then 0x0A
  else if f.eff == .idle && !h.idleNow idx then 0x05
  else if f.eff == .once && f.mask &&& byteMask be != f.mask then 0x07
  else if f.eff == .once && h.once.contains idx then 0x06
  else 0

/-- The first refusal of a list of statuses. -/
def firstStatus : List Nat → Nat
  | [] => 0
  | s :: l => if s = 0 then firstStatus l else s

/-- The refusal of the lowest bit among refusals with their bits, 0 for none (03 R83). -/
def lowestStatus (l : List (Nat × Nat)) : Nat :=
  (l.foldl (fun (a : Nat × Nat) e => if e.2 ≠ 0 ∧ (a.2 = 0 ∨ e.1 < a.1) then e else a) (0, 0)).2

/-- What each field of a write answers, with the field's first bit. -/
def Hub.fieldsStatus (h : Hub) (p : Port) (idx be : Nat) (val : Word) (d : RegDef) : List (Nat × Nat) :=
  d.fields.map fun f => (f.lo, h.fieldStatus p idx be val f)

/-! ## Refusals (03 R84) -/

def Hub.pgErr (h : Hub) (page code off : Nat) : Hub :=
  ((h.put (PG_ERR_CODE.pg page) code).put (PG_ERR_OFFSET.pg page) off).incSat (PG_ERR_COUNT.pg page)

/-- A refused write, or a read that meets a parity error; an absent page is logged by DEV (03 R79, R84). -/
def Hub.refuse (h : Hub) (idx code : Nat) : Hub × Nat :=
  match pageKind h.part (idx / 256) with
  | none => (h.pgErr 0 code (idx / 256), code)
  | some _ => (h.pgErr (idx / 256) code (idx % 256), code)

/-! ## Reads -/

/-- Fields that a read clears go to 0 (00 R8). -/
def Hub.readClears (h : Hub) (idx : Nat) (d : RegDef) : Hub :=
  let m := d.mask (·.acc == .rc)
  if m = 0 then h else h.setWord idx (h.word idx &&& ~~~ m)

/-- A read: the hub after it, the status and the data (03 R79–R80, R82, R100). -/
def Hub.read (h : Hub) (p : Port) (idx : Nat) : Hub × Nat × Word :=
  match pageKind h.part (idx / 256) with
  | none => (h, 0x00, 0)
  | some _ =>
    match findReg h.part idx with
    | none => (h, 0x02, 0)
    | some d =>
      if h.byteBad p idx then
        let sh := !h.bad.any fun b => b.idx == homeIdx idx && !b.shadow
        (((h.paritySaid (homeIdx idx) sh false).refuse idx 0x0C).1, 0x0C, 0)
      else
        let h1 := if idx = RTC_TIME_SEC.idx then h.rtcCapture p else h
        (h1.readClears idx d, 0x00, h.shown p idx)

/-! ## Effects of an accepted write -/

/-- Bits that await the tick (03 R92); of two writes the later stands (R81). (DEDUCED, log entry 10; DEDUCED,
log entry 11.) -/
def Hub.pendPut (h : Hub) (p : Port) (idx : Nat) (mask val clr : Word) : Hub :=
  if mask = 0 ∧ clr = 0 then h
  else
    let x := (mapFind h.pend idx).getD {}
    let y : PendW := ⟨x.mask ||| mask, (x.val &&& ~~~ mask) ||| (val &&& mask), x.clr ||| clr, p⟩
    h.pend! fun m => mapPut m idx y

/-- Bytes a write sets hold no error (03 R100). (DEDUCED, log entry 17.) -/
def Hub.heal (h : Hub) (idx : Nat) (m : Word) (shadow : Bool) : Hub :=
  if h.bad.isEmpty then h
      else h.bad! fun l => l.filter fun b => !(b.idx == idx && b.shadow == shadow && bitsOf m (8 * b.byte) 8 != 0)

/-- Staged bits go to the shadow (03 R95). -/
def Hub.stage (h : Hub) (p : Port) (idx : Nat) (mask val : Word) : Hub :=
  if mask = 0 then h
  else
    let page := idx / 256
    let x := h.page page
    let s := (mapFind h.shadow idx).getD {}
    let y : Shadow := ⟨s.mask ||| mask, (s.val &&& ~~~ mask) ||| (val &&& mask)⟩
    let h1 := h.shadow! fun m => mapPut m idx y
    let h2 := h1.setPage page { x with dirty := true, src := p }
    if x.dirty then h2
    else if page = pgCAL then h2.mea! fun m => { m with selAtStage := some (h.get CAL_SEL_INDEX) }
    else if page = pgREC then h2.rcd! fun r => { r with selAtStage := some (h.get REC_SETSEL_SET) }
    else h2

/-- The bits of a register that a write of the enabled bytes sets in its active value: bytes that hold a field the write
sets, or no field (03 R100), and every byte of an interrupt source (17 R460). -/
def RegDef.healMask (d : RegDef) (idx be : Nat) : Word :=
  let set := d.mask fun f => f.writable && f.eff != .staged
  let any := d.mask fun _ => true
  BitVec.ofNat 32 ((List.range 4).foldl (fun a n =>
    if be.testBit n ∧ (bitsOf set (8 * n) 8 ≠ 0 ∨ bitsOf any (8 * n) 8 = 0 ∨ 0x20 ≤ idx / 256 ∧ idx / 256 < 0x24
        ∧ 8 ≤ idx % 256) then a + 255 * 256 ^ n else a) 0)

/-- An accepted write takes its course by the classes of its fields. (DEDUCED, log entry 10.) -/
def Hub.accept (h : Hub) (p : Port) (idx be : Nat) (val : Word) (d : RegDef) : Hub :=
  let bm := byteMask be
  let staged := d.mask (fun f => f.writable && f.eff == .staged) &&& bm
  let plain := d.mask (fun f => (f.acc == .rw || f.acc == .wo) && f.eff != .staged && f.eff != .none) &&& bm
  let once := d.mask (fun f => f.acc == .rwo && f.eff == .once) &&& bm
  let sets := d.mask (fun f => f.acc == .rwo && f.eff == .live) &&& bm &&& val
  let clr := d.mask (·.acc == .w1c) &&& bm &&& val
  let h1 := (h.heal idx staged true).stage p idx staged val
  let h2 := h1.pendPut p idx (plain ||| once ||| sets) val clr
  if once = 0 then h2 else h2.once! fun l => if l.contains idx then l else idx :: l

/-! ## Registers with rules of their own -/

/-- PG_CTL and the enables that stand for its EN (03 R85–R88, 05 R138, 11 R299). -/
def Hub.writeEn (h : Hub) (page off : Nat) (on : Bool) : Hub :=
  let x := h.page page
  h.setPage page { x with en := some (on, off) }

/-- Whether SRST of a page may act (03 R87 and the chapters named at `PageKind.enFixed`; 08 R252 and 09 R275: only
while DISABLED).  Where a page has no soft reset (READ_ONLY) and PG_LOCK.RST is set besides, the lock answers.
(DEDUCED, log entry 70.) -/
def Hub.srstStatus (h : Hub) (page : Nat) : Nat :=
  if h.flag (PG_LOCK_RST.pg page) then 0x08
  else match pageKind h.part page with
    | some .tst => 0
    | some .feed => if h.pgState page = 0 then 0 else 0x05
    | some .lb => if h.pgState page = 0 then 0 else 0x05
    | some .h => if h.pgState page = 0 then 0 else 0x05
    | some k => if k.enFixed then 0x03 else 0
    | none => 0

def Hub.pgCtlStatus (h : Hub) (page be : Nat) (val : Word) (fixed : Bool) : Nat :=
  if !be.testBit 0 then 0
  else
    let key := if be.testBit 3 then bitsOf val 24 8 else 0
    let rel := bitsOf val 2 1 == 1
    firstStatus [
      if fixed then 0 else h.enStatus page (bitsOf val 0 1 == 1) rel,
      if !rel then 0 else if key ≠ 0xFE then 0x0E else if h.fenced page && !h.allCleared page then 0x0D else 0,
      if bitsOf val 3 1 = 1 then h.srstStatus page else 0]

/-- DEDUCED, log entry 12. -/
def Hub.writePgCtl (h : Hub) (p : Port) (page be : Nat) (val : Word) : Hub × Nat :=
  let fixed := match pageKind h.part page with | some k => k.enFixed | none => true
  let st := h.pgCtlStatus page be val fixed
  if st ≠ 0 then h.refuse (page * 256 + 1) st
  else if !be.testBit 0 then (h, 0)
  else
    let x := h.page page
    let view := bitsOf val 1 1 == 1
    let srst := bitsOf val 3 1 == 1
    ((h.views! fun v => match p with | .e => { v with nextE := view } | .w => { v with nextW := view }).setPage page { x with
      rel := bitsOf val 2 1 == 1, srst := if srst then some p else none,
      en := if fixed then none else if srst then x.en else some (bitsOf val 0 1 == 1, 1) }, 0)

/-- PG_COMMIT (03 R95–R96). -/
def Hub.commitStatus (h : Hub) (p : Port) (page be : Nat) (val : Word) : Nat :=
  let x := h.page page
  if writeOver 0 val be ≠ 1 then 0x04
  else if page = pgCAL ∧ !h.sessionIn mSERVICE then 0x0F
  else if x.dirty ∧ x.src ≠ p then 0x0A
  else if x.dirty ∧ !x.commit ∧ h.quietRefuses p then 0x05
  else 0

def Hub.writeCommit (h : Hub) (p : Port) (page be : Nat) (val : Word) : Hub × Nat :=
  let x := h.page page
  let st := h.commitStatus p page be val
  if st ≠ 0 then h.refuse (page * 256 + 5) st
  else if x.commit then (h, 0)
  else if x.dirty then
    let h1 := (h.setPage page { x with commit := true }).put (PG_COMMIT_RESULT.pg page) 1
    -- of port W it opens a busy window (16 R437)
    (if p = .w then h1.twb! fun t => { t with commit := some page } else h1, 0)
  else (h.put (PG_COMMIT_RESULT.pg page) 3, 0)

/-- Checks that belong to a whole page and come before those of its fields (13 R362, 22 R528). -/
def Hub.pageStatus (h : Hub) (idx be : Nat) (d : RegDef) : Nat :=
  match idx / 256 with
  | 0x1E => if !h.flag KEY_STAT_SESSION then 0x0F else if h.judgedMode ≠ mSERVICE then 0x05 else 0
  | 0x0A =>
    if d.mask (fun f => f.writable && f.eff == .staged) &&& byteMask be != 0 && !h.sessionIn mSERVICE then 0x0F else 0
  | _ => 0

/-- Checks that a chapter adds for one register, each with the first bit of the field it belongs to; `new` is the word as it
would read, `w` the written bits alone. -/
def Hub.special (h : Hub) (p : Port) (idx : Nat) (be : Nat) (w new : Word) : List (Nat × Nat) :=
  let one (bit st : Nat) : List (Nat × Nat) := [(bit, st)]
  if idx = DEV_PROFILE_PROFILE.idx then
    one 0 (if be.testBit 0 ∧ h.judgedMode ≠ mREADY ∧ h.judgedMode ≠ mSERVICE then 0x05 else 0)
  else if idx = DEV_MODEREQ_REQ.idx then one 0 (if be.testBit 0 then h.modeReqStatus (bitsOf new 0 3) else 0)
  else if idx = DEV_SHIP_KEY.idx then one 0 (if w ≠ 0x5B1D0A7E then 0x0E else h.shipStatus)
  else if idx = CLK_SEL_PLLREF.idx then
    let n := bitsOf new 0 3
    one 0 (if be.testBit 0 ∧ n ≠ h.get CLK_STAT_PLLREF_ACT ∧ !h.refOk n then 0x0B else 0)
  else if idx = CLK_FMCTL_START.idx then one 16 (if bitsOf w 16 1 = 1 ∧ h.flag CLK_FMCTL_BUSY then 0x05 else 0)
  else if idx = RTC_CTL_HALT.idx then
    let halt := bitsOf new 0 1 == 1
    let d := h.newWord RTC_DATE_DATE.idx
    one 0 (if !be.testBit 0 then 0
      else if halt != h.flag RTC_CTL_HALT && h.flag RTC_STAT_SLAVED then 0x05
      else if !halt && h.flag RTC_CTL_HALT && !dateOk (bitsOf d 0 5) (bitsOf d 8 4) (bitsOf d 16 7) then 0x04
      else 0)
  else if idx = SEQ_CMD_CMD.idx then one 0 (if h.fenced pgSEQ then 0x0D else 0)
  else if idx / 256 = pgSUP ∧ 0x10 ≤ idx % 256 ∧ idx % 256 < 0x28 then
    one 0 (if be.testBit 0 ∧ bitsOf new 0 1 = 1 ∧ h.supInput (idx % 256 - 0x10) = 0 then 0x0B else 0)
  else if idx = LB_SYNC_SRC.idx then
    let f := bitsOf new 24 8
    one 24 (if bitsOf new 0 2 = 1 ∧ f ≠ 25 ∧ f ≠ 32 ∧ f ≠ 40 ∧ f ≠ 50 then 0x04 else 0)
  else if idx = STR_CTL_REENUM.idx then
    one 0 (if bitsOf w 0 1 = 0 then 0 else if h.fenced 0x0C then 0x0D else if h.md.stringMode ≠ mREADY then 0x05 else 0)
  else if idx = CAL_FCMD_GO.idx then
    if bitsOf w 16 1 = 0 then []
    else [
      (0, if inputOf h.part (bitsOf new 0 8) == some .ref then 0x04 else 0),
      (8, if bitsOf new 8 2 == 1 && (inputOf h.part (bitsOf new 0 8)).any (·.zeroKey.isSome) then 0x04 else 0),
      (16, if !h.fcalMode ∧ h.judgedMode ≠ mREADY then 0x05
        else if h.mea.fcal.isSome ∨ h.flag CAL_FSTAT_BUSY ∨ h.quietRefuses p then 0x05 else 0)]
  else if idx = ADC_HREQ_GO.idx then one 15 (if bitsOf w 15 1 = 1 ∧ (h.host p).busy then 0x05 else 0)
  else []

/-- WDT_CHECKIN is judged at once (18 R464–R466). -/
def Hub.writeCheckin (h : Hub) (be : Nat) (val : Word) : Hub × Nat :=
  let r := h.checkin be val.toNat
  if r.2 = 0 then r else r.1.refuse WDT_CHECKIN_KEY.idx r.2

/-- SEC_APP1: the entry is appended at once (06 R191). -/
def Hub.writeApp1 (h : Hub) (p : Port) (w : Word) : Hub :=
  let e : Entry := { w0 := match p with | .e => h.sec.app0E | .w => h.sec.app0W, w1 := w }
  let r := h.appendEntry e
  let free := if e.chan < h.nch then r.1.laneFree e.chan else 0
  let res := BitVec.ofNat 32 (r.2 + e.chan * 2 ^ 8 + free * 2 ^ 16)
  r.1.sec! fun x => match p with | .e => { x with appresE := res } | .w => { x with appresW := res }

/-- KEY_CTL (20 R505–R510): OP above 2 comes first (R508), then the fields from bit 0 on (03 R83); AUTH and PROG are taken
at once, CHAL and ENDSESS at the tick. (DEDUCED, log entry 44.) -/
def Hub.writeKeyCtl (h : Hub) (p : Port) (be : Nat) (w : Word) : Hub × Nat :=
  let new := writeOver (h.newWord KEY_CTL_OP.idx) w be
  let slot := bitsOf new 4 2
  let op := bitsOf new 8 8
  let first :=
    if 2 < op then 0x04
    else if h.fenced pgKEY then 0x0D
    else if bitsOf w 0 1 = 1 ∧ h.flag KEY_STAT_LOCKOUT then 0x05
    else 0
  let no (a : Hub) (st : Nat) : Hub × Nat := a.refuse KEY_CTL_OP.idx st
  if first ≠ 0 then no h first
  else
    let a := if bitsOf w 1 1 = 1 then h.authWrite slot op p else (h, 0)
    if a.2 ≠ 0 then no a.1 a.2
    else
      let b := if bitsOf w 2 1 = 1 then a.1.progWrite slot p else (a.1, 0)
      if b.2 ≠ 0 then no h b.2
      else if (bitsOf w 1 1 = 1 ∨ bitsOf w 2 1 = 1) ∧ h.quietRefuses p then no h 0x05
      else if 2 ≤ slot then no h 0x04
      else (b.1.pendPut p KEY_CTL_OP.idx (byteMask be &&& 0xFF39) w 0, 0)

/-- What an accepted write does, register by register. (DEDUCED, log entry 10.) -/
def Hub.acts (h : Hub) (p : Port) (idx be : Nat) (val : Word) (d : RegDef) : Hub × Nat :=
  let w := writeOver 0 val be
  if idx = SEC_APP0_W0.idx then
    (h.sec! fun x => match p with
      | .e => { x with app0E := writeOver x.app0E val be }
      | .w => { x with app0W := writeOver x.app0W val be }, 0)
  else if idx = SEC_APP1_W1.idx then (h.writeApp1 p w, 0)
  -- of a mode request and the keyed SHIP entry the later stands (04 R109, R111)
  else if idx = DEV_MODEREQ_REQ.idx ∧ be.testBit 0 then
    ((h.accept p idx be val d).md! fun m => { m with req := some (.mode (bitsOf val 0 3)) }, 0)
  else if idx = DEV_SHIP_KEY.idx then (h.md! fun m => { m with req := some .ship }, 0)
  else if idx = ADC_HREQ_GO.idx then
    (h.host! p fun r =>
      { r with next := some (writeOver (r.next.getD r.req) val be &&& d.mask (·.writable)) }, 0)
  else if idx = ADC_HRES_DONE.idx then
    (if bitsOf w 16 1 = 1 then h.host! p fun r => { r with clr := true } else h, 0)
  else if idx / 256 = 0x10 ∧ idx % 256 = 0x08 ∨ 0x40 ≤ idx / 256 ∧ idx % 256 = 0x08 then
    let h1 := h.accept p idx be val { d with fields := d.fields.filter fun f => f.lo != 0 }
    (if be.testBit 0 then h1.writeEn (idx / 256) (idx % 256) (bitsOf val 0 1 == 1) else h1, 0)
  else if idx = CAL_FCMD_GO.idx then
    let new := writeOver (h.newWord idx) val be
    let h1 := h.accept p idx be val d
    (if bitsOf w 16 1 = 1 then
        let f (t : Nat) : FieldCal := { input := bitsOf new 0 8, kind := bitsOf new 8 2, port := p,
                                        codes := (List.range 16).map fun k => (Config.calCode t k).toNat }
        h1.mea! fun m => { m with fcal := some (f m.ticks) }
      -- a later write without GO takes an earlier one of the same frame back
      else if be.testBit 2 then h1.mea! fun m => { m with fcal := m.fcal.filter (·.started) }
      else h1, 0)
  else (h.accept p idx be val d, 0)

/-- A write of a register with its own rules or by the classes of its fields. -/
def Hub.writeReg (h : Hub) (p : Port) (idx be : Nat) (val : Word) (d : RegDef) : Hub × Nat :=
  let page := idx / 256
  let w := writeOver 0 val be
  let en : Bool := (page == 0x10 || decide (0x40 ≤ page)) && idx % 256 == 8 && be.testBit 0
  let pre := h.pageStatus idx be d
  if pre ≠ 0 then h.refuse idx pre
  else if idx % 256 = 1 then h.writePgCtl p page be val
  else if idx % 256 = 5 then h.writeCommit p page be val
  else if idx = KEY_CTL_OP.idx then h.writeKeyCtl p be w
  else if idx = WDT_CHECKIN_KEY.idx then h.writeCheckin be val
  else
    let st := lowestStatus (h.fieldsStatus p idx be val d
      ++ (0, if en then h.enStatus page (bitsOf val 0 1 == 1) false else 0)
        :: h.special p idx be w (writeOver (h.newWord idx) val be))
    if st = 0x0B ∧ idx = CLK_SEL_PLLREF.idx then
      let r := h.refuse idx st
      (r.1.switchRefused (bitsOf val 0 3), r.2)
    else if st ≠ 0 then h.refuse idx st
    else h.acts p idx be val d

/-- A write with byte enables: the hub after it and the status of 03 R82 (R79–R84, R88, R92–R96).  An accepted one leaves no
error in the bytes it sets (R100). (DEDUCED, log entry 17.) -/
def Hub.write (h : Hub) (p : Port) (idx be : Nat) (val : Word) : Hub × Nat :=
  match pageKind h.part (idx / 256) with
  | none => h.refuse idx 0x01
  | some _ =>
    match findReg h.part idx with
    | none => h.refuse idx 0x02
    | some d =>
      if !d.fields.any (·.writable) || homeIdx idx != idx then h.refuse idx 0x03
      else
        let r := h.writeReg p idx be val d
        if r.2 = 0 then (r.1.heal idx (if idx % 256 = 5 then byteMask be else d.healMask idx be) false, 0) else r

end Sys2Proof.Machine
end

