-- ==== Sys2Proof/Machine/Result.lean ====
section
/-! DEFINITION. How a command's effect on the hub becomes the answer of exec: every command ends in a next
state, and a hub whose logic has no power takes no notice of it (04 R108, 20 R499). -/

namespace Sys2Proof.Machine

/-- The answer type of exec. -/
abbrev Answer := Host.Outcome State Fault Refusal

/-- The effect on the hub, whatever its power. -/
def State.updAny (s : State) (f : Hub → Hub) : Answer := .next { s with hub := f s.hub }

/-- The effect on a running hub; without logic power nothing happens. (DESIGN CHOICE, log entry 6.) -/
def State.upd (s : State) (f : Hub → Hub) : Answer := if s.hub.running then s.updAny f else .next s

/-- The effect when the condition of the event holds; an event that is not due changes nothing.
(DESIGN CHOICE, log entry 5.) -/
def State.when (s : State) (c : Bool) (f : Hub → Hub) : Answer := if c then s.upd f else .next s

end Sys2Proof.Machine
end

