-- ==== Sys2Proof/Machine/StateAccess.lean ====
section
/-! DEFINITION. Register accesses of the whole block: `Hub.read` and `Hub.write`, and the registers of the interrupt
controller and of the two-wire port that its stacks show (16 R439, 17 R453–R454, R457, R461). -/

namespace Sys2Proof.Machine

/-- The ATTN word (16 R439). -/
def State.twbAttn (s : State) : Word :=
  let v := match s.presents .w with
    | none => 0
    | some v => v + 2 ^ 8 + s.hub.srcPrio v * 2 ^ 16
  BitVec.ofNat 32 (v + boolNat s.hub.twb.tmo * 2 ^ 24 + boolNat s.hub.twb.pecerr * 2 ^ 25 + s.hub.mode * 2 ^ 27)

/-- Attention that the controller has not seen (16 R439). -/
def State.twbUnseen (s : State) : Bool :=
  s.hub.twb.fresh || match s.presents .w with
    | none => false
    | some v => s.hub.twb.seen != some v || s.hub.twb.reminded

/-- ALERT# is asserted as soon as attention is unseen while it is the way in use (16 R440, R443); the present attention is
noted before anything can take it away. -/
def State.twbSettle (s : State) : State :=
  let un := s.twbUnseen
  let gone := (s.presents .w).isNone
  let was := s.hub.flag TWB_STAT_UNSEEN
  let asserts := un && s.hub.flag TWB_STAT_ALERTMODE && !s.hub.flag TWB_STAT_ALERT
  let h1 := s.hub.putb TWB_STAT_UNSEEN un
  let h2 := if asserts then h1.put TWB_STAT_ALERT 1 else h1
  { s with hub := h2.twb! fun t => { t with
      seen := if gone then none else t.seen, reminded := t.reminded && !gone, araWon := t.araWon && !asserts,
      pulsed := t.pulsed && !(un && (!was || decide ((s.presents .w).isSome ∧ t.pulseVec ≠ some (s.presents .w)))) } }

/-- TWB_STAT (16 R447). -/
def State.twbStat (s : State) : Word := s.twbSettle.hub.word TWB_STAT_ADDR.idx

/-- Both stacks are empty. -/
def State.irqIdle (s : State) : Bool := s.irq.stkE.isEmpty && s.irq.stkW.isEmpty

/-- Registers that the stacks show. -/
def State.stackShown (s : State) (idx : Nat) : Option Word :=
  match idx with
  | 0x0302 => some (s.hub.pgStatWith 0x03 (if s.irqIdle then 1 else 2))
  | 0x030B => some (s.peekWord .e)
  | 0x0311 => some (s.peekWord .w)
  | 0x030C => some (s.stackWord .e 0)
  | 0x0312 => some (s.stackWord .w 0)
  | 0x030D => some (s.stackWord .e 1)
  | 0x0313 => some (s.stackWord .w 1)
  | 0x030E => some (BitVec.ofNat 32 (s.irq.queued .e))
  | 0x0314 => some (BitVec.ofNat 32 (s.irq.queued .w))
  | 0x0B09 => some s.twbStat
  | 0x0B0A => some s.twbAttn
  | _ =>
    if 0x0320 ≤ idx ∧ idx < 0x0328 then some (s.hub.pendWord (idx - 0x0320))
    else none

/-- A read of the whole block: the state after it, the status and the data. -/
def State.read (s : State) (p : Port) (idx : Nat) : State × Nat × Word :=
  let r := s.hub.read p idx
  -- an acknowledge goes on where the register fails parity (17 R460)
  if idx = IRQ_ACKE_VECTOR.idx then
    let a := (State.twbSettle { s with hub := r.1 }).ackRead .e
    (a.1.twbSettle, 0, a.2)
  else if idx = IRQ_ACKW_VECTOR.idx then
    let a := (State.twbSettle { s with hub := r.1 }).ackRead .w
    (a.1.twbSettle, 0, a.2)
  else if r.2.1 ≠ 0 then ({ s with hub := r.1 }, r.2)
  else
    let t := { s with hub := r.1 }
    match s.stackShown idx with
    | some w => (t, 0, w)
    | none =>
      if 0x20 ≤ idx / 256 ∧ idx / 256 < 0x24 ∧ 8 ≤ idx % 256 ∧ idx % 256 < 0x48 then
        (t, 0, putBits r.2.2 17 1 (boolNat (s.irq.active ((idx / 256 - 0x20) * 64 + (idx % 256 - 8)))))
      else (t, r.2)

/-- A write of IRQ_EOIx (17 R454); an accepted write leaves no error in its bytes (03 R100). -/
def State.writeEoi (s : State) (t : Port) (idx be : Nat) (val : Word) : State × Nat :=
  if !be.testBit 0 then ({ s with hub := s.hub.heal idx (byteMask be) false }, 0)
  else if 8 ≤ s.irq.queued t then
    let r := s.hub.refuse idx 0x05
    ({ s with hub := r.1 }, r.2)
  else ({ s with hub := s.hub.heal idx (byteMask be) false,
                 irq := { s.irq with eoi := s.irq.eoi ++ [(t, bitsOf val 0 8)] } }, 0)

/-- A write to the whole block: the state after it and the status. -/
def State.write (s : State) (p : Port) (idx be : Nat) (val : Word) : State × Nat :=
  if idx = IRQ_EOIE_SRC.idx then s.writeEoi .e idx be val
  else if idx = IRQ_EOIW_SRC.idx then s.writeEoi .w idx be val
  else if idx = IRQ_PRIGROUP_G.idx ∧ be.testBit 0 ∧ bitsOf val 0 3 ≠ 7 ∧ !s.irqIdle then
    let r := s.hub.refuse idx (if s.hub.flag (PG_LOCK_CFG.pg 0x03) then 0x08 else 0x05)
    ({ s with hub := r.1 }, r.2)
  else if idx = IRQ_SWSET_SRC.idx ∧ be.testBit 0 ∧ 192 ≤ bitsOf val 0 8 then
    ({ s with hub := s.hub.heal idx (byteMask be) false,
              irq := { s.irq with swset := s.irq.swset ++ [bitsOf val 0 8] } }, 0)
  else
    let r := s.hub.write p idx be val
    ({ s with hub := r.1 }, r.2)

/-- Host traffic restarts the idle time; an access in NAP starts the wake (04 R127, R130). -/
def Hub.traffic (h : Hub) : Hub :=
  let h1 := h.md! fun m => { m with idleRun := 0, idleExpired := false }
  if h1.mode = mNAP ∧ !h1.md.waking then
    (h1.md! fun m => { m with waking := true }).link!
        fun l => { l with wakeUp := h.flag DEV_STRAPS_HOSTSEL, wakeDn := true }
  else h1

/-- An access of a port with its trace: the answer of the last access (03 R82). -/
def State.portRead (s : State) (p : Port) (idx : Nat) : State × Nat × Word :=
  let r := State.read { s with hub := s.hub.traffic } p idx
  ({ r.1 with hub := r.1.hub.answered ⟨r.2.1, r.2.2⟩ }, r.2)

def State.portWrite (s : State) (p : Port) (idx be : Nat) (val : Word) : State × Nat :=
  let r := State.write { s with hub := s.hub.traffic } p idx be val
  ({ r.1 with hub := r.1.hub.answered ⟨r.2, 0⟩ }, r.2)

/-- A write row of a port: nothing answers while the logic has no power. -/
def State.rowWrite (s : State) (p : Port) (idx be : Nat) (val : Word) : Answer :=
  if s.hub.running then .next (s.portWrite p idx be val).1 else .next s

end Sys2Proof.Machine
end

