-- ==== Sys2Proof/Machine/Link.lean ====
section
/-! DEFINITION. The string link besides requests and responses (chapter 14): ports and negotiation, roles, the packets a
hub sends of itself, credits, poll slots, enumeration and cut-off. -/

namespace Sys2Proof.Machine

abbrev pgSTR : Nat := 0x0C

/-! ## Ports (14 R376) -/

def portNum : LinkPort → Nat | .up => 0 | .dn => 1
def pState (p : LinkPort) : Fld := STR_PORTUP_STATE.nth (portNum p)
def pMask (p : LinkPort) : Fld := STR_PORTUP_PEERMASK.nth (portNum p)
def pRole (p : LinkPort) : Fld := STR_PORTUP_PEERROLE.nth (portNum p)
def pHver (p : LinkPort) : Fld := STR_PORTUP_HVER.nth (portNum p)
def pValid (p : LinkPort) : Fld := STR_PORTUP_PEERVALID.nth (portNum p)
def pRetrains (p : LinkPort) : Fld := STR_PORTUP_RETRAINS.nth (portNum p)

def Hub.portSt (h : Hub) (p : LinkPort) : Nat := h.get (pState p)
/-- The port is UP. -/
def Hub.portUp (h : Hub) (p : LinkPort) : Bool := h.portSt p == 3
def Hub.side! (h : Hub) (p : LinkPort) (f : LinkSide → LinkSide) : Hub :=
  match p with
  | .up => h.link! fun l => { l with up := f l.up }
  | .dn => h.link! fun l => { l with dn := f l.dn }
def Hub.side (h : Hub) (p : LinkPort) : LinkSide := match p with | .up => h.link.up | .dn => h.link.dn

/-- HOSTSEL is strapped low: the host side is the SPI port (01 R38). -/
abbrev Hub.spiHost (h : Hub) : Bool := !h.flag DEV_STRAPS_HOSTSEL
abbrev Hub.isLead (h : Hub) : Bool := h.get STR_STAT_ROLE == 1
abbrev Hub.pos (h : Hub) : Nat := h.get DEV_POS_POS
abbrev Hub.posValid (h : Hub) : Bool := h.flag DEV_POS_VALID

/-- Credit fields of a class: 0 REG, 1 TBL, 2 BULK (14 R394). -/
def credDn (c : Nat) : Fld := ⟨STR_CRED_DN_REG.idx, 4 * c, 4⟩
def credUp (c : Nat) : Fld := ⟨STR_CRED_DN_REG.idx, 16 + 4 * c, 4⟩
def Hub.setCreds (h : Hub) (f : Nat → Fld) (v : Nat → Nat) : Hub :=
  [0, 1, 2].foldl (fun a c => a.put (f c) (v c)) h

/-- A receive buffer of the UP port is free again. -/
def Hub.freeUp (h : Hub) (c : Nat) : Hub :=
  (h.put (credUp c) (min 8 (h.get (credUp c) + 1))).link! fun l =>
    { l with owed := setNth l.owed c 0 (min 8 (nth l.owed c 0 + 1)) }

/-- The credit class of a request type. -/
def classOf (type : Nat) : Option Nat :=
  match type with | 0x10 => some 0 | 0x12 => some 0 | 0x20 => some 1 | 0x38 => some 2 | _ => none

/-- What waits in the buffers of a port is discarded (14 R376); the buffers that requests from UP held are free again (R396). -/
def Hub.dropBuffers (h : Hub) (p : LinkPort) : Hub :=
  match p with
  | .up => h.link! fun l => { l with inbox := [], fwd := [], bulk := [], owed := [0, 0, 0] }
  | .dn =>
    let h1 := h.link.fwd.foldl (fun a f => match classOf f.pkt.hdr.type.toNat with | some c => a.freeUp c | none => a) h
    (h1.link! fun l => { l with fwd := [], syncing := false, syncDue := false }).setCreds credDn fun _ => 0

def Hub.portTo (h : Hub) (p : LinkPort) (st : Nat) : Hub :=
  let leaves := h.portUp p && st != 3
  let h1 := (h.put (pState p) st).side! p fun s => { s with run := 0 }
  let h2 := if leaves then (h1.incSat (pRetrains p)).dropBuffers p else h1
  if p = .up ∧ st = 0 then h2.symLock false else h2

/-- Signal on a port that is DOWN and no longer silent: UP only with the link as host side, DN only while enabled. -/
def Hub.signalDetect (h : Hub) (p : LinkPort) : Hub :=
  let may := match p with | .up => !h.spiHost | .dn => h.cfgSafe STR_CTL_DNEN == 1
  if h.portSt p = 0 && may && (h.side p).silent == 0 then h.portTo p 1 else h

def lossCode : LinkLoss → Nat | .signal => 1 | .lock => 2 | .symErrors => 3 | .negTimeout => 4

def Hub.downRecord (h : Hub) (p : LinkPort) (st : Nat) (c : LinkLoss) : Hub :=
  h.report pgSTR 1 0x0D02 0 sevWARN [(0, 1, portNum p), (1, 1, st), (2, 1, lossCode c)]

/-- Lost signal or lock takes the symbol lock of the UP port with it, in whatever state the port stands (02 R59). -/
def Hub.lockLost (h : Hub) (p : LinkPort) (c : LinkLoss) : Hub :=
  match p, c with
  | .up, .signal => h.symLock false
  | .up, .lock => h.symLock false
  | _, _ => h

/-- A port that gave training or negotiation up is silent for 1 ms (14 R376). -/
def Hub.goSilent (h : Hub) (p : LinkPort) : Hub := (h.portTo p 0).side! p fun s => { s with silent := 10 }

/-- A port goes DOWN (14 R376, R407), for symbol errors at the sixteenth of a frame; in NEG, NOVER and MISWIRE a loss
the table gives no transition for takes only the symbol lock away. (DEDUCED, log entry 33.) -/
def Hub.linkDown (h : Hub) (p : LinkPort) (c : LinkLoss) : Hub :=
  match h.portSt p, c with
  | 3, .negTimeout => h
  | 3, .symErrors => if 16 ≤ (h.side p).symRun then (h.portTo p 0).downRecord p 3 .symErrors else h
  | 3, c => (h.portTo p 0).downRecord p 3 c
  | 2, .negTimeout => if 10 ≤ (h.side p).run then (h.goSilent p).downRecord p 2 .negTimeout else h
  | 4, .signal => h.portTo p 0
  | 5, .signal => h.portTo p 0
  | 2, c => h.lockLost p c
  | 4, c => h.lockLost p c
  | 5, c => h.lockLost p c
  | _, _ => h

/-- Training has lasted 500 µs, or negotiation 1 ms without a NEG from the partner (14 R376). -/
def Hub.trainTimeout (h : Hub) (p : LinkPort) : Hub :=
  match h.portSt p with
  | 1 => if 5 ≤ (h.side p).run then h.goSilent p else h
  | 2 => if 10 ≤ (h.side p).run then h.linkDown p .negTimeout else h
  | _ => h

/-- DNEN = 0 holds the DN port DOWN (14 R376). -/
def Hub.dnenActs (h : Hub) : Hub := if h.cfgSafe STR_CTL_DNEN == 1 || h.portSt .dn == 0 then h else h.portTo .dn 0

/-! ## Roles (14 R400–R401) -/

/-- The host hop's version: 2.0 with the SPI port (14 R400). -/
def Hub.hostVer (h : Hub) : Nat := if h.spiHost then 2 else h.get STR_PORTUP_HVER

/-- The registers that only a lead shows: STR_ATTN, STR_LIVE and STR_POSk (14 R409). -/
def Hub.clearLeadRegs (h : Hub) : Hub :=
  let h1 := (h.setWord STR_ATTN_ATTN.idx 0).setWord STR_LIVE_LOST.idx 0
  (List.range 16).foldl (fun a k => a.setWord (STR_POS_TOFS.idx + k) 0) h1

/-- The string is the lead alone until an enumeration ends (14 R400). -/
def Hub.alone (h : Hub) : Hub :=
  ((h.put STR_STAT_NHUBS 1).put STR_STAT_LIVE 1).put STR_STAT_SVER h.hostVer

/-- A change of role (14 R401). -/
def Hub.roleTo (h : Hub) (r : Nat) : Hub :=
  let old := h.get STR_STAT_ROLE
  if r = old then h
  else
    let h1 := (((h.put STR_STAT_ROLE r).put DEV_POS_VALID 0).put DEV_POS_LEAD (if r = 1 then 1 else 0)).clearLeadRegs
    let h2 := h1.link! fun l => { l with
      enum := none, enumDue := if r = 1 then some 0 else none, reps := [], tentative := none, lastSeq := none,
      pollLatch := [], pollSend := [] }
    let h3 := if r = 1 then
        ((((h2.put DEV_POS_POS 0).put DEV_POS_VALID 1).put FRM_TOFS_TOFS 0).put STR_STAT_ENUMDONE 0).alone
      else h2.put STR_STAT_JOINPEND 0
    h3.report pgSTR 9 0x0D0A 0 sevINFO [(0, 1, old), (1, 1, r)]

/-! ## Joins (14 R405) -/

/-- A hub without a position stands below the last live one. -/
def Hub.joinWanted (h : Hub) : Bool :=
  let n := h.get STR_STAT_NHUBS
  h.isLead && h.get STR_STAT_LIVE == n && decide (n < 16) && h.link.enum.isNone && h.link.enumDue.isNone &&
    ((decide (1 < n) && (nth h.link.reps (n - 1) {}).dnnew) || (h.portUp .dn && !h.flag STR_PORTDN_PEERVALID))

/-- A join starts, or waits for the end of FIELD; on a fenced page, and where the partner of an enumerating lead holds no
position, it waits (14 R405, R408). -/
def Hub.joinCheck (h : Hub) : Hub :=
  let later := h.isLead && (h.link.enum.isSome || h.link.enumDue.isSome) && h.portUp .dn && !h.flag STR_PORTDN_PEERVALID
  if !h.joinWanted then h.link! fun l => { l with joinWait := later }
  else if h.fenced pgSTR then h.link! fun l => { l with joinWait := true }
  else if h.md.stringMode = mREADY ∨ h.md.stringMode = mTRANSPORT then
    (h.put STR_STAT_JOINPEND 0).link! fun l => { l with enumDue := some 2, joinWait := false }
  else if h.flag STR_STAT_JOINPEND then h
  else (h.put STR_STAT_JOINPEND 1).evt pgSTR 12

/-! ## Negotiation (14 R398–R400) -/

/-- The highest version of a mask of three: bit 2 is 2.0. -/
def topVersion (mask : Nat) : Nat := if mask.testBit 2 then 2 else if mask.testBit 1 then 1 else 0

/-- The port is UP: versions, credits and role. -/
def Hub.portComesUp (h : Hub) (p : LinkPort) (ver role : Nat) : Hub :=
  let h1 := (h.put (pState p) 3).put (pHver p) ver
  let h2 := match p with
    | .up => (h1.setCreds credUp fun _ => 8).link! fun l => { l with owed := [0, 0, 0] }
    | .dn => (h1.setCreds credDn fun _ => 8).link! fun l => { l with syncing := false }
  let h3 := h2.report pgSTR 0 0x0D01 0 sevINFO [(0, 1, portNum p), (1, 1, ver), (2, 1, role)]
  match p with
  | .up =>
    let h4 := h3.roleTo (if role = 0 then 1 else 2)
    if h4.isLead && !h4.flag STR_STAT_ENUMDONE then h4.alone else h4
  | .dn => h3.joinCheck

/-- What the transmitter of a negotiating port sends every 10 µs (14 R398). -/
def Hub.negWord (h : Hub) (p : LinkPort) : Word :=
  BitVec.ofNat 32 (7 + (match p with | .up => 2 | .dn => 1) * 2 ^ 8 + boolNat (h.side p).heard * 2 ^ 10
    + boolNat h.posValid * 2 ^ 11 + (if h.posValid then h.pos else 0) * 2 ^ 12)

/-! ## Packets this hub sends (14 R377–R380, R394, 22 R530) -/

/-- VER of a version code. -/
def verByte (v : Nat) : Byte := if v = 0 then 0x10 else if v = 1 then 0x11 else 0x20

/-- A packet on its way out, but for a fault of the test page. -/
def Hub.emit (h : Hub) (p : LinkPort) (k : Packet) : Hub :=
  let act := h.get TST_PKT_ACT
  let hit := act != 0 && h.get TST_PKT_PORT == portNum p &&
    (h.get TST_PKT_TYPE == 0 || h.get TST_PKT_TYPE == k.hdr.type.toNat)
  let cnt := h.get TST_PKT_COUNT
  let h1 := if hit && cnt != 0 then
      let a := h.put TST_PKT_COUNT (cnt - 1)
      if cnt = 1 then a.put TST_PKT_ACT 0 else a
    else h
  let k1 := if hit && act != 1 then { k with fault := BitVec.ofNat 2 act } else k
  let opened := h.portUp p || (k.hdr.type == 0x50 && h.portSt p == 2)
  if !opened || (hit && act == 1) then h1
  else match p with
    | .up => h1.link! fun l => { l with sentUp := l.sentUp ++ [k1] }
    | .dn => h1.link! fun l => { l with sentDn := l.sentDn ++ [k1] }

/-- Classes whose credits the test page holds back (22 R530). -/
def Hub.withheld (h : Hub) (c : Nat) : Bool := h.get TST_CRED_CLASS == c + 1 && h.get TST_CRED_FRAMES != 0

/-- While the lead enumerates it returns no credit (14 R404). -/
def Hub.creditsHeld (h : Hub) : Bool := h.isLead && h.link.enum.isSome

/-- The CRED byte of an upstream packet: the first class that has freed credits (14 R377, R394). -/
def Hub.credByte (h : Hub) : Hub × Byte :=
  match [0, 1, 2].find? (fun c => nth h.link.owed c 0 != 0 && !h.withheld c && !h.creditsHeld) with
  | none => (h, 0)
  | some c =>
    let n := min 8 (nth h.link.owed c 0)
    (h.link! (fun l => { l with owed := setNth l.owed c 0 (nth l.owed c 0 - n) }), BitVec.ofNat 8 (c + 1 + 4 * n))

/-- SEQ of the next packet this hub originates for a destination (14 R380). -/
def Hub.takeSeq (h : Hub) (dest : Nat) : Hub × Nat :=
  let n := (mapFind h.link.seqs dest).getD 0
  (h.link! fun l => { l with seqs := mapPut l.seqs dest ((n + 1) % 256) }, n)

/-- The position that upstream packets name as their origin: one taken tentatively counts (14 R380, R402). -/
def Hub.srcPos (h : Hub) : Nat := match h.link.tentative with | some t => t.1 | none => h.pos

/-- A packet for the host that this hub originates now, outside the bulk queue. -/
def Hub.sendUp (h : Hub) (type : Nat) (payload : List Word) : Hub :=
  let a := h.takeSeq 16
  let b := a.1.credByte
  b.1.emit .up { hdr := { type := BitVec.ofNat 8 type, dest := 0xF, src := BitVec.ofNat 4 h.srcPos, seq := BitVec.ofNat 8 a.2,
                          tag := 0, cred := b.2, ver := verByte (h.get STR_STAT_SVER) }, payload := payload }

/-- A packet of the lead to a position, or a broadcast. -/
def Hub.sendDn (h : Hub) (type dest : Nat) (payload : List Word) : Hub :=
  let a := h.takeSeq dest
  a.1.emit .dn { hdr := { type := BitVec.ofNat 8 type, dest := BitVec.ofNat 4 dest, src := 0xF, seq := BitVec.ofNat 8 a.2,
                          tag := 0, cred := 0, ver := verByte (h.get STR_STAT_SVER) }, payload := payload }

/-- A hop-local packet for the partner of a port, in its own count of SEQ (14 R380). -/
def Hub.hopPkt (h : Hub) (p : LinkPort) (type ver : Byte) (w : Word) : Hub × Packet :=
  let a := h.takeSeq (17 + portNum p)
  (a.1, { hdr := { type := type, dest := 0, src := 0, seq := BitVec.ofNat 8 a.2, tag := 0, cred := 0, ver := ver },
          payload := [w] })

/-- A CRED packet (14 R394). -/
def Hub.credPkt (h : Hub) (p : LinkPort) (w : Nat) : Hub × Packet :=
    h.hopPkt p 0x52 (verByte (h.get (pHver p))) (BitVec.ofNat 32 w)

/-- A NEG goes out, formatted for 1.0 (14 R376, R398). -/
def Hub.sendNeg (h : Hub) (p : LinkPort) : Hub :=
  let a := h.hopPkt p 0x50 0x10 (h.negWord p)
  a.1.emit p a.2

/-- Lock: the port negotiates, and its first NEG goes out (14 R376). -/
def Hub.portTrained (h : Hub) (p : LinkPort) : Hub :=
  if h.portSt p ≠ 1 then h
  else
    let h1 := (h.portTo p 2).side! p fun _ => {}
    (match p with | .up => h1.symLock true | .dn => h1).sendNeg p

/-- A tick of what the two ports count in frames; sixteen symbol errors of the ended frame that no command has judged take a
port down; a port that negotiates sends a NEG every 10 µs (14 R376). (DESIGN CHOICE, log entry 7.) -/
def Hub.portClock (h : Hub) : Hub :=
  let next (s : LinkSide) : LinkSide := { s with run := min 10000 (s.run + 1), symRun := 0, silent := s.silent - 1 }
  let negs (a : Hub) (p : LinkPort) : Hub := if a.portSt p = 2 then (List.range 10).foldl (fun b _ => b.sendNeg p) a else a
  let h1 := ((h.linkDown .up .symErrors).linkDown .dn .symErrors).link! fun l => { l with up := next l.up, dn := next l.dn }
  negs (negs h1 .up) .dn

/-- A NEG arrives while the port negotiates: hop-local, it is addressed to this hub (04 R127).  Where it acknowledges, this
hub has acknowledged too. -/
def Hub.neg (h : Hub) (p : LinkPort) (w : Word) : Hub :=
  if h.portSt p ≠ 2 then h
  else
    let h := h.traffic
    let mask := bitsOf w 0 3
    let role := bitsOf w 8 2
    let fits := match p with | .up => role == 0 || role == 1 | .dn => role == 2
    let h1 := ((h.put (pMask p) mask).put (pRole p) role).put (pValid p) (bitsOf w 11 1)
    if !fits then (h1.portTo p 4).report pgSTR 2 0x0D03 0 sevFAULT [(0, 1, portNum p), (1, 1, role)]
    else if mask = 0 then (h1.portTo p 5).report pgSTR 3 0x0D04 0 sevFAULT [(0, 1, portNum p), (1, 1, mask)]
    else
      let s := h1.side p
      let acked := s.acked || bitsOf w 10 1 == 1
      let h2 := h1.side! p fun x => { x with heard := true, acked := acked, run := 0 }
      if acked then (h2.sendNeg p).portComesUp p (topVersion mask) role else h2

/-- A packet that waits for this hub's upstream bulk window (14 R387). -/
def Hub.bulk (h : Hub) (k : Packet) : Hub := h.link! fun l => { l with bulk := l.bulk ++ [k] }

/-- A packet for the host that this hub originates, in the bulk window (14 R387). -/
def Hub.hostBulk (h : Hub) (type : Nat) (ws : List Word) : Hub :=
  let a := h.takeSeq 16
  a.1.bulk { hdr := { type := BitVec.ofNat 8 type, dest := 0xF, src := BitVec.ofNat 4 h.srcPos, seq := BitVec.ofNat 8 a.2,
                      tag := 0, cred := 0, ver := verByte (h.get STR_STAT_SVER) }, payload := ws }

/-- An ENUM answer of this hub in the bulk window (14 R402). -/
def Hub.enumAnswer (h : Hub) (ws : List Word) : Hub := h.hostBulk 0x51 ws

/-- What forwarding a downstream packet shows this hub of its neighbour (14 R398, R402). -/
def Hub.watchEnum (h : Hub) (k : Packet) : Hub :=
  if k.hdr.type ≠ 0x51 ∨ k.bad then h
  else match bitsOf (nth k.payload 0 0) 0 4 with
    | 0 => h.put STR_PORTDN_PEERVALID 0
    | 3 => if h.posValid && k.hdr.dest.toNat == h.pos + 1 then h.put STR_PORTDN_PEERVALID 1 else h
    | _ => h

/-- Cycles that a packet of n payload words takes on the wire: its header, its payload, its CRC and its two commas, one
character in 16 cycles (14 R374, R377, R382). -/
def wireCycles (n : Nat) : Nat := 16 * (12 + 4 * n)

/-- The packet as it leaves on DN, where this hub has no credit to return (14 R378, R394). -/
def downPkt (k : Packet) : Packet := { k with hdr := { k.hdr with cred := 0 } }

/-- A packet forwarded without waiting, with the packet after it at least two characters behind (14 R374); forwarded packets
are untouched by the test page (14 R387). -/
def Hub.passDn (h : Hub) (k : Packet) : Hub :=
  if h.portUp .dn then (h.watchEnum k).link! fun l => { l with
    sentDn := l.sentDn ++ [downPkt k], dnFree := max h.cyc l.dnFree + wireCycles k.payload.length + 32 }
  else h

/-- An upstream packet is forwarded with this hub's credit return, before what this hub has to send (14 R378, R387). -/
def Hub.passUp (h : Hub) (k : Packet) : Hub :=
  if h.portUp .up then
    let b := h.credByte
    b.1.link! fun l => { l with
      sentUp := l.sentUp ++ [{ k with hdr := { k.hdr with cred := b.2 } }]
      upFree := max h.cyc l.upFree + wireCycles k.payload.length + 32 }
  else h

/-! ## Credits from the DN side (14 R394, R397) -/

/-- Credits return in the CRED byte of an upstream packet. -/
def Hub.takeCred (h : Hub) (b : Byte) : Hub :=
  let c := b.toNat % 4
  let n := b.toNat / 4 % 16
  if c = 0 then h else h.put (credDn (c - 1)) (min 8 (h.get (credDn (c - 1)) + n))

/-- A CRED packet from the DN partner: counts to add, or with FULL the counts themselves. -/
def Hub.credFromDn (h : Hub) (w : Word) : Hub :=
  if bitsOf w 17 1 = 1 then
    ((h.setCreds credDn fun c => min 8 (bitsOf w (4 * c) 4)).incSat STR_CREDCNT_RESYNCS).link!
        fun l => { l with syncing := false }
  else h.setCreds credDn fun c => min 8 (h.get (credDn c) + bitsOf w (4 * c) 4)

/-- A CRED with SYNC from the UP partner is answered FULL in the bulk window (14 R397, 22 R530). -/
def Hub.credSync (h : Hub) : Hub :=
  let free (c : Nat) : Nat := if h.withheld c then 0 else h.get (credUp c)
  let w := free 0 + free 1 * 2 ^ 4 + free 2 * 2 ^ 8 + 2 ^ 17
  let a := h.credPkt .up w
  (a.1.link! fun l => { l with owed := [0, 1, 2].map fun c => if h.withheld c then nth l.owed c 0 else 0 }).bulk a.2

/-- A CRED packet of port `p` arrives; hop-local, it is addressed to this hub (04 R127). -/
def Hub.cred (h : Hub) (p : LinkPort) (w : Word) : Hub :=
  match p with
  | .dn => if h.portUp .dn then h.traffic.credFromDn w else h
  | .up => if !h.portUp .up then h else if bitsOf w 16 1 = 1 then h.traffic.credSync else h.traffic

/-- The offset of this hub's copy of the lead's timetable: FRM_TOFS, and 40 on the lead itself (14 R382, R388). -/
def Hub.tofs (h : Hub) : Nat := if h.isLead then 40 else h.get FRM_TOFS_TOFS

/-- The cycle at which a packet that has waited may start on DN, where its end fits: not before the output is free, nor from
cycle 37,960 + FRM_TOFS, counted into the next frame, to 1,560 + FRM_TOFS of the frame (14 R382, R388). -/
def Hub.dnStart (h : Hub) (cycles : Nat) : Option Nat :=
  let early := max h.cyc h.link.dnFree
  let start := max early (1560 + h.tofs)
  if early + cycles + 2040 ≤ h.tofs then some early
  else if h.cyc + 1 ≤ 1560 + h.tofs then none
  else if start + cycles ≤ 37960 + h.tofs then some start
  else none

/-- CRED with SYNC goes out on DN inside the window of R388, or waits for it, and for the end of an enumeration (14 R388, R397,
R404). -/
def Hub.sendSync (h : Hub) : Hub :=
  if !h.portUp .dn then h
  else match if h.creditsHeld then none else h.dnStart (wireCycles 1) with
    | none => h.link! fun l => { l with syncDue := true }
    | some t =>
      let a := h.credPkt .dn (2 ^ 16)
      (a.1.emit .dn a.2).link! fun l =>
        { l with syncing := true, syncDue := false, dnFree := t + wireCycles 1 + 32 }

/-- The credits of a frame that no packet has returned go back in a CRED packet in the bulk window (14 R382, R394). -/
def Hub.credReturn (h : Hub) : Hub :=
  let back (c : Nat) : Nat := if h.withheld c || h.creditsHeld then 0 else min 8 (nth h.link.owed c 0)
  if back 0 + back 1 + back 2 = 0 ∨ !h.portUp .up then h
  else
    let a := h.credPkt .up (back 0 + back 1 * 2 ^ 4 + back 2 * 2 ^ 8)
    (a.1.link! fun l => { l with owed := [0, 1, 2].map fun c => nth l.owed c 0 - back c }).bulk a.2

/-! ## Checks of received packets (14 R375, R381) -/

/-- A symbol error of this frame (14 R375–R376). -/
def Hub.symbolError (h : Hub) (p : LinkPort) : Hub :=
  (h.incSat (STR_ERRA_UP_SYM.nth (2 * portNum p))).side! p fun s => { s with symRun := s.symRun + 1 }

/-- A received packet fails a check: it is discarded and counted; a port that is DOWN receives none. -/
def Hub.packetDiscard (h : Hub) (p : LinkPort) (c : PktCheck) (hdr : Option Hdr) : Hub :=
  if h.portSt p = 0 then h
  else
  let k := 2 * portNum p
  let h1 := match c with
    | .hcrc => h.incSat (STR_ERRA_UP_HCRC.nth k)
    | .fmt => h.incSat (STR_ERRB_UP_FMT.nth k)
    | .crc => h.incSat (STR_ERRB_UP_CRC.nth k)
    | .badEop => h.incSat (STR_ERRB_UP_BADEOP.nth k)
    | .symbol => (h.symbolError p).incSat (STR_ERRB_UP_CRC.nth k)
    | .idle => h.symbolError p
  let giveBack : Bool := match c with | .hcrc => false | .idle => false | _ => p == .up && h.portUp .up
  match hdr with
  | some x => match classOf x.type.toNat with
    | some cl => if giveBack then h1.link! fun l => { l with owed := setNth l.owed cl 0 (min 8 (nth l.owed cl 0 + 1)) }
          else h1
    | none => h1
  | none => h1

/-- Types of 14 R379. -/
def knownType (t : Nat) : Bool :=
  [0x01, 0x02, 0x10, 0x11, 0x12, 0x13, 0x20, 0x21, 0x30, 0x38, 0x39, 0x40, 0x50, 0x51, 0x52].contains t

/-- A packet from port p fails the format check: LEN above the limit of the string version, an undefined TYPE, or VER
above the hop version (14 R379, R381). -/
def Hub.fmtBad (h : Hub) (p : LinkPort) (k : Packet) : Bool :=
  decide ((if h.get STR_STAT_SVER = 0 then 16 else 64) < k.payload.length) || !knownType k.hdr.type.toNat
    || decide ((verByte (h.get (pHver p))).toNat < k.hdr.ver.toNat)

/-! ## Poll slots (14 R384–R385, R389–R390) -/

/-- The hub at its slot sends the reply latched at the end of the last P2, with the two exceptions of R384; the lead's own
reply in slot 0, at cycle 2,080, shows the frame itself.  The test page delays the start (22 R530). -/
def Hub.pollSlotTx (h : Hub) : Hub :=
  if h.get STR_STAT_ROLE = 0 || !h.posValid || h.flag STR_STAT_CUTOFF || h.link.pollSend.isEmpty then h
  else
    let ws := h.link.pollSend
    let gap := h.flag SEC_STAT_GAP
    let w2 := putBits (nth ws 2 0) 21 1 (boolNat gap)
    let w0 := if h.isLead then h.frmNo else h.link.lastTick
    let out := BitVec.ofNat 32 w0 :: nth ws 1 0 :: w2 :: ws.drop 3
    let start := (if h.isLead then 2080 else h.get STR_SLOT_TXCYC) + h.get TST_POLL_DLY
    let h1 := h.bud! fun b => { b with replied := true, hbReplied := b.hbReplied || !(nth ws 2 0).getLsbD 15 }
    (h1.link! fun l => { l with pollSend := [], pollAt := some start }).sendUp 0x02 out

def Hub.rep! (h : Hub) (k : Nat) (f : PosRep → PosRep) : Hub :=
  h.link! fun l => { l with reps := setNth l.reps k {} (f (nth l.reps k {})) }

/-- Bit k of a register of sixteen. -/
def Hub.putBit (h : Hub) (f : Fld) (k : Nat) (b : Bool) : Hub :=
  let m := h.get f
  h.put f (m - (if m.testBit k then 2 ^ k else 0) + boolNat b * 2 ^ k)

/-- A valid reply within its slot reaches the lead; it goes on to the host. The SEQ of the copy is free
(DESIGN CHOICE, log entry 82). -/
def Hub.poll (h : Hub) (r : PollPkt) : Hub :=
  let k := r.src.toNat
  let out : Packet := { hdr := { type := 0x02, dest := 0xF, src := r.src,
                                 seq := Config.heardSeq h.mea.ticks (1000 + h.link.sentUp.length), tag := 0, cred := 0,
                                 ver := verByte (h.get STR_STAT_SVER) }, payload := r.words }
  let w (i : Nat) : Word := nth r.words i 0
  if !h.isLead then (h.takeCred r.cred).passUp out
  else
    let h1 := (h.takeCred r.cred).passUp out
    if k = 0 ∨ h.get STR_STAT_LIVE ≤ k ∨ (nth h.link.reps k {}).got then h1
    else
      let rep : PosRep :=
        { nap := bitsOf (w 2) 17 1 == 1, stby := bitsOf (w 2) 18 1 == 1, service := bitsOf (w 2) 16 1 == 1,
          gap := if bitsOf (w 2) 21 1 = 1 then some (w 3).toNat else none, dnnew := bitsOf (w 2) 24 1 == 1, got := true }
      let bud : Report :=
        { d := bitsOf (w 1) 0 12, m := bitsOf (w 1) 12 12, weight := bitsOf (w 1) 24 8, c := bitsOf (w 2) 0 12,
          holdup := bitsOf (w 2) 15 1 == 1, live := true, fresh := true }
      let h2 := (h1.rep! k fun _ => rep).bud! fun b => { b with reports := setNth b.reports k {} bud }
      let attn := bitsOf (w 2) 20 1 == 1
      let rises := attn && !(h2.get STR_ATTN_ATTN).testBit k
      let h3 := ((h2.putBit STR_ATTN_ATTN k attn).put (STR_POS_CONSEC.nth k) 0).putBit STR_LIVE_MISSNOW k false
      (if rises then h3.evt pgSTR 10 else h3).joinCheck

/-- Slot k of the lead is missed (14 R389): nothing of it reports eligibility in this frame (04 R129). -/
def Hub.slotMissed (h : Hub) (k : Nat) : Hub :=
  let h1 := (h.rep! k fun r => { r with got := true, nap := false, stby := false }).putBit STR_LIVE_MISSNOW k true
  ((h1.incSat (STR_POS_MISSES.nth k)).putSat (STR_POS_CONSEC.nth k) (h.get (STR_POS_CONSEC.nth k) + 1)).evt pgSTR 11

/-- Slots are judged from 1 to LIVE − 1 (14 R389–R390). (DEDUCED, log entry 34.) -/
def Hub.slotJudged (h : Hub) (k : Nat) : Bool :=
  h.isLead && k != 0 && decide (k < h.get STR_STAT_LIVE) && !(nth h.link.reps k {}).got

def Hub.pollSlotEnd (h : Hub) (k : Nat) : Hub := if h.slotJudged k then h.slotMissed k else h

/-- In P3 the lead declares a position lost, and every one above it (14 R390). -/
def Hub.hubLost (h : Hub) : Hub :=
  if !h.isLead then h
  else match (List.range (h.get STR_STAT_LIVE)).find? (fun k => k != 0 && h.get (STR_POS_CONSEC.nth k) == 3) with
    | none => h
    | some k =>
      let lost := (List.range 16).filter fun i => decide (k ≤ i) && decide (i < h.get STR_STAT_NHUBS)
      let h1 := lost.foldl (fun a i => a.putBit STR_LIVE_LOST i true) h
      (h1.put STR_STAT_LIVE k).report pgSTR 5 0x0D06 0 sevFAULT [(0, 1, k), (1, 1, k)]

/-- At a tick the lead's slots of the ended frame are settled, and those of the new one are open. (DEDUCED,
log entry 34.) -/
def Hub.slotsTick (h : Hub) : Hub :=
  if !h.isLead then h
  else
    let h1 := (List.range 16).foldl (fun a k => if a.slotJudged k then a.slotMissed k else a) h
    let h2 := h1.hubLost
    let live := h2.get STR_STAT_LIVE
    let h3 := h2.put STR_LIVE_MISSNOW (h2.get STR_LIVE_MISSNOW % 2 ^ live)
    h3.link! fun l => { l with reps := l.reps.map fun r => { r with got := false } }

/-! ## Enumeration on the lead (14 R402–R405) -/

def insertNat (x : Nat) : List Nat → List Nat
  | [] => [x]
  | y :: ys => if x ≤ y then x :: y :: ys else y :: insertNat x ys

/-- The fifth smallest of eight round trips, and whether every one lies within 4 cycles of it. -/
def probeRtt (l : List Nat) : Nat × Bool :=
  let r := nth (l.foldl (fun a x => insertNat x a) []) 4 0
  (r, l.length == 8 && l.all fun x => decide (x ≤ r + 4) && decide (r ≤ x + 4))

/-- FRM_TOFS of a round trip (14 R403). -/
def tofsOf (rtt : Nat) : Nat := 40 + (rtt - 400 + 1) / 2

def Hub.enum! (h : Hub) (f : EnumRun → EnumRun) : Hub := h.link! fun l => { l with enum := l.enum.map f }

def Hub.hopLong (h : Hub) (pos tofs : Nat) : Hub := h.report pgSTR 8 0x0D09 0 sevWARN [(0, 1, pos), (2, 2, tofs)]

/-- The enumeration ends with n hubs: DONE goes out, and the next TICK carries the result (14 R404).
(DEDUCED, log entry 33.) -/
def Hub.enumEnd (h : Hub) (e : EnumRun) : Hub :=
  let n := e.pos
  let ver := (List.range n).foldl (fun a k => if k = 0 then a else min a (h.get (STR_POS_HVER.nth k))) h.hostVer
  let h1 := h.sendDn 0x51 0xF [4, BitVec.ofNat 32 n, BitVec.ofNat 32 ver]
  let h1a := ((h1.put STR_STAT_ENUMDONE 1).put STR_STAT_NHUBS n).put STR_STAT_LIVE n
  let h2 := (h1a.put STR_STAT_SVER ver).put STR_STAT_EPOCH e.epoch
  let h3 := (List.range 16).foldl (fun a k => a.put (STR_POS_CONSEC.nth k) 0) (h2.put STR_LIVE_LOST 0)
  (h3.link! fun l => { l with enum := none }).report pgSTR 4 0x0D05 0 sevINFO
    [(0, 1, n), (1, 1, ver), (2, 1, e.epoch), (3, 1, e.trigger)]

/-- The packet of a step goes out in the present frame. -/
def Hub.enumSend (h : Hub) (e : EnumRun) : Hub :=
  let b (v : Nat) : Word := BitVec.ofNat 32 v
  let h1 := h.link! fun l => { l with enum := some e }
  match e.step with
  | 0 => (h1.sendDn 0x51 0xF [0, b e.epoch]).put STR_PORTDN_PEERVALID 0
  | 1 => h1.sendDn 0x51 0xF [1, b e.pos]
  | 10 => h1.sendDn 0x51 e.pos [3, b (tofsOf (probeRtt e.rtts).1), b e.epoch]
  -- WR of CLK_SEL.PLLREF = LREC, one item with byte 0 enabled (15 R417), on a credit of its class (R394)
  | 11 => (h1.put (credDn 0) (h1.get (credDn 0) - 1)).sendDn 0x12 e.pos [1, b (CLK_SEL_PLLREF.idx + 2 ^ 16), 2]
  | _ => h1.sendDn 0x51 e.pos [2]

/-- After eight probes: SET, another round, or the end (14 R403). (DEDUCED, log entry 33.) -/
def Hub.enumProbed (h : Hub) (e : EnumRun) : Hub :=
  let r := probeRtt e.rtts
  let t := tofsOf r.1
  if !r.2 then
    if e.repeats < 3 then h.enumSend { e with step := 2, rtts := [], repeats := e.repeats + 1 } else h.enumEnd e
  else if 2940 < t then (h.hopLong e.pos t).enumEnd e
  else
    let h1 := if 2428 < t then h.hopLong e.pos t else h
    h1.enumSend { e with step := 10, answered := false }

/-- One frame of an enumeration, after the frame that carried `e.step` (14 R404). (DEDUCED, log entry 33.) -/
def Hub.enumStep (h : Hub) (e : EnumRun) : Hub :=
  match e.step with
  | 0 => h.enumSend { e with step := 1, answered := false }
  | 1 =>
    if e.answered then h.enumSend { e with step := 2, unanswered := 0, rtts := [], repeats := 0 }
    else if e.unanswered = 0 then h.enumSend { e with unanswered := 1 }
    else h.enumEnd e
  | 9 => h.enumProbed e
  | 10 =>
    if !e.answered then h.enumEnd e
    else if h.portUp .dn && h.get (credDn 0) == 0 then h
    else
      let h1 := (h.put (STR_POS_TOFS.nth e.pos) (tofsOf (probeRtt e.rtts).1)).put (STR_POS_HVER.nth e.pos) e.hver
      let h2 := if e.pos = 1 then h1.put STR_PORTDN_PEERVALID 1 else h1
      h2.enumSend { e with step := 11 }
  | 11 =>
    if 15 ≤ e.pos then h.enumEnd { e with pos := 16 }
    else h.enumSend { e with pos := e.pos + 1, step := 1, answered := false, unanswered := 0, rtts := [], repeats := 0 }
  | n => h.enumSend { e with step := n + 1 }

/-- The lead's enumeration in the frame that a tick opens: it starts, a join that waited among them, or takes its next step
(14 R404–R405, R408). -/
def Hub.enumFrame (h : Hub) : Hub :=
  if !h.isLead then h
  else match h.link.enum with
    | some e => h.enumStep e
    | none =>
      let h := if h.flag STR_STAT_JOINPEND || h.link.joinWait then h.joinCheck else h
      match h.link.enumDue with
      | none => h
      | some t =>
        let epoch := (h.get STR_STAT_EPOCH + 1) % 256
        let h1 := h.link! fun l => { l with enumDue := none }
        if t = 2 then h1.enumSend { trigger := 2, pos := h.get STR_STAT_NHUBS, step := 1, epoch := epoch }
        else (h1.link! fun l => { l with reps := [] }).enumSend { trigger := t, pos := 1, step := 0, epoch := epoch }

/-- The lead receives an ACK. (DEDUCED, log entry 52.) -/
def Hub.enumAck (h : Hub) (pos : Nat) (cred : Byte) (hver : Nat) : Hub :=
  let h1 := h.takeCred cred
  match h1.link.enum with
  | some e => if h1.isLead && e.pos == pos && (e.step == 1 || e.step == 10) then
      h1.enum! fun x => { x with answered := true, hver := if e.step = 1 then hver else x.hver } else h1
  | none => h1

/-- The lead receives an ECHO, `rtt` cycles after its PROBE left. -/
def Hub.enumEcho (h : Hub) (pos : Nat) (cred : Byte) (rtt : Nat) : Hub :=
  let h1 := h.takeCred cred
  match h1.link.enum with
  | some e => if h1.isLead && e.pos == pos && decide (2 ≤ e.step) && decide (e.step ≤ 9)
        && decide (e.rtts.length + 2 ≤ e.step) then
      h1.enum! fun x => { x with rtts := x.rtts ++ [rtt] } else h1
  | none => h1

/-- REENUM has been accepted (14 R405); on a hub that is no lead it has no effect. (DEDUCED, log entry 33.) -/
def Hub.reenumActs (h : Hub) : Hub := if h.isLead then h.link! fun l => { l with enumDue := some 1 } else h

/-! ## Enumeration on a follower (14 R402) -/

/-- The copy of an ENUM that goes on down; its SEQ is free (14 R380; DESIGN CHOICE, log entry 82). -/
def enumPkt (h : Hub) (dest : Nat) (ws : List Word) : Packet :=
  { hdr := { type := 0x51, dest := BitVec.ofNat 4 dest, src := 0xF, tag := 0, cred := 0,
             seq := Config.heardSeq h.mea.ticks h.link.sentDn.length
             ver := verByte (h.get STR_STAT_SVER) }, payload := ws }

def Hub.enumReset (h : Hub) (epoch : Nat) : Hub :=
  if !h.isFollower then h
  else ((h.traffic.put DEV_POS_VALID 0).link!
      fun l => { l with tentative := none }).passDn (enumPkt h 0xF [0, BitVec.ofNat 32 epoch])

def Hub.enumAssign (h : Hub) (p : Nat) : Hub :=
  if !h.isFollower then h
  else if h.posValid then h.passDn (enumPkt h 0xF [1, BitVec.ofNat 32 p])
  else (h.traffic.link! fun l => { l with tentative := some (p, 0) }).enumAnswer
    [8, h.word DEV_ID_PART.idx, Config.serial 0, BitVec.ofNat 32 (h.get STR_PORTUP_HVER)]

/-- A position this hub holds, or has taken tentatively. -/
def Hub.holdsPos (h : Hub) (p : Nat) : Bool :=
  (h.posValid && h.pos == p) || (match h.link.tentative with | some t => t.1 == p | none => false)

def Hub.enumProbe (h : Hub) (p : Nat) : Hub :=
  if !h.isFollower then h
  else if h.holdsPos p then h.traffic.sendUp 0x51 [9]
  else h.passDn (enumPkt h p [2])

/-- s_k of 14 R385. -/
def slotCyc (k tofs : Nat) : Nat := 2000 + 1000 * k + 80 - (tofs - 40)

def Hub.enumSet (h : Hub) (p tofs epoch : Nat) : Hub :=
  if !h.isFollower then h
  else if h.holdsPos p then
    let h1 := (((h.traffic.put FRM_TOFS_TOFS tofs).put DEV_POS_POS p).put DEV_POS_VALID 1).put STR_STAT_EPOCH epoch
    let h2 := { h1.put STR_SLOT_TXCYC (slotCyc p tofs) with
      bad := h1.bad.filter (fun b => b.idx != FRM_TOFS_TOFS.idx), frm := { h1.frm with tofsBad := false } }
    (h2.link! fun l => { l with tentative := none, goodTicks := 0, liveLost := false }).enumAnswer
      [8, h.word DEV_ID_PART.idx, Config.serial 0, BitVec.ofNat 32 (h.get STR_PORTUP_HVER)]
  else h.passDn (enumPkt h p [3, BitVec.ofNat 32 tofs, BitVec.ofNat 32 epoch])

def Hub.enumDone (h : Hub) (n ver : Nat) : Hub :=
  if !h.isFollower then h
  else ((h.traffic.put STR_STAT_NHUBS n).put STR_STAT_SVER ver).passDn (enumPkt h 0xF [4, BitVec.ofNat 32 n,
      BitVec.ofNat 32 ver])

/-- No SET within 20 frames of ASSIGN (14 R404). -/
def Hub.assignTimeoutDue (h : Hub) : Bool := match h.link.tentative with | some t => decide (20 ≤ t.2) | none => false
def Hub.assignTimeout (h : Hub) : Hub := (h.put DEV_POS_VALID 0).link! fun l => { l with tentative := none }

/-! ## Cut-off (14 R391–R392) -/

/-- A follower's count of frames without a good TICK has reached LOSTT. -/
def Hub.cutoffIsDue (h : Hub) : Bool :=
  h.isFollower && h.posValid && h.mode != mNAP && !h.flag STR_STAT_CUTOFF
      && decide (h.cfgSafe STR_LOSTT_FRAMES ≤ h.md.loseCount)

def Hub.stringCutoff (h : Hub) : Hub :=
  let h1 := h.chList.foldl (fun a n => (a.geyAbort n 3).fence (chPage n) 4) h
  let h2 := ((h1.fence 0x16 4).put STR_STAT_CUTOFF 1).md! fun m => { m with
    stringLost := true, loseArmed := true, retake := decide (h.cfgSafe STR_LOSTT_FRAMES ≤ m.silentRun) }
  (h2.link! fun l => { l with goodTicks := 0, pollSend := [] }).report pgSTR 6 0x0D07 0 sevFAULT
    [(0, 1, if h.link.liveLost then 2 else 1), (4, 4, h.link.lastTick)] |>.allocLost

def Hub.cutoffClearDue (h : Hub) : Bool := h.flag STR_STAT_CUTOFF && decide (h.cfgSafe STR_LOSTT_FRAMES ≤ h.link.goodTicks)

/-- The cause has cleared: the hub takes the string mode again, the fences stay (14 R391); one that has lost every TICK has
taken it from the next valid one (04 R114). (DEDUCED, log entry 65.) -/
def Hub.cutoffClear (h : Hub) : Hub :=
  let h1 := h.chList.foldl (fun a n => a.clearCause (chPage n) 4) (h.clearCause 0x16 4)
  (h1.put STR_STAT_CUTOFF 0).md! fun m => { m with
    stringLost := false, retake := false, loseCount := 0, fromTick := some (m.stringMode, 2) }

/-! ## Wake sequences (14 R406) -/

/-- A wake sequence on a port of a hub in NAP wakes it, and goes on to the other port. -/
def Hub.linkWake (h : Hub) (p : LinkPort) : Hub :=
  if h.mode ≠ mNAP ∨ (p = .up ∧ h.spiHost) then h
  else
    let h1 := h.md! fun m => { m with waking := true }
    match p with
    | .up => h1.link! fun l => { l with wakeDn := true }
    | .dn => h1.link! fun l => { l with wakeUp := !h.spiHost }

end Sys2Proof.Machine
end

