-- ==== Sys2Proof/Machine/Packets.lean ====
section
/-! DEFINITION. Command packets and the SPI host port (chapter 15): requests, their responses, forwarding with credits,
streams, and the two sides of an SPI transaction. -/

namespace Sys2Proof.Machine

/-! ## Checks of packets (14 R378) -/

/-- One byte of a CRC of width w, polynomial p, most significant bit first. -/
def crcStep (w p : Nat) (crc byte : Nat) : Nat :=
  (List.range 8).foldl (fun c _ => if c.testBit (w - 1) then (2 * c % 2 ^ w) ^^^ p else 2 * c % 2 ^ w)
    (crc ^^^ byte * 2 ^ (w - 8))

def crc8 (l : List Nat) : Nat := l.foldl (crcStep 8 0x07) 0
def crc16 (l : List Nat) : Nat := l.foldl (crcStep 16 0x1021) 0xFFFF

/-- The eight header bytes with a LEN (14 R377). -/
def hdrBytes (x : Hdr) (len : Nat) : List Nat :=
  let b := [x.type.toNat, x.dest.toNat * 16 + x.src.toNat, x.seq.toNat, len, x.tag.toNat, x.cred.toNat, x.ver.toNat]
  b ++ [crc8 b]

/-- The bytes of a packet, its checks included, apart from the commas (14 R377–R378). -/
def pktBytes (k : Packet) : List Nat :=
  let hd := hdrBytes k.hdr k.payload.length
  let body := k.payload.flatMap wordBytes
  let c := crc16 ((hd.take 5 ++ [0] ++ hd.drop 6) ++ body)
  hd ++ body ++ [c / 256, c % 256]

def pktSize (k : Packet) : Nat := 10 + 4 * k.payload.length

/-! ## Responses (15 R410) -/

def ceil4 (n : Nat) : Nat := (n + 3) / 4

/-- The response type of a request type. -/
def respType (type : Nat) : Nat := type + 1

/-- A response to a request: SEQ and TAG copied, SRC the request's DEST (15 R410). -/
def respond (sver : Nat) (x : Hdr) (ws : List Word) : Packet :=
  { hdr := { type := BitVec.ofNat 8 (respType x.type.toNat), dest := 0xF, src := x.dest, seq := x.seq, tag := x.tag,
             cred := 0, ver := verByte sver }, payload := ws }

/-- A response of one word. -/
def Hub.respond1 (h : Hub) (x : Hdr) (pst : Nat) (origin : Bool) : Hub :=
  h.bulk (respond (h.get STR_STAT_SVER) x [BitVec.ofNat 32 (pst + boolNat origin * 2 ^ 31)])

/-- Status codes, four to a word (15 R416, R418). -/
def codeWords (l : List Nat) : List Word :=
  (List.range (ceil4 l.length)).map fun i =>
    BitVec.ofNat 32 ((List.range 4).foldl (fun a k => a + nth l (4 * i + k) 0 * 256 ^ k) 0)

/-! ## RD (15 R415–R416) -/

def rdMax (sver : Nat) : Nat := if sver = 0 then 12 else 48

def rdFormat (sver : Nat) (p : List Word) : Bool :=
  let w := nth p 0 0
  let n := bitsOf w 16 6
  p.length == 1 && decide (1 ≤ n) && decide (n ≤ rdMax sver) && decide (bitsOf w 0 8 + n ≤ 256) && bitsOf w 22 10 == 0

/-- Reads in order, each with its status and data. -/
def State.readAll (s : State) (idx : List Nat) : State × List Nat × List Word :=
  idx.foldl (fun (a : State × List Nat × List Word) i =>
    let r := a.1.portRead .e i
    (r.1, a.2.1 ++ [r.2.1], a.2.2 ++ [r.2.2])) (s, [], [])

def State.bulk (s : State) (k : Packet) : State := { s with hub := s.hub.bulk k }

def State.execRd (s : State) (x : Hdr) (p : List Word) : State :=
  let v := s.hub.get STR_STAT_SVER
  if !rdFormat v p then { s with hub := s.hub.respond1 x 0x02 false }
  else
    let w := nth p 0 0
    let n := bitsOf w 16 6
    let r := s.readAll ((List.range n).map (bitsOf w 0 16 + ·))
    let pst := if r.2.1.all (· == 0) then 0 else 1
    r.1.bulk (respond v x (BitVec.ofNat 32 (pst + n * 2 ^ 16) :: (codeWords r.2.1 ++ r.2.2)))

/-! ## WR (15 R417–R418) -/

def wrMax (sver : Nat) : Nat := if sver = 0 then 7 else 31

def wrFormat (sver : Nat) (p : List Word) : Bool :=
  let w := nth p 0 0
  let n := bitsOf w 0 6
  decide (1 ≤ n) && decide (n ≤ wrMax sver) && p.length == 1 + 2 * n && bitsOf w 6 2 == 0 && bitsOf w 9 23 == 0 &&
    (List.range n).all fun i => bitsOf (nth p (1 + 2 * i) 0) 16 4 != 0 && bitsOf (nth p (1 + 2 * i) 0) 20 12 == 0

/-- Items in order; with HALT the first that is not OK is the last (15 R417). -/
def State.writeAll (s : State) (halt : Bool) (items : List (Word × Word)) : State × List Nat :=
  let r := items.foldl (fun (a : State × List Nat × Bool) e =>
    if a.2.2 then a
    else
      let x := a.1.portWrite .e (bitsOf e.1 0 16) (bitsOf e.1 16 4) e.2
      (x.1, a.2.1 ++ [x.2], halt && x.2 != 0)) (s, [], false)
  (r.1, r.2.1)

def State.execWr (s : State) (x : Hdr) (p : List Word) : State :=
  let v := s.hub.get STR_STAT_SVER
  if !wrFormat v p then { s with hub := s.hub.respond1 x 0x02 false }
  else
    let w := nth p 0 0
    let n := bitsOf w 0 6
    let r := s.writeAll (bitsOf w 8 1 == 1) ((List.range n).map fun i => (nth p (1 + 2 * i) 0, nth p (2 + 2 * i) 0))
    let pst := if r.2.all (· == 0) then 0 else 1
    let codes := r.2 ++ List.replicate (n - r.2.length) 0
    r.1.bulk (respond v x (BitVec.ofNat 32 (pst + r.2.length * 2 ^ 8 + n * 2 ^ 16) :: codeWords codes))

/-! ## TBL (15 R419–R421) -/

def entriesOf : List Word → List Entry
  | a :: b :: rest => { w0 := a, w1 := b } :: entriesOf rest
  | _ => []

def State.execTbl (s : State) (x : Hdr) (p : List Word) : State :=
  let v := s.hub.get STR_STAT_SVER
  if p.length % 2 = 1 ∨ p.length = 0 then { s with hub := s.hub.respond1 x 0x02 false }
  else
    let r := s.hub.appendAll (entriesOf p) 0 0 0
    let acc := r.2.1
    let out := r.2.2.1
    let pst := if out = 0 then 0 else 1
    State.bulk { s with hub := r.1 } (respond v x [
      BitVec.ofNat 32 (pst + acc * 2 ^ 8 + out * 2 ^ 16 + r.2.2.2.2 * 2 ^ 24), BitVec.ofNat 32 r.2.2.2.1])

/-! ## SRD (15 R423–R424) -/

def Hub.engineOf (source : Nat) : Option Nat := if 0x10 ≤ source ∧ source < 0x14 then some (source - 0x10) else none

/-- The length of a stream source in words; none for an unknown one. -/
def Hub.sourceLen (h : Hub) (source : Nat) : Option Nat :=
  if source = 0 then some 262144
  else if 0x10 ≤ source ∧ source < 0x14 then some (3 + (h.get (engF GEY_ENG_STAT_NS (source - 0x10)) + 1) / 2)
  else if source = 0x20 ∨ source = 0x21 then some 1088
  else none

/-- A word of a source, and whether it had an uncorrectable error. -/
def Hub.sourceWord (h : Hub) (source n : Nat) : Word × Bool :=
  if source = 0 then (h.storeWord (n / 16) (n % 16), h.storeBad (n / 16) (n % 16))
  else if source < 0x20 then
    let k := source - 0x10
    let w : Word := match n with
      | 0 => h.word (engF GEY_ENG_STAT_STATE k).idx
      | 1 => h.word (engF GEY_ENG_FRM_FRM k).idx
      | 2 => h.word (engF GEY_ENG_CYC_CYC k).idx
      | j => BitVec.ofNat 32 (h.sampleWord k (2 * (j - 3))
          + (if 2 * (j - 3) + 1 < h.get (engF GEY_ENG_STAT_NS k) then h.sampleWord k (2 * (j - 3) + 1) else 0) * 2 ^ 16)
    (w, false)
  else (h.bankWord (source - 0x20) n, false)

def Hub.tagVal (h : Hub) (source : Nat) : Word :=
  if source = 0 then 0
  else if source < 0x20 then h.word (engF GEY_ENG_FRM_FRM (source - 0x10)).idx
  else h.word (SNAP_B0TAG_F.idx + (source - 0x20))

def srdFormat (p : List Word) : Bool :=
  p.length == 3 && bitsOf (nth p 0 0) 8 24 == 0 && decide (1 ≤ (nth p 2 0).toNat) && decide ((nth p 2 0).toNat ≤ 4096)

/-- An SRD is accepted as a stream, or answered at once (15 R423). -/
def State.execSrd (s : State) (x : Hdr) (p : List Word) : State :=
  let h := s.hub
  let src := bitsOf (nth p 0 0) 0 8
  let off := (nth p 1 0).toNat
  let cnt := (nth p 2 0).toNat
  let no (pst : Nat) : State := { s with hub := h.respond1 x pst false }
  if !srdFormat p then no 0x02
  else match h.sourceLen src with
    | none => no 0x06
    | some len =>
      if (match Hub.engineOf src with | some k => h.get (engF GEY_ENG_STAT_STATE k) == 1 | none => false) then no 0x07
      else if len ≤ off then no 0x08
      else
        let n := min cnt (len - off)
        { s with hub := h.link! fun l => { l with
            streams := l.streams ++ [{ hdr := x, source := src, next := off, left := n, short := decide (n < cnt) }] } }

/-- The next part of the oldest stream is read from its source, for the bulk window (15 R424). -/
def Hub.srdrPart (h : Hub) : Hub :=
  match h.link.streams with
  | [] => h
  | t :: rest =>
    let n := min 61 t.left
    let data := (List.range n).map fun i => h.sourceWord t.source (t.next + i)
    let last := decide (t.left ≤ 61)
    let w0 := t.part % 256 * 2 ^ 8 + t.source * 2 ^ 16 + boolNat last * 2 ^ 24 + boolNat t.short * 2 ^ 25
      + boolNat (data.any (·.2)) * 2 ^ 26
    let k := respond (h.get STR_STAT_SVER) t.hdr
      (BitVec.ofNat 32 w0 :: BitVec.ofNat 32 t.next :: h.tagVal t.source :: data.map (·.1))
    let h1 := h.link! fun l => { l with
      streams := if last then rest else { t with next := t.next + n, left := t.left - n, part := t.part + 1 } :: rest }
    h1.bulk k

/-! ## SNAP (15 R422) -/

/-- A SNAP is judged on arrival; one the string version does not include is a format error (14 R400).
(DEDUCED, log entry 49.) -/
def Hub.snapArrives (h : Hub) (p : List Word) : Hub :=
  if h.get STR_STAT_SVER = 0 then h.incSat STR_ERRB_UP_FMT else h.traffic.snapJudge (nth p 0 0).toNat 0

/-! ## Space of the SPI queue (15 R429) -/

/-- Bytes of the largest response that a request can produce. -/
def maxResponse (type : Nat) (p : List Word) : Nat :=
  match type with
  | 0x10 => let n := bitsOf (nth p 0 0) 16 6; 10 + 4 * (1 + ceil4 n + n)
  | 0x12 => 10 + 4 * (1 + ceil4 (bitsOf (nth p 0 0) 0 6))
  | 0x20 => 18
  | _ => max 14 <| 266 * ((min 4096 (nth p 2 0).toNat + 60) / 61)

def spiBytes : Nat := 32768

/-- What the queue holds, what it keeps for responses to come, and what this hub has yet to queue. -/
def State.spiUsed (s : State) : Nat :=
  sumNat (s.spi.queue.map pktSize) + sumNat (s.hub.link.reserves.map (·.bytes)) + sumNat (s.hub.link.bulk.map pktSize)
    + sumNat (s.hub.link.streams.map fun t => 266 * ((t.left + 60) / 61))

def State.spiRoom (s : State) (type : Nat) (p : List Word) : Bool :=
  !s.hub.spiHost || decide (s.spiUsed + maxResponse type p ≤ spiBytes)

/-- A response of a follower takes the space kept for it. -/
def useReserve (k : Packet) : List Reserve → List Reserve
  | [] => []
  | r :: rs =>
    if r.dest = k.hdr.src.toNat ∧ r.seq = k.hdr.seq.toNat ∧ r.tag = k.hdr.tag.toNat then
      let last := k.hdr.type ≠ 0x39 ∨ bitsOf (nth k.payload 0 0) 24 1 = 1 ∨ k.payload.length = 1
      if last then rs else { r with bytes := r.bytes - 266 } :: rs
    else r :: useReserve k rs

/-! ## Requests in order (15 R411–R412, R420; 14 R394–R397) -/

/-- Types from a string version on (14 R379). (DEDUCED, log entry 49.) -/
def typeFrom (type : Nat) : Nat := match type with | 0x20 => 1 | 0x30 => 1 | 0x38 => 2 | _ => 0

/-- The oldest waiting request may execute now. -/
def State.mayExecute (s : State) (k : Packet) : Bool :=
  let h := s.hub
  let ty := k.hdr.type.toNat
  let inTime := match ty with
    | 0x10 => decide (2000 ≤ h.cyc) && decide (h.cyc ≤ 38000)
    | 0x12 => decide (2000 ≤ h.cyc) && decide (h.cyc ≤ 38000)
    | 0x20 => decide (h.cyc ≤ 38800) && !h.frm.p1Due && !h.frm.defP1
    | _ => true
  inTime && !h.creditsHeld && decide (h.link.streams.length < 8) && s.spiRoom ty k.payload

/-- One request executes and its buffer is free again; a type the string version lacks is answered VERSION.
(DEDUCED, log entry 49.) -/
def State.execute (s : State) (k : Packet) : State :=
  let ty := k.hdr.type.toNat
  let s1 := { s with hub := s.hub.freeUp ((classOf ty).getD 0) }
  if s1.hub.get STR_STAT_SVER < typeFrom ty then { s1 with hub := s1.hub.respond1 k.hdr 0x05 false }
  else match ty with
    | 0x10 => s1.execRd k.hdr k.payload
    | 0x12 => s1.execWr k.hdr k.payload
    | 0x20 => s1.execTbl k.hdr k.payload
    | _ => s1.execSrd k.hdr k.payload

/-- Waiting requests execute in order of arrival, at most `fuel` of them.
(DEDUCED, log entry 45; DESIGN CHOICE, log entry 46.) -/
def State.drain (fuel : Nat) (s : State) : State :=
  match fuel with
  | 0 => s
  | n + 1 =>
    match s.hub.link.inbox with
    | [] => s
    | k :: rest =>
      if s.mayExecute k then
        State.drain n ({ s with hub := s.hub.link! fun l => { l with inbox := rest } }.execute k)
      else s

/-- A credit of the packet's class is held; a SNAP needs none (14 R394). -/
def Hub.hasCredit (h : Hub) (k : Packet) : Bool :=
  match classOf k.hdr.type.toNat with | some c => h.get (credDn c) != 0 | none => true

/-- The oldest packet for the DN port may start: a credit, an output, and on an SPI lead the space for its response;
one that has waited, and every one at the lead, starts inside the window of 14 R382 and R388. -/
def State.mayForward (s : State) (k : Packet) (fresh : Bool) : Bool :=
  let h := s.hub
  (fresh || (h.dnStart (wireCycles k.payload.length)).isSome) && h.portUp .dn && !h.creditsHeld && h.hasCredit k
    && ((classOf k.hdr.type.toNat).isNone || s.spiRoom k.hdr.type.toNat k.payload)

/-- The lead forwards no request to a position that does not live; while it enumerates it holds them all (14 R390, R404). -/
def Hub.unreachable (h : Hub) (k : Packet) : Bool :=
  let d := k.hdr.dest.toNat
  h.isLead && (classOf k.hdr.type.toNat).isSome && !h.creditsHeld
    && (decide (h.get STR_STAT_LIVE ≤ d) || decide (h.get STR_STAT_NHUBS ≤ d))

/-- The lead answers UNREACHABLE, and the request's buffer is free (15 R410). -/
def Hub.answerLost (h : Hub) (k : Packet) : Hub := (h.freeUp ((classOf k.hdr.type.toNat).getD 0)).respond1 k.hdr 0x03 true

/-- The head of the queue starts on DN: it takes a credit and frees its buffer, and an SPI lead keeps space for its response. -/
def Hub.startDn (h : Hub) (k : Packet) (rest : List FwdReq) : Hub :=
  let free := (h.dnStart (wireCycles k.payload.length)).getD h.cyc + wireCycles k.payload.length + 32
  match classOf k.hdr.type.toNat with
  | none => (h.watchEnum k).link! fun l => { l with fwd := rest, sentDn := l.sentDn ++ [downPkt k], dnFree := free }
  | some c =>
    let h1 := (h.put (credDn c) (h.get (credDn c) - 1)).freeUp c
    let r : Reserve := { dest := k.hdr.dest.toNat, seq := k.hdr.seq.toNat, tag := k.hdr.tag.toNat,
                         bytes := maxResponse k.hdr.type.toNat k.payload }
    h1.link! fun l => { l with
      fwd := rest, sentDn := l.sentDn ++ [downPkt k], syncing := false, dnFree := free
      reserves := if h1.spiHost then l.reserves ++ [r] else l.reserves }

/-- Packets leave for the DN port in order, as far as credits and the window go (14 R388, R395); `fresh`: the first of them
meets an idle output of a follower as it arrives. (DEDUCED, log entry 45.) -/
def State.pump (fuel : Nat) (s : State) (fresh : Bool := false) : State :=
  match fuel with
  | 0 => s
  | n + 1 =>
    match s.hub.link.fwd with
    | [] => s
    | f :: rest =>
      if s.hub.unreachable f.pkt then
        State.pump n { s with hub := (s.hub.link! fun l => { l with fwd := rest }).answerLost f.pkt }
      else if s.mayForward f.pkt fresh then State.pump n { s with hub := s.hub.startDn f.pkt rest }
      else s

/-- A packet of a follower meets an idle DN output: nothing waits, and the last one has left (14 R386, R388). -/
def Hub.dnIdle (h : Hub) : Bool := !h.isLead && h.link.fwd.isEmpty && decide (h.link.dnFree ≤ h.cyc)

/-- A packet for the string that is no request goes down in its turn (14 R387, 15 R411). -/
def State.queueDn (s : State) (k : Packet) : State :=
  if !s.hub.portUp .dn then s
  else
    let s1 := { s with hub := s.hub.link! fun l => { l with fwd := l.fwd ++ [{ pkt := k }] } }
    if s.hub.link.fwd.isEmpty then State.pump 1 s1 s.hub.dnIdle else s1

/-- A packet that fails a check passes on cut-through with EOP_BAD where it may start as it arrives, and is else discarded in
its buffer (14 R381, R386); the buffer of a request is no longer held. -/
def State.badDn (s : State) (k : Packet) : State :=
  let h := s.hub
  if h.link.fwd.isEmpty && s.mayForward k h.dnIdle then
    let h1 := match classOf k.hdr.type.toNat with | some c => h.put (credDn c) (h.get (credDn c) - 1) | none => h
    { s with hub := h1.passDn k }
  else s

/-- A gap in the SEQ of the requests addressed to this hub (14 R380). -/
def Hub.seqCheck (h : Hub) (x : Hdr) : Hub :=
  let gap := match h.link.lastSeq with | some q => x.seq.toNat != (q + 1) % 256 | none => false
  (if gap then h.incSat STR_ERRB_UP_FMT else h).link! fun l => { l with lastSeq := some x.seq.toNat }

/-- A request has been taken in on the host side or on the UP port: it waits for this hub, or for the DN port; the lead
answers one for a position that does not live (14 R390, R395, 15 R411). -/
def State.receiveRequest (s : State) (k : Packet) : State :=
  let h := s.hub
  let c := (classOf k.hdr.type.toNat).getD 0
  let h1 := h.put (credUp c) (h.get (credUp c) - 1)
  if h.posValid && h.pos == k.hdr.dest.toNat then
    -- nothing executes before the end of P0 (15 R412)
    let h2 := ((h1.traffic.seqCheck k.hdr).link! fun l => { l with inbox := l.inbox ++ [k] }).atCyc (max h.cyc 2000)
    State.drain 32 { s with hub := h2 }
  else if h1.unreachable k then { s with hub := h1.answerLost k }
  else State.pump 32 { s with hub := h1.link! fun l => { l with fwd := l.fwd ++ [{ pkt := k }] } } h.dnIdle

/-- A request row: the packet has arrived on the UP port at a cycle of this frame. (DESIGN CHOICE, log entry 46.) -/
def State.request (s : State) (x : Hdr) (p : List Word) (type : Byte) (cyc : Nat) : State :=
  let h := s.hub
  let k : Packet := { hdr := { x with type := type }, payload := p }
  if !h.portUp .up then s
  else if h.fmtBad .up k then { s with hub := h.packetDiscard .up .fmt (some k.hdr) }
  else State.receiveRequest { s with hub := h.atCyc cyc } k

/-! ## Forwarding (14 R386–R387, R390, R395) -/

/-- Responses enter the SPI queue of a HOSTSEL = 0 lead; nothing else is delivered there, and no packet that has failed a check
(14 R381, 15 R429). -/
def State.toSpi (s : State) (k : Packet) : State :=
  let t := k.hdr.type.toNat
  if t = 0x11 ∨ t = 0x13 ∨ t = 0x21 ∨ t = 0x39 then
    { s with spi := { s.spi with queue := if k.bad then s.spi.queue else s.spi.queue ++ [k] },
             hub := s.hub.link! fun l => { l with reserves := useReserve k l.reserves } }
  else s

/-- A packet that this hub does not consume, or not alone, passes on; `bad` where it fails a check here, as one of a
wrong format does (14 R381, R386). -/
def State.forward (s : State) (p : LinkPort) (k0 : Packet) (bad : Bool) : State :=
  let fmt := s.hub.portUp p && !k0.bad && !bad && s.hub.fmtBad p k0
  let h := if fmt then s.hub.packetDiscard p .fmt (some k0.hdr) else s.hub
  let k := { k0 with bad := k0.bad || bad || fmt }
  match p with
  | .up =>
    let s1 := { s with hub := h }
    if !h.portUp .up then s
    else if (classOf k.hdr.type.toNat).isSome && !k.bad then s.receiveRequest k
    else if k.bad && h.posValid && h.pos == k.hdr.dest.toNat && (classOf k.hdr.type.toNat).isSome then s1
    else if k.bad then s1.badDn k
    else s1.queueDn k
  | .dn =>
    if !h.portUp .dn then s
    else
      let h1 := if k.bad then h else h.takeCred k.hdr.cred
      let s1 := State.pump 32 { s with hub := h1 }
      let op := bitsOf (nth k.payload 0 0) 0 4
      if k.hdr.type = 0x52 ∨ h.get STR_STAT_ROLE = 0 then s1
      else if h.isLead && k.hdr.type == 0x51 && (op == 8 || op == 9) then s1
      else if h.spiHost then s1.toSpi k
      else { s1 with hub := s1.hub.passUp k }

/-! ## Responses leave (15 R411, R425) -/

/-- The cycle at which this hub's next bulk packet may start on UP: inside its copy of the bulk window, once the output is
free (14 R382, R387). -/
def Hub.bulkStart (h : Hub) (k : Packet) : Option Nat :=
  let u := h.tofs - 40
  let start := max (max h.cyc (20000 - u)) h.link.upFree
  if start + wireCycles k.payload.length + u ≤ 38000 then some start else none

def State.responseSend (s : State) : State :=
  let h := s.hub
  match h.link.bulk with
  | [] => s
  | k :: rest =>
    let h1 := h.link! fun l => { l with bulk := rest }
    if h.spiHost then { s with hub := h1 }.toSpi k
    else if !h.portUp .up then s
    else match h.bulkStart k with
      | none => s
      | some t =>
        let h2 := h1.link! fun l => { l with upFree := t + wireCycles k.payload.length + 32 }
        let b := if k.hdr.type = 0x52 then (h2, (0 : Byte)) else h2.credByte
        { s with hub := b.1.emit .up { k with hdr := { k.hdr with cred := b.2 } } }

/-! ## Credit timeouts (14 R397) -/

/-- The oldest packet for DN is a request that waits for a credit, and how long it has. -/
def Hub.creditWait (h : Hub) : Option (Nat × Nat) :=
  match h.link.fwd with
  | [] => none
  | f :: _ => match classOf f.pkt.hdr.type.toNat with
    | some c => if h.get (credDn c) = 0 then some (c, f.waited) else none
    | none => none

def Hub.resyncDue (h : Hub) : Bool :=
  !h.link.syncing && h.portUp .dn &&
    (match h.creditWait with | some w => decide (h.cfgSafe STR_CREDTMO_FRAMES ≤ w.2) | none => false)

def Hub.creditTimeoutDue (h : Hub) (c : Nat) : Bool :=
  match h.creditWait with | some w => w.1 == c && decide (2 * h.cfgSafe STR_CREDTMO_FRAMES ≤ w.2) | none => false

/-- Every waiting request of the class is discarded and answered LINK_TIMEOUT. (DEDUCED, log entry 33.) -/
def State.creditTimeout (s : State) (c : Nat) : State :=
  let h := s.hub
  let gone := h.link.fwd.filter fun f => classOf f.pkt.hdr.type.toNat == some c
  let h1 := h.link! fun l =>
      { l with fwd := l.fwd.filter (fun f => classOf f.pkt.hdr.type.toNat != some c), syncing := false }
  let h2 := gone.foldl (fun a f => (a.freeUp c).respond1 f.pkt.hdr 0x04 h.isLead) h1
  let h3 := (h2.incSat STR_CREDCNT_TIMEOUTS).report pgSTR 7 0x0D08 0 sevWARN [(0, 1, 1), (1, 1, c + 1), (2, 1, gone.length)]
  State.pump 32 { s with hub := h3 }

def credNum : CredClass → Nat | .reg => 0 | .tbl => 1 | .bulk => 2

/-- Waits at a tick: the request that waits for a credit has waited a frame more, and times out; requests for a position that
no longer lives are answered (14 R390, R397).  Held by an enumeration, nothing waits for a credit (R404). -/
def State.creditTick (s : State) : State :=
  if s.hub.creditsHeld then s
  else
    let lost := s.hub.link.fwd.filter fun f => s.hub.unreachable f.pkt
    let h0 := lost.foldl (fun a f => a.answerLost f.pkt)
      (s.hub.link! fun l => { l with fwd := l.fwd.filter fun f => !s.hub.unreachable f.pkt })
    let waits := h0.creditWait.isSome
    let h1 := h0.link! fun l => { l with fwd := match l.fwd with
      | f :: rest => (if waits then { f with waited := min 20000 (f.waited + 1) } else f) :: rest
      | [] => [] }
    let s1 := { s with hub := h1 }
    let s2 := State.pump 32 s1
    let s3 := [0, 1, 2].foldl (fun a c => if a.hub.creditTimeoutDue c then a.creditTimeout c else a) s2
    if s3.hub.resyncDue then { s3 with hub := s3.hub.sendSync } else s3

/-- What waits for the DN window starts when it opens (14 R388). (DESIGN CHOICE, log entry 7.) -/
def State.dnOpens (s : State) : State :=
  let cyc := s.hub.cyc
  let h1 := s.hub.atCyc (max cyc (1560 + s.hub.tofs))
  let h2 := if h1.link.syncDue then h1.sendSync else h1
  let s1 := State.pump 32 { s with hub := h2 }
  { s1 with hub := s1.hub.atCyc cyc }

/-! ## SPI host port (15 R427–R430) -/

/-- The status words at the falling edge of HCS# (15 R428). -/
def State.spiStatus (s : State) (irq : Bool) : List Word :=
  let out := match s.spi.queue with | k :: _ => pktSize k | [] => 0
  let h := s.hub
  [BitVec.ofNat 32 (s.spi.prev + boolNat irq * 2 ^ 8 + boolNat (s.spi.offered && !s.spi.queue.isEmpty) * 2 ^ 9
      + out * 2 ^ 16),
   BitVec.ofNat 32 (h.get (credUp 0) + h.get (credUp 1) * 2 ^ 4 + h.get (credUp 2) * 2 ^ 8
     + min 255 s.spi.queue.length * 2 ^ 16 + s.spi.prevTag * 2 ^ 24)]

/-- HCS# falls: the bytes of HMISO are the status and the head of the queue. -/
def State.spiStart (s : State) : State :=
  if !s.hub.spiHost || s.spi.selected then s
  else
    let head := match s.spi.queue with | k :: _ => pktBytes k | [] => []
    let out := (s.spiStatus (s.presents .e).isSome).flatMap wordBytes ++ head
    { s with spi := { s.spi with selected := true, out := out.map (BitVec.ofNat 8 ·) } }

/-- The bytes of a request as the port reads them: PREV and, when it is accepted, the packet (15 R427–R428). -/
def spiRequest (sver : Nat) (b : List Nat) : Nat × Option Packet :=
  match b with
  | [] => (1, none)
  | 0 :: _ => (1, none)
  | _ =>
    let len := nth b 3 0
    if b.length < 8 then (6, none)
    else if crc8 (b.take 7) ≠ nth b 7 0 then (2, none)
    else if (if sver = 0 then 16 else 64) < len then (4, none)
    else if b.length < 10 + 4 * len then (6, none)
    else
      let body := (b.drop 8).take (4 * len)
      let c := crc16 ((b.take 5 ++ [0] ++ (b.drop 6).take 2) ++ body)
      let ty := nth b 0 0
      if nth b (8 + 4 * len) 0 * 256 + nth b (9 + 4 * len) 0 ≠ c then (3, none)
      else if (classOf ty).isNone ∧ ty ≠ 0x30 ∨ 0x20 < nth b 6 0 then (4, none)
      else
        let n (i : Nat) : Nat := nth b i 0
        let ws := (List.range len).map fun i => BitVec.ofNat 32
          (n (8 + 4 * i) + n (9 + 4 * i) * 2 ^ 8 + n (10 + 4 * i) * 2 ^ 16 + n (11 + 4 * i) * 2 ^ 24)
        (0, some { hdr := { type := BitVec.ofNat 8 ty, dest := BitVec.ofNat 4 (n 1 / 16), src := BitVec.ofNat 4 (n 1),
                            seq := BitVec.ofNat 8 (n 2), tag := BitVec.ofNat 8 (n 4), cred := BitVec.ofNat 8 (n 5),
                            ver := BitVec.ofNat 8 (n 6) }, payload := ws })

/-- The counters of a rejected request (15 R428). -/
def Hub.spiCount (h : Hub) (prev : Nat) : Hub :=
  match prev with
  | 2 => h.incSat STR_ERRA_UP_HCRC
  | 3 => h.incSat STR_ERRB_UP_CRC
  | 4 => h.incSat STR_ERRB_UP_FMT
  | 6 => h.incSat STR_ERRB_UP_FMT
  | _ => h

/-- The request of a transaction is taken in at the rising edge of HCS#. -/
def State.spiTake (s : State) (b : List Nat) : State :=
  let r := spiRequest (s.hub.get STR_STAT_SVER) b
  let tag := if r.1 = 1 then 0 else nth b 4 0
  let fin (a : State) (prev : Nat) : State := { a with spi := { a.spi with prev := prev, prevTag := tag } }
  match r.2 with
  | none => fin { s with hub := s.hub.spiCount r.1 } r.1
  | some k =>
    match classOf k.hdr.type.toNat with
    | none =>
      -- SNAP: judged here, and broadcast to the string
      fin (State.queueDn { s with hub := s.hub.snapArrives k.payload } k) 0
    | some c =>
      if s.hub.get (credUp c) = 0 then fin s 5 else fin (s.receiveRequest k) 0

/-- HCS# rises after `clocked` bytes: the outgoing packet has left whole or stays, and the request is taken in.
(DEDUCED, log entry 45.) -/
def State.spiEnd (s : State) (mosi : List Byte) (clocked : Nat) : State :=
  if !s.hub.spiHost || !s.spi.selected then s
  else
    let whole := match s.spi.queue with 
        | _ :: _ => decide (8 < s.spi.out.length) && decide (s.spi.out.length ≤ clocked)
        | [] => false
    let q := if whole then s.spi.queue.drop 1 else s.spi.queue
    let offered := !whole && decide (8 < s.spi.out.length)
    let s1 := { s with spi := { s.spi with queue := q, selected := false, out := [], offered := offered } }
    -- the space of a packet that has left may be what a waiting request waits for (R429)
    State.pump 32 (State.drain 32 (s1.spiTake ((mosi.take clocked).map (·.toNat))))

end Sys2Proof.Machine
end

