-- ==== Sys2Proof/Machine/Modes.lean ====
section
/-! DEFINITION. Operating modes (chapter 04): what ends a frame's mode (R107–R119), the low-power rules (R125–R130),
and the power-downs of SHIP, STANDBY and the battery cutoff (R128, R131, 11 R310). -/

namespace Sys2Proof.Machine

abbrev pgDEV : Nat := 0x00

/-! ## A change of mode -/

/-- Entry into FIELD (04 R115): the profile is defaulted, the watchdog arms, and every engine state is off (06 R202). -/
def Hub.fieldEntered (h : Hub) : Hub :=
  let h1 := if h.get DEV_PROFILE_PROFILE ≠ 0 then h
    else
      let a := (h.put DEV_PROFILE_PROFILE 1).put DEV_PROFILE_DEFAULTED 1
      let b := a.once! fun l => if l.contains DEV_PROFILE_PROFILE.idx then l else DEV_PROFILE_PROFILE.idx :: l
      b.report pgDEV 1 0x0101 0 sevINFO [(0, 1, mFIELD)]
  (h1.chList.foldl Hub.engOff h1).wdtArm

/-- The mode changes (04 R107, R115, R117, R136–R137); a hand-back to a held FIELD is no entry.  The detection windows of
captures close (07 R216; DEDUCED, log entry 59). -/
def Hub.setMode (h : Hub) (m cause : Nat) : Hub :=
  let old := h.mode
  if m = old then h
  else
    let h1 := ((h.put DEV_MODE_MODE m).put DEV_MODE_PREV old).incSat DEV_MODE_CHANGES
    let h2 := h1.report pgDEV 0 0x0102 0 sevINFO [(0, 1, old), (1, 1, m), (2, 1, cause)]
    let held := old == mHOLDUP && h.md.heldMode == mFIELD
    let back := held && cause == 6 && m == mFIELD
    let h3 := if (old = mFIELD ∧ m ≠ mHOLDUP) ∨ (held ∧ !back) then h2.wdtIdle else h2
    let h4 := if old = mSERVICE then h3.sessionEnd.tstClear 1 else h3
    (if m = mFIELD ∧ !back then h4.fieldEntered else h4).geyShutAll

/-- A string mode is decided: this tick's TICK carries it, and the next tick brings it into force (04 R112).
(DEDUCED, log entry 29; DEDUCED, log entry 30.) -/
def Hub.decideMode (h : Hub) (m cause : Nat) : Hub :=
  h.md! fun x => { x with stringMode := m, fromTick := some (m, cause) }

/-- MODE_REFUSED (04 R111). -/
def Hub.modeRefused (h : Hub) (req status rank : Nat) : Hub :=
  h.record 0x0103 0 sevINFO (payload [(0, 1, req), (1, 1, h.mode), (2, 1, status), (3, 1, rank)])

def ModeReq.code : ModeReq → Nat | .mode c => c | .ship => mSHIP

/-- A request dropped by a condition of a higher rank. -/
def Hub.dropReq (h : Hub) (rank : Nat) : Hub :=
  match h.md.req with
  | none => h
  | some r => (h.md! fun m => { m with req := none }).modeRefused r.code 0x05 rank

/-! ## Rank 2: power (04 R109, R117–R119, 11 R312–R320) -/

/-- HOLDUP is entered. -/
def Hub.toHoldup (h : Hub) : Hub :=
  let old := h.mode
  let str := match h.md.fromTick with | some _ => 8 | none => h.md.stringMode
  let h1 := h.setMode mHOLDUP 5
  (h1.md! fun m => { m with heldMode := old, heldString := str, safeSeen := false, fromTick := none }).holdupEntered

/-- SERVICE on phantom power is entered; the bypass opens and a hold-up ends. -/
def Hub.toPhantomService (h : Hub) : Hub :=
  let h1 := if h.mode = mHOLDUP ∨ h.md.holdupDue then h.holdupEnded else h
  let h2 := (h1.setMode mSERVICE 10).md! fun m => { m with serviceByPhantom := true, fromTick := none }
  h2.convPhantom

/-- At the end of SERVICE on phantom power the Boot fields hold the boot profile again and H1–H4 are off, so that each
follows its slot of the profile's sequence (04 R117). (DEDUCED, log entry 69.) -/
def Hub.railsFresh (h : Hub) : Hub :=
  [1, 2, 3, 4].foldl (fun a i => (a.put (PG_CTL_EN.pg (convPage i)) 0).convDisable i) (h.bootLoad bootIdx)

/-- The mode after a completed hand-back (04 R119). -/
def Hub.handbackMode (h : Hub) : Nat :=
  if h.md.safeSeen then mREADY
  else if h.md.stringMode ≠ h.md.heldString then h.md.stringMode else h.md.heldMode

/-- Power conditions at a tick; true where one of them acted.  Where CHG_HOLDMAX ends the hold-up of a hub that decides the
string mode, the string follows it to READY. (DESIGN CHOICE, log entry 66.) -/
def Hub.powerModes (h : Hub) : Hub × Bool :=
  let d := h.md
  let clr (a : Hub) : Hub := a.md! fun m => { m with
    holdupDue := false, phantomDue := false, handback := false, holdmaxDue := false, phantomEnd := false }
  if d.cutoffDue then (clr (if d.holdupDue || h.mode == mHOLDUP then h.holdupEnded else h), true)
  else if d.phantomDue then (clr h.toPhantomService, true)
  else if d.holdupDue then (clr h.toHoldup, true)
  else if d.handback then (clr ((h.setMode h.handbackMode 6).handedBack), true)
  else if d.holdmaxDue then
    let h1 := (h.setMode mREADY 7).holdupEnded
    (clr (if h1.isFollower then h1 else h1.md! fun m => { m with stringMode := mREADY }), true)
  else if d.phantomEnd then
    let h1 := (h.setMode d.stringMode 11).md! fun m => { m with serviceByPhantom := false }
    (clr (h1.railsFresh.seqBegin true 3), true)
  else (h, false)

/-! ## Ranks 4–6 -/

/-- String loss (04 R114): READY by itself, from any running mode. -/
def Hub.lostMode (h : Hub) : Hub :=
  let h1 := h.md! fun m => { m with loseArmed := false, fromTick := none, serviceByPhantom := false }
  let inHold := h1.mode == mHOLDUP
  let h2 := h1.setMode mREADY 9
  if inHold then h2.holdupEnded else h2

/-- A string mode comes into force (04 R112–R113); HOLDUP and SERVICE keep their mode. (DEDUCED, log entry 29.) -/
def Hub.stringModeActs (h : Hub) : Hub :=
  match h.md.fromTick with
  | none => h
  | some (m, cause) =>
    let h1 := h.md! fun x => { x with fromTick := none }
    if (h.mode = mREADY ∨ h.mode = mFIELD ∨ h.mode = mTRANSPORT) ∧ !h.md.stringLost ∧ mREADY ≤ m then
      h1.setMode m cause
    else h1

/-- TRANSPORT# asks for TRANSPORT: low at a hub that decides string modes (01 R39, 04 R108). -/
def Hub.transportDue (h : Hub) : Bool :=
  !h.isFollower && h.transportLow && (h.mode == mREADY || h.mode == mFIELD)
    && (h.md.stringMode == mREADY || h.md.stringMode == mFIELD)

/-- A power-down begins: SHIP or STANDBY (04 R128, R131, 12 R327). (DEDUCED, log entry 40.) -/
def Hub.goDown (h : Hub) (g : GoingDown) : Hub :=
  (h.md! fun m =>
      { m with goingDown := some g, downFrames := 0 }).seqBegin false (match g with | .ship => 5 | .standby => 4)

/-- The pending request at the tick (04 R110–R111, R131). -/
def Hub.reqActs (h : Hub) : Hub :=
  match h.md.req with
  | none => h
  | some r =>
    let h1 := h.md! fun m => { m with req := none }
    match r with
    | .ship =>
      let st := h1.shipStatus
      if st ≠ 0 then h1.modeRefused mSHIP st 0 else h1.goDown .ship
    | .mode c =>
      let st := h1.modeReqStatus c
      if st ≠ 0 then h1.modeRefused c st 0
      else if c = h1.mode then h1
      else if c = mSERVICE then (h1.setMode mSERVICE 0).md! fun m => { m with serviceByPhantom := false }
      else if h1.mode = mSERVICE then h1.setMode h1.md.stringMode 0
      else h1.decideMode c 0

/-! ## The low-power rules (04 R125–R129) -/

/-- The earlier of two times; none is never. -/
def minTime : Option Nat → Option Nat → Option Nat
  | none, b => b
  | a, none => a
  | some a, some b => some (min a b)

/-- Frames, rounded down, to alarm k; alarms further than 31 boundaries ahead are beyond every limit a rule tests.
(DEDUCED, log entry 37.) -/
def Hub.almHorizon (h : Hub) (k : Nat) : Option Nat :=
  if !h.flag (RTC_AD_EN.nth (2 * k)) ∨ h.rtcHalted then none
  else match h.almNext k 32 (h.get RTC_EPOCH_SECONDS) (nth h.rtc.prevMatch k false) 0 with
    | none => none
    | some s => some (s * 10000 - (h.subsec * 10000 + 32767) / 32768)

/-- Frames to the time-keyed head of a lane. -/
def Hub.laneHorizon (h : Hub) (n : Nat) : Option Nat :=
  match (h.ch n).lane with
  | [] => none
  | e :: _ => if e.key = 1 then
      some ((signed 32 (wrapTo 32 ((e.target : Int) - (h.frmNo * 100 : Nat)))).toNat / 100) else none

/-- The horizon H in frames of 100 µs; none where nothing bounds it (04 R125). -/
def Hub.horizon (h : Hub) : Option Nat :=
  let lanes := h.chList.foldl (fun a n => minTime a (h.laneHorizon n)) none
  let chg := if h.chgSt = 5 ∨ h.chgSt = 6 then some (h.get CHG_RECHK_S * 10000 - h.chg.sinceCheck) else none
  let wake := if h.flag DEV_CTL_WAKEAT_EN then some (diff32 (h.get DEV_WAKEAT_FRAME) h.frmNo).toNat else none
  minTime (minTime (h.almHorizon 0) (h.almHorizon 1)) (minTime lanes (minTime chg wake))

/-- H lies beyond a time in frames. -/
def Hub.beyond (h : Hub) (t : Nat) : Bool := match h.horizon with | none => true | some x => decide (t < x)

/-- The hub is idle (04 R126). -/
def Hub.idle (h : Hub) : Bool :=
  (h.mode == mREADY || h.mode == mNAP) && h.convSt 0 == 0 && !h.chgSwitching
    && h.get SEQ_STAT_STATE == 1 && h.seq.start.isNone && !h.pages.any (fun e => e.2.commit)
    && !h.flag CLK_FMCTL_BUSY && (List.range 4).all (fun k => !h.geySampling k) && h.mea.writing.isNone
    && h.rcd.queue.isEmpty && h.rcd.clearing.isNone && h.link.streams.isEmpty && h.mea.nvq.isEmpty && !h.anyPending

/-- IDLE_T has run since the last host traffic (R127). -/
def Hub.idleRunOut (h : Hub) : Bool := decide (h.get DEV_IDLET_IDLE_T * 10 ≤ h.md.idleRun)

/-- The NAP rule and the STANDBY rule (04 R128). -/
def Hub.napRule (h : Hub) : Bool := h.idle && h.md.idleExpired && h.md.goingDown.isNone && h.beyond 50
def Hub.stbyRule (h : Hub) : Bool :=
  h.napRule && h.beyond 300000 && !h.feedAbove12 && h.flag DEV_CTL_AUTO_STBY && !h.flag STR_PORTUP_PHANTOM
    && !h.flag DEV_CTL_WAKEAT_EN && h.chList.all fun n => (h.ch n).lane.all fun e => e.key != 1

/-- The hub is alone: no string shares its low-power modes. -/
def Hub.single (h : Hub) : Bool := h.get STR_STAT_ROLE == 0 || (h.isLead && decide (h.get STR_STAT_NHUBS ≤ 1))

/-- NAP is entered: nothing is recorded, the core runs on MOSC, and no TICK is measured (04 R108, R130, 02 R53). -/
def Hub.napEnter (h : Hub) : Hub :=
  let h1 := ((h.put DEV_MODE_MODE mNAP).put CLK_STAT_CORE_SRC 1).put CLK_STAT_PLL_RDY 0
  (h1.frm! fun f => { f with alignRun := 0 }).link! fun l => { l with
    pollSend := [], tickGot := false, tickEarly := false, tickMissed := false }

/-- The core runs on the PLL again, which has locked in a time the spec does not state (02 R61, R76; DESIGN CHOICE, log
entry 9). -/
def Hub.pllOn (h : Hub) : Hub :=
  ((h.put CLK_STAT_CORE_SRC 4).put CLK_STAT_PLL_RDY 1).put CLK_PLLSTAT_LOCKTIME (Config.lockTime h.mea.ticks).toNat

/-- Every hub of the string reports a rule: this one and each live position of the lead (04 R129). -/
def Hub.allReport (h : Hub) (own : Bool) (f : PosRep → Bool) : Bool :=
  own && h.isLead && (List.range (h.get STR_STAT_LIVE)).all fun k => k == 0 || f (nth h.link.reps k {})

/-- The counts of consecutive frames in which every hub reports the same rule. -/
def Hub.lowPowerCount (h : Hub) : Hub :=
  let nap := h.mode == mREADY && h.allReport h.napRule (·.nap)
  let stby := h.mode == mREADY && h.allReport h.stbyRule (·.stby)
  h.md! fun m => { m with
    napRun := if nap then min 10 (m.napRun + 1) else 0, stbyRun := if stby then min 10 (m.stbyRun + 1) else 0 }

/-- The lead broadcasts at the next tick; a loss of eligibility withdraws it. -/
def Hub.broadcastDue (h : Hub) (k : LowPower) : Bool :=
  !h.single && match k with | .nap => decide (10 ≤ h.md.napRun) | .standby => decide (10 ≤ h.md.stbyRun)
def Hub.broadcast (h : Hub) (k : LowPower) : Hub :=
  h.md! fun m => { m with decided := some (match k with | .nap => (mNAP, 3) | .standby => (mSTANDBY, 3)) }

/-- A broadcast that stands is carried in this tick's TICK; without a LOW_POWER_BROADCAST the lead takes NAP, or
STANDBY, by itself once the ten frames are full. -/
def Hub.broadcastActs (h : Hub) : Hub :=
  let own := match h.md.decided with
    | some d => some d
    | none => if h.broadcastDue .standby then some (mSTANDBY, 3) else if h.broadcastDue .nap then some (mNAP, 3) else none
  let h1 := h.md! fun m => { m with decided := none }
  match own with
  | none => h1
  | some (m, c) =>
    let still := if m = mNAP then h1.broadcastDue .nap else h1.broadcastDue .standby
    if still && h1.mode == mREADY && h1.md.fromTick.isNone then h1.decideMode m c else h1

/-- A NAP or STANDBY that TICK carried comes into force; the string mode after it is READY (04 R129). -/
def Hub.lowPowerActs (h : Hub) : Hub :=
  match h.md.fromTick with
  | some (m, _) =>
    if m = mNAP ∨ m = mSTANDBY then
      let h1 := h.md! fun x => { x with fromTick := none, stringMode := mREADY, napRun := 0, stbyRun := 0 }
      if h.mode ≠ mREADY then h1 else if m = mNAP then h1.napEnter else h1.goDown .standby
    else h
  | none => h

/-- Rank 7: a single hub in READY whose NAP rule holds enters NAP (04 R128). (DEDUCED, log entry 38.) -/
def Hub.horizonActs (h : Hub) : Hub := if h.single && h.mode == mREADY && h.napRule then h.napEnter else h

/-- The evaluation of every 10 ms in NAP: the STANDBY rule starts the power-down (04 R128). A hub of a string stays in
NAP: the string takes STANDBY together, by a broadcast that no TICK of NAP carries (R129). (DEDUCED, log entry 68.) -/
def Hub.napEvaluation (h : Hub) : Hub :=
  if h.single && h.mode == mNAP && !h.md.waking && h.stbyRule then h.goDown .standby else h

/-! ## Step 3 of P0 -/

/-- The pending mode change of a tick by the ranks of 04 R109; `safe`: the watchdog's SAFE action acts at this tick.  A
completed hand-back, CHG_HOLDMAX and the end of SERVICE on phantom power rank with the losses of power, which R109 lists
second and does not list them. (DEDUCED, log entry 67.) -/
def Hub.modeStep (h : Hub) (safe : Bool) : Hub :=
  let p := h.powerModes
  if p.2 then
    (p.1.dropReq 2).md! fun m => { m with
      loseArmed := false, safeSeen := m.safeSeen || (safe && p.1.mode == mHOLDUP),
      stringMode := if safe && !h.isFollower then mREADY else m.stringMode }
  else if safe ∧ !h.isFollower then
    ((h.decideMode mREADY 8).dropReq 3).md! fun m => { m with loseArmed := false }
  else if h.md.loseArmed then h.lostMode.dropReq 4
  else
    let h1 := h.lowPowerActs.stringModeActs
    if h1.transportDue then (h1.decideMode mTRANSPORT 1).dropReq 5
    else if h1.md.req.isSome then h1.reqActs
    else h1.broadcastActs.horizonActs

/-! ## The end of a power-down -/

/-- What of the hub outlives the logic's power: registers, the recorder, keys and the always-on domain stay; pending
snapshots, shadows and everything in SRAM go (04 R130–R131, 13 R366, 20 R499); a pulse of RST_OUT# ends, for nothing
holds the line low (01 R32). (DEDUCED, log entry 39.) -/
def Hub.logicOff (h : Hub) (p : Power) : Hub :=
  let h0 := if h.md.rstPulse then h.rstOutRelease else h
  -- from here on no tick counts the feeds' timers
  let lost (f : Feed) : Feed := { f with run := 100000, ramp := 10000 }
  let h1 := ((((h0.snapDiscard.put KEY_STAT_CHALVALID 0).reserveFlush).feedA! lost).feedB! lost).chg! fun c => { c with
    outside := 100000, sinceHb := c.sinceHb.map fun _ => 100001 }
  -- the clock runs free, and no tick counts its second
  let h2 := (h1.put RTC_STAT_SLAVED 0).rtc! fun r => { r with ran := 100000 }
  let h3 := { h2.link! (fun l => { l with inbox := [], fwd := [], bulk := [], streams := [], sentUp := [], sentDn := [] }) with
    md := { h2.md with power := p, goingDown := none, cutoffDue := false, req := none } }
  if p = .standby then h3 else ((h3.feedAlone 0).feedAlone 1).shareSettle

/-- SHIP_ENTER: the power-down sequence has ended, or 1 s has passed (04 R131). -/
def Hub.shipEnterDue (h : Hub) : Bool :=
  h.md.goingDown == some .ship && !h.md.shipCommit && (h.get SEQ_STAT_STATE == 1 || decide (10000 ≤ h.md.downFrames))
def Hub.shipEnter (h : Hub) (timedOut : Bool) : Hub :=
  (h.record 0x0104 0 sevINFO (payload [(0, 1, boolNat timedOut)])).md!
      fun m => { m with shipCommit := true, downFrames := 0 }

/-- The record of a SHIP entry or of a cutoff has committed, or 2 ms have passed: BATFET opens (04 R131, 11 R310). -/
def Hub.batfetDue (h : Hub) : Bool :=
  (h.md.shipCommit || h.md.cutoffDue) && (h.rcd.queue.isEmpty || decide (20 ≤ h.md.downFrames))
def Hub.batfetOpen (h : Hub) : Hub :=
  let ship := h.md.shipCommit
  let h1 := ((h.logicOff (if ship then .ship else .off)).md!
      fun m => { m with shipCommit := false, cutoffDue := !ship }).chgPower
  if ship then h1.put DEV_MODE_MODE mSHIP else h1

/-- STANDBY begins: only the always-on domain runs (04 R130), and the ports retrain after it (14 R406); lanes, GEYSER
buffers, the calibration table and the shadows are lost. -/
def Hub.standbyEnter (h : Hub) : Hub :=
  let h0 := h.setMode mSTANDBY 3
  let h1 := ((h0.logicOff .standby).portTo .up 0).portTo .dn 0
  let h2 := ((h1.shadow! fun _ => []).bad! fun l => l.filter fun b => !b.shadow).pages! fun m =>
    (m.map fun e => (e.1, { e.2 with dirty := false, src := .e, commit := false })).filter fun e => e.2 != {}
  let h3 := h2.chans! fun l => l.map fun c =>
    { c with lane := [], laneHead := 0, tailD := none, tailT := none, armed := [] }
  ((h3.engines! fun _ => [{}, {}, {}, {}]).meas! fun _ => []).mea! fun m =>
    { m with ram := [], nominal := [], reloadDue := [], apply := [], overload := [] }

/-- A power-down toward STANDBY at a tick: a wake or host traffic undoes it, its end brings STANDBY.
(DEDUCED, log entry 38; DEDUCED, log entry 40.) -/
def Hub.downEnd (h : Hub) : Hub :=
  if h.md.goingDown ≠ some .standby then h
  else if h.md.waking ∨ !h.md.idleExpired then (h.md! fun m => { m with goingDown := none }).seqBegin true 2
  else if h.get SEQ_STAT_STATE = 1 ∧ h.seq.start.isNone then h.standbyEnter
  else h

/-- The wake of a hub in NAP begins (04 R129–R130): a power-down on its way to STANDBY is undone. -/
def Hub.wakeStart (h : Hub) : Hub :=
  if h.mode ≠ mNAP ∧ h.md.goingDown ≠ some .standby then h
  else
    let h1 := if h.md.goingDown = some .standby then (h.md! fun m => { m with goingDown := none }).seqBegin true 2 else h
    if h1.mode ≠ mNAP ∨ h1.md.waking then h1
    else (h1.md! fun m => { m with waking := true }).link! fun l => { l with wakeUp := !h.spiHost, wakeDn := true }

/-- WAKE_COMPLETE (04 R130): READY; the loss counts wait for the string (14 R392).  A wake from NAP leaves the idle time
running on (R127); that of a hub whose core was off starts anew. (DEDUCED, log entry 38.) -/
def Hub.wakeComplete (h : Hub) : Hub :=
  let start (a : Hub) : Hub := (a.md! fun m => { m with waking := false }).link! fun l => { l with startWait := some 0 }
  if h.mode = mNAP then start (h.put DEV_MODE_MODE mREADY).pllOn
  else
    let h1 := (h.md! fun m =>
        { m with power := .on, stringMode := mREADY, idleRun := 0, idleExpired := false }).setMode mREADY 4
    let h2 := ((h1.bootLoad bootIdx).calLoad).osfSay
    let h3 := h2.frm! fun f => { f with ophPre := 0, alignRun := 0 }
    (start h3.pllOn).seq! fun q => { q with start := some (true, 2), builtin := true }

/-- T_seq, in frames: the largest ON delay and RISE of the boot profile's power-up sequence (04 R130). -/
def Hub.seqTime (h : Hub) : Nat :=
  let b := h.bootLoad bootIdx
  slots.foldl (fun a s => if b.flag (SEQ_CFG_UP.nth s) ∧ b.rail s ≠ 0
    then max a (b.get (SEQ_DLY_ON.nth s) + b.get (SEQ_LIM_RISE.nth s) * 10) else a) 0

/-- The wake timer of STANDBY has run: H is at most 3 ms and T_seq away (04 R130). -/
def Hub.standbyTimerDue (h : Hub) : Bool := h.md.power == .standby && !h.beyond (30 + h.seqTime)

/-- H is at most 300 µs away: the timed wake of NAP begins (04 R130). -/
def Hub.timedWakeDue (h : Hub) : Bool := h.mode == mNAP && !h.md.waking && !h.beyond 3

end Sys2Proof.Machine
end

