-- ==== Sys2Proof/Machine/Start.lean ====
section
/-! DEFINITION. Straps, phantom power, the WAKE# contact, power-on, the long-press reset and the cold start
(01 R28, R32–R39, R546; 04 R120–R124, R132–R135). -/

namespace Sys2Proof.Machine

/-! ## Straps (01 R36–R38) -/

/-- One strap takes a sample: accepted at the fourth that agrees. -/
def Straps.sampleBit (s : Straps) (lv : BitVec 4) (i : Nat) : Straps :=
  if s.accepted.getLsbD i then s
  else
    let n := if nth s.run i 0 ≠ 0 ∧ s.last.getLsbD i = lv.getLsbD i then nth s.run i 0 + 1 else 1
    let one : BitVec 4 := BitVec.ofNat 4 (2 ^ i)
    let s1 := { s with run := setNth s.run i 0 n }
    if n < 4 then s1
    else { s1 with accepted := s1.accepted ||| one
                   value := if lv.getLsbD i then s1.value ||| one else s1.value &&& ~~~ one }

/-- A sample of all four straps. -/
def Straps.sample (s : Straps) (lv : BitVec 4) : Straps :=
  { [0, 1, 2, 3].foldl (fun a i => a.sampleBit lv i) s with last := lv, count := s.count + 1 }

/-- The 10 ms of sampling are over: ten samples at intervals of 1 ms (01 R36). (DEDUCED, log entry 39.) -/
def Straps.over10 (s : Straps) : Bool := decide (10 ≤ s.count)

/-- HOSTSEL has been accepted: the always-on domain retains it.  A hub strapped 0 loads the phantom supply no longer, and
one that no feed holds goes off again; it drew that supply because its battery could not hold VSYS (01 R28, R546).
(DEDUCED, log entry 39.) -/
def Hub.hostselTaken (h : Hub) : Hub :=
  let v := h.md.straps.value.getLsbD 3
  let h1 := h.md! fun m => { m with retained := some v }
  if v || !h1.md.phantomLoad then h1
  else
    let h2 := h1.md! fun m => { m with phantomLoad := false }
    if h2.anyFeedOn then h2 else h2.md! fun m => { m with power := .off }

/-- A strap sample within the 10 ms after power-on reset. -/
def Hub.strapSample (h : Hub) (lv : BitVec 4) : Hub :=
  if h.md.straps.over10 then h
  else
  let was := h.md.straps.accepted.getLsbD 3
  let h1 := h.md! fun m => { m with straps := m.straps.sample lv }
  if !was && h1.md.straps.accepted.getLsbD 3 then h1.hostselTaken else h1

/-- Straps without four agreeing samples after 10 ms are taken as 1 and recorded; PCC has advanced by then (02 R57).
(DEDUCED, log entry 39.) -/
def Hub.strapUnstable (h : Hub) : Hub :=
  let mask := 15 - h.md.straps.accepted.toNat
  if mask = 0 then h
  else
    let was := h.md.straps.accepted.getLsbD 3
    let pcc := h.get FRM_PCC_PCC
    let h1 := h.md! fun m => { m with straps := { m.straps with
      accepted := 15, value := m.straps.value ||| ~~~ m.straps.accepted } }
    let h2 := ((h1.put DEV_STRAPS_UNSTABLE mask).incSat FRM_PCC_PCC).record 0x0121 0 sevWARN (payload [(0, 1, mask)])
    let h3 := h2.put FRM_PCC_PCC pcc
    if was then h3 else h3.hostselTaken

/-! ## Phantom supply (01 R28, R546) -/

/-- The hub takes notice of phantom voltage: not with a retained HOSTSEL of 0. -/
def Hub.phantomHeeded (h : Hub) : Bool := h.md.retained != some false

/-- A wake source of NAP or of STANDBY reaches a hub (04 R130). -/
def Hub.wakeBy (h : Hub) : Hub :=
  if h.md.power == .standby then h.md! fun m => { m with waking := true } else if h.running then h.wakeStart else h

def Hub.phantomDetect (h : Hub) : Hub :=
  if !h.phantomHeeded then h
  else
    let h1 := (h.md! fun m => { m with phantom := true }).put STR_PORTUP_PHANTOM 1
    h1.wakeBy
def Hub.phantomLoss (h : Hub) : Hub := (h.md! fun m => { m with phantom := false }).put STR_PORTUP_PHANTOM 0

/-- VSYS below 6 V with phantom power present: SERVICE at the next tick (04 R108). -/
def Hub.phantomEntryDue (h : Hub) : Bool :=
  h.md.phantom && h.phantomHeeded && !(h.mode == mSERVICE && h.md.serviceByPhantom)
/-- VSYS above 9 V for 50 ms: SERVICE on phantom power ends at the next tick (04 R117). -/
def Hub.phantomExitDue (h : Hub) : Bool := h.mode == mSERVICE && h.md.serviceByPhantom

/-! ## WAKE# (01 R33, 04 R134–R135) -/

/-- The debounced level changes: a press is latched and wakes, a release arms the next press. -/
def Hub.wakeLevel (h : Hub) (level : Bool) : Hub :=
  if level then h.md! fun m => { m with wakeLow := false, wakeArmed := true }
  else if h.md.wakeLow then h
  else
    let h1 := h.md! fun m => { m with wakeLow := true, pressMode := h.mode, pressFeed := h.feedAbove12 }
    h1.wakeBy

/-! ## Power-on (04 R121) -/

/-- Power-on reset: RCO runs, RST_OUT# is low, nothing else works before the cold start; the straps are sampled anew. -/
def Hub.bootBegin (h : Hub) (cause src : Nat) (phantomLoad : Bool) : Hub :=
  ((h.put DEV_STRAPS_UNSTABLE 0).md! fun m => { m with
    power := .booting, resetCause := cause, shipSrc := src, phantomLoad := phantomLoad, rstLow := true, straps := {},
    cutoffDue := false, waking := false }).chgPower

/-- Which supply starts a hub without a powered domain: not the battery after a cutoff (11 R310), and not the phantom
supply with a retained HOSTSEL of 0. (DEDUCED, log entry 39.) -/
def Hub.porDue (h : Hub) (src : Supply) : Bool :=
  h.md.power == .off && match src with
    | .feed => true
    | .battery => !h.md.cutoffDue
    | .phantom => h.phantomHeeded

def Hub.shipExitDue (h : Hub) (src : ShipExitSrc) : Bool :=
  h.md.power == .ship && match src with
    | .wake => h.md.wakeLow
    | .feed => true
    | .phantom => h.phantomHeeded
def shipExitNum : ShipExitSrc → Nat | .wake => 1 | .feed => 2 | .phantom => 3

/-- The feed's FETs open; a feed that stays present qualifies again. -/
def Hub.feedReopen (h : Hub) (k : Nat) : Hub :=
  let st := h.feedSt k
  if st = 0 ∨ st = 1 ∨ st = 7 then h else h.feedTo k (if h.flag (FEED_STAT_PRESENT.pg k) then 3 else 1)

/-- WAKE# has been held for 12 s (04 R134–R135): one reset for one press.  A hub that phantom power alone keeps in SERVICE
starts from it again (01 R28). -/
def Hub.longPressDue (h : Hub) : Bool := h.md.wakeLow && h.md.wakeArmed && h.md.power != .off
/-- DEDUCED, log entry 39. -/
def Hub.longPress (h : Hub) : Hub :=
  let alone := h.md.phantomLoad || (h.mode == mSERVICE && h.md.serviceByPhantom && !h.anyFeedOn)
  let h1 := if h.running then h.logicOff .off else h
  (((h1.feedReopen 0).feedReopen 1).md! fun m => { m with wakeArmed := false }).bootBegin 3 0 alone

/-! ## Cold start (04 R120–R124) -/

/-- Fields that keep their value: those marked Stored, the key store's state, OPH, PCC and the recorder's place.
(DEDUCED, log entry 60.) -/
def coldKept : List Fld :=
  [REC_STAT_HEAD, REC_STAT_WRAPPED, REC_STAT_FATALFULL, REC_SEQ_NEXT, REC_NEWEST_SLOT, REC_NEWEST_REPEAT, REC_FATALN_N,
   REC_CNT2_CLEARS, KEY_STAT_LOCKOUT, KEY_STAT_SLOTSET, KEY_STAT_FAILS, KEY_LOCKLEFT_LEFT, KEY_CNT_FAILTOTAL,
   KEY_CNT_OKTOTAL, FRM_OPH_LO_OPH, FRM_OPH_HI_OPH, FRM_PCC_PCC, DEV_BOOT_VER]

/-- Registers that keep their word: the RTC page, the state of the feeds' control, and the event map.
(DEDUCED, log entry 60.) -/
def coldWhole (i : Nat) : Bool :=
  i / 256 == pgRTC || i == FEED_STAT_STATE.idx || i == FEED_STAT_STATE.idx + 256
      || (decide (0x0630 ≤ i) && decide (i < 0x0650))

def Hub.coldRegs (h : Hub) : List (Nat × Word) :=
  (coldKept.foldl (fun (a : Hub) f => a.put f (h.get f)) (h.regs! fun m => m.filter fun e => coldWhole e.1)).regs

/-- Everything that a cold start leaves: the stores, the always-on domain and the feeds' control. (DEDUCED,
log entry 60.) -/
def Hub.coldBase (h : Hub) : Hub :=
  { part := h.part, regs := h.coldRegs
    rcd := { queue := h.rcd.queue, store := h.rcd.store, newest := h.rcd.newest, lostCount := h.rcd.lostCount
             sets := h.rcd.sets, clearing := h.rcd.clearing }
    keys := { slots := h.keys.slots, draws := h.keys.draws }
    mea := { nv := h.mea.nv, ticks := h.mea.ticks }
    feedA := h.feedA, feedB := h.feedB, rtc := h.rtc
    bad := h.bad.filter fun b => b.idx / 256 == pgRTC && !b.shadow
    md := { power := .on, straps := h.md.straps, retained := h.md.retained, wakeLow := h.md.wakeLow
            wakeArmed := h.md.wakeArmed, pressMode := h.md.pressMode, pressFeed := h.md.pressFeed
            resetCause := h.md.resetCause, shipSrc := h.md.shipSrc, phantom := h.md.phantom
            phantomLoad := h.md.phantomLoad } }

/-- The boot profile (04 R122): it is loaded, or the factory's stands in, with a record. -/
def Hub.bootRead (h : Hub) (b : BootRead) : Hub :=
  let bad (cause : Nat) : Hub :=
    ((h.put DEV_BOOT_FACTORY 1).put DEV_BOOT_VALID 0).record 0x0106 0 sevFAULT (payload [(0, 1, cause)])
  match b with
  | .ok ver rs =>
    let own (i : Nat) : Word := match findReg h.part i with | some d => d.mask (·.writable) | none => 0
    let l := (rs.map fun e => (e.1.toNat, e.2 &&& own e.1.toNat)).filter fun e =>
      bootIdx e.1 || e.1 == DEV_CTL_AUTO_STBY.idx || e.1 == DEV_IDLET_IDLE_T.idx
    let h1 := ((h.put DEV_BOOT_VER ver.toNat).put DEV_BOOT_VALID 1).put DEV_BOOT_FACTORY 0
    (h1.md! fun m => { m with profile := l }).bootLoad fun i =>
      bootIdx i || i == DEV_CTL_AUTO_STBY.idx || i == DEV_IDLET_IDLE_T.idx
  | .checkFailed => bad 1
  | .unknownVersion => bad 2
  | .readError => bad 3

/-- The self-test (04 R123): every failed block is fenced with cause 8, but for pages that cannot be fenced; a failure
of the converters fences each of them (13 R368). -/
def Hub.selfTest (h : Hub) (mask : BitVec 6) (owners : List (BitVec 8)) : Hub :=
  if mask = 0 then h
  else
    let chans : Bool := mask.getLsbD 3
    let own := (owners.map (·.toNat)).filter fun p =>
      (mask.getLsbD 0 || (chans && decide (0x40 ≤ p))) && p != pgDEV && p != pgRTC && (pageKind h.part p).isSome
    let fixed := [(1, pgADC), (2, pgSUP), (4, pgREC), (5, pgCLK)].filter fun e => mask.getLsbD e.1
    let h1 := if mask.getLsbD 1 then [0, 1, 2, 3].foldl Hub.adcFence h else h
    ((own ++ fixed.map (·.2)).foldl (fun a p => a.fence p 8) h1).record 0x0107 0 sevFATAL (payload [(0, 4, mask.toNat)])

/-- The accepted straps, the two-wire address and the role they give (01 R37–R38, R546). -/
def Hub.strapsTaken (h : Hub) : Hub :=
  let v := h.md.straps.value
  let h1 := ((h.put DEV_STRAPS_ADDR (v.toNat % 8)).putb DEV_STRAPS_HOSTSEL (v.getLsbD 3)).put TWB_STAT_ADDR (0x30
      + v.toNat % 8)
  let h2 := h1.md! fun m => { m with retained := some (v.getLsbD 3) }
  let h3 := h2.putb STR_PORTUP_PHANTOM (h2.md.phantom && v.getLsbD 3)
  if v.getLsbD 3 then h3 else h3.roleTo 1

/-- A latched feed stands fenced, a feed whose enable or whose page is free again leaves DISABLED or IDLE, and one that
is ON is recorded and counted, with FRM = 0 (08 R231). -/
def Hub.coldFeed (h : Hub) (k : Nat) : Hub :=
  if h.feedSt k = 7 then h.setPage (feedPage k) { h.page (feedPage k) with causes := [{ code := 2 }] }
  else if h.feedSt k = 5 then
    (h.incSat (FEED_CNT2_ONCNT.pg k)).report (feedPage k) 0 0x0F01 k sevINFO
      [(0, 2, (h.feed k).onV), (2, 1, h.get (FEED_STAT_ATTEMPTS.pg k))]
  else if h.feedSt k = 1 ∧ h.flag (FEED_STAT_PRESENT.pg k) then h.feedTo k 3
  else h.feedEnable k

/-- COLD_START: registers return to their reset values, PCC advances, the boot profile is read, the straps act, the
self-test runs, and the hub stands in READY or SERVICE with RST_OUT# released; a hub strapped HOSTSEL = 0 draws no
phantom supply, and one with a feed ON does not need it (01 R28, R546). (DEDUCED, log entry 39.) -/
def Hub.coldStart (h0 : Hub) (inp : ColdIn) : Hub :=
  if h0.md.power ≠ .booting then h0
  else
    let h := h0.strapUnstable
    -- a hub that HOSTSEL = 0 has cut off its only supply is off again
    if h.md.power ≠ .booting then h
    else if inp.phantomOnly && !h.md.straps.value.getLsbD 3 && !h.anyFeedOn then h.md! fun m => { m with power := .off }
    else
    let unstable := h.get DEV_STRAPS_UNSTABLE
    let b := ((h.coldBase.incSat FRM_PCC_PCC).put DEV_STRAPS_UNSTABLE unstable)
    let b1 := match h.rcd.clearing with
      | some c => b.clearRun c.slot c.mark true c.ring c.fatal
      | none => b
    let b2 := (b1.put CLK_STAT_MOSC_RDY 1).pllOn
    let b3 := (((b2.bootRead inp.boot).coldFeed 0).coldFeed 1).shareSettle
    let b4 := b3.osfSay.strapsTaken
    let b5 := b4.selfTest inp.selfTest inp.owners
    let b6 := b5.record 0x0108 0 sevINFO (payload [(0, 1, h.md.resetCause), (1, 1, h.md.shipSrc)])
    let b7 := if h.md.resetCause = 3 then
        b6.record 0x0105 0 sevWARN (payload [(0, 1, h.md.pressMode), (1, 1, boolNat h.md.pressFeed)]) else b6
    let only := inp.phantomOnly && h.md.straps.value.getLsbD 3 && !b7.anyFeedOn
    let b8 := b7.md! fun m =>
        { m with idleRun := 0, phantomOnly := only, phantomLoad := false, rstLow := false }
    let b9 := if only then
        ((b8.setMode mSERVICE 10).md! fun m => { m with serviceByPhantom := true }).convPhantom else b8
    b9.seq! fun q => { q with start := some (true, 1), builtin := true }

end Sys2Proof.Machine
end

