-- ==== Sys2Proof/Machine/TwoWire.lean ====
section
/-! DEFINITION. The two-wire service port (chapter 16): transactions, busy windows, attention and recovery. -/

namespace Sys2Proof.Machine

abbrev pgTWB : Nat := 0x0B
def State.hub! (s : State) (f : Hub → Hub) : State := { s with hub := f s.hub }

/-- The hub's address (01 R37) as the address byte of a write; of a read it is one more. -/
def Hub.twbAddr (h : Hub) : Nat := 2 * h.get TWB_STAT_ADDR

/-! ## Busy windows (16 R437–R438) -/

/-- A window has closed: 500 µs of quiet follow. -/
def Hub.quietBegin (h : Hub) : Hub := (h.put TWB_STAT_QUIET 1).twb! fun t => { t with quiet := 0 }

/-- The commit of an open COMMIT window has been judged at its tick. -/
def Hub.windowOver (h : Hub) : Bool := match h.twb.commit with | some p => !(h.page p).commit | none => false
def Hub.windowClose (h : Hub) : Hub := (h.twb! fun t => { t with commit := none }).quietBegin

/-- P0 has ended by this cycle of the frame, and with it a window whose commit it applied. -/
def Hub.windowAt (h : Hub) (cyc : Nat) : Hub :=
  if h.running && h.windowOver && decide (2000 ≤ cyc) then h.windowClose else h

/-- 500 µs are five ticks; the tick that ends the sixth ends a quiet period no command has ended. (DESIGN CHOICE, log
entry 7.) -/
def Hub.quietOver (h : Hub) : Bool := h.cfgSafe TWB_STAT_QUIET == 1 && decide (5 ≤ h.twb.quiet)
def Hub.quietEnd (h : Hub) : Hub := (h.put TWB_STAT_QUIET 0).twb! fun t => { t with quiet := 0 }

/-- The port answers: never before the first tick after the straps have been accepted (16 R432). -/
def Hub.twbUp (h : Hub) : Bool := h.running && !h.frm.first

/-- Addressed while busy, the hub does not acknowledge and counts; otherwise it serves the transaction.
(DEDUCED, log entry 47.) -/
def State.twbServe (s : State) (f : State → State) : Answer :=
  if !s.hub.twbUp then .next s
  else if s.hub.twbBusy then .next (s.hub! fun h => h.incSat TWB_CNT_NACKBUSY)
  else .next (f s)

/-! ## Transactions (16 R433–R436) -/

/-- The bytes of an answer with its PEC where the controller asks for it; `sent` went before on the bus. -/
def answerBytes (sent data : List Nat) (pec : Bool) : List Nat := data ++ (if pec then [crc8 (sent ++ data)] else [])

/-- DEDUCED, log entry 47. -/
def Hub.twbOut (h : Hub) (sent data : List Nat) (pec : Bool) : Hub :=
    h.twb! fun t => { t with out := answerBytes sent data pec }

/-- Byte `i` of an answer on the bus: 0xFF after the PEC (16 R434). -/
def Hub.twbByte (h : Hub) (i : Nat) : Nat := nth h.twb.out i 0xFF

/-- READ: the access takes place at addr+R. -/
def State.twbRead (s : State) (idx cyc : Nat) (pec : Bool) : State :=
  let r := (s.hub! fun h => h.atCyc cyc).portRead .w idx
  let a := s.hub.twbAddr
  r.1.hub! fun h => h.twbOut [a, 0x20, idx % 256, idx / 256, a + 1] (r.2.1 :: wordBytes r.2.2) pec

/-- TWB_LAST after an executed WRITE (16 R436). -/
def Hub.twbLast (h : Hub) (idx status : Nat) : Hub :=
  h.put TWB_LAST_LAST (status + idx % 256 * 2 ^ 8 + idx / 256 * 2 ^ 16
      + (bitsOf (h.word TWB_LAST_LAST.idx) 24 8 + 1) % 256 * 2 ^ 24)

/-- A WRITE executes with the byte enables of its command. -/
def State.twbExec (s : State) (cmd : Nat) (b : List Nat) : State :=
  let idx := nth b 0 0 + 256 * nth b 1 0
  let val := nth b 2 0 + 2 ^ 8 * nth b 3 0 + 2 ^ 16 * nth b 4 0 + 2 ^ 24 * nth b 5 0
  let r := s.portWrite .w idx (cmd % 16) (BitVec.ofNat 32 val)
  r.1.hub! fun h => h.twbLast idx r.2

/-- A format error: 1 unknown command, 2 no byte enabled, 3 short (16 R446); 0 for a command that has none. -/
def fmtCause (cmd : Nat) : Nat :=
  if 0x31 ≤ cmd ∧ cmd ≤ 0x3F then 3 else if cmd = 0x30 then 2 else if cmd = 0x20 ∨ cmd = 0xF0 ∨ cmd = 0xF1 then 0 else 1
def Hub.fmtError (h : Hub) (cmd cause : Nat) : Hub :=
  (h.incSat TWB_CNT2_FMT).report pgTWB 2 0x0C03 0 sevINFO [(0, 1, cmd), (1, 1, cause)]

def Hub.pecError (h : Hub) (cmd idx : Nat) : Hub :=
  ((h.incSat TWB_CNT_PECERR).twb!
      fun t => { t with pecerr := true, fresh := true, pulsed := false }).report pgTWB 1 0x0C02 0 sevINFO
    [(0, 1, cmd), (2, 2, idx)]

/-- WRITE at its STOP, by the bytes after the command (16 R435). -/
def State.twbWrite (s : State) (cmd : Nat) (bytes : List Nat) (cyc : Nat) : State :=
  let s1 := s.hub! fun h => (h.atCyc cyc).twb! fun t => { t with out := [] }
  let idx := nth bytes 0 0 + 256 * nth bytes 1 0
  if fmtCause cmd = 0 then s1
  else if fmtCause cmd ≠ 3 ∨ bytes.length < 6 then s1.hub! fun h => h.fmtError cmd (fmtCause cmd)
  else
    let ok : Bool := if bytes.length = 6 then s.hub.cfgSafe TWB_CTL_PEC_EN == 0
      else nth bytes 6 0 == crc8 (s.hub.twbAddr :: cmd :: bytes.take 6)
    if ok then s1.twbExec cmd bytes else s1.hub! fun h => h.pecError cmd idx

/-! ## Attention (16 R439–R443) -/

/-- ATTN: the vector is seen, TMO and PECERR are clear, and ALERT# goes high after a won alert response, which also ends
recovery (R444). -/
def State.attn (s0 : State) (pec : Bool) : State :=
  let s := s0.twbSettle
  let a := s.hub.twbAddr
  let v := s.presents .w
  let word := s.twbAttn
  let s1 := s.hub! fun h =>
    let h1 := (h.twbOut [a, 0xF0, a + 1] (wordBytes word) pec).put TWB_STAT_UNSEEN 0
    let h2 := if h1.twb.araWon then (h1.put TWB_STAT_ALERT 0).put TWB_STAT_RECOVERY 0 else h1
    h2.twb! fun t =>
        { t with seen := v, tmo := false, pecerr := false, fresh := false, sinceAttn := 0, reminded := false, araWon := false }
  s1

/-- LAST. -/
def Hub.twbLastRead (h : Hub) (pec : Bool) : Hub :=
  h.twbOut [h.twbAddr, 0xF1, h.twbAddr + 1] (wordBytes (BitVec.ofNat 32 (h.cfgSafe TWB_LAST_LAST))) pec

/-- The alert response: a hub that holds ALERT# low answers, and the lowest address wins; the winner's PEC covers the
address byte of the read, 0x19, and its own byte. -/
def State.alertResponse (s0 : State) (lost pec : Bool) : State :=
  let s := s0.twbSettle
  if !s.hub.flag TWB_STAT_ALERT then s
  else if lost then s.hub! fun h => h.twb! fun t => { t with out := [] }
  else s.hub! fun h => (h.twbOut [0x19] [h.twbAddr] pec).twb! fun t => { t with araWon := true }

/-- SCL has been low for the timeout (16 R444). -/
def Hub.busTimeout (h : Hub) (mid : Bool) : Hub :=
  (((h.incSat TWB_CNT_TIMEOUT).put TWB_STAT_RECOVERY 1).twb!
      fun t => { t with tmo := true, fresh := true, pulsed := false, out := [] }).report
    pgTWB 0 0x0C01 0 sevWARN [(0, 1, boolNat mid)]

/-- A pulse is due: in-band, attention unseen and not yet pulsed for. -/
def State.pulseDue (s : State) : Bool :=
  let t := s.twbSettle
  !t.hub.flag TWB_STAT_ALERTMODE && t.hub.flag TWB_STAT_UNSEEN && !t.hub.twb.pulsed
def State.inbandPulse (s : State) : State :=
  s.twbSettle.hub! fun h => (h.incWrap TWB_CNT2_PULSES).twb!
      fun t => { t with pulsed := true, pulseVec := some (s.presents .w), collided := false }

/-- A controller begins a transaction during the pulse, at most once in a pulse (16 R441); a pulse that runs when SERVICE
begins completes, so the way of signalling is not asked. -/
def Hub.collideDue (h : Hub) : Bool := h.twb.pulseVec.isSome && !h.twb.collided
def Hub.collide (h : Hub) : Hub := ((h.incSat TWB_CNT_COLLIDE).twb! fun t => { t with collided := true }).evt pgTWB 3

/-- REMIND ms have passed since the last ATTN read, and target W still presents what it showed. (DEDUCED, log entry 47.) -/
def State.remindDue (s : State) : Bool :=
  let r := s.hub.cfgSafe TWB_CTL_REMIND
  r != 0 && !s.hub.twb.reminded && decide (r * 10 ≤ s.hub.twb.sinceAttn)
    && match s.presents .w with | none => false | some v => s.hub.twb.seen == some v
def State.remind (s : State) : State := (s.hub! fun h => h.twb! fun t => { t with reminded := true }).twbSettle

/-! ## Work of a tick -/

/-- The way of signalling follows its conditions (16 R440), times run, and windows and quiet periods whose end no command
has brought end here. -/
def State.twbTick (s0 : State) : State :=
  let s := s0.hub! fun h =>
    let h1 := h.twb! fun t => { t with sinceAttn := min 4000 (t.sinceAttn + 1), quiet := min 10 (t.quiet + 1) }
    let h2 := if h1.cfgSafe TWB_STAT_QUIET == 1 && decide (6 ≤ h1.twb.quiet) then h1.quietEnd else h1
    let inband := h2.cfgSafe TWB_CTL_IBR_EN == 1 && h2.mode != mSERVICE && h2.cfgSafe TWB_STAT_RECOVERY == 0
    if inband && h2.flag TWB_STAT_ALERTMODE then
      ((h2.put TWB_STAT_ALERTMODE 0).put TWB_STAT_ALERT 0).twb! fun t => { t with araWon := false }
    else h2.putb TWB_STAT_ALERTMODE (!inband)
  let s1 := if s.remindDue && decide (s.hub.cfgSafe TWB_CTL_REMIND * 10 < s.hub.twb.sinceAttn) then s.remind else s
  s1.twbSettle

end Sys2Proof.Machine
end

