-- ==== Sys2Proof/Machine/Merge.lean ====
section
/-! DEFINITION. What accepted writes do at the tick: Live and Idle values with their actions (03 R92–R93), then REL, SRST
and EN of every page (03 R87–R88, 21 R518–R520). -/

namespace Sys2Proof.Machine

/-! ## Live and Idle writes -/

/-- ARM of SNAP_CTL, judged in the frame that the tick opens (13 R364). -/
def Hub.armActs (h : Hub) (port : Port) : Hub :=
  let f := h.get SNAP_AT_FRAME
  if (2 ^ 20 : Int) ≤ diff32 f h.frmNo then h.pgErr pgSNAP 0x04 0x09
  else h.snapJudge f (match port with | .e => 1 | .w => 2)

/-- What an act bit or a changed value of a register does at the tick, after its word has come into force: `old` the word
before, `on` the bits written as 1. (DEDUCED, log entry 23.) -/
def Hub.mergeActs (h : Hub) (idx : Nat) (old on : Word) (port : Port) : Hub :=
  let page := idx / 256
  let off := idx % 256
  if off = 4 then
    let new := on &&& ~~~ old &&& h.word (page * 256 + 3)
    match pageKind h.part page with
    | some k => (List.range 31).foldl (fun a b => if new.getLsbD b then a.raiseAll (flagSources k page b) else a) h
    | none => h
  else if 0x40 ≤ page then
    if off = 0x13 then h.chForceActs (page - 0x40) (bitsOf old 0 2) (h.get (CH_FORCE_FORCE.pg (page - 0x40))) port
    else if off = 0x31 ∧ on.getLsbD 0 then h.flushLane (page - 0x40) 0
    else h
  else match page with
    | 0x01 => if off = 0x09 then h.selActs (bitsOf old 0 3) else if off = 0x0C ∧ on.getLsbD 16 then h.fmStart else h
    | 0x05 =>
      if off = 0x08 then h.put RTC_STAT_TWR 1
      else if off = 0x09 then h.put RTC_STAT_DWR 1
      else if off = 0x0C then h.rtcCtlActs (bitsOf old 0 1 == 1) port
      else h
    | 0x07 =>
      if off = 0x08 then match bitsOf on 0 2 with
        | 1 => h.seq! fun q => { q with start := some (true, 0) }
        | 2 => h.seq! fun q => { q with start := some (false, 0) }
        | _ => h
      else h
    | 0x08 =>
      if 0x10 ≤ off ∧ off < 0x28 ∧ bitsOf (h.word idx) 0 1 ≠ bitsOf old 0 1 then h.supEnableActs (off - 0x10) else h
    | 0x0A => if off = 0x0D ∧ on.getLsbD 16 then h.fcalStart else h
    | 0x0C =>
      if off = 0x09 then
        let h1 := h.dnenActs
        let h2 := if on.getLsbD 0 then h1.reenumActs else h1
        if on.getLsbD 2 then h2.sendSync else h2
      else h
    | 0x11 => if off = 0x0E ∧ h.word idx ≠ old then h.put LB_STAT_SYNC 0 else h
    | 0x16 => if off = 0x0A then (h.put SEC_STAT_SPDSTALE 0).sec! fun x => { x with speedAge := 0 } else h
    | 0x17 => if 0x18 ≤ off ∧ off < 0x28 ∧ off % 4 = 0 ∧ on.getLsbD 17 then h.engRelease ((off - 0x18) / 4) else h
    | 0x18 => if off = 0x09 ∧ on.getLsbD 0 then h.armActs port else h
    | 0x1E => if 0x09 ≤ off ∧ off ≤ 0x11 then h.tstActs off old port else h
    | 0x1F =>
      if off = 0x08 then
        let h1 := if on.getLsbD 3 then h.sessionEnd else h
        if on.getLsbD 0 then h1.drawChallenge else h1
      else h
    | _ => h

/-- Write-only bits act and are not kept, but for the key and response registers and the skew. -/
def keptWo (idx : Nat) : Bool := (decide (0x1F0E ≤ idx) && decide (idx ≤ 0x1F19)) || idx == 0x1E0E

/-- One register's accepted writes come into force. (DEDUCED, log entry 15.) -/
def Hub.mergeReg (h : Hub) (idx : Nat) (w : PendW) : Hub :=
  let old := h.word idx
  let wo := match findReg h.part idx with
    | some d => if keptWo idx then 0 else d.mask (·.acc == .wo)
    | none => 0
  let new := (old &&& ~~~ w.mask) ||| (w.val &&& w.mask &&& ~~~ wo)
  (h.setWord idx new).mergeActs idx old (w.val &&& w.mask) w.port

/-- Writes to a converter's own registers while its page is fenced for parity act only after the release (09 R273); its
header and its EN are no part of that. (DEDUCED, log entry 74.) -/
def Hub.pendHeld (h : Hub) (idx : Nat) : Bool :=
  decide (0x1100 ≤ idx) && decide (idx < 0x1600) && decide (8 ≤ idx % 256) && h.hasCause (idx / 256) 1

/-- The bits of the accepted W1C writes clear. -/
def Hub.mergeClears (h : Hub) (due : List (Nat × PendW)) : Hub :=
  due.foldl (fun a e => a.setWord e.1 (a.word e.1 &&& ~~~ e.2.clr)) h

/-- All of them: first the W1C writes, so that an edge which another write raises at the tick is the later one (03 R89,
17 R449), then in ascending order of index. (DEDUCED, log entry 10.) -/
def Hub.mergeAll (h : Hub) : Hub :=
  let due := h.pend.filter fun e => !h.pendHeld e.1
  due.foldl (fun a e => a.mergeReg e.1 e.2)
    ((h.pend! fun m => m.filter fun e => h.pendHeld e.1).mergeClears due)

/-! ## REL (03 R88, 21 R518, R520) -/

/-- The block resumes after its release. -/
def Hub.released (h : Hub) (page : Nat) : Hub :=
  match pageKind h.part page with
  | some .ch => h.chReleased (page - 0x40)
  | some .feed => h.feedReleased (page - 0x0E)
  | some .lb => h.convReleased 0
  | some .h => h.convReleased (page - 0x11)
  | some .adc => h.adcReleased
  | some .sec => h.chList.foldl Hub.engOff h
  | _ => h

def Hub.relActs (h : Hub) (page : Nat) : Hub :=
  let x := h.page page
  if !x.rel then h
  else
    let h1 := h.setPage page { x with rel := false }
    match h1.shownCause page with
    | none => h1
    | some c =>
      if !h1.allCleared page then h1
      else
        let h2 := h1.setPage page { h1.page page with causes := [] }
        (h2.released page).record (h2.hdrCode page 0xF4) (pageInstance page) sevINFO
          (payload [(0, 1, c.code), (4, 4, c.oph)])

/-! ## SRST (03 R87) -/

/-- Registers of a page that a soft reset leaves as they are: locks, and counters that clear only at cold start (08 R244,
R253, 11 R322). (DEDUCED, log entry 14.) -/
def srstKeeps (k : PageKind) (off : Nat) : Bool :=
  off == 6 || match k with
  | .feed => off == FEED_E_LO_E.idx % 256 || off == FEED_E_HI_E.idx % 256 || off == FEED_CNT_INSTRIP.idx % 256
      || off == FEED_CNT2_ONCNT.idx % 256
  | .chg => off == CHG_HUCNT_ENTRIES.idx % 256 || off == CHG_HUCNT2_BYPTRIPS.idx % 256
  | _ => false

/-- Every register of the page takes its reset value, Boot fields that of the profile in force, and the block is left
disabled; an EN that another access has written stands (03 R87). (DEDUCED, log entry 14.) -/
def Hub.srstRegs (h : Hub) (page : Nat) (k : PageKind) : Hub :=
  let drop (i : Nat) : Bool := i / 256 == page && !srstKeeps k (i % 256)
  let h1 := { h with
    regs := h.regs.filter (fun e => !drop e.1), pend := h.pend.filter (fun e => !drop e.1)
    bad := h.bad.filter (fun b => !(b.idx / 256 == page && (b.shadow || !srstKeeps k (b.idx % 256)))) }
  let x := h1.page page
  let h2 := (h1.dropShadow page).setPage page { x with dirty := false, src := .e, commit := false, failed := false }
  let h3 := h2.bootLoad fun i => bootIdx i && i / 256 == page
  if k.enFixed then h3 else h3.put (PG_CTL_EN.pg page) 0

/-- What a soft reset does to the block besides its registers. (DEDUCED, log entry 14.) -/
def Hub.srstBlock (h : Hub) (page : Nat) (k : PageKind) : Hub :=
  match k with
  | .ch =>
    let n := page - 0x40
    let h1 := (h.chDrop n).flushLane n 3
    let c := h1.ch n
    (h1.srstRegs page k).setCh n
      { armed := c.armed, otArmed := true, lsClosed := c.lsClosed, offRun := c.offRun, hubSeen := c.hubSeen }
  -- a sink that is closed stays so below 0.4 V (09 R259)
  | .lb => ((h.srstRegs page k).setConv 0 { vent := (h.conv 0).vent, seqVent := (h.conv 0).seqVent }).lb! fun _ => {}
  | .h => (h.srstRegs page k).setConv (page - 0x11)
      { vent := (h.conv (page - 0x11)).vent, seqVent := (h.conv (page - 0x11)).seqVent }
  | .bud => (h.srstRegs page k).budEnable false
  | .feed =>
    -- the detectors of presence and polarity report again (08 R232–R234)
    ((h.feedDrop (page - 0x0E)).srstRegs page k).feedTo (page - 0x0E) 0
  | .chg => h.openBypass.chgDisable.srstRegs page k
  | .sec => ((h.chList.foldl Hub.engOff h).srstRegs page k).sec! fun x => { trvA := x.trvA, trvB := x.trvB }
  | .gey => (((h.geyAbortAll 5).srstRegs page k).engines! fun _ => [{}, {}, {}, {}]).meas! fun _ => []
  | .sup => (h.srstRegs page k).seq! fun q => { q with supDue := [], rawIn := 0 }
  | .tst => (h.tstClear 3).srstRegs page k
  | _ => h.srstRegs page k

/-- DEDUCED, log entry 14. -/
def Hub.srstActs (h : Hub) (page : Nat) : Hub :=
  let x := h.page page
  match x.srst, pageKind h.part page with
  | some p, some k =>
    ((h.setPage page { x with srst := none }).srstBlock page k).record (h.hdrCode page 0xF5) (pageInstance page) sevINFO
      (payload [(0, 1, if p = .w then 1 else 0)])
  | _, _ => h

/-! ## EN -/

/-- The enable is written from `was` to `on`; the engine states go off where it changes (06 R202, R205). -/
def Hub.enabled (h : Hub) (page : Nat) (was on : Bool) : Hub :=
  match pageKind h.part page with
  | some .ch => if on then h.chEnable (page - 0x40) else h.chDisable (page - 0x40)
  | some .feed => if on then h.feedEnable (page - 0x0E) else h.feedDisable (page - 0x0E)
  | some .lb => if on then h.convEnable 0 else h.convDisable 0
  | some .h => if on then h.convEnable (page - 0x11) else h.convDisable (page - 0x11)
  | some .bud => h.budEnable on
  | some .chg => if on then h.chgEnable else h.chgDisable
  | some .sec => if was == on then h else h.chList.foldl Hub.engOff h
  | some .gey => if on then h else h.geyAbortAll 5
  | _ => h

/-- An enable write acts at the tick; in the meantime the page may have been fenced (03 R88). -/
def Hub.enActs (h : Hub) (page : Nat) : Hub :=
  let x := h.page page
  match x.en with
  | none => h
  | some (on, off) =>
    let h1 := h.setPage page { x with en := none }
    if on && h1.fenced page then h1.pgErr page 0x0D off
    else (h1.putb (PG_CTL_EN.pg page) on).enabled page (h1.en page) on

/-- REL, SRST and EN of one page. -/
def Hub.pageTick (h : Hub) (page : Nat) : Hub := ((h.relActs page).srstActs page).enActs page

/-- The VIEW bits, and every page in ascending order (03 R86–R88). -/
def Hub.pagesTick (h : Hub) : Hub :=
  h.pages.foldl (fun a e => a.pageTick e.1) (h.views! fun v => { v with viewE := v.nextE, viewW := v.nextW })

end Sys2Proof.Machine
end

