-- ==== Sys2Proof/Machine/Tick.lean ====
section
/-! DEFINITION. FRAME_TICK: what the end of a frame brings, P0, and the phases of the frame it opens (02 R47–R56, 95's
account of the step); TICK, TICK_MISSING and replays on a follower (02 R55, R71–R72, 06 R183, 14 R383, R391–R393); the
packets of the lead's timetable (14 R382–R384, R393, 15 R425). -/

namespace Sys2Proof.Machine


/-! ## Reads of snapshot sets (20 R501) -/

/-- An internal read of a register: it has no effect on the hub. -/
def State.peek (s : State) (idx : Nat) : Nat × Word :=
  let plain := s.hub! fun h => h.views! fun v => { v with viewE := false }
  let r := plain.read .e idx
  (r.2.1, if r.2.1 = 0 then r.2.2 else 0)

/-- P3 writes the records that wait; at most two of them have their snapshot read in one frame. (DEDUCED, log entry 35.) -/
def State.snapReads (s : State) : State :=
  let step (acc : List Rec × Nat) (r : Rec) : List Rec × Nat :=
    if r.done then (acc.1 ++ [r], acc.2)
    else match r.set with
      | none => (acc.1 ++ [{ r with done := true }], acc.2)
      | some k =>
        if acc.2 = 0 then (acc.1 ++ [r], 0)
        else
          let pairs := (nth s.hub.rcd.sets k {}).indices.map fun i => (i, s.peek i)
          (acc.1 ++ [{ r with pairs := pairs, snapFrm := s.hub.frmNo, done := true, age := 0 }], acc.2 - 1)
  s.hub! fun h => h.rcd! fun q => { q with queue := (q.queue.foldl step ([], 2)).1 }

/-! ## P1 and P2 -/

/-- The poll reply as it stands at the end of P2 (14 R384); word 0 and bit 21 of word 2 are those of the slot. -/
def State.pollWords (s : State) : List Word :=
  let h := s.hub
  let r := h.bud.own
  let b (v : Nat) : Word := BitVec.ofNat 32 v
  let bit (i : Nat) (c : Bool) : Nat := boolNat c * 2 ^ i
  let dnnew := h.portUp .dn && !h.flag STR_PORTDN_PEERVALID
  [0, b (r.d % 2 ^ 12 + r.m % 2 ^ 12 * 2 ^ 12 + r.weight % 2 ^ 8 * 2 ^ 24),
   b (r.c % 2 ^ 12 + h.mode * 2 ^ 12 + bit 15 r.holdup + bit 16 (h.mode == mSERVICE) + bit 17 h.napRule + bit 18 h.stbyRule
     + bit 19 h.transportLow + bit 20 (s.presents .e).isSome + bit 22 (h.flag SEC_STAT_DESYNC)
     + bit 23 (h.pages.any fun e => !e.2.causes.isEmpty) + bit 24 dnnew + h.get STR_PORTUP_HVER % 4 * 2 ^ 25),
   b (if h.flag SEC_STAT_GAP then Hub.firstMissing 64 h h.sec.needFrm else 0),
   b (h.get FRM_TERR_ERR + h.get FRM_TERR_MISS * 2 ^ 16), s.attnWord, 0]

/-- A phase has taken some cycles, at most `most`; FRM_LOAD keeps the peak (02 R77).  The spec states no count of cycles
(DESIGN CHOICE, log entry 9). -/
def Hub.loadPeak (h : Hub) (f : Fld) (phase most : Nat) : Hub :=
  h.put f (max (h.get f) (min most (Config.phaseCycles phase h.mea.ticks).toNat))

/-- P1 of this frame, unless a forced overrun moves its deadline to its start (22 R530). -/
def Hub.runP1 (h : Hub) : Hub :=
  if !h.frm.p1Due || h.tst.ovr.testBit 0 then h
  else ((h.sectionP1).loadPeak FRM_LOAD_P1MAX 1 10000).frm! fun f => { f with p1Due := false }

/-- What P2 does: the budget, previews, the sequencer's judgements, the hand-back, and the poll reply. -/
def State.judgeP2 (s : State) : State :=
  let s1 := s.hub! fun h => h.budgetP2.preview.seqP2.holdupP2.shareP2
  s1.hub! fun h => h.link! fun l => { l with pollLatch := s1.pollWords }

/-- P2 with the frame's ADC3 results, or where the head was late with those of the frame before (13 R352). -/
def State.workP2 (s : State) : State :=
  if s.hub.mea.headSaid then
    ((s.hub! fun h => h.putHead h.mea.headWas).judgeP2).hub! fun h => h.putHead (headFlds.map s.hub.get)
  else s.judgeP2

/-- The frame has come as far as P2: a follower has its TICK or has missed it, and the head is complete or late. -/
def Hub.p2Open (h : Hub) : Bool :=
  h.frm.p2Due && !h.tst.ovr.testBit 1 && !h.headLateDue && (h.leads || h.link.tickGot || h.link.tickMissed)

/-- P2 of this frame, as soon as it may run (02 R48, 13 R352). (DEDUCED, log entry 26.) -/
def State.runP2 (s : State) : State :=
  if !s.hub.p2Open then s
  else s.workP2.hub! fun h => (h.loadPeak FRM_LOAD_P2MAX 2 6000).frm! fun f => { f with p2Due := false }

/-- PHASE_DEADLINE: a phase that is unfinished at its deadline is deferred, and the frame overruns (02 R49). -/
def Hub.phaseDeadline (h : Hub) : Hub :=
  if h.frm.p1Due && h.tst.ovr.testBit 0 then (h.frm! fun f => { f with p1Due := false }).overrun 1
  else if h.frm.p2Due && h.tst.ovr.testBit 1 then (h.frm! fun f => { f with p2Due := false }).overrun 2
  else h

/-! ## TICK on a follower -/

/-- The frame length correction c for an error, with TICK_STEP and the skipped frame of the last row (02 R71). -/
def alignOf (err : Int) : Int × Bool × Bool :=
  if -8 ≤ err ∧ err ≤ 8 then (err, false, false)
  else if -400 ≤ err ∧ err < 0 then (-8, false, false)
  else if 0 < err ∧ err ≤ 400 then (8, false, false)
  else if err ≤ 2000 then (err, true, false)
  else (err - 40000, true, true)

/-- The follower measures a TICK and sets the length of its next frame (02 R71–R72, R74).  While FRM_TOFS fails parity err
shows and nothing is recorded of it (DEDUCED, log entry 62). -/
def Hub.tickAlign (h : Hub) (arrival : Int) : Hub :=
  let err : Int := (h.get FRM_TOFS_TOFS : Int) - arrival
  let al := alignOf err
  let h1 := h.puti FRM_TERR_ERR err
  if h.frm.tofsBad then h1.frm! fun f => { f with quietTicks := min 4 (f.quietTicks + 1) }
  else
    let run := if 20 < err.natAbs then min 4 (h.frm.alignRun + 1) else 0
    let h2 := h1.frm! fun f => { f with
      nextLen := (40000 - al.1).toNat, skipNext := al.2.2, alignRun := run,
      quietTicks := if al.2.1 then 0 else min 4 (f.quietTicks + 1) }
    let e16 := wrapTo 16 err
    let h3 := if run = 4 then h2.report pgFRM 3 0x0304 0 sevWARN [(0, 2, e16)] else h2
    let h4 := if al.2.1 then h3.report pgFRM 4 0x0305 0 sevWARN [(0, 2, e16)] else h3
    if (run = 4 ∨ al.2.1) ∧ h.get LB_SYNC_SRC = 1 then h4.lbSyncLost else h4

/-- FRM_NO follows the TICK (02 R55); one that comes ahead of the hub's own tick opens the frame that follows. -/
def Hub.tickAdopt (h : Hub) (no : Nat) (early : Bool) : Hub :=
  let mine := if early then wrapTo 32 (h.frmNo + 1) else h.frmNo
  if no = mine then h
  else
    let old := h.frmNo
    ((((h.put FRM_NO_NO no).rebase (((no : Int) - old) * 40000)).frm!
        fun f => { f with hold := early }).evt pgFRM 2).record 0x0303 0 sevINFO
      (payload [(0, 4, old), (4, 4, no)])

/-- The lead's watchdog as a following hub mirrors it (18 R473). (DEDUCED, log entry 50.) -/
def Hub.tickWdt (h : Hub) (w : Nat) : Hub :=
  if h.wdtSt ≠ 4 then h
  else
    let h1 := h.put WDT_STAT_FAILRUN (w / 4 % 4)
    if w.testBit 4 then h1.safeAct (Config.followCause h.frmNo % 256) true else h1

/-- A frame's valid TICK, apart from its travel (14 R383). -/
def Hub.tickTake (h : Hub) (w : Nat → Word) : Hub :=
  let m := bitsOf (w 3) 0 3
  let live := bitsOf (w 3) 8 5
  let lost := decide (live ≤ h.pos)
  let a := (List.range 6).foldl (fun a i => a + (w (4 + i)).toNat * 2 ^ (32 * i)) 0 / 2 ^ (12 * h.pos) % 2 ^ 12
  let h1 := (((h.put STR_STAT_NHUBS (bitsOf (w 3) 4 4 + 1)).put STR_STAT_LIVE live).put STR_STAT_SVER
    (bitsOf (w 3) 13 2)).put STR_STAT_EPOCH (bitsOf (w 3) 16 8)
  -- a lost hub takes the string mode from this TICK (04 R114); with SAFE the cause is the watchdog's (18 R469)
  let back := h1.md.retake && !h1.md.loseArmed
  let h2 := if m = h1.md.stringMode ∧ !back then h1
    else h1.md! fun x => { x with
      stringMode := m, fromTick := some (m, if bitsOf (w 11) 4 1 = 1 then 8 else 2)
      retake := x.retake && !back, stringLost := x.stringLost && !back }
  let h3 := h2.bud! fun b => { b with
    tickA := some a, lastA := a, heldSaid := false, loss := false, polled := b.polled || b.replied,
    afterHoldup := b.afterHoldup && !b.hbReplied }
  let h4 := if bitsOf (w 11) 8 1 = 1 then h3.slaveTick (w 10).toNat else h3
  let h5 := h4.md! fun x => { x with
    silentRun := 0
    loseCount := if lost then (if h4.link.startWait.isSome ∨ h4.mode = mNAP then 0 else min 65535 (x.loseCount + 1)) else 0 }
  let h6 := h5.link! fun l => { l with
    lastTick := (w 0).toNat, liveLost := lost, goodTicks := if lost then 0 else min 65535 (l.goodTicks + 1) }
  h6.tickWdt (bitsOf (w 11) 0 8)

/-- A replay TICK for this hub supplies one frame of travel (14 R393). -/
def Hub.replayTake (h : Hub) (t : Travel) : Hub :=
  if !h.flag SEC_STAT_GAP || !h.sec.haveTravel || decide (diff32 t.frm h.sec.needFrm < 0)
      || h.sec.queue.any (fun u => u.frm == t.frm) then h
  else (h.takeTravel t).incWrap STR_REPLAY_COUNT

/-- The copy of a TICK of these words that goes on down; its SEQ is free (14 R380; DESIGN CHOICE, log entry 82). -/
def tickPkt (h : Hub) (ws : List Word) : Packet :=
  { hdr := { type := 0x01, dest := 0xF, src := 0xF, seq := Config.heardSeq h.mea.ticks h.link.sentDn.length, tag := 0,
             cred := 0, ver := verByte (h.get STR_STAT_SVER) },
    payload := ws }

def travelOf (w : Nat → Word) : Travel := ⟨(w 0).toNat, (w 1).toInt, (w 2).toInt⟩

/-- TICK_MISSING: no valid TICK by cycle 4,000 (02 R71, 06 R183, 10 R283, 14 R391–R392). -/
def State.tickMissing (s : State) : State :=
  let h := s.hub
  if !h.isFollower || !h.posValid || h.link.tickGot || h.link.tickMissed || h.frm.first || h.mode == mNAP then s
  else
    let counts := h.link.startWait.isNone
    let h1 := (if counts then h.incSat FRM_TERR_MISS else h).link! fun l => { l with goodTicks := 0, tickMissed := true }
    let h2 := h1.bud! fun b => { b with tickA := none }
    let h3 := if counts then h2.md! fun m => { m with
      loseCount := min 65535 (m.loseCount + 1), silentRun := min 65535 (m.silentRun + 1) } else h2
    let h4 := if counts && h3.bud.polled && !h3.bud.loss then h3.allocHeld 1 else h3
    -- table packets that wait are processed when P1 ends (15 R420)
    (State.drain 32 (s.hub! fun _ => (h4.frm! fun f => { f with quietTicks := 0, alignRun := 0 }).runP1)).runP2

/-- TICK: a valid TICK arrives, `arrival` cycles after the hub's own tick. -/
def State.tick (s : State) (t : TickPkt) (arrival : Int) : State :=
  let w (i : Nat) : Word := nth t.words i 0
  let h := s.hub
  if !h.isFollower || !h.portUp .up then s
  else
    let h1 := h.passDn (tickPkt h t.words)
    if !h1.posValid then s.hub! fun _ => h1
    else if bitsOf (w 11) 9 1 = 1 then
      s.hub! fun _ => if bitsOf (w 11) 12 4 = h1.pos then h1.replayTake (travelOf w) else h1
    else
      let early := decide (arrival < 0)
      if h1.frm.skipNow && h1.link.tickGot then
        -- the frame that the hub skips (02 R71): its data reaches the blocks, and it is neither measured nor adopted
        s.hub! fun _ => (h1.tickTake w).takeTravel (travelOf w)
      else
      let h2 := (((h1.tickAlign arrival).tickAdopt (w 0).toNat early).tickTake w)
      if early then s.hub! fun _ => (h2.takeTravel (travelOf w)).link! fun l => { l with tickEarly := true }
      else
        -- the engine takes no travel of a TICK of 60 characters that was not complete by cycle 4,000 (14 R382)
        let late := decide (4000 < arrival + 960)
        let h3 := if late then h2.runP1.takeTravel (travelOf w) else (h2.takeTravel (travelOf w)).runP1
        let s1 := s.hub! fun _ => h3.link! fun l => { l with tickGot := true }
        (State.drain 32 s1).runP2

/-- REPLAY_TICK: a replay addressed to this hub (14 R393); it passes on as every broadcast does. -/
def Hub.replayTick (h : Hub) (t : Travel) : Hub :=
  if !h.isFollower || !h.portUp .up || !h.posValid then h
  else
    let b (v : Int) : Word := BitVec.ofInt 32 v
    let ws : List Word := [b t.frm, b t.dref, b t.kappa] ++ List.replicate 8 0 ++ [BitVec.ofNat 32 (2 ^ 9 + h.pos * 2 ^ 12)]
    (h.passDn (tickPkt h ws)).replayTake t

/-! ## The lead's timetable -/

/-- The twelve words of the lead's TICK (14 R383); `safe`: its SAFE action acts at this tick. (DEDUCED, log entry 29.) -/
def Hub.tickWords (h : Hub) (safe : Bool) : List Word :=
  let b (v : Nat) : Word := BitVec.ofNat 32 v
  let al := (List.range 16).foldl (fun a k => a + nth h.bud.alloc k 0 % 2 ^ 12 * 2 ^ (12 * k)) 0
  [b h.frmNo, BitVec.ofInt 32 h.sec.drefNow, BitVec.ofInt 32 h.sec.kappaNow,
   b (h.md.stringMode % 8 + (h.get STR_STAT_NHUBS - 1) % 16 * 2 ^ 4 + h.get STR_STAT_LIVE % 32 * 2 ^ 8
     + h.get STR_STAT_SVER % 4 * 2 ^ 13 + h.get STR_STAT_EPOCH % 256 * 2 ^ 16)]
  ++ (List.range 6).map (fun i => b (al / 2 ^ (32 * i)))
  ++ [b (h.get RTC_EPOCH_SECONDS), b (h.wdtTickBits safe + boolNat h.rtcOk * 2 ^ 8)]

/-- TICK goes down, and a copy of it to a host on the link. -/
def Hub.sendTick (h : Hub) (safe : Bool) : Hub :=
  if !h.isLead then h
  else
    let ws := h.tickWords safe
    (h.sendDn 0x01 0xF ws).sendUp 0x01 ws

/-- A replay TICK for position k (14 R393); the words a replay does not need are 0. (DEDUCED, log entry 31.) -/
def Hub.sendReplay (h : Hub) (k : Nat) (t : Travel) : Hub :=
  let b (v : Int) : Word := BitVec.ofInt 32 v
  (h.sendDn 0x01 0xF ([b t.frm, b t.dref, b t.kappa] ++ List.replicate 8 0
    ++ [BitVec.ofNat 32 (2 ^ 9 + k * 2 ^ 12)])).incWrap STR_REPLAY_COUNT

/-- Up to `budget` replays to a position whose first missing frame is f. -/
def Hub.replayTo (h : Hub) (k f budget : Nat) : Hub × Nat :=
  if h.sec.last64.any (fun t => t.frm == f) then
    (List.range budget).foldl (fun a (i : Nat) =>
      match h.sec.last64.find? (fun t => t.frm == wrapTo 32 (f + i) && t.frm != h.frmNo) with
      | some t => (a.1.sendReplay k t, a.2 - 1)
      | none => a) (h, budget)
  else (h.incSat STR_REPLAY_DROPPED, budget)

/-- The lead replays its history to the hubs that report a gap, at most four frames in a frame, and none while it
enumerates (14 R393, R404).
(DEDUCED, log entry 31.) -/
def Hub.replays (h : Hub) : Hub :=
  if !h.isLead || h.link.enum.isSome then h
  else ((List.range (h.get STR_STAT_LIVE)).foldl (fun (a : Hub × Nat) k =>
    match (nth h.link.reps k {}).gap with
    | some f => if k = 0 then a else a.1.replayTo k f a.2
    | none => a) (h, 4)).1

/-- The fields of an IRQ packet (15 R425). -/
def State.irqWords (s : State) : Word × Word :=
  let w0 := (match s.presents .e with | some v => v + 2 ^ 8 + s.hub.srcPrio v * 2 ^ 16 | none => 0)
    + s.irq.stkE.length % 16 * 2 ^ 24
  (BitVec.ofNat 32 w0, s.hub.word STR_ATTN_ATTN.idx)

/-- The IRQ packet of a lead on the link, in the bulk window after a change: within the ended frame, which left the fields at
`ended`, or at the tick (14 R382, 15 R425). -/
def State.irqPacket (s : State) (ended : Word × Word) : State :=
  let h := s.hub
  if !h.isLead || h.spiHost then s
  else
    let ws := s.irqWords
    let due := decide (h.link.irqSent.getD (0, 0) ≠ ended) || decide (ended ≠ ws)
      || ((s.presents .e).isSome && decide (9 ≤ h.link.irqAge))
    let h1 := h.link! fun l => { l with irqSent := some ws, irqAge := if due then 0 else min 10 (l.irqAge + 1) }
    s.hub! fun _ => if due then h1.hostBulk 0x40 [ws.1, ws.2] else h1

/-! ## The end of a frame -/

/-- Armed edges of the ended frame whose instant no command has brought act at its end. -/
def Hub.overdueEdges (fuel : Nat) (h : Hub) (n : Nat) : Hub :=
  match fuel with
  | 0 => h
  | k + 1 => match (h.ch n).armed with
    | [] => h
    | a :: _ => if diff32 a.frm h.frmNo ≤ 0 then Hub.overdueEdges k (h.edgeTimer n) n else h

/-- OPH_INCREMENT (02 R56); the tick that ends the frame in which it is due brings it if no command has. -/
def Hub.ophIncrement (h : Hub) : Hub := if h.frm.ophDue then (h.ophStep).frm! fun f => { f with ophDue := false } else h

/-- What no command has brought although the hub does it of itself: edges, starvation, the zero frame, a stall, a gap
that has lasted, the ends of the watchdog's phases, keys and records whose time is over, the end of a bank write (13
R365). (DESIGN CHOICE, log entry 7.) -/
def Hub.looseEnds (h : Hub) : Hub :=
  let h1 := h.chList.foldl (fun a n => Hub.overdueEdges 16 a n) h
  let h2 := h1.chList.foldl (fun a n => if a.starveReached n then a.starved n else a) h1
  let h3 := if h2.sec.zeroDue then h2.zeroAct h2.frmNo else h2
  let h4 := if h3.frm.stallDue then h3.frameStall else h3
  (if h4.desyncDue then h4.desync else h4).tickSkew.wdtEnd.tstUsed.keyEnds.recEnds.nvTime.ophIncrement.snapDone

/-- P3 of the ended frame (07 R220, 10 R281, 13 R361, R368, 14 R389–R390, 20 R497, R501). -/
def State.p3 (s : State) : State :=
  (s.hub! fun h => (h.slotsTick.fcalP3.learnP3.calReload).budgetP3).snapReads

/-- The integrators and counters of the ended frame (05 R168, 08 R244, R247, 09 R269, 11 R306–R307, 10 R277). -/
def Hub.meter (h : Hub) (t : TickIn) : Hub :=
  let m := h.chList.foldl (fun (a : Hub × List Nat) n =>
    let r := a.1.meterCh n (nth t.chq n 0)
    (r.1, a.2 ++ [r.2])) (h, [])
  let h1 := (m.1.feedTick 0 t.feedA (t.insLim.getLsbD 0)).feedTick 1 t.feedB (t.insLim.getLsbD 1)
  (((h1.shareTick t.feedA t.feedB t.shareLim).lbTick t).chgTick t).budWindows m.2 t.lbIn

/-- A frame without an overrun ends the run of them (02 R51); one without a measured TICK that of |err| > 20 (R72). -/
def Hub.overrunEnd (h0 : Hub) : Hub :=
  let h := if h0.link.tickGot then h0 else h0.frm! fun f => { f with alignRun := 0 }
  let h1 := if h.frm.ovr = 0 then (h.put FRM_OVRINFO_RUN 0).frm! fun f => { f with clean := min 65535 (f.clean + 1) } else h
  h1.frm! fun f => { f with ovr := 0 }

/-- FRM_NO of the frame that begins (02 R53, R55, R71). -/
def Hub.frmAdvance (h : Hub) : Hub :=
  let step := if h.frm.skipNow then 2 else 1
  let no := if h.frm.first then 0 else if h.frm.hold then h.frmNo else wrapTo 32 (h.frmNo + step)
  ((h.put FRM_NO_NO no).rebase (((no : Int) - h.frmNo - step) * 40000)).frm! fun f => { f with
    first := false, hold := false, len := f.nextLen, nextLen := 40000, skipNow := f.skipNext, skipNext := false,
    ophPre := (f.ophPre + 1) % 1000, ophDue := f.ophDue || f.ophPre == 999 }

/-! ## P0 -/

/-- P1 of the ended frame as step 1 of P0 does it: its zero frame and its starvation belong to it (06 R182, R200, R203). -/
def Hub.deferredP1 (h : Hub) : Hub :=
  let h1 := h.sectionP1
  let h2 := if h1.sec.zeroDue then h1.zeroAct h1.frmNo else h1
  h2.chList.foldl (fun a n => if a.starveReached n then a.starved n else a) h2

/-- Step 1 of P0: what an overrun has deferred runs for the frame it belongs to, and what it arms for an instant that has
passed acts at once (02 R48–R50, 06 R203). (DEDUCED, log entry 26.) -/
def State.deferredWork (s : State) (ended : Nat) : State :=
  let now := s.hub.frmNo
  let d := s.hub.frm
  if !d.defP1 && !d.defP2 then s
  else
    let s1 := s.hub! fun h => (h.put FRM_NO_NO ended).frm! fun f => { f with defP1 := false, defP2 := false }
    let s2 := if d.defP1 then s1.hub! Hub.deferredP1 else s1
    let s3 := if d.defP2 then s2.workP2 else s2
    let cyc := min 2000 (Config.p0Cycle s.hub.mea.ticks).toNat
    s3.hub! fun h => h.chList.foldl (fun a n => a.passedEdges n cyc d.defP1) (h.put FRM_NO_NO now)

/-- Reference travel of the ended frame where this hub measures it (06 R176–R179). -/
def Hub.travelTick (h : Hub) : Hub :=
  if !h.leads then h
  else
    let h1 := if h.fallbackDue && h.flag SEC_STAT_TRVACT then h.trvFallback else h
    let h2 := (h1.sec! fun x => { x with queue := [], needFrm := h.frmNo, haveTravel := true }).closeTravel h.frmNo
      ((h.newWord SEC_KAPPA_KAPPA.idx).toInt)
    let h3 := if h2.fallbackDue && !h2.flag SEC_STAT_TRVACT then h2.trvFallback else h2
    if h3.speedStaleDue then h3.speedStale else h3

/-- A new source starts without a remainder (06 R178); a hub that does not measure travel ignores its own (R176). -/
def Hub.travelSource (h : Hub) : Hub :=
  let src := h.get SEC_TRVSRC_SRC
  if src = h.sec.srcOld ∨ !h.leads then h
  else (h.putb SEC_STAT_TRVACT (src == 2)).sec! fun x => { x with srcOld := src, rem := 0, zeroRun := 0 }

/-- Live and Idle writes, the actions of PG_CTL, and steps 2 and 3 of P0; writes of the test page act after the mode, so
that one which meets the page's clearing is discarded (03 R92–R97, 04 R107, 22 R529). What merges comes before an SRST
of the frame, which wipes it (03 R87; DEDUCED, log entry 14). (DEDUCED, log entry 28.) -/
def Hub.commitsAndMode (h : Hub) (safe : Bool) : Hub :=
  let tst := h.pend.filter fun e => e.1 / 256 == pgTST
  let h1 := ((h.pend! fun m => m.filter fun e => e.1 / 256 != pgTST).mergeAll.hostTick .e).hostTick .w
  let h2 := (h1.pend! fun held => held ++ tst).pagesTick.commitAll.travelSource.judge.wdtTick
  let h3 := if safe then h2.safeAct (h.wd.safeDue.getD 4) false else h2
  let h4 := h3.modeStep safe
  let h5 := if h4.keys.sessOver then (h4.tstClear 2).key! fun k => { k with sessOver := false } else h4
  let h6 := match h5.tst.clearDue with
    | some c => (h5.tstClear c).tst! fun t => { t with clearDue := none }
    | none => h5
  h6.mergeAll.parityTick.calApply

/-- ACTIONs of supervisors whose violation was found in the ended frame (12 R343). (DEDUCED, log entry 57.) -/
def Hub.supActs (h : Hub) : Hub :=
  let due := h.seq.supDue
  due.foldl (fun a k => match if a.supRuns then a.get (SUP_CFG_ACTION.nth k) else 0 with
    | 1 => a.supFence k
    | 2 =>
      let st := a.modeReqStatus mREADY
      if st ≠ 0 then a.modeRefused mREADY st 0 else a.md! fun m => { m with req := some (.mode mREADY) }
    | _ => a) (h.seq! fun q => { q with supDue := [] })

/-- The blocks at a tick, after the mode (05 R141, 09 R256, 12 R327, 13 R352, 18 R463, 19 R478, 20 R506, 22 R530). -/
def Hub.blocksTick (h : Hub) (t : TickIn) : Hub :=
  let h1 := h.handbackStart.armCheck.chgStop.chgPower.seqP0
  let h2 := (List.range 5).foldl (fun a i => a.convTick t i) h1
  let h3 := h2.chList.foldl Hub.chTick (h2.bud! fun b => { b with sBNow := b.sB, sCNow := b.sC })
  let h4 := h3.scansStart.keyTick.tstTick.winTake
  h4.rtcFrame.slavedCheck

/-- A frame of the idle time (04 R127). -/
def Hub.idleTick (h : Hub) : Hub :=
  if h.idleRunOut then h.md! fun m => { m with idleExpired := true }
  else h.md! fun m => { m with idleRun := m.idleRun + 1 }

/-- Waits that a tick counts: after a wake for the string (14 R392), of a tentative position (R404), of a power-down.
(DESIGN CHOICE, log entry 7.) -/
def Hub.waitsTick (h : Hub) : Hub :=
  let h1 := h.link! fun l => { l with
    tentative := l.tentative.map fun t => (t.1, min 100 (t.2 + 1)),
    startWait := match l.startWait with
      | some k => if h.portUp .up || decide (100 ≤ k) then none else some (k + 1)
      | none => none }
  let h2 := if h.link.startWait.isSome && !h.leads then
      (h1.md! fun m => { m with loseCount := 0, silentRun := 0 }).sec! fun x => { x with haveTravel := false, queue := [] }
          else h1
  h2.rstTick.portClock.md! fun m => { m with downFrames := min 65535 (m.downFrames + 1) }

/-- String loss and its end at a tick (14 R391). (DESIGN CHOICE, log entry 7.) -/
def Hub.cutoffTick (h : Hub) : Hub :=
  let h1 := if h.cutoffIsDue then
      let a := h.stringCutoff
      if a.flag SEC_STAT_GAP then a.desync else a
    else h
  if h1.cutoffClearDue then h1.cutoffClear else h1

/-! ## FRAME_TICK -/

/-- The frame is open: what this hub sends in it. -/
def State.frameSends (s : State) (safe : Bool) (ended : Word × Word) : State :=
  let s1 := s.hub! fun h =>
    let h1 := h.link! fun l => { l with
      pollSend := l.pollLatch, tickGot := l.tickEarly, tickEarly := false, tickMissed := false }
    (h1.sendTick safe).replays.enumFrame.credReturn
  s1.creditTick.irqPacket ended

/-- P1 and P2 of a hub that needs no TICK, or has its TICK already. -/
def State.phases (s : State) : State :=
  let h1 := s.hub.frm! fun f => { f with p1Due := true, p2Due := true }
  let s1 := s.hub! fun _ => h1.atCyc 2000
  let s2 := (State.drain 32 s1).dnOpens
  if h1.leads || h1.link.tickGot then (State.drain 32 (s2.hub! Hub.runP1)).runP2
  else s2.hub! fun h => h.bud! fun b => { b with tickA := none }

/-- The ends of power-downs and NAP's own wake at a tick (04 R128–R131). (DESIGN CHOICE, log entry 7.) -/
def Hub.powerTick (h : Hub) : Hub :=
  let h1 := h.lowPowerCount.downEnd
  if h1.shipEnterDue then h1.shipEnter (h1.get SEQ_STAT_STATE != 1)
  else if h1.batfetDue then h1.batfetOpen else h1

/-- What was sent in the ended frame is gone. (DESIGN CHOICE, log entry 32.) -/
def Hub.sentClear (h : Hub) : Hub :=
  h.link! fun l =>
      { l with sentUp := [], sentDn := [], pollAt := none, wakeUp := false, wakeDn := false
               upFree := l.upFree - 40000, dnFree := l.dnFree - 40000 }

/-- VSYS has fallen below 6 V in NAP with phantom power present: SERVICE at the tick, with the core on the PLL (04 R108,
02 R61). -/
def Hub.napPhantom (h : Hub) : Hub :=
  let h1 := ((h.pllOn.md! fun m => { m with waking := false, phantomDue := false }).link!
    fun l => { l with startWait := some 0 }).toPhantomService
  h1.dropReq 2

/-- A tick in NAP: FRM_NO, the snapshot latch, a power-down, and every hundredth frame the low-power evaluation (02 R53). -/
def Hub.napTick (h : Hub) (t : TickIn) : Hub :=
  let h1 := (h.sentClear.keyEnds.recEnds.nvTime.ophIncrement.snapDone).frmAdvance.snapAt
  let h1b := if h1.md.phantomDue then h1.napPhantom else if h1.frmNo % 100 = 0 then h1.napEvaluation else h1
  let h2 := if h1b.md.goingDown.isSome then h1b.seqP0.seqP2 else h1b.offClock
  let h2b := [0, 1, 2, 3, 4].foldl (fun a i => ((if i = 0 then a else a.convSupply i).convLimits t i).convClock i) h2
  let h3 := (((h2b.chList.foldl Hub.chClock h2b).feedClock 0).feedClock 1).chgClock.rtcFrame.idleTick.auxAge.mea!
      fun m => { m with ticks := m.ticks + 1 }
  let h5 := if h3.anyPending || h3.timedWakeDue then h3.wakeStart else h3
  (h5.rstTick.portClock.md! fun m => { m with downFrames := min 65535 (m.downFrames + 1) }).powerTick

/-- A host port's transaction ends with the logic's power. -/
def State.stopPort (s : State) : State := if s.hub.running then s else { s with spi := {} }

/-- CH_SECSTAT.ARMED: the edges armed to act in the frame that begins (06 R210). -/
def Hub.armedShow (h : Hub) : Hub :=
  h.chList.foldl (fun a n =>
    a.put (CH_SECSTAT_ARMED.pg n) (min 3 ((h.ch n).armed.filter fun e => e.frm == h.frmNo).length)) h

/-- FRAME_TICK. -/
def State.frameTick (s : State) (t : TickIn) : State :=
  let s0 := if s.hub.mode = mNAP then s else s.tickMissing
  if s0.hub.mode = mNAP then
    let n := s0.hub! fun h => h.napTick t
    (if n.hub.running then n.twbTick else n).stopPort
  else
    let ended := s0.hub.frmNo
    -- phases still open at the end of the frame have missed their deadlines
    -- a head that no conversion has completed is late, and P2 has run without it
    let s1 := ((s0.hub! fun h =>
      let a := if h.windowOver then h.windowClose else h
      if a.headLateDue then a.headLate else a).runP2).hub! fun h => h.phaseDeadline.phaseDeadline
    let s2 := (s1.hub! Hub.looseEnds).p3
    let safe := s2.hub.wd.safeDue.isSome
    let s3 := s2.hub! fun h => ((h.meter t).overrunEnd.sentClear.frmAdvance.snapAt).atCyc 0
    let s4 := (s3.deferredWork ended).hub! Hub.armedShow
    let s5 := s4.hub! fun h => ((h.scansEnd.auxAge.travelTick.waitsTick.cutoffTick.idleTick).supActs.commitsAndMode safe).mea!
      fun m => { m with ticks := m.ticks + 1 }
    let s6 := (s5.hub! fun h => h.blocksTick t).irqTick.twbTick
    -- a tick that enters NAP opens a frame without frame work (02 R53)
    let s7 := if s6.hub.mode = mNAP then s6 else (s6.frameSends safe s0.irqWords).phases
    (s7.hub! Hub.powerTick).stopPort

end Sys2Proof.Machine
end

