-- ==== Sys2Proof/Machine/ExecStart.lean ====
section
/-! DEFINITION. The meanings of the commands of start-up, power and modes (chapters 01 and 04) and of the frame and the
clocks (chapter 02). -/

namespace Sys2Proof.Machine

/-! ## Start-up (01 R28, R33, R36, R39; 04 R108, R117, R120–R121, R134) -/

/-- A command that ends every transaction and every interrupt in progress. -/
def State.fresh (s : State) (h : Hub) : Answer := .next { s with hub := h, spi := {}, irq := {} }

/-- POWER_ON_RESET (R121). -/
def execPowerOnReset (src : Supply) (s : State) : Answer :=
  if s.hub.porDue src then s.updAny fun h => h.bootBegin 1 0 (src == .phantom) else .next s

/-- COLD_START (R120). -/
def execColdStart (inp : ColdIn) (s : State) : Answer :=
  if s.hub.md.power = .booting then s.fresh (s.hub.coldStart inp) else .next s

/-- STRAP_SAMPLE (R36): the four straps are sampled while the hub starts. -/
def execStrapSample (levels : BitVec 4) (s : State) : Answer :=
  if s.hub.md.power = .booting then s.updAny fun h => h.strapSample levels else .next s

/-- STRAP_UNSTABLE (R36): the 10 ms are over. -/
def execStrapUnstable (s : State) : Answer :=
  if s.hub.md.power = .booting ∧ s.hub.md.straps.over10 then s.updAny Hub.strapUnstable else .next s

/-- SHIP_EXIT (R108, R132): whether a battery holds VSYS, so that the phantom supply that ends SHIP is not drawn (01 R28),
COLD_START tells. (DEDUCED, log entry 39.) -/
def execShipExit (src : ShipExitSrc) (s : State) : Answer :=
  if s.hub.shipExitDue src then s.updAny fun h => h.bootBegin 2 (shipExitNum src) false else .next s

/-- LONG_PRESS_RESET (R134–R135). -/
def execLongPressReset (s : State) : Answer :=
  if s.hub.longPressDue then s.fresh s.hub.longPress else .next s

/-- WAKE_DEBOUNCE (R33): the level of WAKE# after its debounce; only the always-on domain need have power. -/
def execWakeDebounce (level : Bool) (s : State) : Answer :=
  if s.hub.md.power = .off then .next s else s.updAny fun h => h.wakeLevel level

/-- PHANTOM_DETECT (R28). -/
def execPhantomDetect (s : State) : Answer := s.updAny Hub.phantomDetect

/-- PHANTOM_LOSS (R28). -/
def execPhantomLoss (s : State) : Answer := s.updAny Hub.phantomLoss

/-- PHANTOM_SERVICE_ENTRY (R108): SERVICE at the next tick. -/
def execPhantomServiceEntry (s : State) : Answer :=
  s.when s.hub.phantomEntryDue fun h => h.md! fun m => { m with phantomDue := true }

/-- PHANTOM_SERVICE_EXIT (R117): the end of that mode at the next tick. -/
def execPhantomServiceExit (s : State) : Answer :=
  s.when s.hub.phantomExitDue fun h => h.md! fun m => { m with phantomEnd := true }

/-- TRANSPORT# has taken a level; in NAP it wakes a hub that decides string modes. -/
def Hub.transportChange (h : Hub) (level : Bool) : Hub :=
  let h1 := h.putb DEV_STRAPS_TRANSPORT level
  if h1.mode = mNAP ∧ !h1.isFollower then h1.wakeStart else h1

/-- TRANSPORT_CHANGE (R39). -/
def execTransportChange (level : Bool) (s : State) : Answer := s.upd fun h => h.transportChange level

/-! ## Frame (02 R48–R56, R71) -/

/-- FRAME_TICK (R48). -/
def execFrameTick (inp : TickIn) (s : State) : Answer := if s.hub.running then .next (s.frameTick inp) else .next s

/-- PHASE_DEADLINE (R49). -/
def execPhaseDeadline (s : State) : Answer := s.upd Hub.phaseDeadline

/-- FRAME_STALL (R51). -/
def execFrameStall (s : State) : Answer := s.when s.hub.frm.stallDue Hub.frameStall

/-- OPH_INCREMENT (R56). -/
def execOphIncrement (s : State) : Answer := s.upd Hub.ophIncrement

/-- TICK (R383, R71). -/
def execTick (t : TickPkt) (arrival : Int) (s : State) : Answer :=
  if s.hub.running then .next (s.tick t arrival) else .next s

/-- TICK_MISSING (R183, R71). -/
def execTickMissing (s : State) : Answer := if s.hub.running then .next s.tickMissing else .next s

/-- REPLAY_TICK (R393). -/
def execReplayTick (frm dref kappa : Word) (s : State) : Answer :=
  s.upd fun h => h.replayTick ⟨frm.toNat, dref.toInt, kappa.toInt⟩

/-! ## Modes and low power (04 R110, R127–R131, R545) -/

/-- SHIP_ENTER (R131). -/
def execShipEnter (timedOut : Bool) (s : State) : Answer :=
  if s.hub.running && s.hub.shipEnterDue then .next (s.hub! fun h => h.shipEnter timedOut).stopPort else .next s

/-- IDLE_TIMER_EXPIRY (R127). -/
def execIdleTimerExpiry (s : State) : Answer :=
  s.when (s.hub.idleRunOut) fun h => h.md! fun m => { m with idleExpired := true }

/-- NAP_EVALUATION (R128). -/
def execNapEvaluation (s : State) : Answer := s.when (s.hub.mode == mNAP) Hub.napEvaluation

/-- LOW_POWER_BROADCAST (R129). -/
def execLowPowerBroadcast (kind : LowPower) (s : State) : Answer :=
  s.when (s.hub.broadcastDue kind) fun h => h.broadcast kind

/-- The wake sources of NAP that this hub heeds (R130): TRANSPORT# only where the hub decides string modes, an interrupt
only while one is pending, an alarm as the horizon H or by its interrupt, phantom voltage only where the hub takes
notice of it. (DEDUCED, log entry 38.) -/
def Hub.napWakeDue (h : Hub) (src : WakeSrc) : Bool :=
  h.mode == mNAP && match src with
    | .transport => !h.isFollower
    | .irq => h.anyPending
    | .phantom => h.phantomHeeded
    | .rtcAlarm => h.anyPending || !h.beyond 3
    | _ => true

/-- NAP_WAKE (R130). -/
def execNapWake (src : WakeSrc) (s : State) : Answer := s.when (s.hub.napWakeDue src) Hub.wakeStart

/-- NAP_TIMED_WAKE (R130). -/
def execNapTimedWake (s : State) : Answer := s.when s.hub.timedWakeDue Hub.wakeStart

/-- The sources that wake a hub from STANDBY (R130): TRANSPORT# and interrupts do not. (DEDUCED, log entry 38.) -/
def Hub.standbyWakeDue (h : Hub) (src : WakeSrc) : Bool :=
  h.md.power == .standby && match src with
    | .irq | .transport => false
    | .phantom => h.phantomHeeded
    | .link => !h.spiHost
    | _ => true

/-- The wake begins; WAKE_COMPLETE ends it. -/
def Hub.wakeBegin (h : Hub) : Hub := h.md! fun m => { m with waking := true }

/-- STANDBY_WAKE (R130). -/
def execStandbyWake (src : WakeSrc) (s : State) : Answer :=
  if s.hub.standbyWakeDue src then s.updAny Hub.wakeBegin else .next s

/-- STANDBY_WAKE_TIMER (R130): the timer ends 3 ms and T_seq before the horizon H. -/
def execStandbyWakeTimer (s : State) : Answer :=
  if s.hub.standbyTimerDue then s.updAny Hub.wakeBegin else .next s

/-- A wake in progress. -/
def Hub.wakingNow (h : Hub) : Bool := h.md.waking && (h.mode == mNAP || h.md.power == .standby)

/-- WAKE_COMPLETE (R130). -/
def execWakeComplete (s : State) : Answer := if s.hub.wakingNow then s.updAny Hub.wakeComplete else .next s

/-- An access of a port. -/
def State.portAccess (s : State) (p : Port) (a : Access) : State :=
  match a with
  | .read idx => (s.portRead p idx.toNat).1
  | .write idx be val => (s.portWrite p idx.toNat be.toNat val).1

/-- HOST_ACCESS_IN_NAP (R545). -/
def execHostAccessInNap (port : Port) (access : Access) (s : State) : Answer :=
  if s.hub.running && s.hub.mode == mNAP then .next (s.portAccess port access) else .next s

/-! ## Clocks (02 R59–R69) -/

/-- CLOCK_MONITOR_GATE (R60): a monitor that is not enabled has no gate. -/
def execClockMonitorGate (src : ClkMon) (count : Nat) (s : State) : Answer :=
    s.when (s.hub.monOn src) fun h => h.monGate src count

/-- PLL_LOCK (R59). -/
def execPllLock (lockUs : Nat) (s : State) : Answer := s.when (!s.hub.flag CLK_STAT_PLL_RDY) fun h => h.pllLock lockUs

/-- PLL_UNLOCK (R66). -/
def execPllUnlock (s : State) : Answer := s.when (s.hub.flag CLK_STAT_PLL_RDY) Hub.pllUnlock

/-- FM_DONE (R68). -/
def execFmDone (count : Nat) (s : State) : Answer := s.when (s.hub.flag CLK_FMCTL_BUSY) fun h => h.fmEnd count false

/-- FM_TIMEOUT (R69). -/
def execFmTimeout (count : Nat) (s : State) : Answer := s.when (s.hub.flag CLK_FMCTL_BUSY) fun h => h.fmEnd count true

/-- LOGIC_POWER_FAIL (R499): the reserve completes the queue and the logic is off. -/
def execLogicPowerFail (s : State) : Answer :=
  if s.hub.running then s.fresh (s.hub.logicOff .off) else .next s

/-- PARITY_ERROR (R100). -/
def execParityError (site : ParitySite) (s : State) : Answer := s.upd fun h => h.parityError site

end Sys2Proof.Machine
end

