-- ==== Sys2Proof/Machine/ExecChannel.lean ====
section
/-! DEFINITION. The meanings of the load channels' commands (chapter 05), of the section engine's (chapter 06) and of the
GEYSER engines' (chapter 07). -/

namespace Sys2Proof.Machine

/-- An event of a fitted channel under its condition. (DESIGN CHOICE, log entry 5.) -/
def State.chWhen (s : State) (n : Nat) (c : Bool) (f : Hub → Hub) : Answer := s.when (decide (n < s.hub.nch) && c) f

/-! ## Edges, the PWM grid and hit (05 R146, R149–R152; 06 R198) -/

/-- The head of the armed edges is due: its frame is the present one or lies before it. -/
def Hub.edgeDue (h : Hub) (n : Nat) : Bool :=
  match (h.ch n).armed with
  | [] => false
  | a :: _ => decide (diff32 a.frm h.frmNo ≤ 0)

/-- EDGE_TIMER (R198). -/
def execEdgeTimer (ch : BitVec 6) (s : State) : Answer :=
  s.chWhen ch.toNat (s.hub.edgeDue ch.toNat) fun h => h.edgeTimer ch.toNat

/-- The channel's duty for the period that starts now (R150). -/
def Hub.periodDuty (h : Hub) (n : Nat) : Nat := (h.ch n).nextDuty.getD (h.get (CH_APPLIED_DUTY.pg n))

/-- A period of the channel's grid starts at a cycle of this frame. -/
def Hub.periodStartDue (h : Hub) (n cyc : Nat) : Bool :=
  h.driven n && h.onGrid n && h.intoGrid n (h.eng cyc) == some 0

/-- A period starts: its on-phase runs for on_cyc, a duty below 4 µs has none (R146, R148). (DEDUCED, log entry 20.) -/
def Hub.periodStart (h0 : Hub) (n cyc : Nat) : Hub :=
  let h := h0.atCyc cyc
  let duty := h.periodDuty n
  let period := h.chPeriod n
  let on := onCyc period duty
  let e := h.eng cyc
  let h1 := (h.put (CH_APPLIED_DUTY.pg n) duty).ch! n fun c => { c with
    nextDuty := none, dutyInUse := duty, dutyUse := (c.dutyNext.map (·.1)).getD c.dutyUse, dutyNext := none }
  if on < 1600 then h1.outOff n cyc true
  else (h1.ch! n fun c =>
      { c with onPhase := true, pStart := e, onEnd := onEndOf e period on, gridOn := true }).outOn n cyc true

/-- PWM_PERIOD_START (R146). -/
def execPwmPeriodStart (ch : BitVec 6) (cyc : Nat) (s : State) : Answer :=
  s.chWhen ch.toNat (s.hub.periodStartDue ch.toNat cyc) fun h => h.periodStart ch.toNat cyc

/-- The on-phase in progress has run, and no on-phase begins at the same cycle. -/
def Hub.onEndDue (h : Hub) (n cyc : Nat) : Bool :=
  h.driven n && h.onGrid n && h.flag (CH_STAT_OUT.pg n) && (h.ch n).onPhase && decide ((h.ch n).onEnd ≤ (h.eng cyc : Int))
    && !(h.periodStartDue n cyc && decide (1600 ≤ onCyc (h.chPeriod n) (h.periodDuty n)))

/-- PWM_ON_END (R146). -/
def execPwmOnEnd (ch : BitVec 6) (cyc : Nat) (s : State) : Answer :=
  s.chWhen ch.toNat (s.hub.onEndDue ch.toNat cyc) fun h => (h.atCyc cyc).outOff ch.toNat cyc true

/-- HIT_END (R152): THIT can have run within the present frame. -/
def execHitEnd (ch : BitVec 6) (s : State) : Answer :=
  s.chWhen ch.toNat (s.hub.hitOver ch.toNat (s.hub.eng 39999)) fun h => h.hitEnd ch.toNat

/-! ## Limit and trips (05 R154–R157, R160, R164) -/

/-- LIMIT is entered from ON; an attempt that limits stays an attempt (R154, R165).  A hit that reaches ILIM closes the
window of its capture (07 R217). -/
def Hub.limitEntry (h : Hub) (n : Nat) : Hub :=
  let h1 := (h.put (CH_STAT_LIMITING.pg n) 1).ch! n fun c => { c with
    limAcc := 0, limSince := some (h.eng h.cyc : Int) }
  let h2 := if (h.ch n).hit then h1.geyClose n 0 else h1
  (if h.chSt n = 2 then h2.chTo n 3 else h2).evt (chPage n) 6

/-- LIMIT_ENTRY (R154). -/
def execLimitEntry (ch : BitVec 6) (s : State) : Answer :=
  let n := ch.toNat
  s.chWhen n ((s.hub.chSt n == 2 || s.hub.chSt n == 5) && s.hub.flag (CH_STAT_OUT.pg n)
      && !s.hub.flag (CH_STAT_LIMITING.pg n)) fun h => h.limitEntry n

/-- LIMIT ends: back to ON, an attempt goes on (R154). -/
def Hub.limitExit (h : Hub) (n : Nat) : Hub :=
  let h1 := h.put (CH_STAT_LIMITING.pg n) 0
  if h.chSt n = 3 then h1.chTo n 2 else h1

/-- LIMIT_EXIT (R154): the current has been low for 10 µs of high-side on-time. -/
def execLimitExit (ch : BitVec 6) (s : State) : Answer :=
  let n := ch.toNat
  s.chWhen n (s.hub.driven n && s.hub.flag (CH_STAT_OUT.pg n) && s.hub.flag (CH_STAT_LIMITING.pg n)) fun h => h.limitExit n

/-- A trip with its class F conversion on ADC2 (13 R353). (DEDUCED, log entry 22.) -/
def Hub.tripNow (h : Hub) (n cause : Nat) (m : TripMeas) : Hub := (h.chTrip n cause m h.cyc).classF 2 h.cyc

/-- The limit timer can have reached TLIM within the present frame; it is accurate to 1 µs (R154). -/
def Hub.limTripDue (h : Hub) (n : Nat) : Bool :=
  h.flag (CH_STAT_LIMITING.pg n) && decide (h.get (CH_LIM_TLIM.pg n) * 40000 ≤ (h.ch n).limRan (h.eng 39999) + 400)

/-- A current above 2 × ILIM (R155). -/
def Hub.fastPeak (h : Hub) (n : Nat) (m : TripMeas) : Bool := decide (h.get (CH_LIM_ILIM.pg n) * 20 < m.peak.toNat)

/-- LIMIT_TRIP (R154); with a current above 2 × ILIM at the same instant the cause is FAST (R155). -/
def execLimitTrip (ch : BitVec 6) (meas : TripMeas) (s : State) : Answer :=
  s.chWhen ch.toNat (s.hub.driven ch.toNat && s.hub.limTripDue ch.toNat)
      fun h => h.tripNow ch.toNat (if h.fastPeak ch.toNat meas then 1 else 2) meas

/-- FAST_TRIP (R155). -/
def execFastTrip (ch : BitVec 6) (meas : TripMeas) (s : State) : Answer :=
  s.chWhen ch.toNat (s.hub.driven ch.toNat && s.hub.fastPeak ch.toNat meas) fun h => h.tripNow ch.toNat 1 meas

/-- The I²t accumulator stands at the trip level (R156). -/
def Hub.ocReached (h : Hub) (n : Nat) : Bool := decide (h.get (CH_OCL_I2T.pg n) * 100000 ≤ (h.ch n).i2t)

/-- OC_TRIP (R156). -/
def execOcTrip (ch : BitVec 6) (meas : TripMeas) (s : State) : Answer :=
  s.chWhen ch.toNat (s.hub.driven ch.toNat && s.hub.ocReached ch.toNat) fun h => h.tripNow ch.toNat 3 meas

/-- The warning at 150 °C, once until the temperature falls below 140 °C (R157); CH_TEMP.TEMP is in 0.5 °C. -/
def Hub.otWarn (h : Hub) (n : Nat) (temp : BitVec 10) : Hub :=
  ((h.puti (CH_TEMP_TEMP.pg n) temp.toInt).ch! n fun c => { c with otArmed := false }).evt (chPage n) 5

/-- OT_WARN (R157). -/
def execOtWarn (ch : BitVec 6) (temp : BitVec 10) (s : State) : Answer :=
  s.chWhen ch.toNat (s.hub.chSt ch.toNat != 0 && decide (300 ≤ temp.toInt) && (s.hub.ch ch.toNat).otArmed)
      fun h => h.otWarn ch.toNat temp

/-- 170 °C: a trip where the output is driven, else no more than OT (R157). -/
def Hub.otTrip (h : Hub) (n : Nat) (temp : BitVec 10) (m : TripMeas) : Hub :=
  let h1 := h.puti (CH_TEMP_TEMP.pg n) temp.toInt
  if h.driven n then h1.tripNow n 4 m else h1.put (CH_STAT_OT.pg n) 1

/-- OT_TRIP (R157). -/
def execOtTrip (ch : BitVec 6) (temp : BitVec 10) (meas : TripMeas) (s : State) : Answer :=
  s.chWhen ch.toNat (s.hub.chSt ch.toNat != 0 && decide (340 ≤ temp.toInt)) fun h => h.otTrip ch.toNat temp meas

/-- Below 140 °C: OT clears and the warning is armed again (R157). -/
def Hub.otClear (h : Hub) (n : Nat) (temp : BitVec 10) : Hub :=
  ((h.puti (CH_TEMP_TEMP.pg n) temp.toInt).put (CH_STAT_OT.pg n) 0).ch! n fun c => { c with otArmed := true }

/-- OT_CLEAR (R157). -/
def execOtClear (ch : BitVec 6) (temp : BitVec 10) (s : State) : Answer :=
  s.chWhen ch.toNat (s.hub.chSt ch.toNat != 0 && decide (temp.toInt < 280)) fun h => h.otClear ch.toNat temp

/-! ## Retry (05 R161–R163) -/

/-- RETRY_WAIT_END (R162). -/
def execRetryWaitEnd (ch : BitVec 6) (s : State) : Answer :=
  s.chWhen ch.toNat (s.hub.waitServed ch.toNat) fun h => h.retryWaitEnd ch.toNat

/-- An attempt has run TLIM without a trip, and none is overdue for a limitation that has lasted as long (R154, R162). -/
def Hub.attemptRun (h : Hub) (n : Nat) : Bool :=
  let tlim := h.get (CH_LIM_TLIM.pg n)
  h.chSt n == 5 && decide (tlim ≤ (h.ch n).stRun) && !(h.flag (CH_STAT_LIMITING.pg n)
    && decide (tlim * 40000 + 400 < (h.ch n).limRan (h.eng h.cyc)))

/-- The attempt succeeds (R162), so none is pending any more. (DEDUCED, log entry 21.) -/
def Hub.retryOk (h : Hub) (n : Nat) : Hub :=
  ((h.chTo n 2).put (CH_STAT_RETRY_PEND.pg n) 0).report (chPage n) 2 0x1803 n sevINFO
    [(0, 1, h.get (CH_STAT_ATTEMPTS.pg n))]

/-- RETRY_OK (R162). -/
def execRetryOk (ch : BitVec 6) (s : State) : Answer :=
  s.chWhen ch.toNat (s.hub.attemptRun ch.toNat) fun h => h.retryOk ch.toNat

/-- RETRY_COUNT_CLEAR (R163). -/
def execRetryCountClear (ch : BitVec 6) (s : State) : Answer :=
  s.chWhen ch.toNat (decide (100000 ≤ (s.hub.ch ch.toNat).quiet)) fun h =>
    (h.put (CH_STAT_ATTEMPTS.pg ch.toNat) 0).put (CH_STAT_RETRY_PEND.pg ch.toNat) 0

/-! ## Open load and short to supply (05 R158–R159) -/

/-- The channel has been in a state for some frames; what is seen in that state for as long cannot have come sooner. -/
def Hub.inState (h : Hub) (n st frames : Nat) : Bool := h.chSt n == st && decide (frames ≤ (h.ch n).stRun)

/-- OPEN_LOAD (R158): the contact has stood above 3.0 V for 10 ms under the test current, which flows in OFF. -/
def execOpenLoad (ch : BitVec 6) (mv : BitVec 16) (s : State) : Answer :=
  let n := ch.toNat
  s.chWhen n (s.hub.inState n 1 100 && s.hub.flag (CH_CTL_OLT.pg n) && !s.hub.flag (CH_STAT_OPEN.pg n)
      && decide (3000 < mv.toNat)) fun h =>
    ((h.put (CH_STAT_OPEN.pg n) 1).ch! n fun c => { c with openRun := 0 }).report (chPage n) 3 0x1804 n sevWARN
        [(0, 2, mv.toNat)]

/-- OPEN_CLEAR (R158): the contact has stood below 2.0 V for 10 ms since OPEN set. -/
def execOpenClear (ch : BitVec 6) (s : State) : Answer :=
  s.chWhen ch.toNat (s.hub.flag (CH_STAT_OPEN.pg ch.toNat) && s.hub.chSt ch.toNat != 0
      && decide (100 ≤ (s.hub.ch ch.toNat).openRun))
    fun h => h.put (CH_STAT_OPEN.pg ch.toNat) 0

/-- SHORT_SUPPLY (R159): found in OFF, above 6.0 V for 10 ms. -/
def execShortSupply (ch : BitVec 6) (mv : BitVec 16) (s : State) : Answer :=
  s.chWhen ch.toNat (s.hub.inState ch.toNat 1 100 && decide (6000 < mv.toNat)) fun h => h.chBlock ch.toNat mv.toNat 0 h.cyc

/-- REVERSE_CURRENT (R159): found with the high side on. -/
def execReverseCurrent (ch : BitVec 6) (mv : BitVec 16) (s : State) : Answer :=
  s.chWhen ch.toNat (s.hub.driven ch.toNat && s.hub.flag (CH_STAT_OUT.pg ch.toNat))
      fun h => h.chBlock ch.toNat mv.toNat 1 h.cyc

/-- BLOCKED ends: OFF, and the command is followed (R159). -/
def Hub.blockedExit (h : Hub) (n : Nat) : Hub :=
  ((h.chTo n 1).put (CH_STAT_SSUP.pg n) 0).settle n h.cyc false

/-- BLOCKED_EXIT (R159): the contact has stood below 3.0 V for 100 ms. -/
def execBlockedExit (ch : BitVec 6) (s : State) : Answer :=
  s.chWhen ch.toNat (s.hub.inState ch.toNat 7 1000) fun h => h.blockedExit ch.toNat

/-! ## Section engine (chapter 06) -/

/-- TRAVEL_EDGE (R177). -/
def execTravelEdge (a b : Bool) (s : State) : Answer := s.upd fun h => h.travelEdge a b

/-- SPEED_STALE (R178). -/
def execSpeedStale (s : State) : Answer := s.when s.hub.speedStaleDue Hub.speedStale

/-- TRV_FALLBACK (R176). -/
def execTrvFallback (s : State) : Answer := s.when s.hub.fallbackDue Hub.trvFallback

/-- STARVED (R200). -/
def execStarved (ch : BitVec 6) (s : State) : Answer :=
  s.chWhen ch.toNat (s.hub.starveReached ch.toNat) fun h => h.starved ch.toNat

/-- ZERO (R182). -/
def execZero (s : State) : Answer := s.when s.hub.sec.zeroDue fun h => h.zeroAct h.frmNo

/-- DESYNC (R184). -/
def execDesync (s : State) : Answer := s.when s.hub.desyncDue Hub.desync

/-- GEY_SAMPLE (R215). -/
def execGeySample (eng : BitVec 2) (code : BitVec 12) (s : State) : Answer :=
  s.when (s.hub.geySampling eng.toNat) fun h => h.geySample eng.toNat code.toNat

end Sys2Proof.Machine
end

