-- ==== Sys2Proof/Machine/ExecLink.lean ====
section
/-! DEFINITION. The meanings of the commands of the string link (chapter 14), of the command packets and the SPI host port
(chapter 15), of the two-wire port (chapter 16), and of the interrupt, watchdog and calendar blocks that are no register
writes (chapters 17–19). -/

namespace Sys2Proof.Machine

/-! ## Ports (14 R376–R381, R398, R407) -/

/-- PORT_SIGNAL_DETECT (R376). -/
def execPortSignalDetect (lport : LinkPort) (s : State) : Answer := s.upd fun h => h.signalDetect lport

/-- PORT_TRAINED (R376). -/
def execPortTrained (lport : LinkPort) (s : State) : Answer := s.upd fun h => h.portTrained lport

/-- PORT_TRAIN_TIMEOUT (R376). -/
def execPortTrainTimeout (lport : LinkPort) (s : State) : Answer := s.upd fun h => h.trainTimeout lport

/-- LINK_DOWN (R376). -/
def execLinkDown (lport : LinkPort) (cause : LinkLoss) (s : State) : Answer := s.upd fun h => h.linkDown lport cause

/-- NEG (R398). -/
def execNeg (lport : LinkPort) (word : Word) (s : State) : Answer := s.upd fun h => h.neg lport word

/-- PACKET_DISCARD (R381). -/
def execPacketDiscard (lport : LinkPort) (check : PktCheck) (hdr : Option Hdr) (s : State) : Answer :=
  s.upd fun h => h.packetDiscard lport check hdr

/-- A state that only a running hub takes on. -/
def State.runs (s : State) (f : State → State) : Answer := if s.hub.running then .next (f s) else .next s

/-- PACKET_FORWARD (R387). -/
def execPacketForward (lport : LinkPort) (pkt : Packet) (bad : Bool) (s : State) : Answer :=
  s.runs fun x => x.forward lport pkt bad

/-! ## Polls, string loss, enumeration (14 R384–R391, R402–R406) -/

/-- POLL_SLOT_TX (R385). -/
def execPollSlotTx (s : State) : Answer := s.upd Hub.pollSlotTx

/-- POLL (R384): a reply comes from the DN port. -/
def execPoll (r : PollPkt) (s : State) : Answer := s.when (s.hub.portUp .dn) fun h => h.poll r

/-- POLL_SLOT_END (R389). -/
def execPollSlotEnd (pos : BitVec 4) (s : State) : Answer := s.upd fun h => h.pollSlotEnd pos.toNat

/-- STRING_CUTOFF (R391): the fences and READY, and with a gap open its loss (06 R184). -/
def Hub.cutoffNow (h : Hub) : Hub :=
  let a := h.stringCutoff
  if a.flag SEC_STAT_GAP then a.desync else a

/-- STRING_CUTOFF (R391). -/
def execStringCutoff (s : State) : Answer := s.when s.hub.cutoffIsDue Hub.cutoffNow

/-- CUTOFF_CLEAR (R391). -/
def execCutoffClear (s : State) : Answer := s.when s.hub.cutoffClearDue Hub.cutoffClear

/-- ENUM_RESET (R402). -/
def execEnumReset (epoch : Byte) (s : State) : Answer := s.upd fun h => h.enumReset epoch.toNat

/-- ENUM_ASSIGN (R402). -/
def execEnumAssign (pos : BitVec 4) (s : State) : Answer := s.upd fun h => h.enumAssign pos.toNat

/-- ENUM_PROBE (R402). -/
def execEnumProbe (pos : BitVec 4) (s : State) : Answer := s.upd fun h => h.enumProbe pos.toNat

/-- ENUM_SET (R402). -/
def execEnumSet (pos : BitVec 4) (tofs : BitVec 16) (epoch : Byte) (s : State) : Answer :=
  s.upd fun h => h.enumSet pos.toNat tofs.toNat epoch.toNat

/-- ENUM_DONE (R402). -/
def execEnumDone (nHubs : BitVec 5) (sver : BitVec 2) (s : State) : Answer :=
    s.upd fun h => h.enumDone nHubs.toNat sver.toNat

/-- ENUM_ACK (R402): the lead holds nothing of the identity the answer names. -/
def execEnumAck (pos : BitVec 4) (cred : Byte) (_devId _serial0 : Word) (hver : BitVec 2) (s : State) : Answer :=
  s.upd fun h => h.enumAck pos.toNat cred hver.toNat

/-- ENUM_ECHO (R403). -/
def execEnumEcho (pos : BitVec 4) (cred : Byte) (rtt : Nat) (s : State) : Answer :=
    s.upd fun h => h.enumEcho pos.toNat cred rtt

/-- ASSIGN_TIMEOUT (R404). -/
def execAssignTimeout (s : State) : Answer := s.when s.hub.assignTimeoutDue Hub.assignTimeout

/-- LINK_WAKE (R406). -/
def execLinkWake (lport : LinkPort) (s : State) : Answer := s.upd fun h => h.linkWake lport

/-! ## Credits (14 R394–R397) -/

/-- CRED (R394); requests that waited for it leave. -/
def execCred (lport : LinkPort) (word : Word) (s : State) : Answer :=
  s.runs fun x => State.pump 32 (x.hub! fun h => h.cred lport word)

/-- CREDIT_RESYNC (R397): by a write of RESYNC = 1 beside DNEN, or because the head has waited STR_CREDTMO frames. -/
def execCreditResync (byWrite : Bool) (port : Port) (s : State) : Answer :=
  if byWrite then s.rowWrite port STR_CTL_RESYNC.idx 1 (s.hub.newWord STR_CTL_RESYNC.idx ||| 4)
  else s.when s.hub.resyncDue Hub.sendSync

/-- CREDIT_TIMEOUT (R397). -/
def execCreditTimeout (cls : CredClass) (s : State) : Answer :=
  if s.hub.running && s.hub.creditTimeoutDue (credNum cls) then .next (s.creditTimeout (credNum cls)) else .next s

/-! ## Command packets (15 R411–R424) -/

/-- RD (R415). -/
def execRd (hdr : Hdr) (payload : List Word) (cyc : Nat) (s : State) : Answer :=
  s.runs fun x => x.request hdr payload 0x10 cyc

/-- WR (R417). -/
def execWr (hdr : Hdr) (payload : List Word) (cyc : Nat) (s : State) : Answer :=
  s.runs fun x => x.request hdr payload 0x12 cyc

/-- TBL (R419). -/
def execTbl (hdr : Hdr) (payload : List Word) (cyc : Nat) (s : State) : Answer :=
  s.runs fun x => x.request hdr payload 0x20 cyc

/-- A broadcast SNAP is judged here and goes on down (15 R422). -/
def State.snapPacket (s : State) (x : Hdr) (p : List Word) : State :=
  let h := s.hub
  let k : Packet := { hdr := { x with type := 0x30 }, payload := p }
  if !h.portUp .up then s
  else if h.fmtBad .up k then
    State.badDn { s with hub := h.packetDiscard .up .fmt (some k.hdr) } { k with bad := true }
  else State.queueDn { s with hub := h.snapArrives p } k

/-- SNAP (R422). -/
def execSnap (hdr : Hdr) (payload : List Word) (s : State) : Answer := s.runs fun x => x.snapPacket hdr payload

/-- SRD (R423). -/
def execSrd (hdr : Hdr) (payload : List Word) (s : State) : Answer :=
  s.runs fun x => x.request hdr payload 0x38 x.hub.cyc

/-- SRDR_PART (R424). -/
def execSrdrPart (s : State) : Answer := s.upd Hub.srdrPart

/-- RESPONSE_SEND (R411). -/
def execResponseSend (s : State) : Answer := s.runs State.responseSend

/-! ## SPI host port (15 R427–R428) -/

/-- SPI_TRANSACTION_START (R428): HCS# falls. -/
def execSpiTransactionStart (s : State) : Answer := s.runs State.spiStart

/-- SPI_TRANSACTION_END (R427): HCS# rises. -/
def execSpiTransactionEnd (mosi : List Byte) (clocked : Nat) (s : State) : Answer := s.runs fun x => x.spiEnd mosi clocked

/-! ## Two-wire port (16 R433–R444) -/

/-- TWB_READ (R434). -/
def execTwbRead (idx : BitVec 16) (pecRead : Bool) (cyc : Nat) (s : State) : Answer :=
  (s.hub! fun h => h.windowAt cyc).twbServe fun x => x.twbRead idx.toNat cyc pecRead

/-- TWB_WRITE (R435). -/
def execTwbWrite (cmd : Byte) (bytes : List Byte) (cyc : Nat) (s : State) : Answer :=
  (s.hub! fun h => h.windowAt cyc).twbServe fun x => x.twbWrite cmd.toNat (bytes.map (·.toNat)) cyc

/-- ATTN (R439). -/
def execAttn (pecRead : Bool) (s : State) : Answer := s.twbServe fun x => x.attn pecRead

/-- LAST (R433). -/
def execLast (pecRead : Bool) (s : State) : Answer := s.twbServe fun x => x.hub! fun h => h.twbLastRead pecRead

/-- A frame that breaks the format of its command (16 R446). -/
def Hub.badFrame (h : Hub) (cmd cause : Nat) : Hub :=
  if cause ≠ 0 ∧ cause = fmtCause cmd then h.fmtError cmd cause else h

/-- FORMAT_ERROR (R433). -/
def execFormatError (cmd cause : Byte) (s : State) : Answer :=
  s.twbServe fun x => x.hub! fun h => h.badFrame cmd.toNat cause.toNat

/-- ALERT_RESPONSE (R443): answered in a busy window too. -/
def execAlertResponse (lost : AlertReply) (s : State) : Answer :=
  if s.hub.twbUp then .next (s.alertResponse lost.lost lost.pec) else .next s

/-- BUS_TIMEOUT (R444). -/
def execBusTimeout (mid : Bool) (s : State) : Answer := s.upd fun h => h.busTimeout mid

/-- INBAND_PULSE (R441). -/
def execInbandPulse (s : State) : Answer := if s.hub.running && s.pulseDue then .next s.inbandPulse else .next s

/-- COLLIDE (R441). -/
def execCollide (s : State) : Answer := s.when s.hub.collideDue Hub.collide

/-- BUSY_WINDOW_CLOSE (R437). -/
def execBusyWindowClose (s : State) : Answer := s.when s.hub.windowOver Hub.windowClose

/-- QUIET_END (R438). -/
def execQuietEnd (s : State) : Answer := s.when s.hub.quietOver Hub.quietEnd

/-- ATTN_REMIND (R439). -/
def execAttnRemind (s : State) : Answer := if s.hub.running && s.remindDue then .next s.remind else .next s

/-! ## Watchdog (18 R463–R475) -/

/-- WDT_OPEN (R475). -/
def execWdtOpen (s : State) : Answer := s.when s.hub.wdtOpenDue Hub.wdtOpen

/-- WDT_MISSING (R467). -/
def execWdtMissing (s : State) : Answer := s.when s.hub.wdtMissingDue Hub.wdtMissing

/-- RST_OUT_RELEASE (R469). -/
def execRstOutRelease (s : State) : Answer := s.when s.hub.rstOutDue Hub.rstOutRelease

/-! ## Real-time clock (19 R478–R491): its domain runs while the logic is off -/

/-- An event of the clock's domain; a hub without any supply has lost it.
(DESIGN CHOICE, log entry 5; DESIGN CHOICE, log entry 6.) -/
def State.rtcWhen (s : State) (c : Bool) (f : Hub → Hub) : Answer := if c then s.updAny f else .next s

/-- RTC_SECOND (R486). -/
def execRtcSecond (s : State) : Answer := s.rtcWhen s.hub.rtcSecondDue Hub.rtcSecond

/-- RTC_TRIM (R484). -/
def execRtcTrim (temp : Int) (keepMv : Nat) (s : State) : Answer :=
  s.rtcWhen s.hub.rtcTrimDue fun h => h.rtcTrim temp keepMv

/-- KRES_STOP (R483). -/
def execKresStop (s : State) : Answer := s.rtcWhen (!s.hub.rtc.kresStopped) Hub.kresLost

/-- KEEP_CHANGEOVER (R485). -/
def execKeepChangeover (toKeep : Bool) (s : State) : Answer := s.updAny fun h => h.keepChange toKeep

/-- RTC_DOMAIN_POWERUP (R480). -/
def execRtcDomainPowerup (s : State) : Answer := s.updAny Hub.rtcPowerUp

/-- SLAVE_LOST (R488). -/
def execSlaveLost (s : State) : Answer := s.when s.hub.slaveLostDue Hub.slaveLost

/-- The always-on domain and the clock stop: nothing of the hub has power (R485). (DEDUCED, log entry 39.) -/
def Hub.domainStop (h : Hub) : Hub :=
  h.md! fun m => { m with power := .off, wakeLow := false, wakeArmed := true, retained := none, waking := false }

/-- DOMAIN_STOP (R485): only while the logic has no power. -/
def execDomainStop (s : State) : Answer := s.rtcWhen (!s.hub.running) Hub.domainStop

end Sys2Proof.Machine
end

