-- ==== Sys2Proof/Machine/ExecMeasure.lean ====
section
/-! DEFINITION. The meanings of the commands of the sequencer and the supervisors (chapter 12), of measurement (chapter 13),
of the recorder and the keys (chapter 20) and of the test page (chapter 22). -/

namespace Sys2Proof.Machine

/-! ## Sequencer and supervisors (12 R325–R341, 22 R530) -/

/-- SLOT_START (R329). -/
def execSlotStart (slot : BitVec 4) (s : State) : Answer :=
  s.when (s.hub.slotStartDue slot.toNat) fun h => h.slotStart slot.toNat

/-- SLOT_WAIT_TIMEOUT (R329): the slot has not started for WAIT ms; code 1. -/
def execSlotWaitTimeout (slot : BitVec 4) (s : State) : Answer :=
  let k := slot.toNat
  s.when (s.hub.slotTimer k 2 (s.hub.get (SEQ_LIM_WAIT.nth k) * 10)) fun h => h.slotFail k 1

/-- SLOT_RISE_TIMEOUT (R330): the rail has not come up in RISE ms; code 2.  In a power-down a RISING slot counts as on (R339).
-/
def execSlotRiseTimeout (slot : BitVec 4) (s : State) : Answer :=
  let k := slot.toNat
  s.when (s.hub.slotTimer k 3 (s.hub.get (SEQ_LIM_RISE.nth k) * 10) && s.hub.get SEQ_STAT_STATE != 3)
    fun h => h.slotFail k 2

/-- SLOT_GOOD (R325). -/
def execSlotGood (slot : BitVec 4) (s : State) : Answer :=
  s.when (s.hub.slotGoodDue slot.toNat) fun h => h.slotGoodAct slot.toNat

/-- SLOT_HOLDOFF (R334): the slot waits for those that depend on it. -/
def execSlotHoldoff (slot : BitVec 4) (s : State) : Answer :=
  s.when (s.hub.holdoffDue slot.toNat) fun h => h.slotTo slot.toNat 7 (h.slotGood slot.toNat)

/-- SLOT_VENTED (R335). -/
def execSlotVented (slot : BitVec 4) (s : State) : Answer :=
  s.when (s.hub.ventedDue slot.toNat) fun h => h.slotVented slot.toNat

/-- VENT_TIMEOUT (R335). -/
def execVentTimeout (slot : BitVec 4) (s : State) : Answer :=
  let k := slot.toNat
  s.when (s.hub.slotTimer k 8 (s.hub.get (SEQ_VENT_VT.nth k) * 10)) fun h => h.ventTimeout k

/-- SUP_FILTER (R341): an input value whose raw state has held for some µs. -/
def execSupFilter (sup : BitVec 5) (value : SupSample) (s : State) : Answer :=
  s.when (decide (sup.toNat < 24)) fun h => h.supFilter sup.toNat value.value.toNat value.held

/-- SUPERVISOR_CHATTER (R530): the forced outside time of a period begins or ends. -/
def execSupervisorChatter (start : ChatterEdge) (s : State) : Answer :=
  s.when (s.hub.chatterDue start.start start.us) fun h => h.seq! fun q => { q with chatForced := start.start }

/-! ## Conversions (13 R350–R354) -/

/-- An event of the head after which P2 may run. -/
def State.headThenP2 (s : State) (c : Bool) (f : Hub → Hub) : Answer :=
  if c && s.hub.running then .next (s.hub! f).runP2 else .next s

/-- SCAN_ENTRY_DONE (R350). -/
def execScanEntryDone (conv : BitVec 2) (entry : BitVec 6) (acc : BitVec 16) (split : Bool) (s : State) : Answer :=
  s.headThenP2 (s.hub.scanAt conv.toNat entry.toNat) fun h => h.scanDone conv.toNat entry.toNat acc.toNat split

/-- HEAD_LATE (R352). -/
def execHeadLate (s : State) : Answer := s.headThenP2 s.hub.headLateDue Hub.headLate

/-- HOST_CONVERSION_DONE (R354). -/
def execHostConversionDone (port : Port) (acc : HostConv) (s : State) : Answer :=
  s.when (s.hub.hostReady port acc.cyc) fun h => h.hostDone port acc.acc.toNat

/-! ## Correction (13 R360–R362, 20 R505) -/

/-- ZERO_REFRESH (R360). -/
def execZeroRefresh (ch : BitVec 6) (lsOpen : Bool) (s : State) : Answer :=
  let n := ch.toNat
  s.when (decide (n < s.hub.nch) && s.hub.zeroDue n lsOpen) fun h => h.ch! n
      fun c => { c with refreshing := true, lsClosed := false }

/-- ZERO_REFRESH_DONE (R360). -/
def execZeroRefreshDone (ch : BitVec 6) (hs load : Int) (s : State) : Answer :=
  let n := ch.toNat
  s.when (decide (n < s.hub.nch) && (s.hub.ch n).refreshing && !s.hub.adcFenced (n / 32)) fun h => h.zeroDone n hs load

/-- The oldest write of the non-volatile store ends (13 R361–R362, 20 R505); one that port W began ends its busy window,
and the quiet time follows (16 R437–R438). -/
def Hub.nvDone (h : Hub) (ok : Bool) : Hub :=
  match h.mea.nvq with
  | [] => h
  | job :: rest =>
    let wasW := h.twbBusy
    let h1 := h.mea! fun m => { m with nvq := rest, nvAge := 0 }
    let h2 := match job with
      | .key slot => h1.keyWritten slot ok
      | j => h1.calWritten j ok
    if wasW && !h2.twbBusy then h2.quietBegin else h2

/-- NV_WRITE_DONE (R437). -/
def execNvWriteDone (ok : Bool) (s : State) : Answer :=
    s.when (decide (s.hub.nvStall ≤ s.hub.mea.nvAge)) fun h => h.nvDone ok

/-! ## Snapshots (13 R365) -/

/-- SNAPSHOT_LATCH (R365). -/
def execSnapshotLatch (s : State) : Answer := s.upd Hub.snapAt

/-- SNAPSHOT_DONE (R365). -/
def execSnapshotDone (s : State) : Answer := s.when s.hub.mea.writing.isSome Hub.snapDone

/-! ## Recorder (20 R496–R511) -/

/-- RECORD_COMMIT (R496). -/
def execRecordCommit (s : State) : Answer := s.when s.hub.commitDue Hub.recordCommit

/-- STORE_UNCORR (R504). -/
def execStoreUncorr (slot : BitVec 14) (word : BitVec 4) (s : State) : Answer :=
  s.upd fun h => (h.storeUncorr slot.toNat word.toNat).winTake

/-- RECORDER_CLEAR (R511). -/
def execRecorderClear (s : State) : Answer := s.upd Hub.clearActs

/-- CLEARED (R511). -/
def execCleared (s : State) : Answer := s.when s.hub.clearedDue fun h => h.clearedCommit.winTake

/-! ## Keys (20 R506–R510) -/

/-- CHALLENGE_EXPIRY (R506). -/
def execChallengeExpiry (s : State) : Answer := s.when s.hub.chalExpired Hub.chalLapse

/-- SESSION_LAPSE (R510). -/
def execSessionLapse (s : State) : Answer := s.when s.hub.sessLapsed Hub.sessionEnd

/-- LOCKOUT_END (R508). -/
def execLockoutEnd (s : State) : Answer := s.when s.hub.lockoutOver Hub.lockoutEnd

/-! ## Test page (22 R530) -/

/-- TICK_SKEW (R530). -/
def execTickSkew (s : State) : Answer := s.when s.hub.tst.skew.isSome Hub.tickSkew

end Sys2Proof.Machine
end

