-- ==== Sys2Proof/Machine/ExecPower.lean ====
section
/-! DEFINITION. The meanings of the commands of the feeds (chapter 08), the converters (chapter 09), the charger and the
hold-up path (chapter 11). -/

namespace Sys2Proof.Machine

/-! ## Feeds (chapter 08): their control works without the logic's power -/

/-- An event of a feed under its condition. (DESIGN CHOICE, log entry 5; DESIGN CHOICE, log entry 6.) -/
def State.feedWhen (s : State) (c : Bool) (f : Hub → Hub) : Answer := if c then s.updAny f else .next s

/-- A feed's voltage as the contacts show it, in 10 mV. -/
def feedVal (v : BitVec 16) : Nat := (max v.toInt 0).toNat

/-- FEED_PRESENT (R233). -/
def execFeedPresent (feed : FeedId) (s : State) : Answer :=
  let k := feedNum feed
  s.feedWhen (!s.hub.flag (FEED_STAT_PRESENT.pg k)) fun h => h.feedPresent k

/-- FEED_ABSENT (R233). -/
def execFeedAbsent (feed : FeedId) (v : BitVec 16) (s : State) : Answer :=
  let k := feedNum feed
  s.feedWhen (s.hub.flag (FEED_STAT_PRESENT.pg k)) fun h => h.feedAbsent k v.toNat

/-- REV_POLARITY (R234): once per episode. -/
def execRevPolarity (feed : FeedId) (v : BitVec 16) (s : State) : Answer :=
  let k := feedNum feed
  s.feedWhen (!s.hub.flag (FEED_STAT_POLREV.pg k)) fun h =>
    (h.put (FEED_STAT_POLREV.pg k) 1).feedReport k 6 0x0F07 sevWARN [(0, 2, v.toNat)]

/-- POLREV_CLEAR (R234). -/
def execPolrevClear (feed : FeedId) (s : State) : Answer :=
  let k := feedNum feed
  s.feedWhen (s.hub.flag (FEED_STAT_POLREV.pg k)) fun h => h.put (FEED_STAT_POLREV.pg k) 0

/-- FEED_DETECT (R243): the voltage is above 12.0 V. -/
def execFeedDetect (feed : FeedId) (s : State) : Answer :=
  let k := feedNum feed
  s.feedWhen (s.hub.feedSt k == 1 && !s.hub.feedFenced k) fun h => h.feedTo k 2

/-- DETECT_DROP (R243): the voltage is below 11.0 V again. -/
def execDetectDrop (feed : FeedId) (s : State) : Answer :=
  let k := feedNum feed
  s.feedWhen (s.hub.feedSt k == 2) fun h => h.feedTo k 1

/-- FEED_QUALIFIED (R235): the timer has run inside the window, and PRECHARGE begins. -/
def execFeedQualified (feed : FeedId) (s : State) : Answer :=
  let k := feedNum feed
  s.feedWhen (s.hub.feedQualDue k) fun h => (h.feedTo k 4).put (FEED_STAT_INWIN.pg k) 1

/-- FEED_ON (R236). -/
def execFeedOn (feed : FeedId) (v : BitVec 16) (s : State) : Answer :=
  let k := feedNum feed
  s.feedWhen (s.hub.feedOnDue k) fun h => h.feedOnAct k v.toNat

/-- INS_TRIP (R237): the insertion timer has expired. -/
def execInsTrip (feed : FeedId) (limiting : Bool) (vinb : BitVec 16) (s : State) : Answer :=
  let k := feedNum feed
  s.feedWhen (s.hub.insTripDue k) fun h => (h.insTrip k limiting vinb.toNat).feedF

/-- FEED_WINDOW_EXIT (R238): in PRECHARGE the feed goes back to QUALIFY. -/
def execFeedWindowExit (feed : FeedId) (s : State) : Answer :=
  let k := feedNum feed
  s.feedWhen (s.hub.feedSt k != 5) fun h =>
    let h1 := h.feedInWin k false
    if h.feedSt k = 4 then h1.feedTo k 3 else h1

/-- REV_OFF (R239): the FETs open, where they conducted. -/
def execRevOff (feed : FeedId) (above v : BitVec 16) (s : State) : Answer :=
  let k := feedNum feed
  s.feedWhen (s.hub.feedSt k == 5 && s.hub.flag (FEED_STAT_CONDUCT.pg k)) fun h => h.revOff k above.toNat (feedVal v)

/-- FEED_RECONDUCT (R239): the FETs close again, unless the feed stands by. -/
def execFeedReconduct (feed : FeedId) (s : State) : Answer :=
  let k := feedNum feed
  s.feedWhen (s.hub.feedSt k == 5 && !s.hub.flag (FEED_STAT_CONDUCT.pg k) && !s.hub.flag (FEED_STAT_STANDBY_B.pg k)
      && s.hub.ratioIdle != some feed) fun h =>
    (h.put (FEED_STAT_CONDUCT.pg k) 1).put (FEED_STAT_BLOCKING.pg k) 0

/-- FEED_FAST_TRIP (R240). -/
def execFeedFastTrip (feed : FeedId) (peak v : BitVec 16) (s : State) : Answer :=
  let k := feedNum feed
  s.feedWhen (s.hub.feedSt k == 4 || s.hub.feedSt k == 5) fun h => (h.fuseTrip k 2 peak.toNat v.toNat).feedF

/-- FUSE_TRIP (R240). -/
def execFuseTrip (feed : FeedId) (peak v : BitVec 16) (s : State) : Answer :=
  let k := feedNum feed
  s.feedWhen (s.hub.slowFuseDue k) fun h => (h.fuseTrip k 1 peak.toNat v.toNat).feedF

/-- FEED_RETRY (R241). -/
def execFeedRetry (feed : FeedId) (inWin : Bool) (s : State) : Answer :=
  let k := feedNum feed
  s.feedWhen (s.hub.feedRetryDue k) fun h => h.feedRetry k inWin

/-- OVERVOLT (R242). -/
def execOvervolt (feed : FeedId) (peak : BitVec 16) (s : State) : Answer :=
  let k := feedNum feed
  s.feedWhen (s.hub.feedSt k == 5) fun h => h.overvolt k peak.toNat

/-- FEED_UNDERVOLT (R242). -/
def execFeedUndervolt (feed : FeedId) (v : BitVec 16) (s : State) : Answer :=
  let k := feedNum feed
  s.feedWhen (s.hub.feedSt k == 5) fun h => h.undervolt k v.toNat

/-- FEED_ATTEMPTS_CLEAR (R241): 10 s in ON. -/
def execFeedAttemptsClear (feed : FeedId) (s : State) : Answer :=
  let k := feedNum feed
  s.feedWhen (s.hub.feedSt k == 5 && decide (100000 ≤ (s.hub.feed k).run)) fun h => h.put (FEED_STAT_ATTEMPTS.pg k) 0

/-- PRI_TAKEOVER (R248). -/
def execPriTakeover (va : BitVec 16) (s : State) : Answer :=
  s.feedWhen (s.hub.flag (FEED_STAT_STANDBY_B.pg 1)) fun h => h.priTakeover va.toNat

/-- PRIMARY_RETURN (R248). -/
def execPrimaryReturn (s : State) : Answer := s.feedWhen s.hub.primaryReturnDue Hub.primaryReturn

/-! ## Converters (chapter 09) -/

/-- SLEW_UPDATE (R256): voltages in mV. -/
def execSlewUpdate (conv : ConvId) (out vsys : Nat) (s : State) : Answer :=
  s.when (s.hub.convRuns (convNum conv)) fun h => h.slewUpdate (convNum conv) out vsys

/-- CAL_DONE (R260): 200 µs of CAL are over. -/
def execCalDone (out : Nat) (offs : List Int) (extrap : BitVec 4) (s : State) : Answer :=
  s.when (s.hub.convSt 0 == 2) fun h => h.calDone out offs extrap

/-- CONVERTER_LIMIT_TRIP (R262). -/
def execConverterLimitTrip (conv : ConvId) (meas : ConvMeas) (s : State) : Answer :=
  s.when (s.hub.limitTripDue (convNum conv)) fun h => (h.convTrip (convNum conv) 1 meas).classF 3 h.cyc

/-- CONVERTER_SHORT_TRIP (R262). -/
def execConverterShortTrip (conv : ConvId) (meas : ConvMeas) (s : State) : Answer :=
  s.when (s.hub.shortTripDue (convNum conv) meas.out.toNat) fun h => (h.convTrip (convNum conv) 2 meas).classF 3 h.cyc

/-- CONVERTER_OV_TRIP (R263). -/
def execConverterOvTrip (conv : ConvId) (meas : ConvMeas) (s : State) : Answer :=
  s.when (s.hub.ovTripDue (convNum conv) meas.out.toNat) fun h => (h.convTrip (convNum conv) 3 meas).classF 3 h.cyc

/-- BACKFEED (R263): only where the converter does not switch, once per episode. -/
def execBackfeed (conv : ConvId) (out : BitVec 16) (s : State) : Answer :=
  let i := convNum conv
  s.when (!s.hub.switching i && !s.hub.flag (cHIGH i) && decide (absLevel i < out.toNat * 10))
      fun h => h.backfeed i out.toNat

/-- DROPOUT (R264): once per episode. -/
def execDropout (conv : ConvId) (vin : BitVec 16) (s : State) : Answer :=
  let i := convNum conv
  s.when (s.hub.switching i && !s.hub.flag (cDROPOUT i)) fun h => h.dropout i vin.toNat

/-- CONVERTER_RETRY (R260). -/
def execConverterRetry (conv : ConvId) (s : State) : Answer :=
  s.when (s.hub.convRetryDue (convNum conv)) fun h => h.convRetry (convNum conv)

/-- CONVERTER_ATTEMPTS_CLEAR (R260): 10 s in REGULATE. -/
def execConverterAttemptsClear (conv : ConvId) (s : State) : Answer :=
  let i := convNum conv
  s.when (s.hub.convSt i == 4 && decide (100000 ≤ (s.hub.conv i).run)) fun h => h.put (cATTEMPTS i) 0

/-- VENT_DONE (R259): the output is below 0.4 V. -/
def execVentDone (conv : ConvId) (s : State) : Answer :=
  let i := convNum conv
  s.when ((s.hub.conv i).vent && !(s.hub.conv i).seqVent && decide (s.hub.outMv i < 400)) fun h =>
    h.conv! i fun c => { c with vent := false }

/-- PHASE_SHED (R265): a phase stops, or comes back. -/
def execPhaseShed (shed : Bool) (s : State) : Answer :=
  s.when (s.hub.shedDue shed) fun h => h.setPhases (if shed then 2 else 3)

/-- The shed phases stand still for a measurement (R265): LB in CAL, or phases 1 and 3 while two run, a second after their
last one. -/
def Hub.offsetDue (h : Hub) (phase : Nat) : Bool :=
  h.convSt 0 == 2 || (h.get LB_STAT_NPH == 2 && (phase == 1 || phase == 3) && decide (1 ≤ h.lb.twoRun)
    && decide (1 ≤ h.get (LB_PHSTAT_AGE.nth phase)))

/-- PHASE_OFFSET_MEASURE (R265). -/
def execPhaseOffsetMeasure (phase : BitVec 2) (ofs : BitVec 16) (extrap : Bool) (s : State) : Answer :=
  s.when (s.hub.offsetDue phase.toNat) fun h => h.phaseOffset phase.toNat ofs.toNat extrap

/-- FEEDFORWARD (R266). -/
def execFeedforward (s : State) : Answer :=
  s.when (s.hub.flag LB_CTL_FFEN && s.hub.convSt 0 == 4 && s.hub.previewDue) Hub.feedforward

/-- SYNC_OK (R270). -/
def execSyncOk (s : State) : Answer := s.when s.hub.lbSyncDue fun h => (h.put LB_STAT_SYNC 1).evt 0x11 6

/-- VSYS_LOW (R260): a rail without its supply goes back to IDLE. -/
def execVsysLow (conv : ConvId) (s : State) : Answer :=
  let i := convNum conv
  s.when (i != 0 && (s.hub.convSt i == 3 || s.hub.convSt i == 4)) fun h => h.convTo i 1

/-! ## Charger (chapter 11) -/

/-- CHG_PRECHARGE_DONE (R301): VBAT in mV. -/
def execChgPrechargeDone (vbat : Nat) (s : State) : Answer :=
  s.when (s.hub.chgSt == 2 && decide (s.hub.vPre ≤ vbat)) fun h => h.chgTo 3

/-- CHG_CV_ENTRY (R301). -/
def execChgCvEntry (vbat : Nat) (s : State) : Answer :=
  s.when (s.hub.chgSt == 3 && decide (s.hub.vChg ≤ vbat)) fun h => h.chgTo 4

/-- CHARGE_DONE (R301): VBAT in 10 mV. -/
def execChargeDone (vbat : BitVec 16) (s : State) : Answer :=
  s.when (s.hub.chgSt == 4 && decide (1000 ≤ s.hub.chg.taper)) fun h => h.chargeDone vbat.toNat

/-- A recharge check in DONE or PAUSED (R298, R301). -/
def Hub.rechargeCheck (h : Hub) (vbat : Nat) : Hub :=
  let h1 := h.chg! fun c => { c with sinceCheck := 0 }
  if h.chgSt = 5 then (if vbat < h.vRech then h1.chgTo (if vbat < h.vPre then 2 else 3) else h1)
  else if !badZone h.zone ∧ h.dieCool then h1.chgTo (h.byVbat vbat) else h1

/-- RECHARGE_CHECK (R298): VBAT in mV. -/
def execRechargeCheck (vbat : Nat) (s : State) : Answer :=
  s.when ((s.hub.chgSt == 5 || s.hub.chgSt == 6) && decide (s.hub.get CHG_RECHK_S * 10000 ≤ s.hub.chg.sinceCheck)) fun h =>
    h.rechargeCheck vbat

/-- NTC_ZONE (R303): ADC3 delivers no temperature while it is fenced (21 R522). -/
def execNtcZone (temp : Int) (bad : Bool) (s : State) : Answer :=
  s.when (!s.hub.adcFenced 3) fun h => h.ntcZone (2 * temp) bad

/-- CHG_SHUTDOWN (R301): 150 °C is 214 in TDIE. -/
def execChgShutdown (die : Byte) (s : State) : Answer :=
  s.when (decide (2 ≤ s.hub.chgSt) && decide (s.hub.chgSt ≤ 4) && decide (214 ≤ die.toNat))
    fun h => h.chgShutdown die.toNat

/-- CHG_TIMER_SECOND (R307). -/
def execChgTimerSecond (s : State) : Answer :=
  let st := s.hub.chgSt
  s.when (decide (10000 ≤ s.hub.chg.secFrames) && (st == 2 || st == 3 || st == 4 || st == 6)) Hub.timerSecond

/-- The presence test is over: a fall of VSYS by 400 mV finds the battery absent (R305). -/
def Hub.presenceTest (h : Hub) (drop : Nat) : Hub :=
  if 400 ≤ drop then h.batAbsent else (h.chg! fun c => { c with presTest := false }).chgPower

/-- BAT_PRESENCE_TEST (R305). -/
def execBatPresenceTest (drop : Nat) (s : State) : Answer := s.when s.hub.chg.presTest fun h => h.presenceTest drop

/-- The charger does not switch and the battery counts as present (R305). -/
def Hub.absenceCan (h : Hub) : Bool :=
  let st := h.chgSt
  h.anyFeedOn && decide (1 ≤ st) && decide (st ≤ 7) && !(decide (2 ≤ st) && decide (st ≤ 4))

/-- BAT_ABSENT (R305). -/
def execBatAbsent (s : State) : Answer := s.when s.hub.absenceCan Hub.batAbsent

/-- The contacts are measured in NOBAT, once per second: 5.0 V mean a battery (R305). -/
def Hub.nobatCheck (h : Hub) (mv : Nat) : Hub :=
  let h1 := h.chg! fun c => { c with sinceCheck := 0 }
  if 5000 ≤ mv then h1.batPresent mv else h1

/-- NOBAT_CHECK (R305): the contact voltage in mV. -/
def execNobatCheck (mv : Nat) (s : State) : Answer :=
  s.when (s.hub.chgSt == 8 && decide (10000 ≤ s.hub.chg.sinceCheck)) fun h => h.nobatCheck mv

/-- The power-path monitor of the always-on domain: it watches while the hub runs and in STANDBY (R309). -/
def Hub.batWatched (h : Hub) : Bool := (h.running || h.md.power == .standby) && !h.anyFeedOn

/-- BAT_LOW (R309): VBAT in 10 mV. -/
def execBatLow (vbat : BitVec 16) (s : State) : Answer :=
  if s.hub.batWatched && !s.hub.flag CHG_STAT_LOWBAT && decide (vbat.toNat < s.hub.lowLevel) then
    s.updAny fun h => h.batLow vbat.toNat
  else .next s

/-- The cutoff in STANDBY: no frame runs, so that its record commits and BATFET opens at once (R310). -/
def Hub.standbyCutoff (h : Hub) (vbat : Nat) : Hub :=
  (((h.batCutoff vbat).logicOff .off).md! fun m => { m with cutoffDue := true }).chgPower

/-- BAT_CUTOFF (R310). -/
def execBatCutoff (vbat : BitVec 16) (s : State) : Answer :=
  if s.hub.batWatched && !s.hub.md.cutoffDue && decide (vbat.toNat < s.hub.cutLevel) then
    s.updAny fun h => if h.running then h.batCutoff vbat.toNat else h.standbyCutoff vbat.toNat
  else .next s

/-! ## Hold-up (11 R311–R319) -/

/-- HOLDUP_TRIGGER (R311): V_INB in 100 mV. -/
def execHoldupTrigger (trig : HoldTrig) (vinb : BitVec 16) (s : State) : Answer :=
  s.when (s.hub.flag CHG_STAT_ARMED && s.hub.trigHolds trig vinb.toNat) fun h => h.holdupTrigger trig vinb.toNat

/-- BYPASS_TRIP (R313). -/
def execBypassTrip (byLimit : Bool) (cur : BitVec 16) (s : State) : Answer :=
  s.when (s.hub.flag CHG_STAT_BYPASS) fun h => h.bypassTrip byLimit cur.toNat

/-- HOLDMAX_EXPIRED (R315). -/
def execHoldmaxExpired (s : State) : Answer := s.when s.hub.holdmaxDue Hub.holdmaxExpired

/-- The bypass may open in a hand-back: LB is out of CAL (R317). -/
def Hub.bypassOpenDue (h : Hub) : Bool := h.flag CHG_STAT_HANDBACK && h.flag CHG_STAT_BYPASS && h.convSt 0 != 2

/-- BYPASS_OPEN (R317). -/
def execBypassOpen (s : State) : Answer := s.when s.hub.bypassOpenDue Hub.bypassOpen

/-- REPEAT_RESET (R316): 10 s outside HOLDUP. -/
def execRepeatReset (s : State) : Answer :=
  s.when (decide (0 < s.hub.get CHG_STAT_REPEAT) && s.hub.mode != mHOLDUP && decide (100000 ≤ s.hub.chg.outside)) fun h =>
    h.put CHG_STAT_REPEAT 0

end Sys2Proof.Machine
end

