-- ==== Sys2Proof/Machine/ExecRegs.lean ====
section
/-! DEFINITION. The meanings of the write rows: REGISTER_WRITE and the commands that are writes of one register, built as
the chapters place their fields, with every other bit as it stands (03 R83–R103, 04 R110, R131, 05 R144, 06 R190–R191,
07 R211, 13 R354, R361, R364, 14 R405, 17 R454–R457, 18 R465, 19 R479, R481, 20 R505–R510). -/

namespace Sys2Proof.Machine

/-! ## Pages (03 R83–R103) -/

/-- REGISTER_WRITE (R83). -/
def execRegisterWrite (port : Port) (idx : BitVec 16) (be : BitVec 4) (val : Word) (s : State) : Answer :=
  s.rowWrite port idx.toNat be.toNat val

/-- EN and the port's VIEW of a page's PG_CTL as they stand, pending writes counted. -/
def Hub.ctlBase (h : Hub) (page : Nat) (p : Port) : Nat :=
  boolNat (h.enShown page) + 2 * boolNat (h.viewNext p)

/-- A number as a register word. -/
def wordOf (v : Nat) : Word := BitVec.ofNat 32 v

/-- PAGE_COMMIT (R96): COMMIT = 1. -/
def execPageCommit (port : Port) (page : BitVec 8) (s : State) : Answer :=
  s.rowWrite port (page.toNat * 256 + 5) 15 1

/-- FENCE_RELEASE (R88): REL = 1 with its key in byte 3. -/
def execFenceRelease (port : Port) (page key : BitVec 8) (s : State) : Answer :=
  s.rowWrite port (page.toNat * 256 + 1) 9 (wordOf (s.hub.ctlBase page.toNat port + 4 + key.toNat * 2 ^ 24))

/-- SOFT_RESET (R87): SRST = 1; the EN of the same write is ignored, so that 0 stands there. -/
def execSoftReset (port : Port) (page : BitVec 8) (s : State) : Answer :=
  s.rowWrite port (page.toNat * 256 + 1) 1 (wordOf (s.hub.ctlBase page.toNat port / 2 * 2 + 8))

/-- PAGE_ENABLE (R88): EN takes a value. -/
def execPageEnable (port : Port) (page : BitVec 8) (en : Bool) (s : State) : Answer :=
  s.rowWrite port (page.toNat * 256 + 1) 1
    (wordOf (s.hub.ctlBase page.toNat port / 2 * 2 + boolNat en))

/-- VIEW_SELECT (R86): the port's VIEW takes a value. -/
def execViewSelect (port : Port) (page : BitVec 8) (view : Bool) (s : State) : Answer :=
  s.rowWrite port (page.toNat * 256 + 1) 1
    (wordOf (s.hub.ctlBase page.toNat port % 2 + 2 * boolNat view))

/-- PAGE_LOCK (R85): a write of PG_LOCK. -/
def execPageLock (port : Port) (page : BitVec 8) (val : Word) (s : State) : Answer :=
  s.rowWrite port (page.toNat * 256 + 6) 15 val

/-- EVENT_FLAG_CLEAR (R89): a write of PG_EVT. -/
def execEventFlagClear (port : Port) (page : BitVec 8) (val : Word) (s : State) : Answer :=
  s.rowWrite port (page.toNat * 256 + 3) 15 val

/-- PROFILE_WRITE (R103): a write of DEV_PROFILE. -/
def execProfileWrite (port : Port) (be : BitVec 4) (val : Word) (s : State) : Answer :=
  s.rowWrite port DEV_PROFILE_PROFILE.idx be.toNat val

/-- MODE_REQUEST (R110): a write of DEV_MODEREQ. -/
def execModeRequest (port : Port) (val : Word) (s : State) : Answer := s.rowWrite port DEV_MODEREQ_REQ.idx 15 val

/-- SHIP_REQUEST (R131): a write of DEV_SHIP. -/
def execShipRequest (port : Port) (val : Word) (s : State) : Answer := s.rowWrite port DEV_SHIP_KEY.idx 15 val

/-! ## Clocks, channels, lanes, capture -/

/-- CLOCK_SELECT (R62): a write of CLK_SEL. -/
def execClockSelect (port : Port) (val : Word) (s : State) : Answer := s.rowWrite port CLK_SEL_PLLREF.idx 15 val

/-- FM_START (R68): a write of CLK_FMCTL. -/
def execFmStart (port : Port) (val : Word) (s : State) : Answer := s.rowWrite port CLK_FMCTL_START.idx 15 val

/-- CH_FORCE_WRITE (R144): a write of the channel's CH_FORCE. (DEDUCED, log entry 23.) -/
def execChForceWrite (port : Port) (ch : BitVec 6) (val : Word) (s : State) : Answer :=
  s.rowWrite port (CH_FORCE_FORCE.pg ch.toNat).idx 15 val

/-- APPEND_ENTRY (R191): a write of SEC_APP1 appends the entry of the port's SEC_APP0 and of this word. -/
def execAppendEntry (port : Port) (be : BitVec 4) (word1 : Word) (s : State) : Answer :=
  s.rowWrite port SEC_APP1_W1.idx be.toNat word1

/-- FLUSH (R190): FLUSH = 1 beside the other settings of byte 0. -/
def execFlush (port : Port) (ch : BitVec 6) (s : State) : Answer :=
  let idx := (CH_LANECTL_FLUSH.pg ch.toNat).idx
  s.rowWrite port idx 1 (s.hub.newWord idx ||| 1)

/-- ENGINE_RELEASE (R211): RELEASE = 1 beside KEEP. -/
def execEngineRelease (port : Port) (eng : BitVec 2) (s : State) : Answer :=
  let idx := (engF GEY_ENG_CTL_RELEASE eng.toNat).idx
  s.rowWrite port idx 4 (s.hub.newWord idx ||| wordOf (2 ^ 17))

/-! ## Sequencer, measurement, snapshots, string -/

/-- SEQ_UP (R327). -/
def execSeqUp (port : Port) (s : State) : Answer := s.rowWrite port 0x0708 1 1

/-- SEQ_DOWN (R327). -/
def execSeqDown (port : Port) (s : State) : Answer := s.rowWrite port 0x0708 1 2

/-- ADC_HOST_REQUEST (R354): a write of ADC_HREQ. -/
def execAdcHostRequest (port : Port) (val : Word) (s : State) : Answer := s.rowWrite port ADC_HREQ_GO.idx 15 val

/-- A field calibration is asked for: INPUT, KIND and GO of CAL_FCMD; `codes` are what its sixteen conversions will bring
(R361), and where fewer are named the converter brings its own. -/
def State.calGo (s : State) (p : Port) (input kind : Nat) (codes : List Nat) : Answer :=
  if s.hub.running then
    let r := s.portWrite p CAL_FCMD_GO.idx 7 (wordOf (input + kind * 2 ^ 8 + 2 ^ 16))
    if r.2 ≠ 0 then .next r.1
    else .next (r.1.hub! fun h => h.mea! fun m => { m with fcal := m.fcal.map fun f => { f with
      codes := (List.range 16).map fun k => nth codes k (nth f.codes k 0) % 4096 } })
  else .next s

/-- CAL_GAIN (R361). -/
def execCalGain (port : Port) (input : Byte) (codes : List Nat) (s : State) : Answer := s.calGo port input.toNat 0 codes

/-- CAL_OFFSET (R361). -/
def execCalOffset (port : Port) (input : Byte) (codes : List Nat) (s : State) : Answer := s.calGo port input.toNat 1 codes

/-- CAL_RESTORE (R361). -/
def execCalRestore (port : Port) (input : Byte) (s : State) : Answer := s.calGo port input.toNat 2 []

/-- SNAP_ARM (R364): ARM = 1 beside the HOLD bits. -/
def execSnapArm (port : Port) (s : State) : Answer :=
  s.rowWrite port SNAP_CTL_ARM.idx 1 (s.hub.newWord SNAP_CTL_ARM.idx ||| 1)

/-- REENUM (R405): REENUM = 1 beside DNEN. -/
def execReenum (port : Port) (s : State) : Answer :=
  s.rowWrite port STR_CTL_REENUM.idx 1 (s.hub.newWord STR_CTL_REENUM.idx ||| 1)

/-! ## Interrupts, watchdog, clock of the calendar, keys -/

/-- IRQ_ACK (R453): a read of the target's IRQ_ACK. -/
def execIrqAck (port target : Port) (s : State) : Answer :=
  if s.hub.running then
    .next (s.portRead port (match target with | .e => IRQ_ACKE_VECTOR.idx | .w => IRQ_ACKW_VECTOR.idx)).1
  else .next s

/-- IRQ_EOI (R454): a write of the target's IRQ_EOI. -/
def execIrqEoi (port target : Port) (src : Byte) (s : State) : Answer :=
  s.rowWrite port (match target with | .e => IRQ_EOIE_SRC.idx | .w => IRQ_EOIW_SRC.idx) 15 (wordOf src.toNat)

/-- IRQ_SWSET (R457). -/
def execIrqSwset (port : Port) (val : Word) (s : State) : Answer := s.rowWrite port IRQ_SWSET_SRC.idx 15 val

/-- WDT_CHECKIN (R465). -/
def execWdtCheckin (port : Port) (be : BitVec 4) (val : Word) (s : State) : Answer :=
  s.rowWrite port WDT_CHECKIN_KEY.idx be.toNat val

/-- RTC_HALT (R481): a write of RTC_CTL. -/
def execRtcHalt (port : Port) (halt slave : Bool) (s : State) : Answer :=
  s.rowWrite port RTC_CTL_HALT.idx 1 (wordOf (boolNat halt + 2 * boolNat slave))

/-- RTC_TIME_READ (R479): a read of RTC_TIME captures date, subsecond and epoch for the port. -/
def execRtcTimeRead (port : Port) (s : State) : Answer :=
  if s.hub.running then .next (s.portRead port 0x0508).1 else .next s

/-- A write of KEY_CTL. -/
def State.keyCtl (s : State) (p : Port) (bits slot op : Nat) : Answer :=
  s.rowWrite p KEY_CTL_OP.idx 15 (wordOf (bits + slot * 2 ^ 4 + op * 2 ^ 8))

/-- KEY_PROG (R505). -/
def execKeyProg (port : Port) (slot : BitVec 2) (s : State) : Answer := s.keyCtl port 4 slot.toNat 0

/-- KEY_CHAL (R506). -/
def execKeyChal (port : Port) (slot : BitVec 2) (op : Byte) (s : State) : Answer := s.keyCtl port 1 slot.toNat op.toNat

/-- AUTH_SERVICE (R508): AUTH with OP 1. -/
def execAuthService (port : Port) (slot : BitVec 2) (s : State) : Answer := s.keyCtl port 2 slot.toNat 1

/-- AUTH_CLEAR (R508): AUTH with OP 2. -/
def execAuthClear (port : Port) (slot : BitVec 2) (s : State) : Answer := s.keyCtl port 2 slot.toNat 2

/-- ENDSESS (R510). -/
def execEndsess (port : Port) (s : State) : Answer := s.keyCtl port 8 0 0

end Sys2Proof.Machine
end

