-- ==== Sys2Proof/Machine/Dispatch.lean ====
section
/-! DEFINITION. The meaning of every command: one arm per row of the opcode table. -/

namespace Sys2Proof.Machine

/-- A command's effect on everything but the queue. -/
def exec (i : Instr) (s : State) : Host.Outcome State Fault Refusal :=
  match i with
  | .powerOnReset src => Sys2Proof.Machine.execPowerOnReset src s
  | .coldStart inp => Sys2Proof.Machine.execColdStart inp s
  | .strapSample levels => Sys2Proof.Machine.execStrapSample levels s
  | .strapUnstable => Sys2Proof.Machine.execStrapUnstable s
  | .shipExit src => Sys2Proof.Machine.execShipExit src s
  | .longPressReset => Sys2Proof.Machine.execLongPressReset s
  | .wakeDebounce level => Sys2Proof.Machine.execWakeDebounce level s
  | .phantomDetect => Sys2Proof.Machine.execPhantomDetect s
  | .phantomLoss => Sys2Proof.Machine.execPhantomLoss s
  | .phantomServiceEntry => Sys2Proof.Machine.execPhantomServiceEntry s
  | .phantomServiceExit => Sys2Proof.Machine.execPhantomServiceExit s
  | .transportChange level => Sys2Proof.Machine.execTransportChange level s
  | .frameTick inp => Sys2Proof.Machine.execFrameTick inp s
  | .phaseDeadline => Sys2Proof.Machine.execPhaseDeadline s
  | .frameStall => Sys2Proof.Machine.execFrameStall s
  | .ophIncrement => Sys2Proof.Machine.execOphIncrement s
  | .parityError site => Sys2Proof.Machine.execParityError site s
  | .registerWrite port idx be val => Sys2Proof.Machine.execRegisterWrite port idx be val s
  | .pageCommit port page => Sys2Proof.Machine.execPageCommit port page s
  | .fenceRelease port page key => Sys2Proof.Machine.execFenceRelease port page key s
  | .softReset port page => Sys2Proof.Machine.execSoftReset port page s
  | .pageEnable port page en => Sys2Proof.Machine.execPageEnable port page en s
  | .viewSelect port page view => Sys2Proof.Machine.execViewSelect port page view s
  | .pageLock port page val => Sys2Proof.Machine.execPageLock port page val s
  | .eventFlagClear port page val => Sys2Proof.Machine.execEventFlagClear port page val s
  | .profileWrite port be val => Sys2Proof.Machine.execProfileWrite port be val s
  | .modeRequest port val => Sys2Proof.Machine.execModeRequest port val s
  | .shipRequest port val => Sys2Proof.Machine.execShipRequest port val s
  | .shipEnter timedOut => Sys2Proof.Machine.execShipEnter timedOut s
  | .idleTimerExpiry => Sys2Proof.Machine.execIdleTimerExpiry s
  | .napEvaluation => Sys2Proof.Machine.execNapEvaluation s
  | .lowPowerBroadcast kind => Sys2Proof.Machine.execLowPowerBroadcast kind s
  | .napWake src => Sys2Proof.Machine.execNapWake src s
  | .napTimedWake => Sys2Proof.Machine.execNapTimedWake s
  | .standbyWake src => Sys2Proof.Machine.execStandbyWake src s
  | .standbyWakeTimer => Sys2Proof.Machine.execStandbyWakeTimer s
  | .wakeComplete => Sys2Proof.Machine.execWakeComplete s
  | .hostAccessInNap port access => Sys2Proof.Machine.execHostAccessInNap port access s
  | .clockSelect port val => Sys2Proof.Machine.execClockSelect port val s
  | .clockMonitorGate src count => Sys2Proof.Machine.execClockMonitorGate src count s
  | .pllLock lockUs => Sys2Proof.Machine.execPllLock lockUs s
  | .pllUnlock => Sys2Proof.Machine.execPllUnlock s
  | .fmStart port val => Sys2Proof.Machine.execFmStart port val s
  | .fmDone count => Sys2Proof.Machine.execFmDone count s
  | .fmTimeout count => Sys2Proof.Machine.execFmTimeout count s
  | .tick t arrival => Sys2Proof.Machine.execTick t arrival s
  | .tickMissing => Sys2Proof.Machine.execTickMissing s
  | .desync => Sys2Proof.Machine.execDesync s
  | .replayTick frm dref kappa => Sys2Proof.Machine.execReplayTick frm dref kappa s
  | .stringCutoff => Sys2Proof.Machine.execStringCutoff s
  | .cutoffClear => Sys2Proof.Machine.execCutoffClear s
  | .chForceWrite port ch val => Sys2Proof.Machine.execChForceWrite port ch val s
  | .edgeTimer ch => Sys2Proof.Machine.execEdgeTimer ch s
  | .pwmPeriodStart ch cyc => Sys2Proof.Machine.execPwmPeriodStart ch cyc s
  | .pwmOnEnd ch cyc => Sys2Proof.Machine.execPwmOnEnd ch cyc s
  | .hitEnd ch => Sys2Proof.Machine.execHitEnd ch s
  | .limitEntry ch => Sys2Proof.Machine.execLimitEntry ch s
  | .limitExit ch => Sys2Proof.Machine.execLimitExit ch s
  | .limitTrip ch meas => Sys2Proof.Machine.execLimitTrip ch meas s
  | .fastTrip ch meas => Sys2Proof.Machine.execFastTrip ch meas s
  | .ocTrip ch meas => Sys2Proof.Machine.execOcTrip ch meas s
  | .otWarn ch temp => Sys2Proof.Machine.execOtWarn ch temp s
  | .otTrip ch temp meas => Sys2Proof.Machine.execOtTrip ch temp meas s
  | .otClear ch temp => Sys2Proof.Machine.execOtClear ch temp s
  | .retryWaitEnd ch => Sys2Proof.Machine.execRetryWaitEnd ch s
  | .retryOk ch => Sys2Proof.Machine.execRetryOk ch s
  | .retryCountClear ch => Sys2Proof.Machine.execRetryCountClear ch s
  | .openLoad ch mv => Sys2Proof.Machine.execOpenLoad ch mv s
  | .openClear ch => Sys2Proof.Machine.execOpenClear ch s
  | .shortSupply ch mv => Sys2Proof.Machine.execShortSupply ch mv s
  | .reverseCurrent ch mv => Sys2Proof.Machine.execReverseCurrent ch mv s
  | .blockedExit ch => Sys2Proof.Machine.execBlockedExit ch s
  | .travelEdge a b => Sys2Proof.Machine.execTravelEdge a b s
  | .speedStale => Sys2Proof.Machine.execSpeedStale s
  | .trvFallback => Sys2Proof.Machine.execTrvFallback s
  | .starved ch => Sys2Proof.Machine.execStarved ch s
  | .zero => Sys2Proof.Machine.execZero s
  | .appendEntry port be word1 => Sys2Proof.Machine.execAppendEntry port be word1 s
  | .flush port ch => Sys2Proof.Machine.execFlush port ch s
  | .geySample eng code => Sys2Proof.Machine.execGeySample eng code s
  | .engineRelease port eng => Sys2Proof.Machine.execEngineRelease port eng s
  | .feedPresent feed => Sys2Proof.Machine.execFeedPresent feed s
  | .feedAbsent feed v => Sys2Proof.Machine.execFeedAbsent feed v s
  | .revPolarity feed v => Sys2Proof.Machine.execRevPolarity feed v s
  | .polrevClear feed => Sys2Proof.Machine.execPolrevClear feed s
  | .feedQualified feed => Sys2Proof.Machine.execFeedQualified feed s
  | .feedOn feed v => Sys2Proof.Machine.execFeedOn feed v s
  | .insTrip feed limiting vinb => Sys2Proof.Machine.execInsTrip feed limiting vinb s
  | .feedWindowExit feed => Sys2Proof.Machine.execFeedWindowExit feed s
  | .revOff feed above v => Sys2Proof.Machine.execRevOff feed above v s
  | .feedReconduct feed => Sys2Proof.Machine.execFeedReconduct feed s
  | .feedFastTrip feed peak v => Sys2Proof.Machine.execFeedFastTrip feed peak v s
  | .fuseTrip feed peak v => Sys2Proof.Machine.execFuseTrip feed peak v s
  | .feedRetry feed inWin => Sys2Proof.Machine.execFeedRetry feed inWin s
  | .overvolt feed peak => Sys2Proof.Machine.execOvervolt feed peak s
  | .feedUndervolt feed v => Sys2Proof.Machine.execFeedUndervolt feed v s
  | .feedAttemptsClear feed => Sys2Proof.Machine.execFeedAttemptsClear feed s
  | .priTakeover va => Sys2Proof.Machine.execPriTakeover va s
  | .primaryReturn => Sys2Proof.Machine.execPrimaryReturn s
  | .slewUpdate conv out vsys => Sys2Proof.Machine.execSlewUpdate conv out vsys s
  | .calDone out offs extrap => Sys2Proof.Machine.execCalDone out offs extrap s
  | .converterLimitTrip conv meas => Sys2Proof.Machine.execConverterLimitTrip conv meas s
  | .converterShortTrip conv meas => Sys2Proof.Machine.execConverterShortTrip conv meas s
  | .converterOvTrip conv meas => Sys2Proof.Machine.execConverterOvTrip conv meas s
  | .backfeed conv out => Sys2Proof.Machine.execBackfeed conv out s
  | .dropout conv vin => Sys2Proof.Machine.execDropout conv vin s
  | .converterRetry conv => Sys2Proof.Machine.execConverterRetry conv s
  | .converterAttemptsClear conv => Sys2Proof.Machine.execConverterAttemptsClear conv s
  | .ventDone conv => Sys2Proof.Machine.execVentDone conv s
  | .phaseShed shed => Sys2Proof.Machine.execPhaseShed shed s
  | .phaseOffsetMeasure phase ofs extrap => Sys2Proof.Machine.execPhaseOffsetMeasure phase ofs extrap s
  | .feedforward => Sys2Proof.Machine.execFeedforward s
  | .syncOk => Sys2Proof.Machine.execSyncOk s
  | .chgPrechargeDone vbat => Sys2Proof.Machine.execChgPrechargeDone vbat s
  | .chgCvEntry vbat => Sys2Proof.Machine.execChgCvEntry vbat s
  | .chargeDone vbat => Sys2Proof.Machine.execChargeDone vbat s
  | .rechargeCheck vbat => Sys2Proof.Machine.execRechargeCheck vbat s
  | .ntcZone temp bad => Sys2Proof.Machine.execNtcZone temp bad s
  | .chgShutdown die => Sys2Proof.Machine.execChgShutdown die s
  | .chgTimerSecond => Sys2Proof.Machine.execChgTimerSecond s
  | .batPresenceTest drop => Sys2Proof.Machine.execBatPresenceTest drop s
  | .batAbsent => Sys2Proof.Machine.execBatAbsent s
  | .nobatCheck mv => Sys2Proof.Machine.execNobatCheck mv s
  | .batLow vbat => Sys2Proof.Machine.execBatLow vbat s
  | .batCutoff vbat => Sys2Proof.Machine.execBatCutoff vbat s
  | .holdupTrigger trig vinb => Sys2Proof.Machine.execHoldupTrigger trig vinb s
  | .bypassTrip byLimit cur => Sys2Proof.Machine.execBypassTrip byLimit cur s
  | .holdmaxExpired => Sys2Proof.Machine.execHoldmaxExpired s
  | .bypassOpen => Sys2Proof.Machine.execBypassOpen s
  | .repeatReset => Sys2Proof.Machine.execRepeatReset s
  | .seqUp port => Sys2Proof.Machine.execSeqUp port s
  | .seqDown port => Sys2Proof.Machine.execSeqDown port s
  | .slotStart slot => Sys2Proof.Machine.execSlotStart slot s
  | .slotWaitTimeout slot => Sys2Proof.Machine.execSlotWaitTimeout slot s
  | .slotRiseTimeout slot => Sys2Proof.Machine.execSlotRiseTimeout slot s
  | .slotGood slot => Sys2Proof.Machine.execSlotGood slot s
  | .slotHoldoff slot => Sys2Proof.Machine.execSlotHoldoff slot s
  | .slotVented slot => Sys2Proof.Machine.execSlotVented slot s
  | .ventTimeout slot => Sys2Proof.Machine.execVentTimeout slot s
  | .supFilter sup value => Sys2Proof.Machine.execSupFilter sup value s
  | .scanEntryDone conv entry acc split => Sys2Proof.Machine.execScanEntryDone conv entry acc split s
  | .headLate => Sys2Proof.Machine.execHeadLate s
  | .adcHostRequest port val => Sys2Proof.Machine.execAdcHostRequest port val s
  | .hostConversionDone port acc => Sys2Proof.Machine.execHostConversionDone port acc s
  | .zeroRefresh ch lsOpen => Sys2Proof.Machine.execZeroRefresh ch lsOpen s
  | .zeroRefreshDone ch hs load => Sys2Proof.Machine.execZeroRefreshDone ch hs load s
  | .calGain port input codes => Sys2Proof.Machine.execCalGain port input codes s
  | .calOffset port input codes => Sys2Proof.Machine.execCalOffset port input codes s
  | .calRestore port input => Sys2Proof.Machine.execCalRestore port input s
  | .nvWriteDone ok => Sys2Proof.Machine.execNvWriteDone ok s
  | .snapArm port => Sys2Proof.Machine.execSnapArm port s
  | .snapshotLatch => Sys2Proof.Machine.execSnapshotLatch s
  | .snapshotDone => Sys2Proof.Machine.execSnapshotDone s
  | .portSignalDetect lport => Sys2Proof.Machine.execPortSignalDetect lport s
  | .portTrained lport => Sys2Proof.Machine.execPortTrained lport s
  | .portTrainTimeout lport => Sys2Proof.Machine.execPortTrainTimeout lport s
  | .linkDown lport cause => Sys2Proof.Machine.execLinkDown lport cause s
  | .neg lport word => Sys2Proof.Machine.execNeg lport word s
  | .packetDiscard lport check hdr => Sys2Proof.Machine.execPacketDiscard lport check hdr s
  | .packetForward lport pkt bad => Sys2Proof.Machine.execPacketForward lport pkt bad s
  | .pollSlotTx => Sys2Proof.Machine.execPollSlotTx s
  | .poll r => Sys2Proof.Machine.execPoll r s
  | .pollSlotEnd pos => Sys2Proof.Machine.execPollSlotEnd pos s
  | .rd hdr payload cyc => Sys2Proof.Machine.execRd hdr payload cyc s
  | .wr hdr payload cyc => Sys2Proof.Machine.execWr hdr payload cyc s
  | .tbl hdr payload cyc => Sys2Proof.Machine.execTbl hdr payload cyc s
  | .snap hdr payload => Sys2Proof.Machine.execSnap hdr payload s
  | .srd hdr payload => Sys2Proof.Machine.execSrd hdr payload s
  | .srdrPart => Sys2Proof.Machine.execSrdrPart s
  | .responseSend => Sys2Proof.Machine.execResponseSend s
  | .cred lport word => Sys2Proof.Machine.execCred lport word s
  | .creditResync byWrite port => Sys2Proof.Machine.execCreditResync byWrite port s
  | .creditTimeout cls => Sys2Proof.Machine.execCreditTimeout cls s
  | .reenum port => Sys2Proof.Machine.execReenum port s
  | .enumReset epoch => Sys2Proof.Machine.execEnumReset epoch s
  | .enumAssign pos => Sys2Proof.Machine.execEnumAssign pos s
  | .enumProbe pos => Sys2Proof.Machine.execEnumProbe pos s
  | .enumSet pos tofs epoch => Sys2Proof.Machine.execEnumSet pos tofs epoch s
  | .enumDone nHubs sver => Sys2Proof.Machine.execEnumDone nHubs sver s
  | .enumAck pos cred devId serial0 hver => Sys2Proof.Machine.execEnumAck pos cred devId serial0 hver s
  | .enumEcho pos cred rtt => Sys2Proof.Machine.execEnumEcho pos cred rtt s
  | .assignTimeout => Sys2Proof.Machine.execAssignTimeout s
  | .linkWake lport => Sys2Proof.Machine.execLinkWake lport s
  | .spiTransactionStart => Sys2Proof.Machine.execSpiTransactionStart s
  | .spiTransactionEnd mosi clocked => Sys2Proof.Machine.execSpiTransactionEnd mosi clocked s
  | .twbRead idx pecRead cyc => Sys2Proof.Machine.execTwbRead idx pecRead cyc s
  | .twbWrite cmd bytes cyc => Sys2Proof.Machine.execTwbWrite cmd bytes cyc s
  | .attn pecRead => Sys2Proof.Machine.execAttn pecRead s
  | .last pecRead => Sys2Proof.Machine.execLast pecRead s
  | .formatError cmd cause => Sys2Proof.Machine.execFormatError cmd cause s
  | .alertResponse lost => Sys2Proof.Machine.execAlertResponse lost s
  | .busTimeout mid => Sys2Proof.Machine.execBusTimeout mid s
  | .inbandPulse => Sys2Proof.Machine.execInbandPulse s
  | .collide => Sys2Proof.Machine.execCollide s
  | .busyWindowClose => Sys2Proof.Machine.execBusyWindowClose s
  | .quietEnd => Sys2Proof.Machine.execQuietEnd s
  | .attnRemind => Sys2Proof.Machine.execAttnRemind s
  | .irqAck port target => Sys2Proof.Machine.execIrqAck port target s
  | .irqEoi port target src => Sys2Proof.Machine.execIrqEoi port target src s
  | .irqSwset port val => Sys2Proof.Machine.execIrqSwset port val s
  | .wdtCheckin port be val => Sys2Proof.Machine.execWdtCheckin port be val s
  | .wdtOpen => Sys2Proof.Machine.execWdtOpen s
  | .wdtMissing => Sys2Proof.Machine.execWdtMissing s
  | .rstOutRelease => Sys2Proof.Machine.execRstOutRelease s
  | .rtcSecond => Sys2Proof.Machine.execRtcSecond s
  | .rtcHalt port halt slave => Sys2Proof.Machine.execRtcHalt port halt slave s
  | .rtcTimeRead port => Sys2Proof.Machine.execRtcTimeRead port s
  | .rtcTrim temp keepMv => Sys2Proof.Machine.execRtcTrim temp keepMv s
  | .kresStop => Sys2Proof.Machine.execKresStop s
  | .keepChangeover toKeep => Sys2Proof.Machine.execKeepChangeover toKeep s
  | .rtcDomainPowerup => Sys2Proof.Machine.execRtcDomainPowerup s
  | .slaveLost => Sys2Proof.Machine.execSlaveLost s
  | .recordCommit => Sys2Proof.Machine.execRecordCommit s
  | .logicPowerFail => Sys2Proof.Machine.execLogicPowerFail s
  | .storeUncorr slot word => Sys2Proof.Machine.execStoreUncorr slot word s
  | .keyProg port slot => Sys2Proof.Machine.execKeyProg port slot s
  | .keyChal port slot op => Sys2Proof.Machine.execKeyChal port slot op s
  | .authService port slot => Sys2Proof.Machine.execAuthService port slot s
  | .authClear port slot => Sys2Proof.Machine.execAuthClear port slot s
  | .endsess port => Sys2Proof.Machine.execEndsess port s
  | .challengeExpiry => Sys2Proof.Machine.execChallengeExpiry s
  | .sessionLapse => Sys2Proof.Machine.execSessionLapse s
  | .lockoutEnd => Sys2Proof.Machine.execLockoutEnd s
  | .recorderClear => Sys2Proof.Machine.execRecorderClear s
  | .cleared => Sys2Proof.Machine.execCleared s
  | .tickSkew => Sys2Proof.Machine.execTickSkew s
  | .feedDetect feed => Sys2Proof.Machine.execFeedDetect feed s
  | .detectDrop feed => Sys2Proof.Machine.execDetectDrop feed s
  | .vsysLow conv => Sys2Proof.Machine.execVsysLow conv s
  | .domainStop => Sys2Proof.Machine.execDomainStop s
  | .supervisorChatter start => Sys2Proof.Machine.execSupervisorChatter start s

end Sys2Proof.Machine
end

