-- ==== Sys2Proof/Safety.lean ====
section
/-! DEFINITION. What the statements speak of: the invariant of the interrupt stacks, of the SPI port and of the register
map, and frames: what of a state a command leaves as it is. -/

namespace Sys2Proof.Machine

/-! ## Invariants -/

/-- PRIO falls strictly from the bottom of a stack to its top: what pre-empts is more urgent (17 R451–R452). -/
def prioFalls : List Active → Bool
  | [] => true
  | [_] => true
  | a :: b :: l => decide (b.prio < a.prio) && prioFalls (b :: l)

/-- A target's stack: nested, and at most 8 deep (17 R451). -/
def stackOk (l : List Active) : Bool := prioFalls l && decide (l.length ≤ 8)

/-- Both stacks stand, each target has at most 8 EOIs queued, and only software sources await their setting
(17 R451–R454, R457). -/
def IrqStacks.ok (q : IrqStacks) : Bool :=
  stackOk q.stkE && stackOk q.stkW && decide (q.queued .e ≤ 8) && decide (q.queued .w ≤ 8)
    && q.swset.all fun s => decide (192 ≤ s) && decide (s < 256)

/-- Bytes stand ready on HMISO only while HCS# is low (15 R428). -/
def SpiPort.ok (x : SpiPort) : Bool := x.selected || x.out.isEmpty

/-- What every step keeps. -/
def State.Inv (s : State) : Prop := s.irq.ok = true ∧ s.spi.ok = true

/-- The register map stands in its one canonical form: indices rise, and no entry repeats its reset word. -/
def Hub.regsOk (h : Hub) : Prop := regsWf h.part h.regs = true

/-! ## Frames -/

/-- The field lies in a word. -/
abbrev Fld.fits (f : Fld) : Prop := f.lo + f.w ≤ 32

/-- Two fields share no bit. -/
abbrev Fld.apart (f g : Fld) : Prop := f.idx ≠ g.idx ∨ f.lo + f.w ≤ g.lo ∨ g.lo + g.w ≤ f.lo

/-- Bit `bit` of a page's PG_EVT (03 R89). -/
abbrev flagFld (page bit : Nat) : Fld := ⟨page * 256 + 3, bit, 1⟩

/-- The whole register of a field. -/
abbrev wholeFld (f : Fld) : Fld := ⟨f.idx, 0, 32⟩

/-- The pages whose words hold the pending bits of the interrupt sources (17 R449, R462). -/
def irqPages : List Nat := [0x20, 0x21, 0x22, 0x23]

/-- The pages on which an event leaves traces: the pending bits, and the recorder's counts (20 R494–R498). -/
def tracePages : List Nat := [0x06, 0x20, 0x21, 0x22, 0x23]

/-- The pages of the feeds, the charger and the converters, with the traces of their events. -/
def powerPages : List Nat := [0x0E, 0x0F, 0x10, 0x11, 0x12, 0x13, 0x14, 0x15] ++ tracePages

/-- What changed from one hub to the next lies in the fields `fs` and on the pages `ps`: every other field holds what it
held, no other register lost or gained a waiting write, and the record queue is as it was unless its page is named. -/
structure Hub.only (fs : List Fld) (ps : List Nat) (h h' : Hub) : Prop where
  part : h'.part = h.part
  fields : ∀ f : Fld, f.fits → (∀ g ∈ fs, g.apart f) → f.idx / 256 ∉ ps → h'.get f = h.get f
  waits : ∀ i, (∀ g ∈ fs, g.idx ≠ i) → i / 256 ∉ ps → mapFind h'.pend i = mapFind h.pend i
  recs : 6 ∉ ps → h'.rcd = h.rcd

/-- The hub without its registers, their waiting writes and its records. -/
def Hub.bare (h : Hub) : Hub := { h with regs := [], pend := [], rcd := {} }

/-! ## What the outputs of a channel can reach -/

/-- The GEY page and the traces of events: what an effect on an output reaches beside its channel's page. -/
def geyPages : List Nat := 0x17 :: tracePages

/-- Fields of a channel's page that its captures reach (07 R211–R218). -/
def geyFlds (n : Nat) : List Fld :=
  [CH_GEYSTAT_ENG.pg n, CH_GEYMEAS_RESULT.pg n, CH_GEYMEAS_DIR.pg n, CH_GEYCNT_SKIP.pg n, flagFld (chPage n) 21,
   flagFld (chPage n) 22]

/-- Fields that a change of the output reaches: CH_STAT, SWCNT, the duty in use, flag 7 SAFE_ACT, the budget's count of
cancelled ONs, and captures (05 R141–R143, R165, 10 R287). -/
def outFlds (n : Nat) : List Fld :=
  [⟨0x4014 + 256 * n, 0, 32⟩, CH_SWCNT_SW.pg n, CH_APPLIED_DUTY.pg n, flagFld (chPage n) 7, BUD_CNT2_CANCELLED] ++ geyFlds n

/-- Fields that a trip reaches besides: TRIPCNT, CH_TRIP, flags 0 TRIP, 1 LATCHED and 29 FENCE (05 R160, R164). -/
def tripFlds (n : Nat) : List Fld :=
  [CH_TRIPCNT_TRIPS.pg n, CH_TRIP_CAUSE.pg n, CH_TRIP_ATTEMPT.pg n, CH_TRIP_FRM.pg n, flagFld (chPage n) 0,
   flagFld (chPage n) 1, flagFld (chPage n) 29] ++ outFlds n

/-- Fields that an armed edge reaches beside those of the output (06 R198, R201–R202). -/
def edgeFlds (n : Nat) : List Fld :=
  [CH_SECSTAT_ENG.pg n, CH_SECSTAT_STARVED.pg n, CH_SECSTAT_ECLASS.pg n, CH_SECSTAT_LASTTAG.pg n, CH_SECCNT1_SKIPPED.pg n,
   CH_SECCNT2_EXEC.pg n, CH_LASTMARK_TAG.pg n, CH_LASTMARK_FRM.pg n, CH_PWM_DUTY.pg n, flagFld (chPage n) 13] ++ outFlds n

/-- The odometers of the fitted channels. -/
def odoFlds (h : Hub) : List Fld := h.chList.flatMap fun n => [CH_ODO_LO_ODO.pg n, CH_ODO_HI_ODO.pg n]

/-- ATTEMPTS as a trip judges it: a trip in ATTEMPT counts (05 R162, R164). -/
def Hub.tripAttempts (h : Hub) (n : Nat) : Nat :=
  if h.get (CH_STAT_STATE.pg n) = 5 then min 15 (h.get (CH_STAT_ATTEMPTS.pg n) + 1) else h.get (CH_STAT_ATTEMPTS.pg n)

/-- The channel has tripped (05 R160, R164): the output is off, CH_TRIP is loaded, TRIPCNT has counted, flag TRIP is set;
WAIT, or LATCHED with its flag and fence cause 2. -/
structure Hub.Tripped (h h' : Hub) (n cause : Nat) : Prop where
  out : h'.get (CH_STAT_OUT.pg n) = 0
  cmd : h'.get (CH_STAT_CMD.pg n) = 0
  limiting : h'.get (CH_STAT_LIMITING.pg n) = 0
  count : h'.get (CH_TRIPCNT_TRIPS.pg n) = (h.get (CH_TRIPCNT_TRIPS.pg n) + 1) % 2 ^ 32
  cause : h'.get (CH_TRIP_CAUSE.pg n) = cause
  attempt : h'.get (CH_TRIP_ATTEMPT.pg n) = h.tripAttempts n
  frame : h'.get (CH_TRIP_FRM.pg n) = h.get FRM_NO_NO % 2 ^ 16
  attempts : h'.get (CH_STAT_ATTEMPTS.pg n) = h.tripAttempts n
  flag : h'.get (flagFld (chPage n) 0) = 1
  wait : h.tripAttempts n < h.get (CH_RETRY_MAX.pg n) → h'.get (CH_STAT_STATE.pg n) = 4
  latched : h.get (CH_RETRY_MAX.pg n) ≤ h.tripAttempts n →
    h'.get (CH_STAT_STATE.pg n) = 6 ∧ h'.get (flagFld (chPage n) 1) = 1 ∧ h'.hasCause (chPage n) 2 = true

/-- The channel stands in BLOCKED (05 R159): both switches open, SSUP and its flag set. -/
structure Hub.Blocked (h' : Hub) (n : Nat) : Prop where
  state : h'.get (CH_STAT_STATE.pg n) = 7
  ssup : h'.get (CH_STAT_SSUP.pg n) = 1
  out : h'.get (CH_STAT_OUT.pg n) = 0
  cmd : h'.get (CH_STAT_CMD.pg n) = 0
  limiting : h'.get (CH_STAT_LIMITING.pg n) = 0
  flag : h'.get (flagFld (chPage n) 4) = 1

/-! ## Converters and charger -/

/-- STATE and reference words of every converter: what a converter and the rails that follow it reach. -/
def convFlds : List Fld :=
  [0, 1, 2, 3, 4].flatMap fun j => [wholeFld (cSTATE j), wholeFld (cREF j)]

/-- Converter `cur` reaches `self` through its leaders. -/
def Hub.ledBy (h : Hub) (self : Nat) : Nat → Nat → Bool
  | 0, _ => false
  | k + 1, cur =>
    if cur = 0 ∨ h.cfg (H_TRACK_MODE.pg (cur - 1)) = 0 then false
    else h.cfg (H_TRACK_LEADER.pg (cur - 1)) == self || h.ledBy self k (h.cfg (H_TRACK_LEADER.pg (cur - 1)))

/-- A converter follows itself, which the check TRACK_CYCLE of a commit refuses (09 R272). -/
def Hub.followsItself (h : Hub) (i : Nat) : Bool := h.ledBy i 5 i

/-- The reference of a rail that tracks a leader (09 R271): 0 while the leader waits, and never up while it limits. -/
def Hub.trackedRef (h : Hub) (i : Nat) : Nat :=
  let j := h.cfg (H_TRACK_LEADER.pg (i - 1))
  let r := trackRef (h.cfg (H_TRACK_MODE.pg (i - 1))) (h.goalMv i) (h.refMv j) (h.goalMv j)
  if h.convSt j ∈ [1, 2] then 0 else if h.get (cLIMIT i) = 1 ∧ h.refMv i < r then h.refMv i else r

/-- The reference of a rail that stops with its leader (09 R271). -/
def Hub.stoppedRef (h : Hub) (i : Nat) : Nat :=
  let j := h.cfg (H_TRACK_LEADER.pg (i - 1))
  let r := if h.cfg (H_TRACK_MODE.pg (i - 1)) = 1 then h.refMv j
    else trackRef 2 (h.conv i).stopGoal (h.refMv j) (h.conv j).stopGoal
  if h.convSt j = 0 then 0 else min (h.refMv i) r

/-- The state and the power stage of the charger (11 R296, R301). -/
def chgStFlds : List Fld := [CHG_STAT_STATE, CHG_STAT_BATFET]

/-- Fields of the charger's state and of its safety timer (11 R301, R307). -/
def chgFlds : List Fld := [CHG_STAT_STATE, CHG_STAT_BATFET, CHG_STAT_HALFRATE, CHG_TIMERSTAT_COUNT, CHG_HALFSEC_HALFSEC]

/-- The charging state `st`, or PAUSED where the zone forbids charging (11 R301). -/
def Hub.orPaused (h : Hub) (st : Nat) : Nat := if badZone h.zone = true then 6 else st

/-! ## Slots and inputs -/

/-- What an event of slot `k` reaches of the SEQ page: its status, the masks, the counts and its flag. -/
def slotFlds (k : Nat) : List Fld :=
  [wholeFld (SEQ_STS_STATE.nth k), wholeFld SEQ_MASK_GOOD, wholeFld SEQ_CNT_FAILS, flagFld 0x07 k]

/-- Slot `k` has failed with a code (12 R331, R333). -/
structure Hub.SlotFailed (h' : Hub) (k code : Nat) : Prop where
  state : h'.slotSt k = 5
  code : h'.get (SEQ_STS_CODE.nth k) = code
  good : h'.slotGood k = false
  flag : h'.get (flagFld 0x07 k) = 1

/-- A slot that `k` depends on has failed or was shut (12 R329). -/
abbrev Hub.depFailed (h : Hub) (k : Nat) : Prop := ∃ j, j < 16 ∧ h.dep k j = true ∧ h.slotSt j ∈ [5, 6]

/-- The field an input's value goes to, and whether it is signed (13 R349); BNTC goes by its zone (11 R303). -/
def Input.stdFld : Input → Option (Fld × Bool)
  | .hs n => some (CH_IMEAS_INST.pg n, true)
  | .volt n => some (CH_VMEAS_V.pg n, false)
  | .temp n => some (CH_TEMP_TEMP.pg n, true)
  | .ref => some (ADC_REFCHK_MV, false)
  | .head i => [(FEED_V_V, true), (FEED_V_V.pg 1, true), (FEED_I_INST, true), (FEED_I_INST.pg 1, true),
        (FEED_V_VINB, false),
      (LB_MEAS_V, false), (CHG_MEAS2_VSYS, false), (CHG_MEAS_VBAT, false), (CHG_MEAS_IBAT, true), (H_MEAS_V, false),
      (H_MEAS_V.pg 1, false), (H_MEAS_V.pg 2, false), (H_MEAS_V.pg 3, false), (ADC_TEMP_TMOD, true),
          (ADC_TEMP_TDIE, true)][i]?
  | _ => none

/-- A value as a field holds it, saturated (13 R357). -/
def Hub.holds (h : Hub) (f : Fld) (sgn : Bool) (y : Int) : Prop :=
  if sgn = true then h.geti f = clampInt (-(2 ^ (f.w - 1) : Nat)) (2 ^ (f.w - 1) - 1 : Nat) y
  else (h.get f : Int) = clampInt 0 (2 ^ f.w - 1 : Nat) y

/-- The pages an input's standard destination lies on, with the traces of THERM (13 R349–R350, 17 R458). -/
def Hub.inputPages (h : Hub) : Input → List Nat
  | .hs n => [chPage n] | .load n => [chPage n] | .volt n => [chPage n] | .temp n => [chPage n]
  | .rotV => [chPage (h.get ADC_ROT_CHV)] | .rotT => [chPage (h.get ADC_ROT_CHT)]
  | .head _ => 0x03 :: powerPages
  | .ref => []

/-! ## Frames of commands -/

/-- The queue, the SPI output and the interrupt stacks are as they were. -/
def State.sameShell (s t : State) : Prop := t.pending = s.pending ∧ t.spi = s.spi ∧ t.irq = s.irq

/-- The frame of a command: queue, SPI output and stacks are as they were, and of the registers only `fs` and the pages
`ps` have changed; the hub's own data may have changed besides. -/
def State.frame (fs : List Fld) (ps : List Nat) (s t : State) : Prop := s.sameShell t ∧ s.hub.only fs ps t.hub

/-- The frame of a command that changes nothing but registers and records: every piece of the hub's own data is as it
was too. -/
def State.regFrame (fs : List Fld) (ps : List Nat) (s t : State) : Prop :=
  s.sameShell t ∧ s.hub.only fs ps t.hub ∧ t.hub.bare = s.hub.bare

/-! ## Register writes -/

/-- A write of `v` to the field waits for the tick (03 R92). -/
def Hub.awaits (h : Hub) (f : Fld) (v : Nat) : Prop :=
  ∃ p, mapFind h.pend f.idx = some p ∧ bitsOf p.mask f.lo f.w = 2 ^ f.w - 1 ∧ bitsOf p.val f.lo f.w = v

/-- A write has been accepted and waits: it is answered OK, no register has changed, and no other register's writes have
(03 R82, R92). -/
structure State.Waits (s t : State) (f : Fld) (v : Nat) : Prop where
  answer : t.hub.acc = ⟨0, 0⟩
  waits : t.hub.awaits f v
  others : ∀ i, i ≠ f.idx → mapFind t.hub.pend i = mapFind s.hub.pend i
  regs : t.hub.regs = s.hub.regs
  records : t.hub.rcd = s.hub.rcd
  shell : s.sameShell t

/-- The hub once the tick has brought the waiting write of a register into force, its act with it (03 R92). -/
def Hub.inForce (h : Hub) (idx : Nat) : Hub :=
  match mapFind h.pend idx with
  | none => h
  | some w => h.mergeReg idx w

/-- Where a refusal is shown: on the page written, or with an absent page's number on DEV (03 R79, R84). -/
def Hub.errPage (h : Hub) (idx : Nat) : Nat := if (pageKind h.part (idx / 256)).isSome = true then idx / 256 else 0
def Hub.errOff (h : Hub) (idx : Nat) : Nat :=
  if (pageKind h.part (idx / 256)).isSome = true then idx % 256 else idx / 256 % 256

/-- A refusal is shown in PG_ERR and counts (03 R84). -/
structure Hub.ShowsErr (h h' : Hub) (idx code : Nat) : Prop where
  code : h'.get (PG_ERR_CODE.pg (h.errPage idx)) = code
  offset : h'.get (PG_ERR_OFFSET.pg (h.errPage idx)) = h.errOff idx
  count : h'.get (PG_ERR_COUNT.pg (h.errPage idx)) = min (h.get (PG_ERR_COUNT.pg (h.errPage idx)) + 1) 65535

/-- A write has been refused (03 R82, R84): the answer is its status, PG_ERR shows it, and nothing else of the block has
changed; traffic and the answer are all that the hub notes besides (04 R127). -/
structure State.Refused (s t : State) (idx code : Nat) : Prop where
  answer : t.hub.acc = ⟨code, 0⟩
  shows : s.hub.ShowsErr t.hub idx code
  only : s.hub.only [wholeFld (PG_ERR_CODE.pg (s.hub.errPage idx))] [] t.hub
  rest : t.hub.bare = { s.hub.traffic.bare with acc := ⟨code, 0⟩ }
  shell : s.sameShell t

/-! ## Watchdog -/

/-- A failure of the watchdog has been judged (18 R468–R469): the second in a row makes the SAFE action due. -/
structure Hub.WdtFailed (h h' : Hub) (code : Nat) : Prop where
  count : h'.get WDT_CNT_FAILS = min (h.get WDT_CNT_FAILS + 1) 65535
  run : h'.get WDT_STAT_FAILRUN = 1
  cause : h'.get WDT_STAT_LASTCAUSE = code
  flag : h'.get (flagFld 0x04 0) = 1
  wd : h'.wd = { h.wd with failed := true, success := false,
                           safeDue := if h.get WDT_STAT_FAILRUN = 1 then some code else h.wd.safeDue }

/-- What a failure reaches. -/
def wdtFlds : List Fld := [WDT_STAT_FAILRUN, WDT_STAT_LASTCAUSE, WDT_CNT_FAILS, flagFld 0x04 0]

end Sys2Proof.Machine

namespace Sys2Proof

/-- What the always-on domain, the straps, the control of the feeds and the clock's own domain take notice of while the
logic has no power (01 R28, R33, R36, 04 R108, R121, R130, R134, 08 R233–R243, 19 R478–R485). -/
def Instr.alwaysOn : Instr → Bool
  | .powerOnReset _ | .coldStart _ | .strapSample _ | .strapUnstable | .shipExit _ | .longPressReset | .wakeDebounce _
  | .phantomDetect | .phantomLoss | .standbyWake _ | .standbyWakeTimer | .wakeComplete | .rtcSecond | .rtcTrim _ _
  | .kresStop | .keepChangeover _ | .rtcDomainPowerup | .domainStop
  | .feedPresent _ | .feedAbsent _ _ | .revPolarity _ _ | .polrevClear _ | .feedDetect _ | .detectDrop _ | .feedQualified _
  | .feedOn _ _ | .insTrip _ _ _ | .feedFastTrip _ _ _ | .revOff _ _ _ | .feedReconduct _ | .fuseTrip _ _ _ | .feedRetry _ _
  | .overvolt _ _ | .feedUndervolt _ _ | .feedWindowExit _ | .feedAttemptsClear _ | .priTakeover _ | .primaryReturn => true
  | _ => false

end Sys2Proof
end

