-- ==== Sys2Proof/WellFormed.lean ====
section
/-! DEFINITION. Well-formed commands: operands whose ranges the spec gives and their types do not hold.  The meanings are
total all the same. -/

namespace Sys2Proof

/-- A cycle of a frame as this hub counts it (02 R47); a stretched frame may have a few more than 40,000. -/
def cycOk (cyc : Nat) : Bool := decide (cyc < 80000)

/-- A packet's payload is at most 64 words (14 R377). -/
def payloadOk (p : List Word) : Bool := decide (p.length ≤ 64)

/-- The operands that a tick brings: a charge for each of at most 64 channels, and four rail currents (05 R168, 09 R262). -/
def TickIn.wf (t : TickIn) : Bool := decide (t.chq.length ≤ 64) && t.railI.length == 4

/-- The sixteen twelve-bit codes of a field calibration, or none where the converter brings its own (13 R361). -/
def codesOk (l : List Nat) : Bool := decide (l.length ≤ 16) && l.all fun c => decide (c < 4096)

/-- The operands of a command stand in their ranges. -/
def Instr.wf : Instr → Bool
  | .coldStart inp => inp.owners.all fun p => decide (p.toNat < 0x80)
  | .frameTick t => t.wf
  | .tick t arrival => t.words.length == 12 && decide (-40000 ≤ arrival) && cycOk arrival.toNat
  | .pwmPeriodStart _ cyc => cycOk cyc
  | .pwmOnEnd _ cyc => cycOk cyc
  | .calDone _ offs _ => offs.length == 4
  | .calGain _ _ codes => codesOk codes
  | .calOffset _ _ codes => codesOk codes
  | .supFilter sup _ => decide (sup.toNat < 24)
  | .packetForward _ pkt _ => payloadOk pkt.payload
  | .poll r => r.words.length == 7
  | .rd _ p cyc => payloadOk p && cycOk cyc
  | .wr _ p cyc => payloadOk p && cycOk cyc
  | .tbl _ p cyc => payloadOk p && cycOk cyc
  | .snap _ p => payloadOk p
  | .srd _ p => payloadOk p
  | .enumDone n _ => decide (1 ≤ n.toNat) && decide (n.toNat ≤ 16)
  | .twbRead _ _ cyc => cycOk cyc
  | .twbWrite _ b cyc => decide (b.length ≤ 255) && cycOk cyc
  | .formatError _ c => decide (1 ≤ c.toNat) && decide (c.toNat ≤ 3)
  | .irqSwset _ v => decide (192 ≤ v.toNat % 256)
  | _ => true

end Sys2Proof
end

