-- ==== Sys2Proof/Certificates/Slice0/Obligations.lean ====
section
/-! DEFINITION.  The statements for the provers: what commands do to a hub of the PQH family, by the chapters of the spec.
A statement names the rules it rests on; `frame`, `regFrame`, `Waits`, `Refused` and the field lists are those of
`Sys2Proof.Safety`. -/

open Sys2Proof Sys2Proof.Machine

/-- A step takes the command at the front of the queue and runs it with the rest of the queue. -/
def Obligations.StepRunsTheFront : Prop :=
  ∀ (s : State) (c : Instr) (rest : List Instr), s.pending = c :: rest → step s = exec c { s with pending := rest }

/-- On an empty queue the block idles: the model's choice (log entry 1). -/
def Obligations.StepIdlesOnAnEmptyQueue : Prop := ∀ s : State, s.pending = [] → step s = .next s

/-- Every command answers a next state, whatever its operands and the state, and leaves the waiting commands as they
are. -/
def Obligations.EveryCommandAnswersAndKeepsTheQueue : Prop :=
  ∀ (c : Instr) (s : State), ∃ t, exec c s = .next t ∧ t.pending = s.pending

/-- While the logic has no power only the always-on domain and the control of the feeds, which runs by itself, take
notice of what happens (04 R108, R121, R130, 08 R231, 19 R480, 20 R499): every other command changes nothing. -/
def Obligations.UnpoweredLogicTakesNoNotice : Prop :=
  ∀ (c : Instr) (s : State), s.hub.running = false → c.alwaysOn = false → exec c s = .next s

/-- The machine right after reset holds the values of the register tables: READY, first frame, nothing pending,
staged, failing or fenced, both part codes, factory rails, scan lengths, and OSF set (03 R85, R104–R105, 04 R122, 09
R276, 12 R347, 13 R351, 19 R483). That it starts powered, with no record yet and its straps read as open, is the
model's choice (log entry 3). -/
def Obligations.ResetHoldsTheTables : Prop :=
  State.reset.pending = [] ∧ State.reset.irq = {} ∧ State.reset.spi = {} ∧ State.reset.hub.pend = [] ∧
  State.reset.hub.shadow = [] ∧ State.reset.hub.bad = [] ∧ (∀ p, State.reset.hub.fenced p = false) ∧
  State.reset.hub.running = true ∧ State.reset.hub.mode = mREADY ∧ State.reset.hub.word 0x0008 = 0xEC410064 ∧
  State.reset.hub.word 0x0009 = 0x03070F40 ∧ State.reset.hub.get DEV_IDLET_IDLE_T = 1000 ∧
  State.reset.hub.get CLK_SEL_PLLREF = 1 ∧ State.reset.hub.get FRM_NO_NO = 0 ∧ State.reset.hub.get RTC_STAT_OSF = 1 ∧
  State.reset.hub.word 0x1209 = 500 ∧ State.reset.hub.word 0x1309 = 330 ∧ State.reset.hub.word 0x090E = 20 ∧
  State.reset.hub.get SEQ_STAT_STATE = 1 ∧ State.reset.hub.get STR_CREDTMO_FRAMES = 100 ∧
  (∀ n, n < 64 → State.reset.hub.get (CH_STAT_STATE.pg n) = 0 ∧ State.reset.hub.get (CH_STAT_OUT.pg n) = 0 ∧
    State.reset.hub.get (PG_CTL_EN.pg (chPage n)) = 0)

/-- The state after reset meets the invariant. -/
def Obligations.ResetMeetsTheInvariant : Prop := State.reset.Inv

/-- Every step keeps the invariant: PRIO falls strictly from the bottom of each interrupt stack to its top, a stack is
at most 8 deep, at most 8 EOIs wait for a target, only software sources await their setting (17 R451–R454, R457), and
bytes stand ready on HMISO only while HCS# is low (15 R428). -/
def Obligations.StepKeepsTheInvariant : Prop :=
  ∀ s t : State, s.Inv → step s = .next t → t.Inv

/-- An absent page reads 0 with status OK and refuses writes with ABSENT, logged in the DEV page with the page number
(03 R79); an unmapped offset of a present page reads 0 with UNMAPPED and refuses writes with it (R80). -/
def Obligations.AbsentPagesAndUnmappedOffsets : Prop :=
  ∀ (s : State) (port : Port) (idx : BitVec 16) (be : BitVec 4) (val : Word) (pec : Bool) (cyc : Nat),
      s.hub.running = true →
    (pageKind s.hub.part (idx.toNat / 256) = none →
      (s.hub.read port idx.toNat).2 = (0x00, 0) ∧
      (s.hub.frm.first = false → s.hub.twbBusy = false → ∃ t, exec (.twbRead idx pec cyc) s = .next t
          ∧ t.hub.acc = ⟨0x00, 0⟩) ∧
      ∃ t, exec (.registerWrite port idx be val) s = .next t ∧ s.Refused t idx.toNat 0x01
        ∧ t.hub.get (PG_ERR_CODE.pg 0x00) = 0x01 ∧ t.hub.get (PG_ERR_OFFSET.pg 0x00) = idx.toNat / 256) ∧
    ((pageKind s.hub.part (idx.toNat / 256)).isSome = true → findReg s.hub.part idx.toNat = none →
      (s.hub.read port idx.toNat).2 = (0x02, 0) ∧
      (s.hub.frm.first = false → s.hub.twbBusy = false → ∃ t, exec (.twbRead idx pec cyc) s = .next t
          ∧ t.hub.acc = ⟨0x02, 0⟩) ∧
      ∃ t, exec (.registerWrite port idx be val) s = .next t ∧ s.Refused t idx.toNat 0x02)

/-- An appended entry is INVALID, which SEC_APPRES shows as 1, exactly where its channel is not fitted, it is a DUTY
above 1,000, or its bits 9:8 are nonzero (06 R187). -/
def Obligations.EntriesAreInvalidExactlyWhere : Prop :=
  ∀ (s : State) (port : Port) (w1 : Word), s.hub.running = true →
    ∃ t, exec (.appendEntry port 15 w1) s = .next t ∧ t.hub.acc = ⟨0, 0⟩
      ∧ (bitsOf (match port with | .e => t.hub.sec.appresE | .w => t.hub.sec.appresW) 0 4 = 1 ↔
          (s.hub.nch ≤ bitsOf w1 26 6 ∨ (bitsOf w1 24 2 = 0b10 ∧ 1000 < bitsOf w1 14 10) ∨ bitsOf w1 8 2 ≠ 0))

/-- A time-keyed head of a lane at frame n, whatever the motion (06 R196): from its target, its lead and n × 100 it
waits, is armed at a cycle of frame n + 1, or is late, which LATE counts; by LATEPOL a late one is armed at cycle 0 or
dropped. -/
def Obligations.TimeKeyedHeadsWaitArmOrAreLate : Prop :=
  ∀ (h : Hub) (ch n : Nat) (e : Entry) (moving : Bool) (r : Int), ch < h.nch → e.key = 1 → e.bad = false →
    (h.ch ch).lane = [e] → r = signed 32 (wrapTo 32 ((e.target : Int) - h.entryLead ch e - (n * 100 : Nat))) →
    (200 ≤ r → h.evalHead ch n moving = (h, 0)) ∧
    (100 ≤ r → r < 200 →
      (h.evalHead ch n moving).2 = 1 ∧ ((h.evalHead ch n moving).1.ch ch).lane = [] ∧
      ∃ a ∈ ((h.evalHead ch n moving).1.ch ch).armed, a.frm = (n + 1) % 2 ^ 32 ∧ (a.cyc : Int) = (r - 100) * 400
        ∧ a.kind = e.kind ∧ a.tag = e.tag ∧ a.late = false) ∧
    (r < 100 →
      (h.evalHead ch n moving).2 = 1 ∧ ((h.evalHead ch n moving).1.ch ch).lane = []
      ∧ (h.evalHead ch n moving).1.get (CH_SECCNT0_LATE.pg ch) = min (h.get (CH_SECCNT0_LATE.pg ch) + 1) 65535
      ∧ (h.get (CH_LANECTL_LATEPOL.pg ch) = 1 → ((h.evalHead ch n moving).1.ch ch).armed = (h.ch ch).armed)
      ∧ (h.get (CH_LANECTL_LATEPOL.pg ch) = 0 →
          ∃ a ∈ ((h.evalHead ch n moving).1.ch ch).armed, a.frm = (n + 1) % 2 ^ 32 ∧ a.cyc = 0 ∧ a.kind = e.kind
            ∧ a.tag = e.tag ∧ a.late = true))

/-- A NEG takes a negotiating port to MISWIRE exactly where its role does not belong to that port: HOST and UPSTREAM
(0, 1) belong to UP, DOWNSTREAM (2) to DN (14 R399). -/
def Obligations.NegRolesMustMatchThePort : Prop :=
  ∀ (s : State) (p : LinkPort) (w : Word), s.hub.running = true → s.hub.portSt p = 2 →
    ∃ t, exec (.neg p w) s = .next t
      ∧ (t.hub.portSt p = 4 ↔ ¬ (p = .up ∧ (bitsOf w 8 2 = 0 ∨ bitsOf w 8 2 = 1) ∨ p = .dn ∧ bitsOf w 8 2 = 2))

/-- The address of the two-wire port after a cold start is that of the sampled straps (01 R37); TWB_LAST shows status,
offset and page of the last WRITE that executed and counts executed ones modulo 256, and a discarded one leaves it (16
R436). -/
def Obligations.TwoWireAddressAndLast : Prop :=
  ∀ (s : State) (cmd : Byte) (b : List Byte) (cyc : Nat),
    (∀ (inp : ColdIn) (v : BitVec 4), s.hub.md.power = .booting →
      v = s.hub.md.straps.value ||| ~~~ s.hub.md.straps.accepted →
      ∃ t, exec (.coldStart inp) s = .next t
        ∧ t.hub.twbAddr = 2 * (0x30 + ((v.getLsbD 2).toNat * 4 + (v.getLsbD 1).toNat * 2 + (v.getLsbD 0).toNat))) ∧
    (s.hub.running = true → s.hub.frm.first = false → s.hub.twbBusy = false → 0x31 ≤ cmd.toNat → cmd.toNat ≤ 0x3F →
        b.length = 6 →
      s.hub.cfgSafe TWB_CTL_PEC_EN = 0 →
      ∃ t, exec (.twbWrite cmd b cyc) s = .next t
        ∧ bitsOf (t.hub.word TWB_LAST_LAST.idx) 0 8 = t.hub.acc.status
        ∧ bitsOf (t.hub.word TWB_LAST_LAST.idx) 8 8 = (nth b 0 0).toNat
        ∧ bitsOf (t.hub.word TWB_LAST_LAST.idx) 16 8 = (nth b 1 0).toNat
        ∧ bitsOf (t.hub.word TWB_LAST_LAST.idx) 24 8 = (bitsOf (s.hub.word TWB_LAST_LAST.idx) 24 8 + 1) % 256) ∧
    (s.hub.running = true →
      (s.hub.twbBusy = true ∧ s.hub.windowOver = false ∨ s.hub.twbBusy = false ∧
        (b.length < 6 ∨ (7 ≤ b.length ∧
          (nth b 6 0).toNat ≠ crc8 (s.hub.twbAddr :: cmd.toNat :: (b.take 6).map (·.toNat))))) →
      ∃ t, exec (.twbWrite cmd b cyc) s = .next t ∧ t.hub.word TWB_LAST_LAST.idx = s.hub.word TWB_LAST_LAST.idx)

/-- A read of RTC_TIME captures RTC_DATE, RTC_SUBSEC and RTC_EPOCH for its port; in that frame its reads of them show
the captured values, and after it the live ones (19 R479). -/
def Obligations.RtcTimeReadCaptures : Prop :=
  ∀ (s : State) (port : Port), s.hub.running = true → s.hub.viewOf port = false →
    (∀ b ∈ s.hub.bad, b.idx / 256 ≠ 0x05) →
    (∃ t, exec (.rtcTimeRead port) s = .next t ∧ t.hub.acc.status = 0
      ∧ (t.hub.read port 0x0509).2 = (0, s.hub.word 0x0509)
      ∧ (t.hub.read port 0x050A).2 = (0, BitVec.ofNat 32 s.hub.subsec)
      ∧ (t.hub.read port 0x050B).2 = (0, s.hub.word 0x050B)) ∧
    (∀ c, s.hub.rtcCap port = some c →
      (s.hub.read port 0x0509).2 = (0, c.date) ∧ (s.hub.read port 0x050A).2 = (0, c.sub)
      ∧ (s.hub.read port 0x050B).2 = (0, c.epoch)) ∧
    ((∀ c, (match port with | .e => s.hub.rtc.capE | .w => s.hub.rtc.capW) = some c → c.frm ≠ s.hub.frmNo) →
      mapFind s.hub.pend 0x0509 = none → mapFind s.hub.pend 0x050B = none →
      (s.hub.read port 0x0509).2 = (0, s.hub.word 0x0509)
      ∧ (s.hub.read port 0x050A).2 = (0, BitVec.ofNat 32 s.hub.subsec)
      ∧ (s.hub.read port 0x050B).2 = (0, s.hub.word 0x050B))

/-- LIMIT_ENTRY of an output that is on leaves ON for LIMIT (an attempt stays an attempt) with flag 6, and the limit
timer starts with the high side on; LIMIT_EXIT of an output that is on goes back (05 R154, R165). But in DISABLED,
where no monitor runs (R165), OT_WARN at 150 °C sets flag 5 once and disarms it, OT_CLEAR below 140 °C clears OT and
arms it again (R157). -/
def Obligations.LimitAndTemperatureWarnings : Prop :=
  ∀ (s : State) (ch : BitVec 6) (temp : BitVec 10), s.hub.running = true → ch.toNat < s.hub.nch →
    (s.hub.get (CH_STAT_STATE.pg ch.toNat) ∈ [2, 5] → s.hub.get (CH_STAT_LIMITING.pg ch.toNat) = 0 →
      s.hub.get (CH_STAT_OUT.pg ch.toNat) = 1 →
      ∃ t, exec (.limitEntry ch) s = .next t ∧ t.hub.get (CH_STAT_LIMITING.pg ch.toNat) = 1
        ∧ t.hub.get (CH_STAT_STATE.pg ch.toNat) = (if s.hub.get (CH_STAT_STATE.pg ch.toNat) = 2 then 3 else 5)
        ∧ t.hub.get (flagFld (chPage ch.toNat) 6) = 1
        ∧ (t.hub.ch ch.toNat).limRan (s.hub.eng s.hub.cyc) = 0
        ∧ s.frame ([CH_STAT_LIMITING.pg ch.toNat, CH_STAT_STATE.pg ch.toNat, flagFld (chPage ch.toNat) 6]
            ++ geyFlds ch.toNat)
            geyPages t) ∧
    (s.hub.get (CH_STAT_STATE.pg ch.toNat) ∈ [2, 3, 5] → s.hub.get (CH_STAT_LIMITING.pg ch.toNat) = 1 →
      s.hub.get (CH_STAT_OUT.pg ch.toNat) = 1 →
      ∃ t, exec (.limitExit ch) s = .next t ∧ t.hub.get (CH_STAT_LIMITING.pg ch.toNat) = 0
        ∧ t.hub.get (CH_STAT_STATE.pg ch.toNat) =
            (if s.hub.get (CH_STAT_STATE.pg ch.toNat) = 3 then 2 else s.hub.get (CH_STAT_STATE.pg ch.toNat))
        ∧ s.frame [CH_STAT_LIMITING.pg ch.toNat, CH_STAT_STATE.pg ch.toNat] [] t) ∧
    (s.hub.get (CH_STAT_STATE.pg ch.toNat) ≠ 0 → 300 ≤ temp.toInt → (s.hub.ch ch.toNat).otArmed = true →
      ∃ t, exec (.otWarn ch temp) s = .next t ∧ t.hub.geti (CH_TEMP_TEMP.pg ch.toNat) = temp.toInt
        ∧ t.hub.get (flagFld (chPage ch.toNat) 5) = 1
        ∧ t.hub.ch ch.toNat = { s.hub.ch ch.toNat with otArmed := false }
        ∧ s.frame [CH_TEMP_TEMP.pg ch.toNat, flagFld (chPage ch.toNat) 5] irqPages t) ∧
    (s.hub.get (CH_STAT_STATE.pg ch.toNat) ≠ 0 → temp.toInt < 280 →
      ∃ t, exec (.otClear ch temp) s = .next t ∧ t.hub.geti (CH_TEMP_TEMP.pg ch.toNat) = temp.toInt
        ∧ t.hub.get (CH_STAT_OT.pg ch.toNat) = 0
        ∧ t.hub.ch ch.toNat = { s.hub.ch ch.toNat with otArmed := true }
        ∧ s.frame [CH_TEMP_TEMP.pg ch.toNat, CH_STAT_OT.pg ch.toNat] [] t)

/-- OPEN_LOAD in OFF with the test on and the contact above 3.0 V for 10 ms sets OPEN and flag 3, OPEN_CLEAR clears
OPEN after 10 ms (05 R158, R165); HIT_END ends a hit that has run THIT, the output staying on in hold (R152); an
attempt that has run TLIM, with no limit trip due, succeeds: ON, flag 2, none pending (R162); 100,000 quiet frames
clear ATTEMPTS and RETRY_PEND (R163). -/
def Obligations.LoadMonitorsAndRetryCounts : Prop :=
  ∀ (s : State) (ch : BitVec 6) (mv : BitVec 16), s.hub.running = true → ch.toNat < s.hub.nch →
    (s.hub.get (CH_STAT_STATE.pg ch.toNat) = 1 → s.hub.get (CH_CTL_OLT.pg ch.toNat) = 1 →
        s.hub.get (CH_STAT_OPEN.pg ch.toNat) = 0 →
      100 ≤ (s.hub.ch ch.toNat).stRun → 3000 < mv.toNat →
      ∃ t, exec (.openLoad ch mv) s = .next t ∧ t.hub.get (CH_STAT_OPEN.pg ch.toNat) = 1
        ∧ t.hub.get (flagFld (chPage ch.toNat) 3) = 1
        ∧ t.hub.ch ch.toNat = { s.hub.ch ch.toNat with openRun := 0 }
        ∧ s.frame [CH_STAT_OPEN.pg ch.toNat, flagFld (chPage ch.toNat) 3] tracePages t) ∧
    (s.hub.get (CH_STAT_OPEN.pg ch.toNat) = 1 → s.hub.get (CH_STAT_STATE.pg ch.toNat) ≠ 0 →
        100 ≤ (s.hub.ch ch.toNat).openRun →
      ∃ t, exec (.openClear ch) s = .next t ∧ t.hub.get (CH_STAT_OPEN.pg ch.toNat) = 0
        ∧ s.regFrame [CH_STAT_OPEN.pg ch.toNat] [] t) ∧
    ((s.hub.ch ch.toNat).hit = true → s.hub.get (CH_STAT_OUT.pg ch.toNat) = 1 →
      (s.hub.ch ch.toNat).hitStart + (s.hub.get (CH_HIT_THIT.pg ch.toNat) * 4000 : Nat)
        ≤ ((s.hub.get FRM_NO_NO * 40000 + 39999 : Nat) : Int) →
      ∃ t, exec (.hitEnd ch) s = .next t ∧ (t.hub.ch ch.toNat).hit = false
        ∧ t.hub.get (CH_STAT_OUT.pg ch.toNat) = 1 ∧ s.frame (geyFlds ch.toNat) geyPages t) ∧
    (s.hub.get (CH_STAT_STATE.pg ch.toNat) = 5 →
      s.hub.get (CH_LIM_TLIM.pg ch.toNat) ≤ (s.hub.ch ch.toNat).stRun →
      (s.hub.get (CH_STAT_LIMITING.pg ch.toNat) = 1 → (s.hub.ch ch.toNat).limRan (s.hub.eng s.hub.cyc)
        ≤ s.hub.get (CH_LIM_TLIM.pg ch.toNat) * 40000 + 400) →
      ∃ t, exec (.retryOk ch) s = .next t ∧ t.hub.get (CH_STAT_STATE.pg ch.toNat) = 2
        ∧ t.hub.get (CH_STAT_RETRY_PEND.pg ch.toNat) = 0 ∧ t.hub.get (flagFld (chPage ch.toNat) 2) = 1
        ∧ s.frame [CH_STAT_STATE.pg ch.toNat, CH_STAT_RETRY_PEND.pg ch.toNat, flagFld (chPage ch.toNat) 2] tracePages t) ∧
    (100000 ≤ (s.hub.ch ch.toNat).quiet →
      ∃ t, exec (.retryCountClear ch) s = .next t ∧ t.hub.get (CH_STAT_ATTEMPTS.pg ch.toNat) = 0
        ∧ t.hub.get (CH_STAT_RETRY_PEND.pg ch.toNat) = 0
        ∧ s.regFrame [CH_STAT_ATTEMPTS.pg ch.toNat, CH_STAT_RETRY_PEND.pg ch.toNat] [] t)

/-- FAST_TRIP above 2 × ILIM, LIMIT_TRIP once the limit timer can have reached TLIM, OC_TRIP and OT_TRIP trip a driven
output with their cause, FAST where a peak above 2 × ILIM comes with the LIMIT_TRIP (R155): it is off, CH_TRIP is
loaded, TRIPCNT counts, and the channel waits or latches (05 R154–R157, R160, R164); at 170 °C any other state but
DISABLED takes OT alone (R157). -/
def Obligations.TripsWaitOrLatch : Prop :=
  ∀ (s : State) (ch : BitVec 6) (temp : BitVec 10) (m : TripMeas), s.hub.running = true → ch.toNat < s.hub.nch →
    (s.hub.get (CH_STAT_STATE.pg ch.toNat) ∈ [2, 3, 5] →
      (s.hub.get (CH_LIM_ILIM.pg ch.toNat) * 20 < m.peak.toNat →
        ∃ t, exec (.fastTrip ch m) s = .next t ∧ s.hub.Tripped t.hub ch.toNat 1
          ∧ s.frame (tripFlds ch.toNat) (0x09 :: geyPages) t) ∧
      (s.hub.get (CH_STAT_LIMITING.pg ch.toNat) = 1 →
        s.hub.get (CH_LIM_TLIM.pg ch.toNat) * 40000 ≤ (s.hub.ch ch.toNat).limRan (s.hub.eng 39999) + 400 →
        ∃ t, exec (.limitTrip ch m) s = .next t
          ∧ s.hub.Tripped t.hub ch.toNat (if s.hub.get (CH_LIM_ILIM.pg ch.toNat) * 20 < m.peak.toNat then 1 else 2)
          ∧ s.frame (tripFlds ch.toNat) (0x09 :: geyPages) t) ∧
      (s.hub.get (CH_OCL_I2T.pg ch.toNat) * 100000 ≤ (s.hub.ch ch.toNat).i2t →
        ∃ t, exec (.ocTrip ch m) s = .next t ∧ s.hub.Tripped t.hub ch.toNat 3 ∧ (t.hub.ch ch.toNat).i2t = 0
          ∧ t.hub.get (CH_TEMP_I2T.pg ch.toNat) = 0
          ∧ s.frame (CH_TEMP_I2T.pg ch.toNat :: tripFlds ch.toNat) (0x09 :: geyPages) t) ∧
      (340 ≤ temp.toInt →
        ∃ t, exec (.otTrip ch temp m) s = .next t ∧ s.hub.Tripped t.hub ch.toNat 4
          ∧ t.hub.get (CH_STAT_OT.pg ch.toNat) = 1 ∧ t.hub.geti (CH_TEMP_TEMP.pg ch.toNat) = temp.toInt
          ∧ s.frame (CH_TEMP_TEMP.pg ch.toNat :: tripFlds ch.toNat) (0x09 :: geyPages) t)) ∧
    (s.hub.get (CH_STAT_STATE.pg ch.toNat) ∈ [1, 4, 6, 7] → 340 ≤ temp.toInt →
      ∃ t, exec (.otTrip ch temp m) s = .next t ∧ t.hub.get (CH_STAT_OT.pg ch.toNat) = 1
        ∧ t.hub.geti (CH_TEMP_TEMP.pg ch.toNat) = temp.toInt
        ∧ s.regFrame [CH_TEMP_TEMP.pg ch.toNat, CH_STAT_OT.pg ch.toNat] [] t)

/-- SHORT_SUPPLY, above 6.0 V for 10 ms of OFF, and REVERSE_CURRENT with the high side on block the channel, both
switches open (05 R159); BLOCKED_EXIT after 100 ms clears SSUP and goes to OFF, where without a supply of LB the
output stays off (R159, R165).  When the wait is served and no OT stands, RETRY_WAIT_END begins the attempt if the
command is on, and else goes to OFF with RETRY_PEND (05 R161–R162, R165). -/
def Obligations.BlockedAndWaitingChannelsReturn : Prop :=
  (∀ (s : State) (ch : BitVec 6) (mv : BitVec 16), s.hub.running = true → ch.toNat < s.hub.nch →
     (s.hub.get (CH_STAT_STATE.pg ch.toNat) = 1 → 100 ≤ (s.hub.ch ch.toNat).stRun → 6000 < mv.toNat →
       ∃ t, exec (.shortSupply ch mv) s = .next t ∧ t.hub.Blocked ch.toNat
         ∧ s.frame (flagFld (chPage ch.toNat) 4 :: outFlds ch.toNat) geyPages t) ∧
     (s.hub.get (CH_STAT_STATE.pg ch.toNat) ∈ [2, 3, 5] → s.hub.get (CH_STAT_OUT.pg ch.toNat) = 1 →
       ∃ t, exec (.reverseCurrent ch mv) s = .next t ∧ t.hub.Blocked ch.toNat
         ∧ s.frame (flagFld (chPage ch.toNat) 4 :: outFlds ch.toNat) geyPages t) ∧
     (s.hub.get (CH_STAT_STATE.pg ch.toNat) = 7 → 1000 ≤ (s.hub.ch ch.toNat).stRun →
       ∃ t, exec (.blockedExit ch) s = .next t ∧ t.hub.get (CH_STAT_SSUP.pg ch.toNat) = 0
         ∧ t.hub.get (CH_STAT_STATE.pg ch.toNat) ∈ [1, 2, 5]
         ∧ (s.hub.lbSupplies = false → t.hub.get (CH_STAT_STATE.pg ch.toNat) = 1 ∧ t.hub.get (CH_STAT_CMD.pg ch.toNat) = 0)
         ∧ s.frame (outFlds ch.toNat) geyPages t)) ∧
  (∀ (s : State) (ch : BitVec 6), s.hub.running = true → ch.toNat < s.hub.nch → s.hub.get (CH_STAT_STATE.pg ch.toNat) = 4 →
     max (s.hub.get (CH_RETRY_WAIT.pg ch.toNat) * 10) (19 * s.hub.get (CH_LIM_TLIM.pg ch.toNat)) ≤ (s.hub.ch ch.toNat).stRun →
     s.hub.get (CH_STAT_OT.pg ch.toNat) = 0 →
     (∃ t, exec (.retryWaitEnd ch) s = .next t ∧ t.hub.get (CH_STAT_RETRY_PEND.pg ch.toNat) = 1
       ∧ t.hub.get (CH_STAT_STATE.pg ch.toNat) ∈ [1, 5] ∧ s.frame (outFlds ch.toNat) geyPages t) ∧
     (s.hub.lbSupplies = false →
       ∃ t, exec (.retryWaitEnd ch) s = .next t ∧ t.hub.get (CH_STAT_STATE.pg ch.toNat) = 1
         ∧ t.hub.get (CH_STAT_CMD.pg ch.toNat) = 0) ∧
     (s.hub.lbSupplies = true → s.hub.safeCond ch.toNat = false → s.hub.mode = mFIELD →
       s.hub.get (CH_FORCE_FORCE.pg ch.toNat) = 1 → s.hub.get (CH_MODE_MODE.pg ch.toNat) ≠ 0 → s.hub.effClass ch.toNat = 0 →
       (s.hub.ch ch.toNat).tickDefer = none → (∀ d ∈ s.hub.bud.deferred, d.ch ≠ ch.toNat) →
       ∃ t, exec (.retryWaitEnd ch) s = .next t ∧ t.hub.get (CH_STAT_STATE.pg ch.toNat) = 5
         ∧ t.hub.get (CH_SWCNT_SW.pg ch.toNat) = (s.hub.get (CH_SWCNT_SW.pg ch.toNat) + 1) % 2 ^ 32
         ∧ t.hub.get (CH_STAT_CMD.pg ch.toNat) = 1))

/-- A period of the grid of a PWM or capped channel starts (05 R146, R148, R150, R153): the duty that waited, or that
in use, runs; on_cyc below 4 µs has no pulse, else the output is on until on_cyc, or the whole period where the off-
phase would be shorter than 4 µs; PWM_ON_END turns it off. In a new count of FRM_NO the first start is at the phase
(R146). -/
def Obligations.PwmPeriodsFollowTheGrid : Prop :=
  ∀ (s : State) (ch : BitVec 6) (cyc : Nat), s.hub.running = true → ch.toNat < s.hub.nch →
    s.hub.get (CH_STAT_STATE.pg ch.toNat) ∈ [2, 3, 5] → s.hub.onGrid ch.toNat = true →
    (s.hub.chPhaseCyc ch.toNat ≤ s.hub.get FRM_NO_NO * 40000 + cyc →
      intoPeriod (400000000 / s.hub.grpFreq ch.toNat) (s.hub.chPhaseCyc ch.toNat) (s.hub.get FRM_NO_NO * 40000 + cyc) = 0 →
      ∃ t, exec (.pwmPeriodStart ch cyc) s = .next t
        ∧ t.hub.get (CH_APPLIED_DUTY.pg ch.toNat) = s.hub.periodDuty ch.toNat % 1024
        ∧ (t.hub.ch ch.toNat).nextDuty = none
        ∧ (400000000 / s.hub.grpFreq ch.toNat * s.hub.periodDuty ch.toNat / 1000 < 1600 →
            t.hub.get (CH_STAT_OUT.pg ch.toNat) = 0)
        ∧ (1600 ≤ 400000000 / s.hub.grpFreq ch.toNat * s.hub.periodDuty ch.toNat / 1000 →
            t.hub.get (CH_STAT_OUT.pg ch.toNat) = 1
            ∧ (t.hub.ch ch.toNat).onEnd = s.hub.get FRM_NO_NO * 40000 + cyc +
                (if 400000000 / s.hub.grpFreq ch.toNat - 400000000 / s.hub.grpFreq ch.toNat * s.hub.periodDuty ch.toNat / 1000 < 1600
                  then 400000000 / s.hub.grpFreq ch.toNat
                  else 400000000 / s.hub.grpFreq ch.toNat * s.hub.periodDuty ch.toNat / 1000))
        ∧ s.frame (outFlds ch.toNat) geyPages t) ∧
    (s.hub.get (CH_STAT_OUT.pg ch.toNat) = 1 → (s.hub.ch ch.toNat).onPhase = true →
      (s.hub.ch ch.toNat).onEnd ≤ s.hub.get FRM_NO_NO * 40000 + cyc →
      (s.hub.periodStartDue ch.toNat cyc = false
        ∨ 400000000 / s.hub.grpFreq ch.toNat * s.hub.periodDuty ch.toNat / 1000 < 1600) →
      ∃ t, exec (.pwmOnEnd ch cyc) s = .next t ∧ t.hub.get (CH_STAT_OUT.pg ch.toNat) = 0
        ∧ s.frame (CH_STAT_OUT.pg ch.toNat :: geyFlds ch.toNat) geyPages t)

/-- The one edge armed for a due instant acts (06 R198, R201–R202): in FIELD, the held FIELD of a hold-up among it, ON
and OFF set the engine state, DUTY writes CH_PWM.DUTY, each counts in EXEC and leaves its TAG; MARK loads CH_LASTMARK;
in READY, TRANSPORT and SERVICE an edge is consumed and counted in SKIPPED.  STARVED in FIELD once the travel without
an entry reaches CH_STARVE: the flag, and with EMPTYACT = OFF an OFF armed at cycle 0 of the next frame (06 R200). -/
def Obligations.ArmedEdgesAndStarvation : Prop :=
  (∀ (s : State) (ch : BitVec 6) (a : Armed), s.hub.running = true → ch.toNat < s.hub.nch → (s.hub.ch ch.toNat).armed = [a] →
     diff32 a.frm (s.hub.get FRM_NO_NO) ≤ 0 → s.hub.en 0x16 = true → s.hub.fenced 0x16 = false →
     (s.hub.ruleMode = mFIELD → a.kind = .on →
       ∃ t, exec (.edgeTimer ch) s = .next t ∧ t.hub.get (CH_SECSTAT_ENG.pg ch.toNat) = 1
         ∧ t.hub.get (CH_SECSTAT_ECLASS.pg ch.toNat) = a.cls % 4 ∧ t.hub.get (CH_SECSTAT_LASTTAG.pg ch.toNat) = a.tag % 256
         ∧ t.hub.get (CH_SECCNT2_EXEC.pg ch.toNat) = (s.hub.get (CH_SECCNT2_EXEC.pg ch.toNat) + 1) % 2 ^ 32
         ∧ s.frame (edgeFlds ch.toNat) geyPages t) ∧
     (s.hub.ruleMode = mFIELD → a.kind = .off →
       ∃ t, exec (.edgeTimer ch) s = .next t ∧ t.hub.get (CH_SECSTAT_ENG.pg ch.toNat) = 0
         ∧ t.hub.get (CH_SECSTAT_STARVED.pg ch.toNat) = 0 ∧ t.hub.get (CH_SECSTAT_LASTTAG.pg ch.toNat) = a.tag % 256
         ∧ t.hub.get (CH_SECCNT2_EXEC.pg ch.toNat) = (s.hub.get (CH_SECCNT2_EXEC.pg ch.toNat) + 1) % 2 ^ 32
         ∧ s.frame (edgeFlds ch.toNat) geyPages t) ∧
     (∀ d, s.hub.ruleMode = mFIELD → a.kind = .duty d →
       ∃ t, exec (.edgeTimer ch) s = .next t ∧ t.hub.get (CH_PWM_DUTY.pg ch.toNat) = d % 1024
         ∧ t.hub.get (CH_SECSTAT_ENG.pg ch.toNat) = s.hub.get (CH_SECSTAT_ENG.pg ch.toNat)
         ∧ s.frame (edgeFlds ch.toNat) geyPages t) ∧
     (a.kind = .mark →
       ∃ t, exec (.edgeTimer ch) s = .next t ∧ t.hub.get (CH_LASTMARK_TAG.pg ch.toNat) = a.tag % 256
         ∧ t.hub.get (CH_LASTMARK_FRM.pg ch.toNat) = s.hub.get FRM_NO_NO % 2 ^ 16
         ∧ t.hub.get (flagFld (chPage ch.toNat) 13) = 1
         ∧ t.hub.get (CH_SECSTAT_ENG.pg ch.toNat) = s.hub.get (CH_SECSTAT_ENG.pg ch.toNat)
         ∧ s.frame (edgeFlds ch.toNat) geyPages t) ∧
     (s.hub.ruleMode ∈ [mREADY, mTRANSPORT, mSERVICE] → a.kind ∈ [.on, .off] →
       ∃ t, exec (.edgeTimer ch) s = .next t
           ∧ t.hub.get (CH_SECSTAT_ENG.pg ch.toNat) = s.hub.get (CH_SECSTAT_ENG.pg ch.toNat)
         ∧ t.hub.get (CH_SECCNT1_SKIPPED.pg ch.toNat) = min (s.hub.get (CH_SECCNT1_SKIPPED.pg ch.toNat) + 1) 65535
         ∧ s.frame (edgeFlds ch.toNat) geyPages t)) ∧
  (∀ (s : State) (ch : BitVec 6), s.hub.running = true → ch.toNat < s.hub.nch →
     s.hub.get (CH_STARVE_TU.pg ch.toNat) ≠ 0 → s.hub.get (CH_STARVE_TU.pg ch.toNat) * 65536 ≤ (s.hub.ch ch.toNat).starve →
     s.hub.get (CH_SECSTAT_STARVED.pg ch.toNat) = 0 → s.hub.ruleMode = mFIELD →
     ∃ t, exec (.starved ch) s = .next t ∧ t.hub.get (CH_SECSTAT_STARVED.pg ch.toNat) = 1
       ∧ t.hub.get (flagFld (chPage ch.toNat) 12) = 1
       ∧ (s.hub.get (CH_LANECTL_EMPTYACT.pg ch.toNat) = 0 → t.hub.ch ch.toNat = s.hub.ch ch.toNat)
       ∧ (s.hub.get (CH_LANECTL_EMPTYACT.pg ch.toNat) = 1 →
           ∃ a ∈ (t.hub.ch ch.toNat).armed, a.frm = (s.hub.get FRM_NO_NO + 1) % 2 ^ 32 ∧ a.cyc = 0 ∧ a.kind = .starve)
       ∧ s.frame [CH_SECSTAT_STARVED.pg ch.toNat, flagFld (chPage ch.toNat) 12] tracePages t)

/-- An accepted edge of the travel inputs (06 R177): in quadrature each edge counts one up or down, and both inputs
changing at once count nothing but QERR; with pulse and direction a rising TRV_A counts up while TRV_B is low and down
while it is high; DIRINV negates. A follower measures no travel, and in NAP none is measured (R176–R177).  SPEED_STALE
once the speed in use is as old as SEC_SPDTMO (06 R178); on the lead HYBRID turns to speed after 500 frames without a
count, and back with the first count, its remainder gone (R176, R178). -/
def Obligations.TravelIsCountedOrTakenFromSpeed : Prop :=
  (∀ (s : State) (a b : Bool), s.hub.running = true →
     (s.hub.leads = true → s.hub.mode ≠ mNAP → s.hub.get SEC_TRVSRC_DECODE = 1 →
       ∃ (t : State) (v : Int), exec (.travelEdge a b) s = .next t
         ∧ v = (if a = true ∧ s.hub.sec.trvA = false then
                 (if s.hub.get SEC_TRVSRC_DIRINV = 1 then -1 else 1) * (if b = true then -1 else 1) else 0)
         ∧ t.hub.sec = { s.hub.sec with trvA := a, trvB := b, count := s.hub.sec.count + v }
         ∧ (t.hub.get SEC_PULSES_COUNT : Int) = ((s.hub.get SEC_PULSES_COUNT : Int) + v) % 2 ^ 32
         ∧ s.frame [SEC_PULSES_COUNT] [] t) ∧
     (s.hub.leads = true → s.hub.mode ≠ mNAP → s.hub.get SEC_TRVSRC_DECODE = 0 → a ≠ s.hub.sec.trvA → b ≠ s.hub.sec.trvB →
       ∃ t, exec (.travelEdge a b) s = .next t ∧ t.hub.get SEC_CNT_QERR = min (s.hub.get SEC_CNT_QERR + 1) 65535
         ∧ t.hub.sec = { s.hub.sec with trvA := a, trvB := b } ∧ t.hub.get (flagFld 0x16 7) = 1
         ∧ s.frame [SEC_CNT_QERR, flagFld 0x16 7] irqPages t) ∧
     (s.hub.leads = true → s.hub.mode ≠ mNAP → s.hub.get SEC_TRVSRC_DECODE = 0 → (a = s.hub.sec.trvA ∨ b = s.hub.sec.trvB) →
       ∃ (t : State) (v : Int), exec (.travelEdge a b) s = .next t
         ∧ (a = s.hub.sec.trvA ∧ b = s.hub.sec.trvB → v = 0)
         ∧ (a ≠ s.hub.sec.trvA ∨ b ≠ s.hub.sec.trvB → v = 1 ∨ v = -1)
         ∧ t.hub.sec = { s.hub.sec with trvA := a, trvB := b, count := s.hub.sec.count + v }
         ∧ (t.hub.get SEC_PULSES_COUNT : Int) = ((s.hub.get SEC_PULSES_COUNT : Int) + v) % 2 ^ 32
         ∧ s.frame [SEC_PULSES_COUNT] [] t) ∧
     (s.hub.leads = false ∨ s.hub.mode = mNAP →
       ∃ t, exec (.travelEdge a b) s = .next t ∧ t.hub.sec = { s.hub.sec with trvA := a, trvB := b } ∧ s.frame [] [] t)) ∧
  (∀ (s : State), s.hub.running = true → s.hub.leads = true →
     (s.hub.get SEC_TRVSRC_SRC = 2 → s.hub.get SEC_STAT_SPDSTALE = 0 → s.hub.get SEC_SPDTMO_FRAMES ≤ s.hub.sec.speedAge →
       ∃ t, exec .speedStale s = .next t ∧ t.hub.get SEC_STAT_SPDSTALE = 1 ∧ t.hub.get (flagFld 0x16 2) = 1
         ∧ s.regFrame [SEC_STAT_SPDSTALE, flagFld 0x16 2] tracePages t) ∧
     (s.hub.get SEC_TRVSRC_SRC = 3 → s.hub.get SEC_STAT_TRVACT = 0 → s.hub.sec.count = 0 → 500 ≤ s.hub.sec.zeroRun →
       ∃ t, exec .trvFallback s = .next t ∧ t.hub.get SEC_STAT_TRVACT = 1 ∧ t.hub.get (flagFld 0x16 5) = 1
         ∧ t.hub.sec = s.hub.sec ∧ s.frame [SEC_STAT_TRVACT, flagFld 0x16 5] tracePages t) ∧
     (s.hub.get SEC_TRVSRC_SRC = 3 → s.hub.get SEC_STAT_TRVACT = 1 → s.hub.sec.count ≠ 0 →
       ∃ t, exec .trvFallback s = .next t ∧ t.hub.get SEC_STAT_TRVACT = 0 ∧ t.hub.get (flagFld 0x16 5) = 1
         ∧ t.hub.sec = { s.hub.sec with rem := 0 } ∧ s.frame [SEC_STAT_TRVACT, flagFld 0x16 5] tracePages t))

/-- The armed zero frame (06 R182): at F = n the reference and every odometer are 0 and the distance order references
are clear, with flag ZERO_DONE; a frame already past zeroes nothing, with ZERO_MISSED; ZEROARM clears in both.  A gap
that 64 frames have not closed (06 R184): every lane of some length is flushed, the missing travel is dropped, DESYNC
and its flag are set. -/
def Obligations.ZeroFramesAndUnclosedGaps : Prop :=
  (∀ (s : State), s.hub.running = true → s.hub.sec.zeroDue = true →
     (s.hub.get SEC_ZEROAT_FRAME = s.hub.get FRM_NO_NO →
       ∃ t, exec .zero s = .next t ∧ t.hub.get SEC_CTL_ZEROARM = 0 ∧ t.hub.get (flagFld 0x16 0) = 1
         ∧ t.hub.getPair SEC_REFODO_LO_ODO SEC_REFODO_HI_ODO = 0
         ∧ (∀ n, n < s.hub.nch → t.hub.getPair (CH_ODO_LO_ODO.pg n) (CH_ODO_HI_ODO.pg n) = 0 ∧ (t.hub.ch n).tailD = none
             ∧ (t.hub.ch n).lane = (s.hub.ch n).lane)
         ∧ s.frame ([SEC_CTL_ZEROARM, flagFld 0x16 0, SEC_REFODO_LO_ODO, SEC_REFODO_HI_ODO] ++ odoFlds s.hub) tracePages t) ∧
     (s.hub.get SEC_ZEROAT_FRAME ≠ s.hub.get FRM_NO_NO →
       ∃ t, exec .zero s = .next t ∧ t.hub.get SEC_CTL_ZEROARM = 0 ∧ t.hub.get (flagFld 0x16 1) = 1
         ∧ t.hub.chans = s.hub.chans ∧ s.frame [SEC_CTL_ZEROARM, flagFld 0x16 1] tracePages t)) ∧
  (∀ (s : State), s.hub.running = true → s.hub.get SEC_STAT_GAP = 1 → 64 ≤ diff32 (s.hub.get FRM_NO_NO) s.hub.sec.gapFirst →
     ∃ t, exec .desync s = .next t ∧ t.hub.get SEC_STAT_DESYNC = 1 ∧ t.hub.get (flagFld 0x16 4) = 1
       ∧ t.hub.get SEC_STAT_GAP = 0 ∧ t.hub.sec = { s.hub.sec with queue := [], haveTravel := false }
       ∧ (∀ n, n < s.hub.nch → 0 < s.hub.get (CH_LANE_LENGTH.pg n) →
           (t.hub.ch n).lane = [] ∧ (t.hub.ch n).tailD = none ∧ (t.hub.ch n).tailT = none)
       ∧ s.frame [SEC_STAT_GAP, SEC_STAT_QUEUED, SEC_STAT_DESYNC, flagFld 0x16 4] tracePages t)

/-- A sample of a capturing engine (07 R215–R216): it is stored within ±32,767 and counted in NS; at NSAMP the capture
is FULL, and the engine goes to HELD with KEEP, else to IDLE. -/
def Obligations.CapturesTakeSamples : Prop :=
  ∀ (s : State) (eng : BitVec 2) (code : BitVec 12), s.hub.running = true →
    s.hub.get (engF GEY_ENG_STAT_STATE eng.toNat) = 1 →
    s.hub.adcFenced (s.hub.get (engF GEY_ENG_STAT_CH eng.toNat) / 32) = false →
    ∃ (t : State) (v : Int), exec (.geySample eng code) s = .next t ∧ -32767 ≤ v ∧ v ≤ 32767
      ∧ (t.hub.engine eng.toNat).samples = (s.hub.engine eng.toNat).samples ++ [v]
      ∧ t.hub.get (engF GEY_ENG_STAT_NS eng.toNat) = ((s.hub.engine eng.toNat).samples.length + 1) % 4096
      ∧ (s.hub.get (CH_GEYCTL_NSAMP.pg (s.hub.get (engF GEY_ENG_STAT_CH eng.toNat))) * 16
            ≤ (s.hub.engine eng.toNat).samples.length + 1 →
          t.hub.get (engF GEY_ENG_STAT_END eng.toNat) = 1 ∧ t.hub.get (flagFld 0x17 eng.toNat) = 1
          ∧ t.hub.get (engF GEY_ENG_STAT_STATE eng.toNat) = (if s.hub.get (engF GEY_ENG_CTL_KEEP eng.toNat) = 1 then 2
              else 0))
      ∧ s.frame [] (0x09 :: (0x40 + s.hub.get (engF GEY_ENG_STAT_CH eng.toNat)) :: geyPages) t

/-- Presence, polarity and insertion up to PRECHARGE (08 R233–R235, R243): PRESENT leads to QUALIFY where the page is
not fenced, 12.0 V to DETECT and below 11.0 V back, QUALT inside the window to PRECHARGE; absence ends an insertion in
IDLE, leaving the window in PRECHARGE goes back to QUALIFY; reversed polarity is flagged once. -/
def Obligations.FeedInsertionSteps : Prop :=
  ∀ (s : State) (feed : FeedId) (v : BitVec 16),
    (s.hub.get (FEED_STAT_PRESENT.pg (feedNum feed)) = 0 →
      ∃ t, exec (.feedPresent feed) s = .next t ∧ t.hub.get (FEED_STAT_PRESENT.pg (feedNum feed)) = 1
        ∧ t.hub.feedSt (feedNum feed) =
            (if s.hub.feedSt (feedNum feed) ∈ [1, 2]
                ∧ s.hub.feedFenced (feedNum feed) = false then 3 else s.hub.feedSt (feedNum feed))
        ∧ s.frame [wholeFld (FEED_STAT_STATE.pg (feedNum feed))] [] t) ∧
    (s.hub.get (FEED_STAT_PRESENT.pg (feedNum feed)) = 1 → s.hub.feedSt (feedNum feed) ≠ 5 →
      ∃ t, exec (.feedAbsent feed v) s = .next t ∧ t.hub.get (FEED_STAT_PRESENT.pg (feedNum feed)) = 0
        ∧ t.hub.get (FEED_STAT_INWIN.pg (feedNum feed)) = 0
        ∧ t.hub.feedSt (feedNum feed) = (if s.hub.feedSt (feedNum feed) ∈ [2, 3, 4] then 1
            else s.hub.feedSt (feedNum feed)) ∧ s.frame [wholeFld (FEED_STAT_STATE.pg (feedNum feed))] [] t) ∧
    (s.hub.feedSt (feedNum feed) = 1 → s.hub.feedFenced (feedNum feed) = false →
      ∃ t, exec (.feedDetect feed) s = .next t ∧ t.hub.feedSt (feedNum feed) = 2
        ∧ s.frame [wholeFld (FEED_STAT_STATE.pg (feedNum feed))] [] t) ∧
    (s.hub.feedSt (feedNum feed) = 2 →
      ∃ t, exec (.detectDrop feed) s = .next t ∧ t.hub.feedSt (feedNum feed) = 1
        ∧ s.frame [wholeFld (FEED_STAT_STATE.pg (feedNum feed))] [] t) ∧
    (s.hub.feedSt (feedNum feed) = 3 → s.hub.feedFenced (feedNum feed) = false →
        (s.hub.running = true → s.hub.get (FEED_STAT_INWIN.pg (feedNum feed)) = 1) →
      s.hub.feedCfg (FEED_QUALT_T.pg (feedNum feed)) * 10 ≤ (s.hub.feed (feedNum feed)).run →
      ∃ t, exec (.feedQualified feed) s = .next t ∧ t.hub.feedSt (feedNum feed) = 4
        ∧ t.hub.get (FEED_STAT_INWIN.pg (feedNum feed)) = 1
        ∧ s.frame [wholeFld (FEED_STAT_STATE.pg (feedNum feed))] [] t) ∧
    (s.hub.feedSt (feedNum feed) ≠ 5 →
      ∃ t, exec (.feedWindowExit feed) s = .next t ∧ t.hub.get (FEED_STAT_INWIN.pg (feedNum feed)) = 0
        ∧ t.hub.feedSt (feedNum feed) = (if s.hub.feedSt (feedNum feed) = 4 then 3 else s.hub.feedSt (feedNum feed))
        ∧ s.frame [wholeFld (FEED_STAT_STATE.pg (feedNum feed))] [] t) ∧
    (s.hub.get (FEED_STAT_POLREV.pg (feedNum feed)) = 0 →
      ∃ t, exec (.revPolarity feed v) s = .next t ∧ t.hub.get (FEED_STAT_POLREV.pg (feedNum feed)) = 1
        ∧ (s.hub.running = true → t.hub.get (flagFld (feedPage (feedNum feed)) 6) = 1)
        ∧ s.regFrame [FEED_STAT_POLREV.pg (feedNum feed), flagFld (feedPage (feedNum feed)) 6] tracePages t) ∧
    (s.hub.get (FEED_STAT_POLREV.pg (feedNum feed)) = 1 →
      ∃ t, exec (.polrevClear feed) s = .next t ∧ t.hub.get (FEED_STAT_POLREV.pg (feedNum feed)) = 0
        ∧ s.regFrame [FEED_STAT_POLREV.pg (feedNum feed)] [] t)

/-- A feed in ON that loses its window or its presence leaves it with its FETs open (08 R242–R243): QUALIFY after
under- or overvoltage (IDLE while its page is fenced), IDLE after absence; a running hub flags it and counts the
overvoltage.  INS_TRIP once the insertion timer has run, FEED_FAST_TRIP and FUSE_TRIP (08 R237, R240–R241, R243,
R251): fewer than three attempts count one and go to RETRY (to IDLE while the page is fenced), else the feed latches,
a running hub flags it and fences its page with cause 2; the FETs are open, and a feed that was ON is lost. -/
def Obligations.FeedLossAndTrips : Prop :=
  (∀ (s : State) (feed : FeedId) (v : BitVec 16), s.hub.feedSt (feedNum feed) = 5 →
     (∃ t, exec (.feedUndervolt feed v) s = .next t
       ∧ t.hub.feedSt (feedNum feed) = (if s.hub.feedFenced (feedNum feed) = true then 1 else 3)
       ∧ t.hub.get (FEED_STAT_CONDUCT.pg (feedNum feed)) = 0 ∧ t.hub.get (FEED_STAT_INWIN.pg (feedNum feed)) = 0
       ∧ (s.hub.running = true → t.hub.get (flagFld (feedPage (feedNum feed)) 1) = 1)
       ∧ s.frame [] powerPages t) ∧
     (∃ t, exec (.overvolt feed v) s = .next t
       ∧ t.hub.feedSt (feedNum feed) = (if s.hub.feedFenced (feedNum feed) = true then 1 else 3)
       ∧ t.hub.get (FEED_STAT_CONDUCT.pg (feedNum feed)) = 0 ∧ t.hub.get (FEED_STAT_INWIN.pg (feedNum feed)) = 0
       ∧ (s.hub.running = true → t.hub.get (flagFld (feedPage (feedNum feed)) 5) = 1
           ∧ t.hub.get (FEED_CNT2_OVCNT.pg (feedNum feed)) = min (s.hub.get (FEED_CNT2_OVCNT.pg (feedNum feed)) + 1) 65535)
       ∧ s.frame [] powerPages t) ∧
     (s.hub.get (FEED_STAT_PRESENT.pg (feedNum feed)) = 1 →
       ∃ t, exec (.feedAbsent feed v) s = .next t ∧ t.hub.feedSt (feedNum feed) = 1
         ∧ t.hub.get (FEED_STAT_CONDUCT.pg (feedNum feed)) = 0 ∧ t.hub.get (FEED_STAT_PRESENT.pg (feedNum feed)) = 0
         ∧ (s.hub.running = true → t.hub.get (flagFld (feedPage (feedNum feed)) 1) = 1)
         ∧ s.frame [] powerPages t)) ∧
  (∀ (s : State) (feed : FeedId) (limiting : Bool) (peak v : BitVec 16) (c : Instr),
     ((c = .insTrip feed limiting v ∧ s.hub.feedSt (feedNum feed) = 4
         ∧ s.hub.feedCfg (FEED_IRUSHT_T.pg (feedNum feed)) * 10 ≤ (s.hub.feed (feedNum feed)).run) ∨
      (c = .feedFastTrip feed peak v ∧ s.hub.feedSt (feedNum feed) ∈ [4, 5]) ∨
      (c = .fuseTrip feed peak v ∧ s.hub.feedSt (feedNum feed) = 5
         ∧ s.hub.feedCfg (FEED_FUSE_FUSET.pg (feedNum feed)) ≤ (s.hub.feed (feedNum feed)).fuseRun)) →
     ∃ t, exec c s = .next t ∧ t.hub.get (FEED_STAT_CONDUCT.pg (feedNum feed)) = 0
       ∧ (s.hub.get (FEED_STAT_ATTEMPTS.pg (feedNum feed)) < 3 →
           t.hub.feedSt (feedNum feed) = (if s.hub.feedFenced (feedNum feed) = true then 1 else 6)
           ∧ t.hub.get (FEED_STAT_ATTEMPTS.pg (feedNum feed)) = s.hub.get (FEED_STAT_ATTEMPTS.pg (feedNum feed)) + 1
           ∧ (t.hub.feed (feedNum feed)).run = (if s.hub.running = true then 0 else 100000))
       ∧ (3 ≤ s.hub.get (FEED_STAT_ATTEMPTS.pg (feedNum feed)) → t.hub.feedSt (feedNum feed) = 7
           ∧ (s.hub.running = true → t.hub.get (flagFld (feedPage (feedNum feed)) 4) = 1
               ∧ t.hub.hasCause (feedPage (feedNum feed)) 2 = true))
       ∧ (s.hub.running = true →
           t.hub.get (flagFld (feedPage (feedNum feed)) (if c = .insTrip feed limiting v then 2 else 3)) = 1)
       ∧ (s.hub.running = true → s.hub.feedSt (feedNum feed) = 5 → t.hub.get (flagFld (feedPage (feedNum feed)) 1) = 1)
       ∧ s.frame [] (0x09 :: powerPages) t)

/-- Precharge that succeeds turns the feed on (08 R236); reverse current opens the FETs, from 11.0 V on with BLOCKING,
and they close again (R239); the retry goes to PRECHARGE, QUALIFY or IDLE (R241); ten seconds in ON clear ATTEMPTS.
PRIMARY (08 R248): feed B takes over and carries, its FETs closed; when A has been back long enough B stands by again.
-/
def Obligations.FeedConductionAndTakeover : Prop :=
  (∀ (s : State) (feed : FeedId) (above v : BitVec 16) (inWin : Bool),
     (s.hub.feedSt (feedNum feed) = 4 →
       (s.hub.running = true → s.hub.get (FEED_STAT_LIMITING.pg (feedNum feed)) = 0
         ∧ s.hub.geti (FEED_V_V.pg (feedNum feed)) ≤ s.hub.get (FEED_V_VINB.pg (feedNum feed)) + 50
         ∧ (s.hub.feedOn (1 - (feedNum feed)) = true
             ∨ s.hub.geti (FEED_V_V.pg (feedNum feed)) ≤ (s.hub.feed (feedNum feed)).ramp
                 + s.hub.feedCfg (FEED_RAMP_RATE.pg (feedNum feed)) + 50)) →
       ∃ t, exec (.feedOn feed v) s = .next t ∧ t.hub.feedSt (feedNum feed) = 5
         ∧ t.hub.get (FEED_STAT_INWIN.pg (feedNum feed)) = 1
         ∧ (s.hub.feedCfg FEED_SHARE_MODE = 0 ∨ feed = .a ∧ s.hub.feedCfg FEED_SHARE_MODE = 2 →
             t.hub.get (FEED_STAT_CONDUCT.pg (feedNum feed)) = 1)
         ∧ t.hub.get (FEED_STAT_BLOCKING.pg (feedNum feed)) = 0 ∧ (t.hub.feed (feedNum feed)).onV = v.toNat
         ∧ (s.hub.running = true → t.hub.get (flagFld (feedPage (feedNum feed)) 0) = 1 ∧ t.hub.get CHG_STAT_LOWBAT = 0
             ∧ t.hub.get (FEED_CNT2_ONCNT.pg (feedNum feed)) = min (s.hub.get (FEED_CNT2_ONCNT.pg (feedNum feed)) + 1) 65535)
         ∧ s.frame [] powerPages t) ∧
     (s.hub.feedSt (feedNum feed) = 5 → s.hub.get (FEED_STAT_CONDUCT.pg (feedNum feed)) = 1 →
       ∃ t, exec (.revOff feed above v) s = .next t ∧ t.hub.get (FEED_STAT_CONDUCT.pg (feedNum feed)) = 0
         ∧ t.hub.feedSt (feedNum feed) = 5
         ∧ (1100 ≤ v.toInt → t.hub.get (FEED_STAT_BLOCKING.pg (feedNum feed)) = 1
             ∧ (s.hub.running = true → t.hub.get (flagFld (feedPage (feedNum feed)) 7) = 1
                 ∧ t.hub.get (FEED_CNT_REVOFF.pg (feedNum feed)) = min (s.hub.get (FEED_CNT_REVOFF.pg (feedNum feed))
                     + 1) (2 ^ FEED_CNT_REVOFF.w - 1)))
         ∧ s.regFrame [FEED_STAT_CONDUCT.pg (feedNum feed), FEED_STAT_BLOCKING.pg (feedNum feed),
             FEED_CNT_REVOFF.pg (feedNum feed), flagFld (feedPage (feedNum feed)) 7] tracePages t) ∧
     (s.hub.feedSt (feedNum feed) = 5 → s.hub.get (FEED_STAT_CONDUCT.pg (feedNum feed)) = 0 →
       s.hub.get (FEED_STAT_STANDBY_B.pg (feedNum feed)) = 0 → s.hub.ratioIdle ≠ some feed →
       ∃ t, exec (.feedReconduct feed) s = .next t ∧ t.hub.get (FEED_STAT_CONDUCT.pg (feedNum feed)) = 1
         ∧ t.hub.get (FEED_STAT_BLOCKING.pg (feedNum feed)) = 0
         ∧ s.regFrame [FEED_STAT_CONDUCT.pg (feedNum feed), FEED_STAT_BLOCKING.pg (feedNum feed)] [] t) ∧
     (s.hub.feedSt (feedNum feed) = 6 → 10000 ≤ (s.hub.feed (feedNum feed)).run →
       ∃ t, exec (.feedRetry feed inWin) s = .next t
         ∧ t.hub.feedSt (feedNum feed) =
             (if s.hub.feedFenced (feedNum feed) = true ∨ s.hub.get (FEED_STAT_PRESENT.pg (feedNum feed)) = 0 then 1
              else if inWin = true then 4 else 3)
         ∧ s.frame [wholeFld (FEED_STAT_STATE.pg (feedNum feed))] [] t) ∧
     (s.hub.feedSt (feedNum feed) = 5 → 100000 ≤ (s.hub.feed (feedNum feed)).run →
       ∃ t, exec (.feedAttemptsClear feed) s = .next t ∧ t.hub.get (FEED_STAT_ATTEMPTS.pg (feedNum feed)) = 0
         ∧ s.regFrame [FEED_STAT_ATTEMPTS.pg (feedNum feed)] [] t)) ∧
  (∀ (s : State) (va : BitVec 16),
     (s.hub.get (FEED_STAT_STANDBY_B.pg 1) = 1 →
       ∃ t, exec (.priTakeover va) s = .next t ∧ t.hub.get (FEED_STAT_STANDBY_B.pg 1) = 0
         ∧ t.hub.get (FEED_STAT_CONDUCT.pg 1) = 1 ∧ t.hub.get (FEED_STAT_BLOCKING.pg 1) = 0
             ∧ t.hub.share = { s.hub.share with bCarries := true, returnRun := 0 }
         ∧ (s.hub.running = true → t.hub.get (flagFld 0x0F 9) = 1
             ∧ t.hub.get FEED_SHARESTAT_PRICNT = min (s.hub.get FEED_SHARESTAT_PRICNT + 1) (2 ^ FEED_SHARESTAT_PRICNT.w - 1))
         ∧ s.frame [FEED_STAT_STANDBY_B.pg 1, FEED_STAT_CONDUCT.pg 1, FEED_STAT_BLOCKING.pg 1, FEED_SHARESTAT_PRICNT,
             flagFld 0x0F 9] tracePages t) ∧
     (s.hub.feedCfg FEED_SHARE_MODE = 2 → s.hub.feedSt 0 = 5 → s.hub.feedSt 1 = 5 → s.hub.share.bCarries = true →
       1000 ≤ s.hub.share.returnRun →
       ∃ t, exec .primaryReturn s = .next t ∧ t.hub.get (FEED_STAT_STANDBY_B.pg 1) = 1
         ∧ t.hub.get (FEED_STAT_CONDUCT.pg 1) = 0 ∧ t.hub.share = { s.hub.share with bCarries := false, idle := none }
         ∧ (s.hub.share.idle = none →
             s.frame [FEED_STAT_STANDBY_B.pg 1, FEED_STAT_CONDUCT.pg 1, FEED_STAT_BLOCKING.pg 1] [] t)))

/-- CONVERTER_LIMIT_TRIP after TLIM (5 ms on a rail) in limitation, SHORT_TRIP below half of ref, and OV_TRIP above
1.1 × ref + 0.2 V or the absolute level, of a switching converter (09 R260, R262–R263): TRIPS counts and flag TRIP
sets; below three attempts RETRY_WAIT, or from HANDBACK back to BYPASS with one attempt more, REPEAT raised and the
abort counted; with three, LATCHED, its flag and fence cause 2; a trip in STOPPING ends in DISABLED. -/
def Obligations.ConverterTripsRetryOrLatch : Prop :=
  ∀ (s : State) (conv : ConvId) (m : ConvMeas) (c : Instr), s.hub.running = true → s.hub.switching (convNum conv) = true →
    ((c = .converterLimitTrip conv m ∧ s.hub.get (cLIMIT (convNum conv)) = 1
        ∧ (if conv = .lb then s.hub.cfg LB_LIM_TLIM * 10 else 50) ≤ (s.hub.conv (convNum conv)).limRun) ∨
     (c = .converterShortTrip conv m ∧ s.hub.get (cLIMIT (convNum conv)) = 1 ∧ m.out.toNat * 20 < s.hub.refMv (convNum conv)
        ∧ (if conv = .lb then 1 else 10) ≤ (s.hub.conv (convNum conv)).limRun) ∨
     (c = .converterOvTrip conv m
        ∧ (s.hub.refMv (convNum conv) * 11 + 2000 < m.out.toNat * 100 ∨ absLevel (convNum conv) < m.out.toNat * 10))) →
    ∃ t, exec c s = .next t
      ∧ t.hub.get (cTRIPS (convNum conv)) = min (s.hub.get (cTRIPS (convNum conv)) + 1) 255
      ∧ t.hub.get (flagFld (convPage (convNum conv)) 1) = 1 ∧ t.hub.get (cDONE (convNum conv)) = 0
      ∧ (t.hub.conv (convNum conv)).run = 0
      ∧ (s.hub.convSt (convNum conv) = 5 → t.hub.convSt (convNum conv) = 0)
      ∧ (s.hub.convSt (convNum conv) ∈ [3, 4] → s.hub.get (cATTEMPTS (convNum conv)) < 3 → t.hub.convSt (convNum conv) = 6
          ∧ t.hub.get (cATTEMPTS (convNum conv)) = s.hub.get (cATTEMPTS (convNum conv)))
      ∧ (conv = .lb → s.hub.convSt 0 = 9 → s.hub.get (cATTEMPTS 0) < 3 → t.hub.convSt 0 = 8
          ∧ t.hub.get (cATTEMPTS 0) = s.hub.get (cATTEMPTS 0) + 1 ∧ t.hub.get CHG_STAT_HANDBACK = 0
          ∧ t.hub.get CHG_STAT_REPEAT =
              (if s.hub.get CHG_STAT_REPEAT < 4 then s.hub.get CHG_STAT_REPEAT + 1 else s.hub.get CHG_STAT_REPEAT)
          ∧ t.hub.get CHG_HUCNT2_ABORTS = min (s.hub.get CHG_HUCNT2_ABORTS + 1) 65535 ∧ t.hub.get (flagFld 0x10 10) = 1)
      ∧ (s.hub.convSt (convNum conv) ≠ 5 → s.hub.get (cATTEMPTS (convNum conv)) = 3 → t.hub.convSt (convNum conv) = 7
          ∧ t.hub.get (flagFld (convPage (convNum conv)) 2) = 1
          ∧ t.hub.hasCause (convPage (convNum conv)) 2 = true)
      ∧ s.frame ([cTRIPS (convNum conv), flagFld (convPage (convNum conv)) 1, flagFld (convPage (convNum conv)) 2,
            flagFld (convPage (convNum conv)) 29, CHG_STAT_HANDBACK, CHG_STAT_REPEAT, CHG_HUCNT2_ABORTS, flagFld 0x10 10,
            flagFld 0x10 15] ++ convFlds) (0x09 :: tracePages) t

/-- SLEW_UPDATE (09 R255–R256, R260, R271, R319): a converter on its own takes the rule's step toward its goal, LB in
HANDBACK at least 0.4 V above VSYS; RAMP that reaches the goal goes to REGULATE and STOPPING that reaches 0 to
DISABLED; a follower takes the reference its leader's gives, and tracking ends where the leader has reached its goal;
the converter idles while its output stands above the reference; with MODE NONE it slews alone and tracks no more
(R271); a follower whose leader's update has just ended its tracking has taken the update of that instant. The premise
is the check TRACK_CYCLE of R272. -/
def Obligations.ReferencesSlewAndTrack : Prop :=
  ∀ (s : State) (conv : ConvId) (out vsys : Nat), s.hub.running = true → s.hub.followsItself (convNum conv) = false →
    (s.hub.convSt (convNum conv) ∈ [3, 4, 5] → (s.hub.conv (convNum conv)).stepped = true →
      ∃ t, exec (.slewUpdate conv out vsys) s = .next t
        ∧ t.hub.conv (convNum conv) = { s.hub.conv (convNum conv) with stepped := false } ∧ s.frame [] [] t) ∧
    ((s.hub.conv (convNum conv)).stepped = false → s.hub.convSt (convNum conv) ∈ [3, 4, 5] →
        (conv = .lb ∨ s.hub.cfg (H_TRACK_MODE.pg ((convNum conv) - 1)) = 0
          ∨ (s.hub.get (cTRACKING (convNum conv)) = 0 ∧ (s.hub.conv (convNum conv)).trackStop = false)) →
      ∃ (t : State) (r : Nat), exec (.slewUpdate conv out vsys) s = .next t
        ∧ r = slewTo (s.hub.refMv (convNum conv)) (s.hub.goalMv (convNum conv)) (s.hub.get (cRATE (convNum conv))) (s.hub.flag (cLIMIT (convNum conv))) % 65536
        ∧ t.hub.refMv (convNum conv) = r
        ∧ t.hub.convSt (convNum conv) = (if s.hub.convSt (convNum conv) = 3 ∧ r = s.hub.goalMv (convNum conv) then 4
             else if s.hub.convSt (convNum conv) = 5 ∧ r = 0 then 0 else s.hub.convSt (convNum conv))
        ∧ (t.hub.convSt (convNum conv) ≠ 0 → (t.hub.conv (convNum conv)).idle
            = (decide (r < out) || ((s.hub.conv (convNum conv)).idle && decide (r = out))))
        ∧ s.frame convFlds [] t) ∧
    (conv = .lb → s.hub.convSt 0 = 9 → s.hub.get LB_STAT_NPH ≠ 0 → (s.hub.conv 0).stepped = false →
      ∃ t, exec (.slewUpdate conv out vsys) s = .next t
        ∧ t.hub.refMv 0 = slewTo (s.hub.refMv 0) (max (s.hub.goalMv 0) (vsys + 400)) (s.hub.get (cRATE 0))
            (s.hub.flag (cLIMIT 0)) % 65536
        ∧ t.hub.convSt 0 = 9 ∧ s.frame convFlds [] t) ∧
    (conv ≠ .lb → (s.hub.conv (convNum conv)).stepped = false → s.hub.cfg (H_TRACK_MODE.pg ((convNum conv) - 1)) ≠ 0 →
        s.hub.convSt (convNum conv) ∈ [3, 4] → (s.hub.conv (convNum conv)).trackStop = false →
        s.hub.get (cTRACKING (convNum conv)) = 1 →
      ∃ t, exec (.slewUpdate conv out vsys) s = .next t
          ∧ t.hub.refMv (convNum conv) = s.hub.trackedRef (convNum conv) % 65536
        ∧ t.hub.convSt (convNum conv) = (if s.hub.trackedRef (convNum conv) % 65536 = s.hub.goalMv (convNum conv) then 4
            else s.hub.convSt (convNum conv))
        ∧ (s.hub.convSt (s.hub.cfg (H_TRACK_LEADER.pg ((convNum conv) - 1))) ∉ [1, 2] →
            t.hub.get (cTRACKING (convNum conv)) =
              (if s.hub.refMv (s.hub.cfg (H_TRACK_LEADER.pg ((convNum conv) - 1))) = s.hub.goalMv (s.hub.cfg (H_TRACK_LEADER.pg ((convNum conv) - 1)))
               then 0 else 1))
        ∧ s.frame convFlds [] t) ∧
    (conv ≠ .lb → (s.hub.conv (convNum conv)).stepped = false → s.hub.cfg (H_TRACK_MODE.pg ((convNum conv) - 1)) ≠ 0 →
        s.hub.convSt (convNum conv) = 5 → (s.hub.conv (convNum conv)).trackStop = true →
      ∃ t, exec (.slewUpdate conv out vsys) s = .next t
          ∧ t.hub.refMv (convNum conv) = s.hub.stoppedRef (convNum conv) % 65536
        ∧ t.hub.convSt (convNum conv) = (if s.hub.stoppedRef (convNum conv) % 65536 = 0 then 0 else 5)
            ∧ s.frame convFlds [] t)

/-- CAL_DONE loads the offsets of the four phases and goes to RAMP, or in a hand-back to HANDBACK from the measured
voltage, with an open bypass to RAMP, the hand-back complete (09 R260, R268, 11 R317–R318); CONVERTER_RETRY, 1 s after
a trip of LB and 100 ms after one of a rail, goes to IDLE with one attempt more; ten seconds in REGULATE clear
ATTEMPTS; VSYS_LOW takes a running rail to IDLE (09 R260).  BACKFEED above the absolute level and DROPOUT mark their
episodes (09 R263–R264); VENT_DONE opens a sink below 0.4 V (R259); PHASE_SHED goes to two phases or back to four,
PHASE_OFFSET_MEASURE loads an offset once a second (R265); FEEDFORWARD sums the previews whose instants fall within
one switching period, from the first whose instant has come, and counts a clip beyond 40 A (R266); SYNC_OK sets SYNC
(R270). -/
def Obligations.ConvertersMoveOnAndAreSupervised : Prop :=
  (∀ (s : State) (conv : ConvId) (out : Nat) (offs : List Int) (extrap : BitVec 4), s.hub.running = true →
     (s.hub.convSt 0 = 2 →
       ∃ t, exec (.calDone out offs extrap) s = .next t
         ∧ (∀ k, k < 4 → t.hub.get (LB_PHSTAT_OFS.nth k) = wrapTo 16 (nth offs k 0) ∧ t.hub.get (LB_PHSTAT_AGE.nth k) = 0
             ∧ t.hub.get (LB_PHSTAT_EXTRAP.nth k) = (if extrap.getLsbD k = true then 1 else 0))
         ∧ t.hub.convSt 0 = (if s.hub.lb.hbCal = true ∧ s.hub.get CHG_STAT_BYPASS = 1 then 9 else 3)
         ∧ (s.hub.lb.hbCal = true → t.hub.refMv 0 = out % 65536 ∧ t.hub.lb.hbCal = false)
         ∧ (s.hub.lb.hbCal = true → s.hub.get CHG_STAT_BYPASS = 0 → t.hub.md.handback = true)
         ∧ s.frame [wholeFld (cSTATE 0), wholeFld (cREF 0), wholeFld (LB_PHSTAT_OFS.nth 0), wholeFld (LB_PHSTAT_OFS.nth 1),
             wholeFld (LB_PHSTAT_OFS.nth 2), wholeFld (LB_PHSTAT_OFS.nth 3)] [] t) ∧
     (s.hub.convSt (convNum conv) = 6 →
       (if conv = .lb then 10000 else 1000) ≤ (s.hub.conv (convNum conv)).run →
       ∃ t, exec (.converterRetry conv) s = .next t ∧ t.hub.convSt (convNum conv) = 1
         ∧ t.hub.get (cATTEMPTS (convNum conv)) = min (s.hub.get (cATTEMPTS (convNum conv)) + 1) 3
         ∧ s.frame [wholeFld (cSTATE (convNum conv))] [] t) ∧
     (s.hub.convSt (convNum conv) = 4 → 100000 ≤ (s.hub.conv (convNum conv)).run →
       ∃ t, exec (.converterAttemptsClear conv) s = .next t ∧ t.hub.get (cATTEMPTS (convNum conv)) = 0
         ∧ s.regFrame [cATTEMPTS (convNum conv)] [] t) ∧
     (conv ≠ .lb → s.hub.convSt (convNum conv) ∈ [3, 4] →
       ∃ t, exec (.vsysLow conv) s = .next t ∧ t.hub.convSt (convNum conv) = 1 ∧ s.frame convFlds [] t)) ∧
  (∀ (s : State) (conv : ConvId) (v ofs : BitVec 16) (phase : BitVec 2) (extrap : Bool), s.hub.running = true →
     (s.hub.switching (convNum conv) = false → s.hub.get (cHIGH (convNum conv)) = 0 →
         absLevel (convNum conv) < v.toNat * 10 →
       ∃ t, exec (.backfeed conv v) s = .next t ∧ t.hub.get (cHIGH (convNum conv)) = 1
         ∧ t.hub.get (flagFld (convPage (convNum conv)) 4) = 1
         ∧ s.regFrame [cHIGH (convNum conv), flagFld (convPage (convNum conv)) 4] tracePages t) ∧
     (s.hub.switching (convNum conv) = true → s.hub.get (cDROPOUT (convNum conv)) = 0 →
       ∃ t, exec (.dropout conv v) s = .next t ∧ t.hub.get (cDROPOUT (convNum conv)) = 1
         ∧ t.hub.get (flagFld (convPage (convNum conv)) 3) = 1
         ∧ s.regFrame [cDROPOUT (convNum conv), flagFld (convPage (convNum conv)) 3] tracePages t) ∧
     ((s.hub.conv (convNum conv)).vent = true → (s.hub.conv (convNum conv)).seqVent = false →
         s.hub.outMv (convNum conv) < 400 →
       ∃ t, exec (.ventDone conv) s = .next t
         ∧ t.hub.conv (convNum conv) = { s.hub.conv (convNum conv) with vent := false } ∧ s.frame [] [] t) ∧
     (s.hub.convRuns 0 = true → s.hub.get LB_STAT_NPH = 3 → s.hub.get LB_SHED_I ≠ 0 → 16 ≤ s.hub.lb.shedRun →
       ∃ t, exec (.phaseShed true) s = .next t ∧ t.hub.get LB_STAT_NPH = 2 ∧ t.hub.get (flagFld 0x11 7) = 1
         ∧ s.frame [LB_STAT_NPH, LB_CNT_SHEDS, flagFld 0x11 7] irqPages t) ∧
     (s.hub.convRuns 0 = true → s.hub.get LB_STAT_NPH = 2 → s.hub.lb.unshedDue = true →
       ∃ t, exec (.phaseShed false) s = .next t ∧ t.hub.get LB_STAT_NPH = 3 ∧ t.hub.get (flagFld 0x11 7) = 1
         ∧ s.frame [LB_STAT_NPH, LB_CNT_SHEDS, flagFld 0x11 7] irqPages t) ∧
     (s.hub.convSt 0 = 2 ∨ (s.hub.get LB_STAT_NPH = 2 ∧ phase.toNat ∈ [1, 3] ∧ 1 ≤ s.hub.lb.twoRun
         ∧ 1 ≤ s.hub.get (LB_PHSTAT_AGE.nth phase.toNat)) →
       ∃ t, exec (.phaseOffsetMeasure phase ofs extrap) s = .next t
         ∧ t.hub.get (LB_PHSTAT_OFS.nth phase.toNat) = ofs.toNat ∧ t.hub.get (LB_PHSTAT_AGE.nth phase.toNat) = 0
         ∧ t.hub.get (LB_PHSTAT_EXTRAP.nth phase.toNat) = (if extrap = true then 1 else 0)
         ∧ s.frame [wholeFld (LB_PHSTAT_OFS.nth phase.toNat)] [] t) ∧
     (∀ (p : Preview) (l : List Preview), s.hub.get LB_CTL_FFEN = 1 → s.hub.convSt 0 = 4 → s.hub.sec.previews = p :: l →
         diff32 p.frm (s.hub.get FRM_NO_NO) ≤ 0 →
       ∃ (t : State) (now : List Preview), exec .feedforward s = .next t
         ∧ now = (p :: l).filter (fun q => q.frm == p.frm && s.hub.lbPeriodOf q.cyc == s.hub.lbPeriodOf p.cyc)
         ∧ t.hub.get LB_FFCNT_PREV = (s.hub.get LB_FFCNT_PREV + now.length) % 65536
         ∧ (40000 < (now.foldl (fun (a : Int) (q : Preview) => a + q.step) 0).natAbs →
             t.hub.get LB_FFCNT_CLIP = min (s.hub.get LB_FFCNT_CLIP + 1) 65535 ∧ t.hub.get (flagFld 0x11 8) = 1)
         ∧ (∀ q ∈ t.hub.sec.previews, q ∈ l ∧ (q.frm ≠ p.frm ∨ s.hub.lbPeriodOf q.cyc ≠ s.hub.lbPeriodOf p.cyc))
         ∧ s.frame [LB_FFCNT_PREV, LB_FFCNT_CLIP, flagFld 0x11 8] irqPages t) ∧
     (s.hub.lbSyncDue = true →
       ∃ t, exec .syncOk s = .next t ∧ t.hub.get LB_STAT_SYNC = 1 ∧ t.hub.get (flagFld 0x11 6) = 1
         ∧ s.regFrame [LB_STAT_SYNC, flagFld 0x11 6] irqPages t))

/-- The charger's cycle (11 R298, R301): PRECHARGE to FAST, FAST to CV, CV that has tapered to DONE with the timer
cleared, a recharge from DONE by the voltage; a charging state in a zone that forbids it is PAUSED instead; a die at
150 °C pauses; a recharge check in PAUSED goes by the voltage once zone and die allow. -/
def Obligations.ChargeCycle : Prop :=
  ∀ (s : State) (mv : Nat) (v : BitVec 16) (die : Byte), s.hub.running = true →
    (s.hub.chgSt = 2 → s.hub.vPre ≤ mv →
      ∃ t, exec (.chgPrechargeDone mv) s = .next t ∧ t.hub.chgSt = s.hub.orPaused 3 ∧ s.frame chgStFlds [] t) ∧
    (s.hub.chgSt = 3 → s.hub.vChg ≤ mv →
      ∃ t, exec (.chgCvEntry mv) s = .next t ∧ t.hub.chgSt = s.hub.orPaused 4 ∧ s.frame chgStFlds [] t) ∧
    (s.hub.chgSt = 4 → 1000 ≤ s.hub.chg.taper →
      ∃ t, exec (.chargeDone v) s = .next t ∧ t.hub.chgSt = 5 ∧ t.hub.get CHG_TIMERSTAT_COUNT = 0
        ∧ t.hub.get CHG_HALFSEC_HALFSEC = 0 ∧ t.hub.get (flagFld 0x10 0) = 1
        ∧ (t.hub.chg.presTest = true ↔ s.hub.anyFeedOn = true)
        ∧ s.frame (flagFld 0x10 0 :: chgFlds) tracePages t) ∧
    (s.hub.chgSt = 5 → s.hub.get CHG_RECHK_S * 10000 ≤ s.hub.chg.sinceCheck →
      ∃ t, exec (.rechargeCheck mv) s = .next t ∧ t.hub.chg.sinceCheck = 0
        ∧ t.hub.chgSt = (if mv < s.hub.vRech then s.hub.orPaused (if mv < s.hub.vPre then 2 else 3) else 5)
        ∧ s.frame chgStFlds [] t) ∧
    (s.hub.chgSt = 6 → s.hub.get CHG_RECHK_S * 10000 ≤ s.hub.chg.sinceCheck →
      ∃ t, exec (.rechargeCheck mv) s = .next t ∧ t.hub.chg.sinceCheck = 0
        ∧ t.hub.chgSt = (if badZone s.hub.zone = false ∧ s.hub.dieCool = true then s.hub.byVbat mv else 6)
        ∧ s.frame chgStFlds [] t) ∧
    (s.hub.chgSt ∈ [2, 3, 4] → 214 ≤ die.toNat →
      ∃ t, exec (.chgShutdown die) s = .next t ∧ t.hub.chgSt = 6 ∧ t.hub.get CHG_MEAS2_TDIE = die.toNat
        ∧ t.hub.get (flagFld 0x10 5) = 1 ∧ s.frame ([CHG_MEAS2_TDIE, flagFld 0x10 5] ++ chgStFlds) tracePages t)

/-- A temperature of the battery, in degrees, sets TBAT and the zone, left only 2 °C past its bound, and a zone that
forbids charging pauses it (11 R301, R303); while ADC3 is fenced none is delivered (21 R522).  A counted second of the
safety timer (11 R307–R308): 2 where half of its frames were full, else 1 and a half-rate second; at TMAX × 120 the
charger is SUSPENDED, CODE 1 or 2, flag TIMEOUT set (in NAP it keeps its state: R298).  The battery absent and
present, and the cutoff (11 R305, R310): a fall of 400 mV in the test, or of VSYS while the charger does not switch,
goes to NOBAT; 5.0 V at the contacts, measured once per second, find it again; below its level with no feed ON the
cutoff is recorded and falls due.  The power-path monitor with no feed ON (11 R309–R310): below its level LOWBAT sets
with its flag, in STANDBY too; the cutoff of a hub in STANDBY leaves it off with BATFET open. -/
def Obligations.BatteryZoneTimerAndPresence : Prop :=
  (∀ (s : State) (temp : Int) (bad : Bool), s.hub.running = true →
     (s.hub.adcFenced 3 = true → exec (.ntcZone temp bad) s = .next s) ∧
     (s.hub.adcFenced 3 = false → ∃ t, exec (.ntcZone temp bad) s = .next t ∧ t.hub.zone = s.hub.nextZone (2 * temp) bad
       ∧ t.hub.geti CHG_MEAS2_TBAT = (if bad = true then -128 else clampInt (-127) 127 temp)
       ∧ (bad = true → t.hub.zone = 5)
       ∧ (bad = false → s.hub.zone < 5 → s.hub.zoneLo s.hub.zone - 2 < temp → temp < s.hub.zoneHi s.hub.zone + 2 →
           t.hub.zone = s.hub.zone)
       ∧ t.hub.chgSt = (if s.hub.chgSt ∈ [2, 3, 4] ∧ t.hub.zone ∈ [0, 4, 5] then 6 else s.hub.chgSt)
       ∧ (t.hub.zone ≠ s.hub.zone → t.hub.get (flagFld 0x10 2) = 1)
       ∧ s.frame ([CHG_STAT_ZONE, CHG_MEAS2_TBAT, flagFld 0x10 2] ++ chgStFlds) tracePages t)) ∧
  (∀ (s : State), s.hub.running = true → s.hub.chgSt ∈ [2, 3, 4, 6] → 10000 ≤ s.hub.chg.secFrames →
     ∃ (t : State) (n hs : Nat), exec .chgTimerSecond s = .next t
       ∧ n = (s.hub.get CHG_TIMERSTAT_COUNT + (if 5000 ≤ s.hub.chg.full then 2 else 1)) % 2 ^ 18
       ∧ hs = (if 5000 ≤ s.hub.chg.full then s.hub.get CHG_HALFSEC_HALFSEC
               else (s.hub.get CHG_HALFSEC_HALFSEC + 1) % 2 ^ 18)
       ∧ t.hub.get CHG_TIMERSTAT_COUNT = n ∧ t.hub.get CHG_HALFSEC_HALFSEC = hs
       ∧ (n < s.hub.get CHG_TIMER_TMAX * 120 ∨ s.hub.mode = mNAP → t.hub.chgSt = s.hub.chgSt)
       ∧ (s.hub.get CHG_TIMER_TMAX * 120 ≤ n → s.hub.mode ≠ mNAP → t.hub.chgSt = 7 ∧ t.hub.get (flagFld 0x10 1) = 1
           ∧ t.hub.get CHG_FAULT_CODE = (if hs = 0 then 1 else 2))
       ∧ s.frame (CHG_FAULT_CODE :: flagFld 0x10 1 :: chgFlds) tracePages t) ∧
  (∀ (s : State) (n : Nat) (v : BitVec 16), s.hub.running = true →
     (s.hub.chg.presTest = true → n < 400 →
       ∃ t, exec (.batPresenceTest n) s = .next t ∧ t.hub.chg.presTest = false
         ∧ t.hub.chgSt = s.hub.chgSt ∧ s.frame [CHG_STAT_BATFET] [] t) ∧
     (s.hub.chg.presTest = true → 400 ≤ n → s.hub.chgSt ∈ [1, 2, 3, 4, 5, 6, 7] →
       ∃ t, exec (.batPresenceTest n) s = .next t ∧ t.hub.chgSt = 8 ∧ t.hub.get CHG_STAT_BATPRES = 0
         ∧ t.hub.get (flagFld 0x10 3) = 1 ∧ s.frame ([CHG_STAT_BATPRES, flagFld 0x10 3] ++ chgStFlds) tracePages t) ∧
     (s.hub.anyFeedOn = true → s.hub.chgSt ∈ [1, 5, 6, 7] →
       ∃ t, exec .batAbsent s = .next t ∧ t.hub.chgSt = 8 ∧ t.hub.get CHG_STAT_BATPRES = 0
         ∧ t.hub.get (flagFld 0x10 3) = 1 ∧ s.frame ([CHG_STAT_BATPRES, flagFld 0x10 3] ++ chgStFlds) tracePages t) ∧
     (s.hub.chgSt = 8 → 10000 ≤ s.hub.chg.sinceCheck → n < 5000 →
       ∃ t, exec (.nobatCheck n) s = .next t ∧ t.hub.chg = { s.hub.chg with sinceCheck := 0 } ∧ s.frame [] [] t) ∧
     (s.hub.chgSt = 8 → 10000 ≤ s.hub.chg.sinceCheck → 5000 ≤ n →
       ∃ t, exec (.nobatCheck n) s = .next t ∧ t.hub.get CHG_STAT_BATPRES = 1
         ∧ t.hub.chgSt = 1 ∧ t.hub.get (flagFld 0x10 4) = 1
         ∧ s.frame ([CHG_STAT_BATPRES, flagFld 0x10 4] ++ chgStFlds) tracePages t) ∧
     (s.hub.anyFeedOn = false → s.hub.md.cutoffDue = false → v.toNat < s.hub.cutLevel →
       ∃ t, exec (.batCutoff v) s = .next t ∧ t.hub.md.cutoffDue = true ∧ t.hub.get (flagFld 0x10 14) = 1
         ∧ s.frame [flagFld 0x10 14] tracePages t)) ∧
  (∀ (s : State) (v : BitVec 16), (s.hub.running = true ∨ s.hub.md.power = .standby) → s.hub.anyFeedOn = false →
     (s.hub.get CHG_STAT_LOWBAT = 0 → v.toNat < s.hub.lowLevel →
       ∃ t, exec (.batLow v) s = .next t ∧ t.hub.get CHG_STAT_LOWBAT = 1 ∧ t.hub.get (flagFld 0x10 13) = 1
         ∧ s.regFrame [CHG_STAT_LOWBAT, flagFld 0x10 13] tracePages t) ∧
     (s.hub.md.power = .standby → s.hub.md.cutoffDue = false → v.toNat < s.hub.cutLevel →
       ∃ t, exec (.batCutoff v) s = .next t ∧ t.hub.md.power = .off ∧ t.hub.md.cutoffDue = true
         ∧ t.hub.get CHG_STAT_BATFET = 0 ∧ t.pending = s.pending))

/-- Hold-up (11 R311–R318): a trigger disarms the detector, LB in CAL, RAMP or REGULATE goes to BYPASS with the bypass
enabled, and the charger stops; a bypass trip opens it, and completes a running hand-back; HOLDMAX opens it, clears
LB's EN and counts; the bypass that opens in a hand-back leaves LB in RAMP; ten seconds outside HOLDUP take REPEAT to
0. -/
def Obligations.HoldupTriggerToHandback : Prop :=
  ∀ (s : State) (trig : HoldTrig) (v cur : BitVec 16) (byLimit : Bool), s.hub.running = true →
    (s.hub.get CHG_STAT_ARMED = 1 → s.hub.trigHolds trig v.toNat = true →
      ∃ t, exec (.holdupTrigger trig v) s = .next t ∧ t.hub.get CHG_STAT_ARMED = 0 ∧ t.hub.md.holdupDue = true
        ∧ t.hub.chg.trig = some (trigNum trig, s.hub.mode, v.toNat, s.hub.get CHG_MEAS2_VSYS)
        ∧ (s.hub.convSt 0 ∈ [2, 3, 4] → t.hub.convSt 0 = 8 ∧ t.hub.get LB_STAT_NPH = 0 ∧ t.hub.get CHG_STAT_BYPASS = 1)
        ∧ (s.hub.convSt 0 ∉ [2, 3, 4] → t.hub.convSt 0 = s.hub.convSt 0
            ∧ t.hub.get CHG_STAT_BYPASS = s.hub.get CHG_STAT_BYPASS)
        ∧ t.hub.chgSt = (if s.hub.chgSt ∈ [2, 3, 4] then 1 else s.hub.chgSt)
        ∧ s.frame ([CHG_STAT_ARMED, CHG_STAT_BYPASS, wholeFld (cSTATE 0)] ++ chgStFlds) [] t) ∧
    (s.hub.get CHG_STAT_BYPASS = 1 →
      ∃ t, exec (.bypassTrip byLimit cur) s = .next t ∧ t.hub.get CHG_STAT_BYPASS = 0 ∧ t.hub.chg.bypTripped = true
        ∧ t.hub.get CHG_HUCNT2_BYPTRIPS = min (s.hub.get CHG_HUCNT2_BYPTRIPS + 1) 255 ∧ t.hub.get (flagFld 0x10 12) = 1
        ∧ t.hub.convSt 0 = (if s.hub.convSt 0 = 9 ∧ s.hub.get CHG_STAT_HANDBACK = 1 then 3 else s.hub.convSt 0)
        ∧ (s.hub.convSt 0 = 9 → s.hub.get CHG_STAT_HANDBACK = 1 → t.hub.md.handback = true)
        ∧ s.frame [CHG_STAT_BYPASS, CHG_HUCNT2_BYPTRIPS, wholeFld (cSTATE 0), flagFld 0x10 12] tracePages t) ∧
    (s.hub.holdmaxDue = true →
      ∃ t, exec .holdmaxExpired s = .next t ∧ t.hub.get CHG_STAT_BYPASS = 0 ∧ t.hub.get (PG_CTL_EN.pg 0x11) = 0
        ∧ t.hub.convSt 0 = (if s.hub.convSt 0 ∈ [5, 7] ∨ 10 ≤ s.hub.convSt 0 then s.hub.convSt 0
             else if s.hub.convSt 0 ∈ [3, 4] ∧ s.hub.get (cSOFTSTOP 0) = 1 then 5 else 0)
        ∧ t.hub.md.holdmaxDue = true ∧ t.hub.get (flagFld 0x10 11) = 1
        ∧ t.hub.get CHG_HUCNT2_HOLDMAXCNT = min (s.hub.get CHG_HUCNT2_HOLDMAXCNT + 1) 255
        ∧ s.frame ([CHG_STAT_BYPASS, PG_CTL_EN.pg 0x11, CHG_HUCNT2_HOLDMAXCNT, flagFld 0x10 11] ++ convFlds) tracePages t) ∧
    (s.hub.get CHG_STAT_HANDBACK = 1 → s.hub.get CHG_STAT_BYPASS = 1 → s.hub.convSt 0 ≠ 2 →
      ∃ t, exec .bypassOpen s = .next t ∧ t.hub.get CHG_STAT_BYPASS = 0 ∧ t.hub.md.handback = true
        ∧ t.hub.convSt 0 = (if s.hub.convSt 0 = 9 then 3 else s.hub.convSt 0)
        ∧ s.frame [CHG_STAT_BYPASS, wholeFld (cSTATE 0)] [] t) ∧
    (0 < s.hub.get CHG_STAT_REPEAT → s.hub.mode ≠ mHOLDUP → 100000 ≤ s.hub.chg.outside →
      ∃ t, exec .repeatReset s = .next t ∧ t.hub.get CHG_STAT_REPEAT = 0 ∧ s.regFrame [CHG_STAT_REPEAT] [] t)

/-- SLOT_START takes the first of the five cases of the rule (12 R329): a GOOD slot stays GOOD; a fenced page fails it
with code 6; a failed or shut dependency shuts it with code 5; with its dependencies GOOD and its supply it rises, its
rail's enable set; else it waits.  The other events of a slot (12 R325, R329–R330, R334–R335): WAIT and, but in a
power-down, RISE fail it with codes 1 and 2, handled and its rail due to go off; qualified it is GOOD, and one that
waits or rises has risen; HOLDOFF; the sink opens below LEVEL and the slot is OFF, or VENT_TO with its count at
VENT_T. -/
def Obligations.SlotsStartTimeOutAndVent : Prop :=
  (∀ (s : State) (slot : BitVec 4), s.hub.running = true → s.hub.slotStartDue slot.toNat = true →
     (s.hub.slotGood slot.toNat = true →
       ∃ t, exec (.slotStart slot) s = .next t ∧ t.hub.slotSt slot.toNat = 4 ∧ t.hub.slotGood slot.toNat = true
         ∧ s.frame (slotFlds slot.toNat) [] t) ∧
     (s.hub.slotGood slot.toNat = false → s.hub.fenced (railPage (s.hub.rail slot.toNat)) = true →
       ∃ t, exec (.slotStart slot) s = .next t ∧ t.hub.SlotFailed slot.toNat 6 ∧ slot.toNat ∈ t.hub.seq.failDue
         ∧ s.frame (slotFlds slot.toNat) tracePages t) ∧
     (s.hub.slotGood slot.toNat = false → s.hub.fenced (railPage (s.hub.rail slot.toNat)) = false →
       s.hub.depFailed slot.toNat →
       ∃ t, exec (.slotStart slot) s = .next t ∧ t.hub.slotSt slot.toNat = 6
         ∧ t.hub.get (SEQ_STS_CODE.nth slot.toNat) = 5 ∧ t.hub.get (flagFld 0x07 slot.toNat) = 1
         ∧ s.frame (slotFlds slot.toNat) tracePages t) ∧
     (s.hub.slotGood slot.toNat = false → s.hub.fenced (railPage (s.hub.rail slot.toNat)) = false →
       ¬ s.hub.depFailed slot.toNat → (∀ j, j < 16 → s.hub.dep slot.toNat j = true → s.hub.slotGood j = true) →
       s.hub.supplyHolds (s.hub.rail slot.toNat) = true → (s.hub.rail slot.toNat ≤ 5 ∨ 64 ≤ s.hub.rail slot.toNat) →
       ∃ t, exec (.slotStart slot) s = .next t ∧ t.hub.slotSt slot.toNat = 3
         ∧ t.hub.get (PG_CTL_EN.pg (railPage (s.hub.rail slot.toNat))) = 1
         ∧ s.frame (slotFlds slot.toNat) [railPage (s.hub.rail slot.toNat)] t) ∧
     (s.hub.slotGood slot.toNat = false → s.hub.fenced (railPage (s.hub.rail slot.toNat)) = false →
       ¬ s.hub.depFailed slot.toNat →
       ¬ ((∀ j, j < 16 → s.hub.dep slot.toNat j = true → s.hub.slotGood j = true)
         ∧ s.hub.supplyHolds (s.hub.rail slot.toNat) = true) →
       ∃ t, exec (.slotStart slot) s = .next t ∧ t.hub.slotSt slot.toNat = 2 ∧ s.frame (slotFlds slot.toNat) [] t)) ∧
  (∀ (s : State) (slot : BitVec 4), s.hub.running = true →
     (s.hub.fenced 0x07 = false → s.hub.slotSt slot.toNat = 2 →
       s.hub.get (SEQ_LIM_WAIT.nth slot.toNat) * 10 ≤ s.hub.get (SEQ_STS_FRAMES.nth slot.toNat) →
       ∃ t, exec (.slotWaitTimeout slot) s = .next t ∧ t.hub.SlotFailed slot.toNat 1
         ∧ t.hub.seq = { (s.hub.handle slot.toNat).seq with failDue := s.hub.seq.failDue ++ [slot.toNat] }
         ∧ s.frame (slotFlds slot.toNat) tracePages t) ∧
     (s.hub.fenced 0x07 = false → s.hub.slotSt slot.toNat = 3 → s.hub.get SEQ_STAT_STATE ≠ 3 →
       s.hub.get (SEQ_LIM_RISE.nth slot.toNat) * 10 ≤ s.hub.get (SEQ_STS_FRAMES.nth slot.toNat) →
       ∃ t, exec (.slotRiseTimeout slot) s = .next t ∧ t.hub.SlotFailed slot.toNat 2
         ∧ t.hub.seq = { (s.hub.handle slot.toNat).seq with failDue := s.hub.seq.failDue ++ [slot.toNat] }
         ∧ s.frame (slotFlds slot.toNat) tracePages t) ∧
     (s.hub.slotGoodDue slot.toNat = true →
       ∃ t, exec (.slotGood slot) s = .next t ∧ t.hub.slotGood slot.toNat = true
         ∧ t.hub.slotSt slot.toNat = (if s.hub.slotSt slot.toNat ∈ [1, 2, 3] then 4 else s.hub.slotSt slot.toNat)
         ∧ s.regFrame (slotFlds slot.toNat) [] t) ∧
     (s.hub.holdoffDue slot.toNat = true →
       ∃ t, exec (.slotHoldoff slot) s = .next t ∧ t.hub.slotSt slot.toNat = 7
         ∧ t.hub.slotGood slot.toNat = s.hub.slotGood slot.toNat ∧ s.regFrame (slotFlds slot.toNat) [] t) ∧
     (s.hub.ventedDue slot.toNat = true →
       ∃ t, exec (.slotVented slot) s = .next t
         ∧ t.hub.slotSt slot.toNat = (if s.hub.slotSt slot.toNat = 8 then 0 else s.hub.slotSt slot.toNat)
         ∧ (∀ i, railConv (s.hub.rail slot.toNat) = some i →
             (t.hub.conv i).vent = false ∧ (t.hub.conv i).seqVent = false)
         ∧ s.frame (slotFlds slot.toNat) [] t) ∧
     (s.hub.fenced 0x07 = false → s.hub.slotSt slot.toNat = 8 →
       s.hub.get (SEQ_VENT_VT.nth slot.toNat) * 10 ≤ s.hub.get (SEQ_STS_FRAMES.nth slot.toNat) →
       ∃ t, exec (.ventTimeout slot) s = .next t ∧ t.hub.slotSt slot.toNat = 9
         ∧ t.hub.get SEQ_CNT_VENTTO = min (s.hub.get SEQ_CNT_VENTTO + 1) 65535 ∧ t.hub.get (flagFld 0x07 slot.toNat) = 1
         ∧ (∀ i, railConv (s.hub.rail slot.toNat) = some i →
             (t.hub.conv i).vent = false ∧ (t.hub.conv i).seqVent = false)
         ∧ s.frame (slotFlds slot.toNat) tracePages t))

/-- The raw state of an enabled supervisor follows its input: inside LO and HI it stays, and comes back narrowed by
HYS, and a chatter forces it outside (12 R341, 22 R530). The filtered state takes a raw state that has held its filter
time, and no shorter one; armed and leaving, it is a violation: VIOL counts, SIDE and its flag are set (12 R342). -/
def Obligations.SupervisorsJudgeTheirWindow : Prop :=
  ∀ (s : State) (sup : BitVec 5) (v : BitVec 12) (held : Nat), s.hub.running = true → sup.toNat < 24 →
    s.hub.get (SUP_CFG_EN.nth sup.toNat) = 1 → s.hub.get (SUP_CFG_INPUT.nth sup.toNat) ≠ 0 →
    (held < s.hub.get (SUP_FILT_T.nth sup.toNat) →
      ∃ t, exec (.supFilter sup ⟨v, held⟩) s = .next t
        ∧ (s.hub.seq.chatForced = false → s.hub.seq.rawIn.testBit sup.toNat = true →
            (t.hub.seq.rawIn.testBit sup.toNat = true ↔
              s.hub.get (SUP_THR_LO.nth sup.toNat) ≤ v.toNat ∧ v.toNat ≤ s.hub.get (SUP_THR_HI.nth sup.toNat)))
        ∧ (s.hub.seq.chatForced = false → s.hub.seq.rawIn.testBit sup.toNat = false →
            (t.hub.seq.rawIn.testBit sup.toNat = true ↔
              s.hub.get (SUP_THR_LO.nth sup.toNat) + s.hub.get (SUP_CFG_HYS.nth sup.toNat) ≤ v.toNat
              ∧ v.toNat + s.hub.get (SUP_CFG_HYS.nth sup.toNat) ≤ s.hub.get (SUP_THR_HI.nth sup.toNat)))
        ∧ (∀ j, j < 24 → j ≠ sup.toNat → t.hub.seq.rawIn.testBit j = s.hub.seq.rawIn.testBit j) ∧ s.frame [] [] t) ∧
    (s.hub.get (SUP_FILT_T.nth sup.toNat) ≤ held → (s.hub.get SUP_INSIDE_INSIDE).testBit sup.toNat = true →
      (v.toNat < s.hub.get (SUP_THR_LO.nth sup.toNat) ∨ s.hub.get (SUP_THR_HI.nth sup.toNat) < v.toNat
        ∨ s.hub.seq.chatForced = true ∧ s.hub.get TST_SUPCHAT_EN = 1 ∧ s.hub.get TST_SUPCHAT_SUP = sup.toNat) →
      ∃ t, exec (.supFilter sup ⟨v, held⟩) s = .next t ∧ (t.hub.get SUP_INSIDE_INSIDE).testBit sup.toNat = false
        ∧ (s.hub.supArmed sup.toNat = true → t.hub.get (flagFld 0x08 sup.toNat) = 1
            ∧ t.hub.get (SUP_CNT_VIOL.nth sup.toNat) = min (s.hub.get (SUP_CNT_VIOL.nth sup.toNat) + 1) 65535
            ∧ ((t.hub.get SUP_SIDE_SIDE).testBit sup.toNat = true ↔ s.hub.get (SUP_THR_HI.nth sup.toNat) < v.toNat))
        ∧ (s.hub.supArmed sup.toNat = false →
            t.hub.get (SUP_CNT_VIOL.nth sup.toNat) = s.hub.get (SUP_CNT_VIOL.nth sup.toNat))
        ∧ s.frame [SUP_INSIDE_INSIDE, SUP_SIDE_SIDE, SUP_CNT_VIOL.nth sup.toNat,
            flagFld 0x08 sup.toNat] (0x07 :: tracePages) t) ∧
    (s.hub.get (SUP_FILT_T.nth sup.toNat) ≤ held → (s.hub.get SUP_INSIDE_INSIDE).testBit sup.toNat = false →
        ¬ (s.hub.seq.chatForced = true ∧ s.hub.get TST_SUPCHAT_EN = 1 ∧ s.hub.get TST_SUPCHAT_SUP = sup.toNat) →
      s.hub.get (SUP_THR_LO.nth sup.toNat) + s.hub.get (SUP_CFG_HYS.nth sup.toNat) ≤ v.toNat →
      v.toNat + s.hub.get (SUP_CFG_HYS.nth sup.toNat) ≤ s.hub.get (SUP_THR_HI.nth sup.toNat) →
      ∃ t, exec (.supFilter sup ⟨v, held⟩) s = .next t ∧ (t.hub.get SUP_INSIDE_INSIDE).testBit sup.toNat = true
        ∧ s.frame [SUP_INSIDE_INSIDE] [] t)

/-- The entry a scan works on (13 R350, R352): corrected, it goes to its destinations (a class H request that ran
meanwhile splits it); POS moves on, and the last entry leaves the list idle; with DEST 1 or 2 the mailbox AUX holds
the value, clamped, with its flags and age 0; a high-side result shows in its channel's EXTRAP. Then P2 runs where it
has waited for the head.  HEAD_LATE counts and sets its flag, and P2 waits no longer for the head (13 R352); a host
request whose turn and time have come holds its clamped value with DONE, not BUSY, and its flag (13 R354), the other
port's request as it was. -/
def Obligations.ConversionsAreDelivered : Prop :=
  (∀ (s : State) (k : BitVec 2) (entry : BitVec 6) (acc : BitVec 16) (split : Bool) (i : Input), s.hub.running = true →
     s.hub.get (ADC_STAT_STATE.nth k.toNat) = 1 → s.hub.get (ADC_STAT_POS.nth k.toNat) = entry.toNat →
     s.hub.adcFenced k.toNat = false →
     inputOf s.hub.part (s.hub.scanWord k.toNat entry.toNat % 256) = some i →
     ∃ t : State, exec (.scanEntryDone k entry acc split) s = .next t.runP2
       ∧ (entry.toNat + 1 < s.hub.get (ADC_LEN_LEN.nth k.toNat) →
           t.hub.get (ADC_STAT_STATE.nth k.toNat) = 1 ∧ t.hub.get (ADC_STAT_POS.nth k.toNat) = (entry.toNat + 1) % 64)
       ∧ (s.hub.get (ADC_LEN_LEN.nth k.toNat) ≤ entry.toNat + 1 → t.hub.get (ADC_STAT_STATE.nth k.toNat) = 0)
       ∧ (split = true → k.toNat ∈ s.hub.mea.hRan →
           t.hub.get (ADC_CNT2_SPLIT.nth k.toNat) = min (s.hub.get (ADC_CNT2_SPLIT.nth k.toNat) + 1) 65535)
       ∧ (s.hub.scanWord k.toNat entry.toNat / 2048 % 4 ≠ 1 → ∀ f sgn, i.stdFld = some (f, sgn) →
           t.hub.holds f sgn (s.hub.correct i (i.raw16 acc.toNat (s.hub.scanWord k.toNat entry.toNat / 256 % 8))).y)
       ∧ (∀ n, i = .hs n → t.hub.get (CH_STAT_EXTRAP.pg n) =
           (if (s.hub.correct i (i.raw16 acc.toNat (s.hub.scanWord k.toNat entry.toNat / 256 % 8))).extrap = true
               ∨ clipped acc.toNat (s.hub.scanWord k.toNat entry.toNat / 256 % 8) = true then 1 else 0))
       ∧ (s.hub.scanWord k.toNat entry.toNat / 2048 % 4 ≠ 0 →
           t.hub.get (ADC_AUX_NEW.nth (s.hub.scanWord k.toNat entry.toNat / 8192)) = 1
           ∧ t.hub.get (ADC_AUX_AGE.nth (s.hub.scanWord k.toNat entry.toNat / 8192)) = 0
           ∧ t.hub.get (ADC_AUX_SPLIT.nth (s.hub.scanWord k.toNat entry.toNat / 8192)) =
               (if split = true ∧ k.toNat ∈ s.hub.mea.hRan then 1 else 0)
           ∧ (i ∉ [.rotV, .rotT] →
               t.hub.geti (ADC_AUX_VALUE.nth (s.hub.scanWord k.toNat entry.toNat / 8192)) =
                 clampInt (-32768) 32767
                   (s.hub.correct i (i.raw16 acc.toNat (s.hub.scanWord k.toNat entry.toNat / 256 % 8))).y))
       ∧ s.frame [] (0x09 :: s.hub.inputPages i) t) ∧
  (∀ (s : State) (port : Port) (acc : BitVec 16) (cyc : Nat) (i : Input), s.hub.running = true →
     (s.hub.headLateDue = true →
       ∃ t : State, exec .headLate s = .next t.runP2 ∧ t.hub.get (flagFld 0x09 8) = 1
         ∧ t.hub.get (ADC_CNT2_HEADLATE.nth 3) = min (s.hub.get (ADC_CNT2_HEADLATE.nth 3) + 1) 255
         ∧ t.hub.mea = { s.hub.mea with headSaid := true }
             ∧ s.frame [ADC_CNT2_HEADLATE.nth 3, flagFld 0x09 8] tracePages t) ∧
     (s.hub.hostInput port = some i → s.hub.hostReady port cyc = true →
       ∃ t, exec (.hostConversionDone port ⟨acc, cyc⟩) s = .next t
         ∧ bitsOf (t.hub.host port).res 16 1 = 1 ∧ bitsOf (t.hub.host port).res 18 1 = 0
         ∧ bitsOf (t.hub.host port).res 19 1 = 0
         ∧ (i ∉ [.rotV, .rotT] →
             signed 16 (bitsOf (t.hub.host port).res 0 16) =
               clampInt (-32768) 32767 (s.hub.correct i (i.raw16 acc.toNat (bitsOf (s.hub.host port).run 8 3))).y)
         ∧ t.hub.get (flagFld 0x09 (4 + i.conv)) = 1
         ∧ (∀ q : Port, q ≠ port → t.hub.host q = s.hub.host q)
         ∧ (∀ n, i = .hs n → s.frame [ADC_ROT_CHV, ADC_ROT_CHT, CH_STAT_EXTRAP.pg n, flagFld 0x09 (4 + i.conv)] irqPages t)
         ∧ ((∀ n, i ≠ .hs n) → s.frame [ADC_ROT_CHV, ADC_ROT_CHT, flagFld 0x09 (4 + i.conv)] irqPages t)))

/-- A zero refresh begins at the channel's frame of the second while it is off (13 R360); each mean within 32 codes of
the factory's becomes the input's offset, and each one further off counts in ZREJ with the ZERO_REJ flag.  The oldest
write of the non-volatile store ends, after a stall that the test page sets (13 R361–R362, 20 R505, 22 R530): a field
calibration ends with RESULT 2 and its record in the store, applied at the next tick, or RESULT 7; a key that is
written fills its slot and shows in SLOTSET; any other write only ends its busy window. -/
def Obligations.CalibrationAndStoreWritesEnd : Prop :=
  (∀ (s : State) (ch : BitVec 6) (hs ld : Int), s.hub.running = true → ch.toNat < s.hub.nch →
     (s.hub.zeroDue ch.toNat true = true →
       ∃ t, exec (.zeroRefresh ch true) s = .next t
         ∧ t.hub.ch ch.toNat = { s.hub.ch ch.toNat with refreshing := true, lsClosed := false } ∧ s.frame [] [] t) ∧
     ((s.hub.ch ch.toNat).refreshing = true → s.hub.adcFenced (ch.toNat / 32) = false →
       ∃ t, exec (.zeroRefreshDone ch hs ld) s = .next t
         ∧ t.hub.ch ch.toNat = { s.hub.ch ch.toNat with refreshing := false }
         ∧ ((hs - (factoryRec (3 * ch.toNat + 1)).ofs).natAbs ≤ 32 →
             mapFind t.hub.mea.zero (2 * ch.toNat) = some (hs, s.hub.mea.ticks))
         ∧ ((ld - (factoryRec (192 + 3 * ch.toNat + 1)).ofs).natAbs ≤ 32 →
             mapFind t.hub.mea.zero (2 * ch.toNat + 1) = some (ld, s.hub.mea.ticks))
         ∧ (32 < (hs - (factoryRec (3 * ch.toNat + 1)).ofs).natAbs →
             mapFind t.hub.mea.zero (2 * ch.toNat) = mapFind s.hub.mea.zero (2 * ch.toNat)
             ∧ t.hub.get (flagFld 0x0A 1) = 1)
         ∧ t.hub.get CAL_CNT_ZREJ = min (s.hub.get CAL_CNT_ZREJ
             + (if 32 < (hs - (factoryRec (3 * ch.toNat + 1)).ofs).natAbs then 1 else 0)
             + (if 32 < (ld - (factoryRec (192 + 3 * ch.toNat + 1)).ofs).natAbs then 1 else 0)) 65535
         ∧ s.frame [CAL_CNT_ZREJ, flagFld 0x0A 1] tracePages t)) ∧
  (∀ (s : State) (rest : List NvJob), s.hub.running = true → s.hub.nvStall ≤ s.hub.mea.nvAge →
     (∀ idx r old new kind p, s.hub.mea.nvq = .field idx r old new kind p :: rest →
       (∃ t, exec (.nvWriteDone true) s = .next t ∧ t.hub.mea.nvq = rest ∧ t.hub.mea.apply = s.hub.mea.apply ++ [(idx, r)]
         ∧ t.hub.storedRec idx = r ∧ t.hub.get CAL_FSTAT_RESULT = 2 ∧ t.hub.get CAL_FSTAT_BUSY = 0
         ∧ t.hub.get (flagFld 0x0A 0) = 1
         ∧ s.frame [wholeFld CAL_FSTAT_RESULT, CAL_CNT_FIELD, flagFld 0x0A 0, TWB_STAT_QUIET] tracePages t) ∧
       (∃ t, exec (.nvWriteDone false) s = .next t ∧ t.hub.mea.nvq = rest ∧ t.hub.storedRec idx = s.hub.storedRec idx
         ∧ t.hub.get CAL_FSTAT_RESULT = 7 ∧ t.hub.get CAL_FSTAT_BUSY = 0 ∧ t.hub.get (flagFld 0x0A 2) = 1
         ∧ s.frame [wholeFld CAL_FSTAT_RESULT, flagFld 0x0A 2, TWB_STAT_QUIET] tracePages t)) ∧
     (∀ idx r p, s.hub.mea.nvq = .commit idx r p :: rest →
       (∃ t, exec (.nvWriteDone true) s = .next t ∧ t.hub.mea.nvq = rest ∧ t.hub.storedRec idx = r
         ∧ s.frame [TWB_STAT_QUIET] [] t) ∧
       (∃ t, exec (.nvWriteDone false) s = .next t ∧ t.hub.mea.nvq = rest ∧ t.hub.storedRec idx = s.hub.storedRec idx
         ∧ t.hub.get (flagFld 0x0A 2) = 1 ∧ s.frame [flagFld 0x0A 2, TWB_STAT_QUIET] tracePages t)) ∧
     (∀ (p : Port) (ok : Bool), s.hub.mea.nvq = .other p :: rest →
       ∃ t, exec (.nvWriteDone ok) s = .next t ∧ t.hub.mea.nvq = rest ∧ t.hub.mea.nv = s.hub.mea.nv
         ∧ t.hub.keys = s.hub.keys ∧ s.frame [TWB_STAT_QUIET] [] t) ∧
     (∀ slot, slot < 2 → s.hub.mea.nvq = .key slot :: rest →
       (∃ t, exec (.nvWriteDone true) s = .next t ∧ t.hub.mea.nvq = rest
         ∧ (t.hub.get KEY_STAT_SLOTSET).testBit slot = true
         ∧ nth t.hub.keys.slots slot none = some (nth s.hub.keys.loaded slot []) ∧ t.hub.get (flagFld 0x1F 3) = 1
         ∧ s.frame [KEY_STAT_SLOTSET, flagFld 0x1F 3, TWB_STAT_QUIET] tracePages t) ∧
       (∃ t, exec (.nvWriteDone false) s = .next t ∧ t.hub.mea.nvq = rest ∧ t.hub.keys.slots = s.hub.keys.slots
         ∧ s.frame [TWB_STAT_QUIET] [] t)))

/-- Snapshots (13 R364–R366): the request that falls due latches into the bank that NEWEST does not name, unless that
bank is held, which misses it; a request for another frame waits on; the write done, the bank is the newest and TAKEN
counts. -/
def Obligations.SnapshotsLatchAndComplete : Prop :=
  ∀ (s : State) (src at0 : Nat) (l : List (Nat × Nat × Nat)), s.hub.running = true →
    (s.hub.mea.snapPend = (s.hub.get FRM_NO_NO, src, at0) :: l →
      (∀ e ∈ l, e.1 ≠ s.hub.get FRM_NO_NO ∧ 0 ≤ diff32 e.1 (s.hub.get FRM_NO_NO)) →
      (s.hub.get (if s.hub.get SNAP_STAT_NEWEST = 0 then SNAP_CTL_HOLD1 else SNAP_CTL_HOLD0) = 0 →
        ∃ (t : State) (flags : Nat), exec .snapshotLatch s = .next t ∧ t.hub.mea.snapPend = l
          ∧ t.hub.mea.writing = some ⟨1 - s.hub.get SNAP_STAT_NEWEST,
              s.hub.snapWords (s.hub.get FRM_NO_NO) src ((s.hub.get SNAP_CNT_TAKEN + 1) % 65536) flags⟩
          ∧ t.hub.get SNAP_STAT_BUSY = 1
          ∧ s.frame [SNAP_STAT_PEND, SNAP_STAT_BUSY, SNAP_PEND0_FRAME, SNAP_PEND1_FRAME] [] t) ∧
      (s.hub.get (if s.hub.get SNAP_STAT_NEWEST = 0 then SNAP_CTL_HOLD1 else SNAP_CTL_HOLD0) = 1 →
        ∃ t, exec .snapshotLatch s = .next t ∧ t.hub.mea.snapPend = l ∧ t.hub.mea.writing = s.hub.mea.writing
          ∧ t.hub.get SNAP_CNT_MISSED = min (s.hub.get SNAP_CNT_MISSED + 1) 65535
          ∧ t.hub.get SNAP_LASTMISS_F = s.hub.get FRM_NO_NO ∧ t.hub.get (flagFld 0x18 1) = 1
          ∧ s.frame [SNAP_STAT_PEND, SNAP_PEND0_FRAME, SNAP_PEND1_FRAME, SNAP_CNT_MISSED, SNAP_LASTMISS_F,
              flagFld 0x18 1] tracePages t)) ∧
    (∀ w : SnapWrite, w.bank < 2 → s.hub.mea.writing = some w →
      ∃ t, exec .snapshotDone s = .next t ∧ t.hub.bank w.bank = w.words ∧ t.hub.bank (1 - w.bank) = s.hub.bank (1 - w.bank)
        ∧ t.hub.mea.writing = none ∧ t.hub.get SNAP_STAT_BUSY = 0 ∧ t.hub.get SNAP_STAT_NEWEST = w.bank
        ∧ t.hub.get SNAP_CNT_TAKEN = (s.hub.get SNAP_CNT_TAKEN + 1) % 65536 ∧ t.hub.get (flagFld 0x18 0) = 1
        ∧ s.frame [SNAP_STAT_BUSY, SNAP_STAT_NEWEST, SNAP_CNT_TAKEN, SNAP_B0TAG_F, SNAP_B1TAG_F, SNAP_B0FLG_FLAGS,
            SNAP_B1FLG_FLAGS, flagFld 0x18 0] irqPages t)

/-- The oldest queued record is committed at HEAD, which moves past it and its snapshot (20 R496, R500); a FATAL
record takes the first free room of the protected region; an uncorrectable word reads 0, counted and said once a slot
(20 R504).  A clear that is due commits what is queued, empties the store of every record made before it, sets
CLEARING, takes HEAD to 8,448 and queues its CLEARED record; when that is committed, CLEARING ends with its flag (20
R511). -/
def Obligations.RecorderCommitsAndClears : Prop :=
  (∀ (s : State) (r : Rec) (rest : List Rec), s.hub.running = true → s.hub.get REC_STAT_CLEARING = 0 →
     (s.hub.rcd.clearing = none → s.hub.rcd.queue = r :: rest → (r.done = true ∨ r.set = none) → r.pairs.length ≤ 64 →
       s.hub.rcd.lostCount = 0 → s.hub.nvStall ≤ r.age →
       (r.sev ≠ sevFATAL →
         ∃ t, exec .recordCommit s = .next t ∧ t.hub.rcd.queue = rest ∧ t.hub.rcd.newest = some r
           ∧ mapFind t.hub.rcd.store s.hub.ringHead =
               some (r.words (ringSlot s.hub.ringHead 1) ((r.pairs.length + 6) / 7))
           ∧ t.hub.get REC_STAT_HEAD = ringSlot s.hub.ringHead (1 + (r.pairs.length + 6) / 7)
           ∧ t.hub.get REC_NEWEST_SLOT = s.hub.ringHead
           ∧ s.frame [] [0x06] t) ∧
       (∀ slot, r.sev = sevFATAL → s.hub.protFree (1 + (r.pairs.length + 6) / 7) = some slot →
         ∃ t, exec .recordCommit s = .next t ∧ t.hub.rcd.queue = rest ∧ t.hub.rcd.newest = some r
           ∧ mapFind t.hub.rcd.store slot = some (r.words (slot + 1) ((r.pairs.length + 6) / 7))
           ∧ t.hub.get REC_STAT_HEAD = s.hub.get REC_STAT_HEAD ∧ t.hub.get REC_NEWEST_SLOT = slot
           ∧ s.frame [] [0x06] t)) ∧
     (∀ (slot : BitVec 14) (w : BitVec 4),
       ∃ t, exec (.storeUncorr slot w) s = .next t ∧ t.hub.storeWord slot.toNat w.toNat = 0
         ∧ t.hub.get REC_CNT2_UNCORR = min (s.hub.get REC_CNT2_UNCORR + 1) 65535
         ∧ (slot.toNat ∉ s.hub.rcd.uncorrSaid → t.hub.get (flagFld 0x06 1) = 1) ∧ s.frame [] tracePages t)) ∧
  (∀ (s : State), s.hub.running = true →
     (∀ slot, s.hub.rcd.clearDue = some slot →
       ∃ (t : State) (r : Rec), exec .recorderClear s = .next t ∧ t.hub.rcd.queue = r :: s.hub.reserveFlush.rcd.queue ∧ r.code = 0x0702
         ∧ t.hub.rcd.clearDue = none ∧ t.hub.rcd.clearing.isSome = true ∧ t.hub.get REC_STAT_CLEARING = 1
         ∧ t.hub.get REC_STAT_HEAD = 8448 ∧ t.hub.get REC_FATALN_N = 0
         ∧ t.hub.get REC_CNT2_CLEARS = min (s.hub.get REC_CNT2_CLEARS + 1) 65535
         ∧ (∀ e ∈ t.hub.rcd.store, e ∈ s.hub.reserveFlush.rcd.store)
         ∧ ((∀ e ∈ s.hub.reserveFlush.rcd.store, isRecord e.2 = true →
               (nth e.2 1 0).toNat < max 1 (s.hub.reserveFlush.get REC_SEQ_NEXT)) → t.hub.rcd.store = [])
         ∧ s.frame [] tracePages t) ∧
     (∀ (c : Clearing) (r : Rec) (rest : List Rec), s.hub.rcd.clearing = some c → s.hub.rcd.queue = r :: rest →
       r.sev ≠ sevFATAL → r.pairs = [] → s.hub.rcd.lostCount = 0 → s.hub.nvStall ≤ r.age →
       ∃ t, exec .cleared s = .next t ∧ t.hub.rcd.queue = rest ∧ t.hub.rcd.clearing = none
         ∧ t.hub.get REC_STAT_CLEARING = 0 ∧ t.hub.get (flagFld 0x06 3) = 1 ∧ t.hub.rcd.newest = some r
         ∧ mapFind t.hub.rcd.store s.hub.ringHead = some (r.words (ringSlot s.hub.ringHead 1) 0)
         ∧ s.frame [] tracePages t))

/-- A link port's way to UP and back (14 R376, R398–R400, R407): signal takes a DOWN port that is not silent to
training, lock to negotiation with nothing heard and its first NEG on the way; training ends after 500 µs and
negotiation 1 ms after the last NEG, and the port is silent for 1 ms; a NEG with the wrong role or with no common
version ends in its fault state, one that acknowledges brings the port UP with its highest version, full credits and,
on UP, the role; loss of an UP port, or its sixteenth symbol error of a frame, counts a retrain and empties its
buffers, and those that requests held on UP are free again. -/
def Obligations.LinkPortsTrainNegotiateAndFall : Prop :=
  ∀ (s : State) (p : LinkPort) (c : LinkLoss) (w : Word), s.hub.running = true →
    (s.hub.portSt p = 0 → (p = .up → s.hub.get DEV_STRAPS_HOSTSEL = 1) → (p = .dn → s.hub.cfgSafe STR_CTL_DNEN = 1) →
      (s.hub.side p).silent = 0 →
      ∃ t, exec (.portSignalDetect p) s = .next t ∧ t.hub.portSt p = 1 ∧ t.hub.side p = { s.hub.side p with run := 0 }
        ∧ s.frame [pState p] [] t) ∧
    (0 < (s.hub.side p).silent → exec (.portSignalDetect p) s = .next s) ∧
    (s.hub.portSt p = 1 →
      ∃ t, exec (.portTrained p) s = .next t ∧ t.hub.portSt p = 2 ∧ t.hub.side p = {}
        ∧ (s.hub.get TST_PKT_ACT = 0 → ∃ k : Packet, k.hdr.type = 0x50 ∧ k.hdr.ver = 0x10
            ∧ (p = .up → t.hub.link.sentUp = s.hub.link.sentUp ++ [k])
            ∧ (p = .dn → t.hub.link.sentDn = s.hub.link.sentDn ++ [k])
            ∧ bitsOf (nth k.payload 0 0) 0 3 = 7 ∧ bitsOf (nth k.payload 0 0) 8 2 = (match p with | .up => 2 | .dn => 1)
            ∧ bitsOf (nth k.payload 0 0) 10 1 = 0)
        ∧ s.frame [pState p, TST_PKT_COUNT, TST_PKT_ACT] [] t) ∧
    (s.hub.portSt p = 1 → 5 ≤ (s.hub.side p).run →
      ∃ t, exec (.portTrainTimeout p) s = .next t ∧ t.hub.portSt p = 0 ∧ (t.hub.side p).silent = 10
          ∧ s.frame [pState p] (0x01 :: tracePages) t) ∧
    (s.hub.portSt p = 2 → 10 ≤ (s.hub.side p).run →
      ∃ t, exec (.portTrainTimeout p) s = .next t ∧ t.hub.portSt p = 0 ∧ (t.hub.side p).silent = 10
        ∧ t.hub.get (flagFld 0x0C 1) = 1
        ∧ s.frame [pState p, flagFld 0x0C 1] (0x01 :: tracePages) t) ∧
    ((s.hub.side p).run < 5 → exec (.portTrainTimeout p) s = .next s) ∧
    (s.hub.portSt p = 3 → c ≠ .negTimeout → (c = .symErrors → 16 ≤ (s.hub.side p).symRun) →
      ∃ t, exec (.linkDown p c) s = .next t ∧ t.hub.portSt p = 0 ∧ t.hub.get (flagFld 0x0C 1) = 1
        ∧ t.hub.get (pRetrains p) = min (s.hub.get (pRetrains p) + 1) 65535 ∧ t.hub.link.fwd = []
        ∧ (p = .up → t.hub.link.inbox = [] ∧ t.hub.link.bulk = [])
        ∧ (p = .dn → ∀ k, k < 3 → t.hub.get (credDn k) = 0)
        ∧ s.frame [pState p, pRetrains p, wholeFld STR_CRED_DN_REG, flagFld 0x0C 1] (0x01 :: tracePages) t) ∧
    (s.hub.portSt p = 2 → bitsOf w 8 2 ∉ (match p with | .up => [0, 1] | .dn => [2]) →
      ∃ t, exec (.neg p w) s = .next t ∧ t.hub.portSt p = 4 ∧ t.hub.get (flagFld 0x0C 2) = 1
        ∧ t.hub.side p = { s.hub.side p with run := 0 }
        ∧ s.frame [pState p, pMask p, pRole p, pValid p, flagFld 0x0C 2] tracePages t) ∧
    (s.hub.portSt p = 2 → bitsOf w 8 2 ∈ (match p with | .up => [0, 1] | .dn => [2]) → bitsOf w 0 3 = 0 →
      ∃ t, exec (.neg p w) s = .next t ∧ t.hub.portSt p = 5 ∧ t.hub.get (flagFld 0x0C 3) = 1
        ∧ t.hub.side p = { s.hub.side p with run := 0 }
        ∧ s.frame [pState p, pMask p, pRole p, pValid p, flagFld 0x0C 3] tracePages t) ∧
    (s.hub.portSt p = 2 → bitsOf w 8 2 ∈ (match p with | .up => [0, 1] | .dn => [2]) → bitsOf w 0 3 ≠ 0 →
      bitsOf w 10 1 = 0 → (s.hub.side p).acked = false →
      ∃ t, exec (.neg p w) s = .next t ∧ t.hub.portSt p = 2 ∧ t.hub.side p = { s.hub.side p with heard := true, run := 0 }
        ∧ s.frame [pMask p, pRole p, pValid p] [] t) ∧
    (s.hub.portSt p = 2 → bitsOf w 8 2 ∈ (match p with | .up => [0, 1] | .dn => [2]) → bitsOf w 0 3 ≠ 0 →
      bitsOf w 10 1 = 1 →
      ∃ t, exec (.neg p w) s = .next t ∧ t.hub.portSt p = 3 ∧ t.hub.get (pHver p) = topVersion (bitsOf w 0 3)
        ∧ t.hub.get (flagFld 0x0C 0) = 1
        ∧ (∀ k, k < 3 → t.hub.get (match p with | .up => credUp k | .dn => credDn k) = 8)
        ∧ (p = .up → t.hub.get STR_STAT_ROLE = (if bitsOf w 8 2 = 0 then 1 else 2))
        ∧ s.frame [TST_PKT_COUNT, TST_PKT_ACT] (0x00 :: 0x02 :: 0x0C :: tracePages) t)

/-- A packet that fails a check is discarded and counted where its check counts; a port that is DOWN receives none (14
R376, R381).  Credits (14 R388, R394, R397): a CRED of the DN port adds its counts, at most 8, or with FULL replaces
them; a request that waited for its class then leaves, inside the window of its hop, or waits for it; a CRED with SYNC
on UP is answered FULL in the bulk window; CREDIT_RESYNC sends a CRED with SYNC in that window, and not while the lead
enumerates; after the second timeout every waiting request of the class is discarded. -/
def Obligations.DiscardsCountAndCreditsReturn : Prop :=
  (∀ (s : State) (p : LinkPort) (check : PktCheck) (hdr : Option Hdr), s.hub.running = true →
     (s.hub.portSt p = 0 → exec (.packetDiscard p check hdr) s = .next s) ∧
     (s.hub.portSt p ≠ 0 → ∃ t, exec (.packetDiscard p check hdr) s = .next t
       ∧ t.hub.get (STR_ERRA_UP_HCRC.nth (2 * portNum p)) =
           min (s.hub.get (STR_ERRA_UP_HCRC.nth (2 * portNum p)) + (if check = .hcrc then 1 else 0)) 65535
       ∧ t.hub.get (STR_ERRA_UP_SYM.nth (2 * portNum p)) =
           min (s.hub.get (STR_ERRA_UP_SYM.nth (2 * portNum p)) + (if check ∈ [.symbol, .idle] then 1 else 0)) 65535
       ∧ t.hub.get (STR_ERRB_UP_CRC.nth (2 * portNum p)) =
           min (s.hub.get (STR_ERRB_UP_CRC.nth (2 * portNum p)) + (if check ∈ [.crc, .symbol] then 1 else 0)) 65535
       ∧ t.hub.get (STR_ERRB_UP_BADEOP.nth (2 * portNum p)) =
           min (s.hub.get (STR_ERRB_UP_BADEOP.nth (2 * portNum p)) + (if check = .badEop then 1 else 0)) 255
       ∧ t.hub.get (STR_ERRB_UP_FMT.nth (2 * portNum p)) =
           min (s.hub.get (STR_ERRB_UP_FMT.nth (2 * portNum p)) + (if check = .fmt then 1 else 0)) 255
       ∧ t.hub.link.inbox = s.hub.link.inbox ∧ t.hub.link.bulk = s.hub.link.bulk ∧ t.hub.link.sentUp = s.hub.link.sentUp
       ∧ t.hub.link.sentDn = s.hub.link.sentDn
       ∧ s.frame [wholeFld (STR_ERRA_UP_SYM.nth (2 * portNum p)), wholeFld (STR_ERRB_UP_CRC.nth (2 * portNum p))] [] t)) ∧
  (∀ (s : State) (w : Word) (cls : CredClass) (port : Port), s.hub.running = true →
     (s.hub.portUp .dn = true → s.hub.link.fwd = [] →
       ∃ t, exec (.cred .dn w) s = .next t
         ∧ (∀ k, k < 3 → t.hub.get (credDn k) =
             (if bitsOf w 17 1 = 1 then min 8 (bitsOf w (4 * k) 4) else min 8 (s.hub.get (credDn k) + bitsOf w (4 * k) 4)))
         ∧ (bitsOf w 17 1 = 1 → t.hub.get STR_CREDCNT_RESYNCS = min (s.hub.get STR_CREDCNT_RESYNCS + 1) 65535)
         ∧ s.frame [credDn 0, credDn 1, credDn 2, STR_CREDCNT_RESYNCS] [] t) ∧
     (∀ f : FwdReq, s.hub.portUp .dn = true → s.hub.link.fwd = [f] → f.pkt.hdr.type = 0x10 → s.hub.get (credDn 0) = 0 →
       bitsOf w 17 1 = 0 → 1 ≤ bitsOf w 0 4 → s.hub.creditsHeld = false → s.hub.spiHost = false →
       s.hub.unreachable f.pkt = false →
       (s.hub.dnStart (wireCycles f.pkt.payload.length) = none →
         ∃ t, exec (.cred .dn w) s = .next t ∧ t.hub.link.fwd = [f] ∧ t.hub.link.sentDn = s.hub.link.sentDn
           ∧ s.frame [credDn 0, credDn 1, credDn 2] [] t) ∧
       (s.hub.dnStart (wireCycles f.pkt.payload.length) ≠ none →
       ∃ t, exec (.cred .dn w) s = .next t ∧ t.hub.link.fwd = [] ∧ t.hub.link.sentDn = s.hub.link.sentDn ++ [downPkt f.pkt]
         ∧ t.hub.get (credDn 0) = min 8 (bitsOf w 0 4) - 1 ∧ s.frame [wholeFld STR_CRED_DN_REG] [] t)) ∧
     (s.hub.portUp .up = true → bitsOf w 16 1 = 1 → s.hub.link.fwd = [] → s.hub.get TST_CRED_FRAMES = 0 →
       ∃ (t : State) (k : Packet), exec (.cred .up w) s = .next t ∧ t.hub.link.bulk = s.hub.link.bulk ++ [k]
         ∧ k.hdr.type = 0x52 ∧ t.hub.link.owed = [0, 0, 0]
         ∧ (∀ c, c < 3 → bitsOf (nth k.payload 0 0) (4 * c) 4 = s.hub.get (credUp c)) ∧ bitsOf (nth k.payload 0 0) 17 1 = 1
         ∧ s.frame [] [] t) ∧
     (s.hub.resyncDue = true → s.hub.creditsHeld = true ∨ s.hub.dnStart (wireCycles 1) = none →
       ∃ t, exec (.creditResync false port) s = .next t ∧ t.hub.link = { s.hub.link with syncDue := true }
           ∧ s.frame [] [] t) ∧
     (s.hub.resyncDue = true → s.hub.get TST_PKT_ACT = 0 → s.hub.creditsHeld = false → s.hub.dnStart (wireCycles 1) ≠ none →
       ∃ (t : State) (k : Packet), exec (.creditResync false port) s = .next t ∧ t.hub.link.syncing = true
         ∧ t.hub.link.sentDn = s.hub.link.sentDn ++ [k] ∧ k.hdr.type = 0x52 ∧ bitsOf (nth k.payload 0 0) 16 1 = 1
         ∧ s.frame [] [] t) ∧
     (s.hub.creditTimeoutDue (credNum cls) = true →
       ∃ t, exec (.creditTimeout cls) s = .next t
         ∧ (∀ f ∈ t.hub.link.fwd, classOf f.pkt.hdr.type.toNat ≠ some (credNum cls))
         ∧ t.hub.get STR_CREDCNT_TIMEOUTS = min (s.hub.get STR_CREDCNT_TIMEOUTS + 1) 65535
         ∧ t.hub.get (flagFld 0x0C 7) = 1
         ∧ s.frame [wholeFld STR_CRED_DN_REG, STR_CREDCNT_TIMEOUTS, flagFld 0x0C 7] tracePages t))

/-- Poll slots (14 R384–R385, R389): the reply latched in the last P2 goes out in the hub's slot with its position,
once, but for the frame and the GAP bit as it was latched; a reply the lead takes clears the slot's misses and shows
its attention bit; a slot that ends without one is counted missed; a follower passes replies on. -/
def Obligations.PollSlotsAreAnsweredOrMissed : Prop :=
  ∀ (s : State) (r : PollPkt) (pos : BitVec 4), s.hub.running = true →
    (s.hub.get STR_STAT_ROLE ≠ 0 → s.hub.posValid = true → s.hub.get STR_STAT_CUTOFF = 0 → s.hub.link.pollSend ≠ [] →
      s.hub.portUp .up = true → s.hub.get TST_PKT_ACT = 0 → s.hub.link.tentative = none →
      ∃ (t : State) (k : Packet), exec .pollSlotTx s = .next t ∧ t.hub.link.sentUp = s.hub.link.sentUp ++ [k]
        ∧ k.hdr.type = 0x02 ∧ k.hdr.dest = 0xF ∧ k.hdr.src.toNat = s.hub.pos
        ∧ nth k.payload 0 0 = BitVec.ofNat 32 (if s.hub.isLead = true then s.hub.get FRM_NO_NO else s.hub.link.lastTick)
        ∧ (∀ i ∈ [1, 3, 4, 5, 6], nth k.payload i 0 = nth s.hub.link.pollSend i 0)
        ∧ bitsOf (nth k.payload 2 0) 21 1 = s.hub.get SEC_STAT_GAP
        ∧ t.hub.link.pollSend = [] ∧ t.hub.bud.replied = true
        ∧ (t.hub.bud.hbReplied = true ↔ s.hub.bud.hbReplied = true ∨ bitsOf (nth s.hub.link.pollSend 2 0) 15 1 = 0)
        ∧ s.frame [] [] t) ∧
    (s.hub.portUp .dn = true → s.hub.isLead = true → 0 < r.src.toNat → r.src.toNat < s.hub.get STR_STAT_LIVE →
      (nth s.hub.link.reps r.src.toNat {}).got = false →
      ∃ t, exec (.poll r) s = .next t ∧ t.hub.get (STR_POS_CONSEC.nth r.src.toNat) = 0
        ∧ (t.hub.get STR_LIVE_MISSNOW).testBit r.src.toNat = false
        ∧ ((t.hub.get STR_ATTN_ATTN).testBit r.src.toNat = true ↔ bitsOf (nth r.words 2 0) 20 1 = 1)
        ∧ (nth t.hub.link.reps r.src.toNat {}).got = true ∧ (nth t.hub.bud.reports r.src.toNat {}).fresh = true
        ∧ (nth t.hub.bud.reports r.src.toNat {}).d = bitsOf (nth r.words 1 0) 0 12
        ∧ s.frame [] (0x0C :: irqPages) t) ∧
    (s.hub.portUp .dn = true → s.hub.isLead = false → s.hub.portUp .up = true →
      ∃ (t : State) (k : Packet), exec (.poll r) s = .next t ∧ t.hub.link.sentUp = s.hub.link.sentUp ++ [k]
        ∧ k.payload = r.words ∧ k.hdr.src = r.src ∧ s.frame [credDn 0, credDn 1, credDn 2] [] t) ∧
    (s.hub.slotJudged pos.toNat = true →
      ∃ t, exec (.pollSlotEnd pos) s = .next t ∧ (t.hub.get STR_LIVE_MISSNOW).testBit pos.toNat = true
        ∧ t.hub.get (STR_POS_MISSES.nth pos.toNat) = min (s.hub.get (STR_POS_MISSES.nth pos.toNat) + 1) 65535
        ∧ t.hub.get (STR_POS_CONSEC.nth pos.toNat) = min (s.hub.get (STR_POS_CONSEC.nth pos.toNat) + 1) 3
        ∧ t.hub.get (flagFld 0x0C 11) = 1
        ∧ s.frame [STR_POS_CONSEC.nth pos.toNat, STR_POS_MISSES.nth pos.toNat, STR_LIVE_MISSNOW,
            flagFld 0x0C 11] irqPages t)

/-- STRING_CUTOFF fences every channel and the SEC page with cause 4 and takes the hub to its string-lost state;
CUTOFF_CLEAR ends it and leaves the fences standing (14 R391–R392).  Enumeration and wake sequences (14 R402–R404,
R406): on a follower RESET takes its position, ASSIGN is taken tentatively and answered, PROBE is echoed, SET gives
position, TOFS, epoch and TXCYC, DONE the string; what is for another goes on down; the lead notes ACK and ECHO of the
position it asks; an assignment without SET lapses; a wake sequence wakes a hub in NAP and goes on, but for UP behind
an SPI host. -/
def Obligations.CutoffAndEnumeration : Prop :=
  (∀ (s : State), s.hub.running = true →
     (s.hub.cutoffIsDue = true →
       ∃ t, exec .stringCutoff s = .next t ∧ t.hub.get STR_STAT_CUTOFF = 1 ∧ t.hub.md.stringLost = true
         ∧ t.hub.get (flagFld 0x0C 6) = 1 ∧ t.hub.hasCause 0x16 4 = true
         ∧ (∀ n, n < s.hub.nch → t.hub.hasCause (chPage n) 4 = true)
         ∧ s.frame [STR_STAT_CUTOFF, flagFld 0x0C 6, flagFld 0x0D 6]
             (0x16 :: ((List.range 64).map chPage ++ geyPages)) t) ∧
     (s.hub.cutoffClearDue = true →
       ∃ t, exec .cutoffClear s = .next t ∧ t.hub.get STR_STAT_CUTOFF = 0 ∧ t.hub.md.stringLost = false
         ∧ t.hub.md.loseCount = 0 ∧ (∀ p, t.hub.fenced p = s.hub.fenced p) ∧ s.frame [STR_STAT_CUTOFF] [] t)) ∧
  (∀ (s : State) (epoch cred : Byte) (pos : BitVec 4) (tofs : BitVec 16) (n : BitVec 5) (ver : BitVec 2) (id serial : Word)
     (rtt : Nat), s.hub.running = true →
     (s.hub.isFollower = true →
       (∃ t, exec (.enumReset epoch) s = .next t ∧ t.hub.get DEV_POS_VALID = 0 ∧ t.hub.link.tentative = none
         ∧ s.frame [DEV_POS_VALID, STR_PORTDN_PEERVALID] [] t) ∧
       (s.hub.posValid = false →
         ∃ (t : State) (k : Packet), exec (.enumAssign pos) s = .next t ∧ t.hub.link.tentative = some (pos.toNat, 0)
           ∧ t.hub.link.bulk = s.hub.link.bulk ++ [k] ∧ k.hdr.type = 0x51 ∧ nth k.payload 0 0 = 8 ∧ s.frame [] [] t) ∧
       (s.hub.posValid = true → s.hub.portUp .dn = true →
         ∃ (t : State) (k : Packet), exec (.enumAssign pos) s = .next t ∧ t.hub.link.sentDn = s.hub.link.sentDn ++ [k]
           ∧ k.payload = [1, BitVec.ofNat 32 pos.toNat] ∧ s.frame [] [] t) ∧
       (s.hub.holdsPos pos.toNat = true → s.hub.portUp .up = true → s.hub.get TST_PKT_ACT = 0 →
         ∃ (t : State) (k : Packet), exec (.enumProbe pos) s = .next t ∧ t.hub.link.sentUp = s.hub.link.sentUp ++ [k]
           ∧ k.hdr.type = 0x51 ∧ k.payload = [9] ∧ s.frame [] [] t) ∧
       (s.hub.holdsPos pos.toNat = true →
         ∃ (t : State) (k : Packet), exec (.enumSet pos tofs epoch) s = .next t ∧ t.hub.get DEV_POS_POS = pos.toNat
           ∧ t.hub.get DEV_POS_VALID = 1 ∧ t.hub.get FRM_TOFS_TOFS = tofs.toNat ∧ t.hub.get STR_STAT_EPOCH = epoch.toNat
           ∧ t.hub.get STR_SLOT_TXCYC = slotCyc pos.toNat tofs.toNat ∧ t.hub.link.tentative = none
           ∧ t.hub.link.bulk = s.hub.link.bulk ++ [k] ∧ nth k.payload 0 0 = 8
           ∧ s.frame [DEV_POS_POS, DEV_POS_VALID, FRM_TOFS_TOFS, STR_STAT_EPOCH, STR_SLOT_TXCYC] [] t) ∧
       (∃ t, exec (.enumDone n ver) s = .next t ∧ t.hub.get STR_STAT_NHUBS = n.toNat ∧ t.hub.get STR_STAT_SVER = ver.toNat
         ∧ s.frame [STR_STAT_NHUBS, STR_STAT_SVER] [] t)) ∧
     (∀ e : EnumRun, s.hub.isLead = true → s.hub.link.enum = some e → e.pos = pos.toNat →
       (e.step = 1 →
         ∃ t, exec (.enumAck pos cred id serial ver) s = .next t
           ∧ t.hub.link.enum = some { e with answered := true, hver := ver.toNat }
           ∧ s.frame [credDn 0, credDn 1, credDn 2] [] t) ∧
       (e.step = 10 →
         ∃ t, exec (.enumAck pos cred id serial ver) s = .next t ∧ t.hub.link.enum = some { e with answered := true }
           ∧ s.frame [credDn 0, credDn 1, credDn 2] [] t) ∧
       (2 ≤ e.step → e.step ≤ 9 → e.rtts.length + 2 ≤ e.step →
         ∃ t, exec (.enumEcho pos cred rtt) s = .next t ∧ t.hub.link.enum = some { e with rtts := e.rtts ++ [rtt] }
           ∧ s.frame [credDn 0, credDn 1, credDn 2] [] t)) ∧
     (∀ q k, s.hub.link.tentative = some (q, k) → 20 ≤ k →
       ∃ t, exec .assignTimeout s = .next t ∧ t.hub.get DEV_POS_VALID = 0 ∧ t.hub.link.tentative = none
         ∧ s.frame [DEV_POS_VALID] [] t) ∧
     (s.hub.spiHost = true → exec (.linkWake .up) s = .next s) ∧
     (∀ p : LinkPort, s.hub.mode = mNAP → (p = .up → s.hub.spiHost = false) →
       ∃ t, exec (.linkWake p) s = .next t ∧ t.hub.md = { s.hub.md with waking := true }
         ∧ (p = .up → t.hub.link.wakeDn = true) ∧ (p = .dn → t.hub.link.wakeUp = !s.hub.spiHost) ∧ s.frame [] [] t))

/-- A request for this hub executes as it arrives, once nothing stands before it (14 R379, R381, 15 R410–R412,
R415–R423): one that fails the format check is discarded and counted; the response of any other waits in the bulk
window with the request's SEQ and TAG; RD carries a status and a word for each register, WR the status of its items,
TBL two words; SRD becomes a stream; a format error is answered with 2; the credit it took is back. -/
def Obligations.RequestsExecuteOnArrival : Prop :=
  ∀ (s : State) (x : Hdr) (p : List Word) (cyc : Nat), s.hub.running = true → s.hub.portUp .up = true →
    s.hub.posValid = true → s.hub.pos = x.dest.toNat → s.hub.link.inbox = [] → s.hub.link.streams.length < 8 →
    s.hub.creditsHeld = false → s.hub.spiHost = false → s.hub.get STR_STAT_SVER = 2 →
    (64 < p.length ∨ (verByte (s.hub.get (pHver .up))).toNat < x.ver.toNat →
      ∀ c ∈ [Instr.rd x p cyc, .wr x p cyc, .tbl x p cyc, .srd x p],
        ∃ t, exec c s = .next t ∧ t.hub.get STR_ERRB_UP_FMT = min (s.hub.get STR_ERRB_UP_FMT + 1) 255
          ∧ t.hub.link.bulk = s.hub.link.bulk ∧ t.hub.link.streams = s.hub.link.streams ∧ s.frame [STR_ERRB_UP_FMT] [] t) ∧
    (p.length ≤ 64 → x.ver.toNat ≤ (verByte (s.hub.get (pHver .up))).toNat → cyc ≤ 38000 →
      (∃ (t : State) (k : Packet), exec (.rd x p cyc) s = .next t ∧ t.hub.link.inbox = []
        ∧ t.hub.link.bulk = s.hub.link.bulk ++ [k] ∧ k.hdr.type = 0x11 ∧ k.hdr.seq = x.seq ∧ k.hdr.tag = x.tag
        ∧ k.hdr.src = x.dest
        ∧ (rdFormat 2 p = false → k.payload = [2])
        ∧ (rdFormat 2 p = true →
            k.payload.length = 1 + (bitsOf (nth p 0 0) 16 6 + 3) / 4 + bitsOf (nth p 0 0) 16 6
            ∧ k.payload.getLast? = some t.hub.acc.data)
        ∧ t.pending = s.pending) ∧
      (∃ (t : State) (k : Packet), exec (.wr x p cyc) s = .next t ∧ t.hub.link.inbox = []
        ∧ t.hub.link.bulk = s.hub.link.bulk ++ [k] ∧ k.hdr.type = 0x13 ∧ k.hdr.seq = x.seq ∧ k.hdr.tag = x.tag
        ∧ (wrFormat 2 p = false → k.payload = [2])
        ∧ (wrFormat 2 p = true → k.payload.length = 1 + (bitsOf (nth p 0 0) 0 6 + 3) / 4
            ∧ (bitsOf (nth p 0 0) 0 6 = 1 →
                k.payload = [BitVec.ofNat 32 ((if t.hub.acc.status = 0 then 0 else 1) + 256 + 65536),
                  BitVec.ofNat 32 t.hub.acc.status]))
        ∧ t.pending = s.pending)) ∧
    (p.length ≤ 64 → x.ver.toNat ≤ (verByte (s.hub.get (pHver .up))).toNat → cyc ≤ 38800 → s.hub.frm.p1Due = false →
      ∃ (t : State) (k : Packet), exec (.tbl x p cyc) s = .next t ∧ t.hub.link.inbox = []
        ∧ t.hub.link.bulk = s.hub.link.bulk ++ [k] ∧ k.hdr.type = 0x21 ∧ k.hdr.seq = x.seq ∧ k.hdr.tag = x.tag
        ∧ (p.length % 2 = 1 ∨ p = [] → k.payload = [2])
        ∧ (p.length % 2 = 0 → p ≠ [] → k.payload.length = 2) ∧ t.pending = s.pending) ∧
    (p.length ≤ 64 → x.ver.toNat ≤ (verByte (s.hub.get (pHver .up))).toNat → srdFormat p = false →
      ∃ (t : State) (k : Packet), exec (.srd x p) s = .next t ∧ t.hub.link.bulk = s.hub.link.bulk ++ [k]
        ∧ k.hdr.type = 0x39 ∧ k.payload = [2] ∧ t.pending = s.pending) ∧
    (x.ver.toNat ≤ (verByte (s.hub.get (pHver .up))).toNat → srdFormat p = true → bitsOf (nth p 0 0) 0 8 = 0x20 →
      (nth p 1 0).toNat < 1088 →
      ∃ (t : State) (q : Stream), exec (.srd x p) s = .next t ∧ t.hub.link.streams = s.hub.link.streams ++ [q]
        ∧ q.source = 0x20 ∧ q.next = (nth p 1 0).toNat
        ∧ q.left = min (nth p 2 0).toNat (1088 - (nth p 1 0).toNat)
        ∧ (q.short = true ↔ 1088 - (nth p 1 0).toNat < (nth p 2 0).toNat)
        ∧ t.hub.link.bulk = s.hub.link.bulk ∧ t.pending = s.pending)

/-- Packets pass, streams are cut into parts, responses leave (14 R386–R388, 15 R411, R422, R424, R429): a packet that
is no request goes down in its turn, or waits for it; one that fails a check goes down marked bad where it may start
as it arrives, else it is discarded, a wrong format counted; a follower passes replies up; SNAP is judged, goes down
in its turn, and counts as a format error with string version 0; the oldest stream yields a part of at most 61 words,
the last one marked; the oldest response leaves on UP inside the bulk window, or on an SPI lead joins the queue of
HMISO. -/
def Obligations.PacketsPassAndStream : Prop :=
  ∀ (s : State) (k : Packet) (bad : Bool) (x : Hdr) (p : List Word) (q : Stream) (rest : List Stream) (ks : List Packet),
    s.hub.running = true →
    (s.hub.portUp .up = true → s.hub.portUp .dn = true → classOf k.hdr.type.toNat = none →
      k.bad = false → bad = false → s.hub.fmtBad .up k = false →
      (s.hub.link.fwd = [] → s.mayForward k s.hub.dnIdle = true →
        ∃ t, exec (.packetForward .up k bad) s = .next t
          ∧ t.hub.link = { s.hub.link with sentDn := s.hub.link.sentDn ++ [downPkt k], dnFree := t.hub.link.dnFree }
          ∧ s.frame [STR_PORTDN_PEERVALID] [] t) ∧
      (s.hub.link.fwd ≠ [] ∨ s.mayForward k s.hub.dnIdle = false →
        ∃ t, exec (.packetForward .up k bad) s = .next t
          ∧ t.hub.link = { s.hub.link with fwd := s.hub.link.fwd ++ [{ pkt := k }] } ∧ s.frame [] [] t)) ∧
    (s.hub.portUp .up = true → s.hub.portUp .dn = true → classOf k.hdr.type.toNat = none →
      k.bad = true ∨ bad = true ∨ s.hub.fmtBad .up k = true →
      (s.hub.link.fwd = [] → s.mayForward k s.hub.dnIdle = true →
        ∃ t, exec (.packetForward .up k bad) s = .next t
          ∧ t.hub.link = { s.hub.link with
              sentDn := s.hub.link.sentDn ++ [downPkt { k with bad := true }], dnFree := t.hub.link.dnFree }
          ∧ t.hub.get STR_ERRB_UP_FMT = (if k.bad = false ∧ bad = false
              then min (s.hub.get STR_ERRB_UP_FMT + 1) 255 else s.hub.get STR_ERRB_UP_FMT)
          ∧ s.frame [STR_ERRB_UP_FMT] [] t) ∧
      (s.hub.link.fwd ≠ [] ∨ s.mayForward k s.hub.dnIdle = false →
        ∃ t, exec (.packetForward .up k bad) s = .next t ∧ t.hub.link = s.hub.link
          ∧ t.hub.get STR_ERRB_UP_FMT = (if k.bad = false ∧ bad = false
              then min (s.hub.get STR_ERRB_UP_FMT + 1) 255 else s.hub.get STR_ERRB_UP_FMT)
          ∧ s.frame [STR_ERRB_UP_FMT] [] t)) ∧
    (s.hub.portUp .dn = true → s.hub.portUp .up = true → s.hub.get STR_STAT_ROLE = 2 → s.hub.spiHost = false →
      k.hdr.type ≠ 0x52 → s.hub.link.fwd = [] → k.bad = true ∨ bad = true ∨ s.hub.fmtBad .dn k = false →
      ∃ (t : State) (c : Byte), exec (.packetForward .dn k bad) s = .next t
        ∧ t.hub.link.sentUp = s.hub.link.sentUp ++ [{ k with hdr := { k.hdr with cred := c }, bad := k.bad || bad }]
        ∧ s.frame [credDn 0, credDn 1, credDn 2] [] t) ∧
    (s.hub.portUp .up = true → 1 ≤ s.hub.get STR_STAT_SVER → 0 < diff32 (nth p 0 0).toNat s.hub.frmNo →
      diff32 (nth p 0 0).toNat s.hub.frmNo < 2 ^ 20 → (∀ e ∈ s.hub.mea.snapPend, e.1 ≠ (nth p 0 0).toNat) →
      s.hub.mea.snapPend.length < 2 → s.hub.fmtBad .up { hdr := { x with type := 0x30 }, payload := p } = false →
      ∃ t, exec (.snap x p) s = .next t ∧ ((nth p 0 0).toNat, 0, s.hub.frmNo) ∈ t.hub.mea.snapPend
        ∧ t.hub.mea.snapPend.length = s.hub.mea.snapPend.length + 1
        ∧ (s.hub.portUp .dn = true → s.hub.link.fwd = [] →
            s.mayForward { hdr := { x with type := 0x30 }, payload := p } s.hub.dnIdle = true → t.hub.link.sentDn =
            s.hub.link.sentDn ++ [downPkt { hdr := { x with type := 0x30 }, payload := p }])
        ∧ (s.hub.portUp .dn = true →
            s.hub.link.fwd ≠ [] ∨ s.mayForward { hdr := { x with type := 0x30 }, payload := p } s.hub.dnIdle = false →
            t.hub.link.fwd = s.hub.link.fwd ++ [{ pkt := { hdr := { x with type := 0x30 }, payload := p } }])
        ∧ s.frame [SNAP_STAT_PEND, SNAP_PEND0_FRAME, SNAP_PEND1_FRAME] [] t) ∧
    (s.hub.portUp .up = true → s.hub.get STR_STAT_SVER = 0 →
      ∃ t, exec (.snap x p) s = .next t ∧ t.hub.get STR_ERRB_UP_FMT = min (s.hub.get STR_ERRB_UP_FMT + 1) 255
        ∧ t.hub.mea = s.hub.mea ∧ s.frame [STR_ERRB_UP_FMT] [] t) ∧
    (s.hub.link.streams = q :: rest → q.hdr.type = 0x38 → q.source < 256 →
      ∃ (t : State) (r : Packet), exec .srdrPart s = .next t ∧ t.hub.link.bulk = s.hub.link.bulk ++ [r]
        ∧ r.hdr.type = 0x39 ∧ r.hdr.seq = q.hdr.seq ∧ r.hdr.tag = q.hdr.tag ∧ r.payload.length = 3 + min 61 q.left
        ∧ bitsOf (nth r.payload 0 0) 8 8 = q.part % 256 ∧ bitsOf (nth r.payload 0 0) 16 8 = q.source
        ∧ bitsOf (nth r.payload 0 0) 24 1 = (if q.left ≤ 61 then 1 else 0) ∧ nth r.payload 1 0 = BitVec.ofNat 32 q.next
        ∧ (∀ i, i < min 61 q.left → nth r.payload (3 + i) 0 = (s.hub.sourceWord q.source (q.next + i)).1)
        ∧ (q.left ≤ 61 → t.hub.link.streams = rest)
        ∧ (61 < q.left → t.hub.link.streams =
            { q with next := q.next + 61, left := q.left - 61, part := q.part + 1 } :: rest)
        ∧ s.frame [] [] t) ∧
    (s.hub.spiHost = false → s.hub.link.bulk = k :: ks → s.hub.bulkStart k = none → exec .responseSend s = .next s) ∧
    (s.hub.link.bulk = k :: ks → s.hub.spiHost = false → s.hub.portUp .up = true → s.hub.get TST_PKT_ACT = 0 →
      s.hub.bulkStart k ≠ none →
      ∃ (t : State) (c : Byte), exec .responseSend s = .next t ∧ t.hub.link.bulk = ks
        ∧ t.hub.link.sentUp = s.hub.link.sentUp ++ [{ k with hdr := { k.hdr with cred := c } }] ∧ s.frame [] [] t) ∧
    (s.hub.link.bulk = k :: ks → s.hub.spiHost = true → k.bad = false →
      k.hdr.type.toNat ∈ [0x11, 0x13, 0x21, 0x39] →
      ∃ t, exec .responseSend s = .next t ∧ t.hub.link.bulk = ks ∧ t.spi = { s.spi with queue := s.spi.queue ++ [k] }
        ∧ t.pending = s.pending ∧ t.irq = s.irq ∧ s.hub.only [] [] t.hub)

/-- SPI transactions (15 R427–R429): at the falling edge of HCS# the port prepares eight bytes of status, the first of
them the result of the previous request, and the packet at the head of its queue; at the rising edge a packet clocked
out whole has left, and the request is judged: none (1), a wrong header check (2, counted), no credit (5), or accepted
(0). -/
def Obligations.SpiTransactions : Prop :=
  ∀ (s : State) (mosi : List Byte) (clocked : Nat), s.hub.running = true → s.hub.spiHost = true →
    (s.spi.selected = false →
      ∃ t, exec .spiTransactionStart s = .next t ∧ t.hub = s.hub ∧ t.irq = s.irq ∧ t.pending = s.pending
        ∧ t.spi = { s.spi with selected := true, out := t.spi.out }
        ∧ t.spi.out.length = 8 + (match s.spi.queue with | [] => 0 | k :: _ => pktSize k)
        ∧ nth t.spi.out 0 0 = BitVec.ofNat 8 s.spi.prev) ∧
    (∀ (b : List Nat), b = (mosi.take clocked).map (·.toNat) → s.spi.selected = true → s.hub.link.inbox = [] →
      s.hub.link.fwd = [] →
      (nth b 0 0 = 0 →
        ∃ t, exec (.spiTransactionEnd mosi clocked) s = .next t ∧ t.hub = s.hub ∧ t.irq = s.irq ∧ t.pending = s.pending
          ∧ t.spi.queue = (if 8 < s.spi.out.length ∧ s.spi.out.length ≤ clocked then s.spi.queue.drop 1 else s.spi.queue)
          ∧ t.spi.selected = false ∧ t.spi.out = [] ∧ t.spi.prev = 1 ∧ t.spi.prevTag = 0) ∧
      (nth b 0 0 ≠ 0 → 8 ≤ b.length → crc8 (b.take 7) ≠ nth b 7 0 →
        ∃ t, exec (.spiTransactionEnd mosi clocked) s = .next t ∧ t.spi.prev = 2 ∧ t.spi.prevTag = nth b 4 0
          ∧ t.hub.get STR_ERRA_UP_HCRC = min (s.hub.get STR_ERRA_UP_HCRC + 1) 65535
          ∧ s.hub.only [STR_ERRA_UP_HCRC] [] t.hub ∧ t.irq = s.irq ∧ t.pending = s.pending) ∧
      (∀ (k : Packet) (c : Nat), spiRequest (s.hub.get STR_STAT_SVER) b = (0, some k) → classOf k.hdr.type.toNat = some c →
        (s.hub.get (credUp c) = 0 →
          ∃ t, exec (.spiTransactionEnd mosi clocked) s = .next t ∧ t.spi.prev = 5 ∧ t.hub = s.hub ∧ t.irq = s.irq
            ∧ t.pending = s.pending) ∧
        (s.hub.get (credUp c) ≠ 0 →
          ∃ t, exec (.spiTransactionEnd mosi clocked) s = .next t ∧ t.spi.prev = 0 ∧ t.spi.prevTag = nth b 4 0
            ∧ t.spi.selected = false ∧ t.spi.out = [] ∧ t.pending = s.pending)))

/-- Transactions of the two-wire port (16 R432–R437, R439, R446): none is served before the first tick; a READ answers
the status and the four bytes, with a PEC where it is asked for; a WRITE of six bytes executes and TWB_LAST shows its
status and index, one with a wrong PEC does not; ATTN shows the vector and clears what it shows; a frame that breaks
its format is counted; in a busy window nothing is acknowledged.  The line of the two-wire port (16 R437–R444): the
lowest address that holds ALERT# low answers, with a PEC where it is asked for, and wins; a bus time-out enters
recovery; a pulse, a collision, the end of a busy window with its quiet time, and a reminder that makes the attention
unseen again. -/
def Obligations.TwoWireTransactionsAndLine : Prop :=
  (∀ (s : State) (idx : BitVec 16) (pec : Bool) (cyc : Nat) (cmd : Byte) (b : List Byte), s.hub.running = true →
     (s.hub.frm.first = true → s.hub.windowOver = false →
       ∀ c ∈ [Instr.twbRead idx pec cyc, .twbWrite cmd b cyc, .attn pec, .last pec, .formatError cmd 1],
           exec c s = .next s) ∧
     (s.hub.frm.first = false → s.hub.twbBusy = true → s.hub.windowOver = false →
       ∀ c ∈ [Instr.twbRead idx pec cyc, .twbWrite cmd b cyc, .attn pec, .last pec, .formatError cmd 1],
         ∃ t, exec c s = .next t ∧ t.hub.get TWB_CNT_NACKBUSY = min (s.hub.get TWB_CNT_NACKBUSY + 1) 255
           ∧ s.regFrame [TWB_CNT_NACKBUSY] [] t) ∧
     (s.hub.frm.first = false → s.hub.twbBusy = false →
       (idx.toNat ∉ [IRQ_ACKE_VECTOR.idx, IRQ_ACKW_VECTOR.idx] → s.hub.byteBad .w idx.toNat = false →
         ∃ t, exec (.twbRead idx pec cyc) s = .next t
           ∧ t.hub.twb.out = answerBytes [s.hub.twbAddr, 0x20, idx.toNat % 256, idx.toNat / 256, s.hub.twbAddr + 1]
               (t.hub.acc.status :: wordBytes t.hub.acc.data) pec
           ∧ s.frame [⟨idx.toNat, 0, 32⟩] [] t) ∧
       (0x31 ≤ cmd.toNat → cmd.toNat ≤ 0x3F → b.length = 6 → s.hub.cfgSafe TWB_CTL_PEC_EN = 0 →
         ∃ t, exec (.twbWrite cmd b cyc) s = .next t ∧ t.hub.twb.out = []
           ∧ t.hub.word TWB_LAST_LAST.idx = BitVec.ofNat 32 (t.hub.acc.status + (nth b 0 0).toNat * 2 ^ 8
               + (nth b 1 0).toNat * 2 ^ 16
               + (bitsOf (s.hub.word TWB_LAST_LAST.idx) 24 8 + 1) % 256 * 2 ^ 24)
           ∧ t.pending = s.pending) ∧
       (0x31 ≤ cmd.toNat → cmd.toNat ≤ 0x3F → 7 ≤ b.length →
         (nth b 6 0).toNat ≠ crc8 (s.hub.twbAddr :: cmd.toNat :: (b.take 6).map (·.toNat)) →
         ∃ t, exec (.twbWrite cmd b cyc) s = .next t ∧ t.hub.get TWB_CNT_PECERR = min (s.hub.get TWB_CNT_PECERR + 1) 255
           ∧ t.hub.get (flagFld 0x0B 1) = 1 ∧ t.hub.twb.pecerr = true
           ∧ s.frame [TWB_CNT_PECERR, flagFld 0x0B 1] tracePages t) ∧
       (0x31 ≤ cmd.toNat → cmd.toNat ≤ 0x3F → b.length < 6 →
         ∃ t, exec (.twbWrite cmd b cyc) s = .next t ∧ t.hub.get TWB_CNT2_FMT = min (s.hub.get TWB_CNT2_FMT + 1) 65535
           ∧ t.hub.get (flagFld 0x0B 2) = 1 ∧ s.frame [TWB_CNT2_FMT, flagFld 0x0B 2] tracePages t) ∧
       (∃ t, exec (.attn pec) s = .next t
         ∧ t.hub.twb.out = answerBytes [s.hub.twbAddr, 0xF0, s.hub.twbAddr + 1] (wordBytes s.twbSettle.twbAttn) pec
         ∧ t.hub.get TWB_STAT_UNSEEN = 0 ∧ t.hub.twb.seen = s.twbSettle.presents .w ∧ t.hub.twb.tmo = false
         ∧ t.hub.twb.pecerr = false ∧ t.hub.twb.sinceAttn = 0
         ∧ (s.twbSettle.hub.twb.araWon = true → t.hub.get TWB_STAT_ALERT = 0 ∧ t.hub.get TWB_STAT_RECOVERY = 0)
         ∧ s.frame [TWB_STAT_UNSEEN, TWB_STAT_ALERT, TWB_STAT_RECOVERY] [] t) ∧
       (∃ t, exec (.last pec) s = .next t
         ∧ t.hub.twb.out =
             answerBytes [s.hub.twbAddr, 0xF1, s.hub.twbAddr + 1] (wordBytes (BitVec.ofNat 32 (s.hub.cfgSafe TWB_LAST_LAST))) pec
         ∧ s.frame [] [] t) ∧
       (∀ cause : Byte, cause.toNat = fmtCause cmd.toNat → cause ≠ 0 →
         ∃ t, exec (.formatError cmd cause) s = .next t
           ∧ t.hub.get TWB_CNT2_FMT = min (s.hub.get TWB_CNT2_FMT + 1) 65535 ∧ t.hub.get (flagFld 0x0B 2) = 1
           ∧ s.frame [TWB_CNT2_FMT, flagFld 0x0B 2] tracePages t))) ∧
  (∀ (s : State) (lost mid pec : Bool), s.hub.running = true →
     (s.hub.frm.first = false → s.twbSettle.hub.flag TWB_STAT_ALERT = true →
       ∃ t, exec (.alertResponse ⟨lost, pec⟩) s = .next t
         ∧ (lost = false → t.hub.twb.araWon = true ∧ t.hub.twb.out = answerBytes [0x19] [s.hub.twbAddr] pec)
             ∧ (lost = true → t.hub.twb.out = [])
         ∧ t.hub.get TWB_STAT_ALERT = 1 ∧ s.frame [TWB_STAT_UNSEEN, TWB_STAT_ALERT] [] t) ∧
     (∃ t, exec (.busTimeout mid) s = .next t ∧ t.hub.get TWB_CNT_TIMEOUT = min (s.hub.get TWB_CNT_TIMEOUT + 1) 255
       ∧ t.hub.get TWB_STAT_RECOVERY = 1 ∧ t.hub.twb.tmo = true ∧ t.hub.twb.out = [] ∧ t.hub.get (flagFld 0x0B 0) = 1
       ∧ s.frame [TWB_CNT_TIMEOUT, TWB_STAT_RECOVERY, flagFld 0x0B 0] tracePages t) ∧
     (s.pulseDue = true →
       ∃ t, exec .inbandPulse s = .next t ∧ t.hub.get TWB_CNT2_PULSES = (s.hub.get TWB_CNT2_PULSES + 1) % 2 ^ 16
         ∧ t.hub.twb.pulsed = true ∧ t.hub.twb.pulseVec = some (s.presents .w) ∧ t.hub.twb.collided = false
         ∧ s.frame [TWB_CNT2_PULSES, TWB_STAT_UNSEEN, TWB_STAT_ALERT] [] t) ∧
     (s.hub.collideDue = true →
       ∃ t, exec .collide s = .next t ∧ t.hub.get TWB_CNT_COLLIDE = min (s.hub.get TWB_CNT_COLLIDE + 1) 255
         ∧ t.hub.get (flagFld 0x0B 3) = 1 ∧ t.hub.twb = { s.hub.twb with collided := true }
         ∧ s.frame [TWB_CNT_COLLIDE, flagFld 0x0B 3] irqPages t) ∧
     (s.hub.windowOver = true →
       ∃ t, exec .busyWindowClose s = .next t ∧ t.hub.twb = { s.hub.twb with commit := none, quiet := 0 }
         ∧ t.hub.get TWB_STAT_QUIET = 1 ∧ s.frame [TWB_STAT_QUIET] [] t) ∧
     (s.hub.flag TWB_STAT_QUIET = true → 5 ≤ s.hub.twb.quiet →
       ∃ t, exec .quietEnd s = .next t ∧ t.hub.get TWB_STAT_QUIET = 0 ∧ s.frame [TWB_STAT_QUIET] [] t) ∧
     (s.remindDue = true →
       ∃ t, exec .attnRemind s = .next t ∧ t.hub.get TWB_STAT_UNSEEN = 1 ∧ t.hub.twb.reminded = true
         ∧ s.frame [TWB_STAT_UNSEEN, TWB_STAT_ALERT] [] t))

/-- Acknowledge, end of interrupt and software sources (17 R453–R454, R457): a read of IRQ_ACK answers the vector that
its target presents with its PRIO and the new depth, pushes it and clears its PEND; where nothing is presented it
answers 0 and changes no stack; an EOI is queued, or refused with 5 when its target has eight; SWSET is noted for the
tick. -/
def Obligations.InterruptsAreAcknowledgedAndEnded : Prop :=
  ∀ (s : State) (port target : Port) (src : Byte) (val : Word), s.hub.running = true →
    (∀ v, s.hub.byteBad port (match target with | .e => IRQ_ACKE_VECTOR.idx | .w => IRQ_ACKW_VECTOR.idx) = false →
      s.presents target = some v →
      ∃ t, exec (.irqAck port target) s = .next t
        ∧ t.irq = s.irq.setStack target (s.irq.stack target ++ [⟨v, s.hub.srcPrio v⟩])
        ∧ t.hub.acc = ⟨0, BitVec.ofNat 32 (v + 2 ^ 8 + s.hub.srcPrio v * 2 ^ 16
            + ((s.irq.stack target).length + 1) * 2 ^ 24)⟩
        ∧ t.hub.get (pendFld v) = 0 ∧ t.pending = s.pending ∧ t.spi = s.spi
        ∧ s.hub.only [pendFld v, TWB_STAT_UNSEEN, TWB_STAT_ALERT, wholeFld IRQ_ACKE_VECTOR, wholeFld IRQ_ACKW_VECTOR] []
            t.hub) ∧
    (s.hub.byteBad port (match target with | .e => IRQ_ACKE_VECTOR.idx | .w => IRQ_ACKW_VECTOR.idx) = false →
      s.presents target = none →
      ∃ t, exec (.irqAck port target) s = .next t ∧ t.hub.acc = ⟨0, 0⟩
        ∧ s.frame [TWB_STAT_UNSEEN, TWB_STAT_ALERT, wholeFld IRQ_ACKE_VECTOR, wholeFld IRQ_ACKW_VECTOR] [] t) ∧
    (s.irq.queued target < 8 →
      ∃ t, exec (.irqEoi port target src) s = .next t ∧ t.irq = { s.irq with eoi := s.irq.eoi ++ [(target, src.toNat)] }
        ∧ t.hub.acc = ⟨0, 0⟩ ∧ t.pending = s.pending ∧ t.spi = s.spi ∧ s.hub.only [] [] t.hub) ∧
    (8 ≤ s.irq.queued target →
      ∃ t, exec (.irqEoi port target src) s = .next t
        ∧ s.Refused t (match target with | .e => IRQ_EOIE_SRC.idx | .w => IRQ_EOIW_SRC.idx) 0x05) ∧
    (192 ≤ bitsOf val 0 8 →
      ∃ t, exec (.irqSwset port val) s = .next t ∧ t.irq = { s.irq with swset := s.irq.swset ++ [bitsOf val 0 8] }
        ∧ t.hub.acc = ⟨0, 0⟩ ∧ t.pending = s.pending ∧ t.spi = s.spi ∧ s.hub.only [] [] t.hub) ∧
    (bitsOf val 0 8 < 192 → ∃ t, exec (.irqSwset port val) s = .next t ∧ s.Refused t IRQ_SWSET_SRC.idx 0x04)

/-- Check-ins (18 R464–R466): in OPEN the first check-in of an enabled task counts, and the last one missing completes
the period; a second one, one while CLOSED, or a wrong word is a failure; after a failure of the frame check-ins are
ignored; in IDLE and FOLLOW they are refused.  The phases of the watchdog (18 R463, R467–R469): CLOSED goes to OPEN
with its frames and flag; a period that ends open with a task missing fails with cause 4 and shows the tasks; RST_OUT#
ends after its time, and cause 5 of every fence has cleared. -/
def Obligations.WatchdogJudgesAndPhasesEnd : Prop :=
  (∀ (s : State) (port : Port) (be : BitVec 4) (val : Word) (k : Nat), s.hub.running = true → k = val.toNat % 256 →
     (s.hub.wdtSt = 3 → s.hub.wd.failed = false → be = 15 → val.toNat / 256 = 0xC3A500 → k < 16 →
       s.hub.wd.tasks.testBit k = true →
       ((s.hub.get WDT_DONE_DONE).testBit k = false →
         ∃ t, exec (.wdtCheckin port be val) s = .next t ∧ t.hub.acc = ⟨0, 0⟩
           ∧ t.hub.get WDT_DONE_DONE = s.hub.get WDT_DONE_DONE + 2 ^ k
           ∧ ((∀ j, s.hub.wd.tasks.testBit j = true → j = k ∨ (s.hub.get WDT_DONE_DONE).testBit j = true) →
               t.hub.get WDT_STAT_FAILRUN = 0 ∧ t.hub.wd = { s.hub.wd with success := true })
           ∧ (¬ (∀ j, s.hub.wd.tasks.testBit j = true → j = k ∨ (s.hub.get WDT_DONE_DONE).testBit j = true) →
               t.hub.get WDT_STAT_FAILRUN = s.hub.get WDT_STAT_FAILRUN ∧ t.hub.wd = s.hub.wd)
           ∧ s.frame [WDT_DONE_DONE, WDT_STAT_FAILRUN] [] t) ∧
       ((s.hub.get WDT_DONE_DONE).testBit k = true →
         ∃ t, exec (.wdtCheckin port be val) s = .next t ∧ t.hub.acc = ⟨0x06, 0⟩ ∧ s.hub.WdtFailed t.hub 2
           ∧ s.hub.ShowsErr t.hub WDT_CHECKIN_KEY.idx 0x06
           ∧ s.frame (wholeFld (PG_ERR_CODE.pg 0x04) :: wdtFlds) tracePages t)) ∧
     ((s.hub.wdtSt = 3 ∨ s.hub.wdtSt = 2 ∧ s.hub.get WDT_LEFT_FRAMES ≠ 0) → s.hub.wd.failed = false →
       (be ≠ 15 ∨ val.toNat / 256 ≠ 0xC3A500 ∨ 16 ≤ k ∨ s.hub.wd.tasks.testBit k = false) →
       ∃ t, exec (.wdtCheckin port be val) s = .next t ∧ t.hub.acc = ⟨0x0E, 0⟩ ∧ s.hub.WdtFailed t.hub 3
         ∧ s.hub.ShowsErr t.hub WDT_CHECKIN_KEY.idx 0x0E
         ∧ s.frame (wholeFld (PG_ERR_CODE.pg 0x04) :: wdtFlds) tracePages t) ∧
     (s.hub.wdtSt = 2 → s.hub.get WDT_LEFT_FRAMES ≠ 0 → s.hub.wd.failed = false → be = 15 →
       val.toNat / 256 = 0xC3A500 → k < 16 → s.hub.wd.tasks.testBit k = true →
       ∃ t, exec (.wdtCheckin port be val) s = .next t ∧ t.hub.acc = ⟨0x05, 0⟩ ∧ s.hub.WdtFailed t.hub 1
         ∧ s.hub.ShowsErr t.hub WDT_CHECKIN_KEY.idx 0x05
         ∧ s.frame (wholeFld (PG_ERR_CODE.pg 0x04) :: wdtFlds) tracePages t) ∧
     ((s.hub.wdtSt = 3 ∨ s.hub.wdtSt = 2 ∧ s.hub.get WDT_LEFT_FRAMES ≠ 0) → s.hub.wd.failed = true →
       ∃ t, exec (.wdtCheckin port be val) s = .next t ∧ t.hub.acc = ⟨0x05, 0⟩ ∧ t.hub.wd = s.hub.wd
         ∧ t.hub.get WDT_CNT_IGNORED = min (s.hub.get WDT_CNT_IGNORED + 1) 255
         ∧ s.frame [wholeFld (PG_ERR_CODE.pg 0x04), WDT_CNT_IGNORED] [] t) ∧
     (s.hub.wdtSt = 1 ∨ s.hub.wdtSt = 4 →
       ∃ t, exec (.wdtCheckin port be val) s = .next t
         ∧ s.Refused t WDT_CHECKIN_KEY.idx (if s.hub.wdtSt = 1 then 0x0E else 0x05))) ∧
  (∀ (s : State), s.hub.running = true →
     (s.hub.wdtOpenDue = true →
       ∃ t, exec .wdtOpen s = .next t ∧ t.hub.wdtSt = 3 ∧ t.hub.get WDT_LEFT_FRAMES = s.hub.wd.open_ % 2 ^ 16
         ∧ t.hub.get (flagFld 0x04 3) = 1 ∧ s.regFrame [WDT_STAT_STATE, WDT_LEFT_FRAMES, flagFld 0x04 3] irqPages t) ∧
     (s.hub.wdtMissingDue = true →
       ∃ t, exec .wdtMissing s = .next t ∧ s.hub.WdtFailed t.hub 4
         ∧ (∀ j, j < 16 → ((t.hub.get WDT_DONE_MISSING).testBit j = true ↔
             s.hub.wd.tasks.testBit j = true ∧ (s.hub.get WDT_DONE_DONE).testBit j = false))
         ∧ s.frame (WDT_DONE_MISSING :: wdtFlds) tracePages t) ∧
     (s.hub.rstOutDue = true →
       ∃ t, exec .rstOutRelease s = .next t ∧ t.hub.md = { s.hub.md with rstPulse := false }
         ∧ (∀ p, p = 0x16 ∨ (∃ n, n < s.hub.nch ∧ p = chPage n) →
             ∀ c ∈ (t.hub.page p).causes, c.code = 5 → c.cleared = true)
         ∧ (∀ p, t.hub.fenced p = s.hub.fenced p) ∧ s.frame [] [] t))

/-- The calendar (19 R478–R486): a second advances every calendar register and, at the end of 2099, wraps with OSF; an
alarm that comes to match sets its flag; in a hub that runs no second is shorter than 9,900 frames (the model's
choice, log entry 78); the trim takes the curve's error at its temperature and keeps the remainder; a KRES that stops
sets OSF with cause 2 and, where it was ready, fails its monitor; the KEEP cell; the domain's power-up resets the page
and sets OSF with cause 1; a read of RTC_TIME captures for its port; the domain's stop takes all power. -/
def Obligations.CalendarRunsAndIsTrusted : Prop :=
  ∀ (s : State) (temp : Int) (keep : Nat) (port : Port),
    (s.hub.rtcSecondDue = true → s.hub.get RTC_STAT_SLAVED = 0 → s.hub.get RTC_EPOCH_SECONDS + 1 < calendarEnd →
      ∃ t, exec .rtcSecond s = .next t ∧ t.hub.get RTC_EPOCH_SECONDS = s.hub.get RTC_EPOCH_SECONDS + 1
        ∧ t.hub.cal = calOf (s.hub.get RTC_EPOCH_SECONDS + 1)
        ∧ t.hub.get RTC_TIME_DAY = dayOfWeek (s.hub.get RTC_EPOCH_SECONDS + 1) ∧ t.hub.rtc.sub = 0
        ∧ t.hub.rtc.second = (s.hub.rtc.second + 1) % 60
        ∧ (∀ k, k < 2 → t.hub.almMatch k (s.hub.get RTC_EPOCH_SECONDS + 1) = true →
            nth s.hub.rtc.prevMatch k false = false → t.hub.get (flagFld 0x05 k) = 1)
        ∧ s.frame [wholeFld RTC_TIME_SEC, wholeFld RTC_DATE_DATE, RTC_EPOCH_SECONDS, RTC_KEEPT_SECONDS, flagFld 0x05 0,
            flagFld 0x05 1] irqPages t) ∧
    (s.hub.rtcSecondDue = true → s.hub.get RTC_STAT_SLAVED = 0 → calendarEnd ≤ s.hub.get RTC_EPOCH_SECONDS + 1 →
      ∃ t, exec .rtcSecond s = .next t ∧ t.hub.get RTC_EPOCH_SECONDS = 0 ∧ t.hub.get RTC_STAT_OSF = 1
        ∧ t.hub.get RTC_STAT_OSFCAUSE = 3 ∧ t.hub.get (flagFld 0x05 2) = 1
        ∧ s.frame [] (0x05 :: tracePages) t) ∧
    (s.hub.running = true → s.hub.rtc.ran < 9900 → exec .rtcSecond s = .next s) ∧
    (s.hub.rtcTrimDue = true →
      ∃ t, exec (.rtcTrim temp keep) s = .next t ∧ t.hub.rtc.ppb = trimError temp ∧ t.hub.rtc.trimmed = true
        ∧ t.hub.rtc.acc + 1000 * t.hub.rtc.cycles = s.hub.rtc.acc + truncDiv (trimError temp * 1966080) 1000000
        ∧ t.hub.get RTC_TRIM_TEMP = wrapTo 10 temp
        ∧ t.hub.get RTC_STAT_KEEPLOW = (if keep < 2400 then 1 else if 2600 < keep then 0 else s.hub.get RTC_STAT_KEEPLOW)
        ∧ (keep < 2400 → s.hub.get RTC_STAT_KEEPLOW = 0 → t.hub.get (flagFld 0x05 3) = 1)
        ∧ s.frame [RTC_TRIM_TEMP, RTC_STAT_KEEPLOW, flagFld 0x05 3] tracePages t) ∧
    (s.hub.rtc.kresStopped = false →
      ∃ t, exec .kresStop s = .next t ∧ t.hub.get RTC_STAT_OSF = 1 ∧ t.hub.get RTC_STAT_OSFCAUSE = 2
        ∧ t.hub.get (flagFld 0x05 2) = 1 ∧ t.hub.rtc.kresStopped = true
        ∧ (s.hub.running = true → s.hub.get CLK_STAT_KRES_RDY = 1 →
            t.hub.get CLK_STAT_KRES_RDY = 0 ∧ t.hub.get (flagFld 0x01 2) = 1)
        ∧ s.frame [RTC_STAT_OSF, RTC_STAT_OSFCAUSE, flagFld 0x05 2, CLK_STAT_KRES_RDY, wholeFld CLK_MONSTAT_FAILNOW,
            flagFld 0x01 2] tracePages t) ∧
    (s.hub.get RTC_STAT_ONKEEP = 0 →
      ∃ t, exec (.keepChangeover true) s = .next t ∧ t.hub.get RTC_STAT_ONKEEP = 1 ∧ t.hub.get RTC_KEEPT_SECONDS = 0
        ∧ s.regFrame [RTC_STAT_ONKEEP, RTC_KEEPT_SECONDS] [] t) ∧
    (s.hub.get RTC_STAT_ONKEEP = 1 →
      ∃ t, exec (.keepChangeover false) s = .next t ∧ t.hub.get RTC_STAT_ONKEEP = 0 ∧ s.regFrame [RTC_STAT_ONKEEP] [] t) ∧
    (∃ t, exec .rtcDomainPowerup s = .next t ∧ t.hub.get RTC_STAT_OSF = 1 ∧ t.hub.get RTC_STAT_OSFCAUSE = 1
      ∧ (∀ f : Fld, f.fits → f.idx / 256 = 5 → f.apart RTC_STAT_OSF → f.apart RTC_STAT_OSFCAUSE →
          f.apart (flagFld 0x05 2) → t.hub.get f = bitsOf (resetWord s.hub.part f.idx) f.lo f.w)
      ∧ s.frame [] (0x05 :: tracePages) t) ∧
    (s.hub.running = true → s.hub.slaveLostDue = true →
      ∃ t, exec .slaveLost s = .next t ∧ t.hub.get RTC_STAT_SLAVED = 0 ∧ t.hub.get (flagFld 0x05 4) = 1
        ∧ s.regFrame [RTC_STAT_SLAVED, flagFld 0x05 4] irqPages t) ∧
    (s.hub.running = true → s.hub.byteBad port RTC_TIME_SEC.idx = false →
      ∃ t, exec (.rtcTimeRead port) s = .next t ∧ t.hub.acc.status = 0
        ∧ t.hub.rtcCap port = some ⟨s.hub.word 0x0509, BitVec.ofNat 32 s.hub.subsec, s.hub.word 0x050B, s.hub.frmNo⟩
        ∧ s.frame [] [] t) ∧
    (s.hub.running = false →
      ∃ t, exec .domainStop s = .next t ∧ t.hub.md.power = .off ∧ t.hub.md.retained = none ∧ s.frame [] [] t)

/-- The key page (20 R505–R510): PROG takes the loaded key for an empty slot and clears the load registers; a taken
slot refuses it; CHAL and ENDSESS take effect at the tick; CHAL is refused while LOCKOUT stands; an AUTH that passes
its checks uses up the challenge and is judged by the response of its slot's key; one that fails a check is refused
with its status.  Times of the keys and the tick skew: a challenge lapses after 600,000 frames (20 R506), a session
outside SERVICE too (R510), the lockout ends when its time has run out (R508); TICK_SKEW changes the next frame's
length once and SUPERVISOR_CHATTER begins every PERIOD and ends WIDTH later the forced outside time (22 R530). -/
def Obligations.KeysChallengesAndSessions : Prop :=
  (∀ (s : State) (port : Port) (slot : BitVec 2) (op : Byte), s.hub.running = true → s.hub.fenced 0x1F = false →
     slot.toNat < 2 →
     ((s.hub.get KEY_STAT_SLOTSET).testBit slot.toNat = false → (∀ e ∈ s.hub.keys.progBusy, e.1 ≠ slot.toNat) →
       s.hub.quietRefuses port = false →
       ∃ t, exec (.keyProg port slot) s = .next t ∧ t.hub.acc = ⟨0, 0⟩
         ∧ t.hub.mea = { s.hub.mea with nvq := s.hub.mea.nvq ++ [.key slot.toNat] }
         ∧ t.hub.keys = { s.hub.keys with
             progBusy := s.hub.keys.progBusy ++ [(slot.toNat, port)],
             loaded := setNth s.hub.keys.loaded slot.toNat []
               ((List.range 8).flatMap fun i => wordBytes (s.hub.newWord (0x1F12 + i))) }
         ∧ (∀ i, i < 8 → t.hub.newWord (0x1F12 + i) = 0)
         ∧ s.frame (wholeFld ⟨0x1F08, 0, 1⟩ :: (List.range 8).map fun i => ⟨0x1F12 + i, 0, 32⟩) [] t) ∧
     ((s.hub.get KEY_STAT_SLOTSET).testBit slot.toNat = true ∨ (∃ e ∈ s.hub.keys.progBusy, e.1 = slot.toNat) →
       ∃ t, exec (.keyProg port slot) s = .next t ∧ s.Refused t KEY_CTL_OP.idx 0x06) ∧
     (op.toNat ≤ 2 → s.hub.get KEY_STAT_LOCKOUT = 0 →
       ∃ t, exec (.keyChal port slot op) s = .next t ∧ s.Waits t ⟨KEY_CTL_OP.idx, 0, 1⟩ 1
         ∧ t.hub.awaits ⟨KEY_CTL_OP.idx, 8, 8⟩ op.toNat
         ∧ (t.hub.inForce KEY_CTL_OP.idx).get KEY_STAT_CHALVALID = 1
         ∧ (t.hub.inForce KEY_CTL_OP.idx).keys.draws = s.hub.keys.draws + 1) ∧
     (s.hub.get KEY_STAT_LOCKOUT = 1 → ∃ t, exec (.keyChal port slot op) s = .next t ∧ s.Refused t KEY_CTL_OP.idx 0x05) ∧
     (∀ (c : Instr) (n : Nat), (c = .authService port slot ∧ n = 1 ∨ c = .authClear port slot ∧ n = 2) →
       ((s.hub.authCheck slot.toNat n).1 = 0 → s.hub.quietRefuses port = false →
         ∃ t, exec c s = .next t ∧ t.hub.acc = ⟨0, 0⟩ ∧ t.hub.get KEY_STAT_RESULT = 8 ∧ t.hub.get KEY_STAT_CHALVALID = 0
           ∧ t.hub.keys = { s.hub.keys with judge := some ⟨slot.toNat, n, port,
               match nth s.hub.keys.slots slot.toNat none with
               | some key => s.hub.response key n == s.hub.given
               | none => false⟩ }
           ∧ s.frame [KEY_STAT_RESULT, KEY_STAT_CHALVALID, wholeFld ⟨0x1F08, 0, 1⟩] [] t) ∧
       ((s.hub.authCheck slot.toNat n).1 ≠ 0 →
         ∃ t, exec c s = .next t ∧ t.hub.acc = ⟨(s.hub.authCheck slot.toNat n).1, 0⟩
           ∧ (∀ r, (s.hub.authCheck slot.toNat n).2 = some r → t.hub.get KEY_STAT_RESULT = r)
           ∧ s.hub.ShowsErr t.hub KEY_CTL_OP.idx (s.hub.authCheck slot.toNat n).1 ∧ t.hub.keys = s.hub.keys
           ∧ s.frame [KEY_STAT_RESULT, wholeFld (PG_ERR_CODE.pg 0x1F)] [] t)) ∧
     (∃ t, exec (.endsess port) s = .next t ∧ s.Waits t ⟨KEY_CTL_OP.idx, 3, 1⟩ 1
       ∧ (t.hub.inForce KEY_CTL_OP.idx).get KEY_STAT_SESSION = 0)) ∧
  (∀ (s : State), s.hub.running = true →
     (s.hub.get KEY_STAT_CHALVALID = 1 → 600000 ≤ s.hub.keys.chalAge →
       ∃ t, exec .challengeExpiry s = .next t ∧ t.hub.get KEY_STAT_CHALVALID = 0 ∧ s.regFrame [KEY_STAT_CHALVALID] [] t) ∧
     (s.hub.get KEY_STAT_SESSION = 1 → s.hub.keys.sessService = false → 600000 ≤ s.hub.keys.sessAge →
       ∃ t, exec .sessionLapse s = .next t ∧ t.hub.get KEY_STAT_SESSION = 0 ∧ t.hub.get KEY_STAT_SESSSLOT = 0
         ∧ t.hub.keys = { s.hub.keys with sessOver := true } ∧ s.frame [KEY_STAT_SESSION, KEY_STAT_SESSSLOT] [] t) ∧
     (s.hub.get KEY_STAT_LOCKOUT = 1 → s.hub.get KEY_LOCKLEFT_LEFT = 0 →
       ∃ t, exec .lockoutEnd s = .next t ∧ t.hub.get KEY_STAT_LOCKOUT = 0 ∧ t.hub.get KEY_STAT_FAILS = 0
         ∧ s.regFrame [KEY_STAT_LOCKOUT, KEY_STAT_FAILS] [] t) ∧
     (∀ c, s.hub.tst.skew = some c →
       ∃ t, exec .tickSkew s = .next t ∧ t.hub.tst.skew = none
         ∧ t.hub.frm = { s.hub.frm with nextLen := ((s.hub.frm.nextLen : Int) + c).toNat } ∧ s.frame [] [] t) ∧
     (∀ (start : Bool) (us : Nat), s.hub.get TST_SUPCHAT_EN = 1 →
       us % s.hub.get TST_SUPCHAT_PERIOD = (if start = true then 0 else s.hub.get TST_SUPCHAT_WIDTH) →
       ∃ t, exec (.supervisorChatter ⟨start, us⟩) s = .next t ∧ t.hub.seq = { s.hub.seq with chatForced := start }
         ∧ s.frame [] [] t))

/-- Supplies and the reset button (01 R32, 04 R108, R121, R134–R135): what starts a hub leaves it booting, with
RST_OUT# low, straps unsampled and the cause of its start, the rest of the block as it was but for the charger's power
stage; a long press besides ends every transaction and opens both feeds, which qualify again while they are present,
and a hub that phantom power alone kept running starts from it again (R546).  Straps and inputs of the always-on
domain (01 R28, R33, R36, R39, R546, 04 R108, R117): the fourth agreeing sample accepts a strap, within ten samples;
straps that stay unstable are taken as 1 and recorded; the accepted HOSTSEL is retained, and 0 gives up a phantom
supply that starts the hub, which without a feed is off again; presses are latched; phantom voltage is shown where it
is heeded; SERVICE on phantom power is due at the next tick, and so is its end; TRANSPORT# shows its level. -/
def Obligations.SuppliesStrapsAndContacts : Prop :=
  (∀ (s : State) (src : Supply) (ex : ShipExitSrc),
     (s.hub.porDue src = true →
       ∃ t, exec (.powerOnReset src) s = .next t ∧ t.hub.get DEV_STRAPS_UNSTABLE = 0
         ∧ t.hub.chg = { s.hub.chg with hold := t.hub.chg.hold }
         ∧ s.regFrame [DEV_STRAPS_UNSTABLE, CHG_STAT_BATFET] [] { t with hub :=
             { t.hub with md := s.hub.md, chg := s.hub.chg } }
         ∧ t.hub.md = { s.hub.md with power := .booting, resetCause := 1, shipSrc := 0, phantomLoad := (src == .phantom),
                                      rstLow := true, straps := {}, cutoffDue := false, waking := false }) ∧
     (s.hub.shipExitDue ex = true →
       ∃ t, exec (.shipExit ex) s = .next t ∧ t.hub.get DEV_STRAPS_UNSTABLE = 0
         ∧ t.hub.chg = { s.hub.chg with hold := t.hub.chg.hold }
         ∧ s.regFrame [DEV_STRAPS_UNSTABLE, CHG_STAT_BATFET] [] { t with hub :=
             { t.hub with md := s.hub.md, chg := s.hub.chg } }
         ∧ t.hub.md = { s.hub.md with power := .booting, resetCause := 2, shipSrc := shipExitNum ex,
                                      rstLow := true, phantomLoad := false, straps := {},
                                      cutoffDue := false, waking := false }) ∧
     (s.hub.longPressDue = true →
       ∃ t, exec .longPressReset s = .next t ∧ t.hub.md.power = .booting ∧ t.hub.md.resetCause = 3
         ∧ t.hub.md.rstLow = true ∧ t.hub.md.straps = {} ∧ t.hub.md.wakeArmed = false
         ∧ t.hub.md.phantomLoad = (s.hub.md.phantomLoad
             || (s.hub.mode == mSERVICE && s.hub.md.serviceByPhantom && !s.hub.anyFeedOn))
         ∧ t.hub.get DEV_STRAPS_UNSTABLE = 0
         ∧ (∀ k, k < 2 → t.hub.feedSt k = (if s.hub.feedSt k = 7 ∨ s.hub.running = false ∧ s.hub.feedSt k ∈ [0, 1]
               then s.hub.feedSt k else if s.hub.get (FEED_STAT_PRESENT.pg k) = 1 then 3 else 1))
         ∧ t.spi = {} ∧ t.irq = {} ∧ t.pending = s.pending)) ∧
  (∀ (s : State) (lv : BitVec 4) (level : Bool),
     (s.hub.md.power = .booting → s.hub.md.straps.count < 10 →
       ∃ t, exec (.strapSample lv) s = .next t ∧ t.hub.md.straps.last = lv
         ∧ t.hub.md.straps.count = s.hub.md.straps.count + 1
         ∧ (s.hub.md.straps.accepted.getLsbD 3 = false → t.hub.md.straps.accepted.getLsbD 3 = true →
             t.hub.md.retained = some (lv.getLsbD 3)
             ∧ (lv.getLsbD 3 = false → t.hub.md.phantomLoad = false
                 ∧ (s.hub.md.phantomLoad = true → s.hub.anyFeedOn = false → t.hub.md.power = .off)))
         ∧ (∀ i, i < 4 → s.hub.md.straps.accepted.getLsbD i = true →
             t.hub.md.straps.accepted.getLsbD i = true
             ∧ t.hub.md.straps.value.getLsbD i = s.hub.md.straps.value.getLsbD i)
         ∧ (∀ i, i < 4 → s.hub.md.straps.accepted.getLsbD i = false → nth s.hub.md.straps.run i 0 = 3 →
             s.hub.md.straps.last.getLsbD i = lv.getLsbD i →
             t.hub.md.straps.accepted.getLsbD i = true ∧ t.hub.md.straps.value.getLsbD i = lv.getLsbD i)
         ∧ (∀ i, i < 4 → s.hub.md.straps.accepted.getLsbD i = false → s.hub.md.straps.last.getLsbD i ≠ lv.getLsbD i →
             t.hub.md.straps.accepted.getLsbD i = false ∧ nth t.hub.md.straps.run i 0 = 1)
         ∧ s.frame [] [] t) ∧
     (s.hub.md.power = .booting → 10 ≤ s.hub.md.straps.count → s.hub.md.straps.accepted ≠ 15 →
       ∃ t, exec .strapUnstable s = .next t ∧ t.hub.md.straps.accepted = 15
         ∧ t.hub.get DEV_STRAPS_UNSTABLE = 15 - s.hub.md.straps.accepted.toNat
         ∧ (∀ i, i < 4 → t.hub.md.straps.value.getLsbD i =
             (if s.hub.md.straps.accepted.getLsbD i = true then s.hub.md.straps.value.getLsbD i else true))
         ∧ s.frame [DEV_STRAPS_UNSTABLE, wholeFld FRM_PCC_PCC] tracePages t
         ∧ t.hub.get FRM_PCC_PCC = s.hub.get FRM_PCC_PCC) ∧
     (s.hub.md.power ≠ .off →
       (s.hub.md.wakeLow = false → ∃ t, exec (.wakeDebounce false) s = .next t ∧ t.hub.md.wakeLow = true
           ∧ t.hub.md.pressMode = s.hub.mode
         ∧ t.hub.md.pressFeed = s.hub.feedAbove12 ∧ (s.hub.md.power = .standby → t.hub.md.waking = true)
         ∧ s.frame [] (0x07 :: tracePages) t) ∧
       (∃ t, exec (.wakeDebounce true) s = .next t ∧ t.hub.md = { s.hub.md with wakeLow := false, wakeArmed := true }
         ∧ s.frame [] [] t) ∧
       (s.hub.md.wakeLow = true → exec (.wakeDebounce false) s = .next s)) ∧
     (s.hub.phantomHeeded = true →
       ∃ t, exec .phantomDetect s = .next t ∧ t.hub.md.phantom = true ∧ t.hub.get STR_PORTUP_PHANTOM = 1
         ∧ s.frame [STR_PORTUP_PHANTOM] (0x07 :: tracePages) t) ∧
     (s.hub.phantomHeeded = false →
       ∃ t, exec .phantomDetect s = .next t ∧ t.hub = s.hub ∧ s.sameShell t) ∧
     (∃ t, exec .phantomLoss s = .next t ∧ t.hub.md = { s.hub.md with phantom := false }
       ∧ t.hub.get STR_PORTUP_PHANTOM = 0 ∧ s.frame [STR_PORTUP_PHANTOM] [] t) ∧
     (s.hub.running = true → s.hub.phantomEntryDue = true →
       ∃ t, exec .phantomServiceEntry s = .next t ∧ t.hub.md = { s.hub.md with phantomDue := true } ∧ s.frame [] [] t) ∧
     (s.hub.running = true → s.hub.phantomExitDue = true →
       ∃ t, exec .phantomServiceExit s = .next t ∧ t.hub.md = { s.hub.md with phantomEnd := true } ∧ s.frame [] [] t) ∧
     (s.hub.running = true →
       ∃ t, exec (.transportChange level) s = .next t ∧ t.hub.get DEV_STRAPS_TRANSPORT = (if level = true then 1 else 0)
         ∧ s.frame [DEV_STRAPS_TRANSPORT] (0x07 :: tracePages) t))

/-- COLD_START (01 R28, 04 R120–R124): a hub that only phantom power starts, strapped HOSTSEL = 0 and with no feed ON,
is off again; else the logic runs with RST_OUT# released, in SERVICE where only phantom power starts a hub strapped
HOSTSEL = 1 and no feed is ON, else in READY; straps without four agreeing samples are taken as 1 and shown (01 R36);
PCC is one more, OPH and every register of the RTC page keep their values, and the power-up sequence starts; the boot
profile's version shows, or that the factory's stands in; the channels stand at their reset values unless the self-
test fences them, and each block that fails it is fenced with cause 8. -/
def Obligations.ColdStartLeavesReady : Prop :=
  ∀ (s : State) (inp : ColdIn) (v : BitVec 4) (only : Bool), s.hub.md.power = .booting →
    v = s.hub.md.straps.value ||| ~~~ s.hub.md.straps.accepted →
    only = (inp.phantomOnly && v.getLsbD 3 && !s.hub.anyFeedOn) →
    ((inp.phantomOnly && !v.getLsbD 3 && !s.hub.anyFeedOn) = true →
      ∃ t, exec (.coldStart inp) s = .next t ∧ t.hub.md.power = .off ∧ t.hub.oph = s.hub.oph ∧ t.spi = {} ∧ t.irq = {}
        ∧ t.pending = s.pending) ∧
    ((inp.phantomOnly && !v.getLsbD 3 && !s.hub.anyFeedOn) = false →
    ∃ t, exec (.coldStart inp) s = .next t
      ∧ t.hub.md.power = .on ∧ t.hub.md.rstLow = false ∧ t.hub.mode = (if only = true then mSERVICE else mREADY)
      ∧ t.hub.md.serviceByPhantom = only ∧ t.spi = {} ∧ t.irq = {}
      ∧ t.pending = s.pending ∧ t.hub.pend = [] ∧ t.hub.shadow = [] ∧ t.hub.once = []
      ∧ t.hub.get FRM_PCC_PCC = min (s.hub.get FRM_PCC_PCC + 1) (2 ^ 24 - 1) ∧ t.hub.oph = s.hub.oph
      ∧ (∀ f : Fld, f.fits → f.idx / 256 = 5 → t.hub.get f = s.hub.get f)
      ∧ (inp.selfTest.getLsbD 0 = false → inp.selfTest.getLsbD 3 = false →
          ∀ f : Fld, f.fits → 0x40 ≤ f.idx / 256 → f.idx / 256 < 0x80 →
            t.hub.get f = bitsOf (resetWord s.hub.part f.idx) f.lo f.w)
      ∧ (∀ ver rs, inp.boot = .ok ver rs →
          t.hub.get DEV_BOOT_VER = ver.toNat ∧ t.hub.get DEV_BOOT_VALID = 1 ∧ t.hub.get DEV_BOOT_FACTORY = 0)
      ∧ ((inp.boot = .checkFailed ∨ inp.boot = .unknownVersion ∨ inp.boot = .readError) →
          t.hub.get DEV_BOOT_VALID = 0 ∧ t.hub.get DEV_BOOT_FACTORY = 1)
      ∧ t.hub.get DEV_STRAPS_ADDR = v.toNat % 8 ∧ t.hub.get DEV_STRAPS_HOSTSEL = v.toNat / 8
      ∧ (s.hub.md.straps.accepted ≠ 15 → t.hub.get DEV_STRAPS_UNSTABLE = 15 - s.hub.md.straps.accepted.toNat)
      ∧ t.hub.get TWB_STAT_ADDR = 0x30 + v.toNat % 8
      ∧ (inp.selfTest.getLsbD 2 = true → t.hub.hasCause 0x08 8 = true)
      ∧ (inp.selfTest.getLsbD 4 = true → t.hub.hasCause 0x06 8 = true)
      ∧ (inp.selfTest.getLsbD 5 = true → t.hub.hasCause 0x01 8 = true)
      ∧ (inp.selfTest.getLsbD 1 = true → t.hub.hasCause 0x09 8 = true
          ∧ ∀ k, k < 4 → t.hub.get (ADC_STAT_FENCED.nth k) = 1)
      ∧ (∀ p ∈ inp.owners, inp.selfTest.getLsbD 0 = true → p.toNat ≠ 0x00 → p.toNat ≠ 0x05 →
          (pageKind s.hub.part p.toNat).isSome = true → t.hub.hasCause p.toNat 8 = true)
      ∧ t.hub.seq.start = some (true, 1))

/-- The frame (02 R48–R56, R71, 22 R530): a tick numbers the frame that begins, with 0 after a cold start, with the
number a TICK has already brought, and else by one, or by two after a skipped frame; in NAP the hub stays there, and
sends nothing but the NEGs of a negotiating port, unless a power-down ends or a wake begins. An unfinished P1 or P2 is
deferred at its deadline, shown and counted, the first of a frame with its flag and record; when the run of such
frames reaches the limit a stall fences the section engine; OPH advances, and the lockout runs on it. -/
def Obligations.FramesTickAndOverrun : Prop :=
  ∀ (s : State) (inp : TickIn) (no : Nat), s.hub.running = true →
    no = (if s.hub.frm.first = true then 0 else if s.hub.frm.hold = true then s.hub.get FRM_NO_NO
      else if s.hub.frm.skipNow = true then (s.hub.get FRM_NO_NO + 2) % 2 ^ 32 else (s.hub.get FRM_NO_NO + 1) % 2 ^ 32) →
    (s.hub.mode ≠ mNAP → mapFind s.hub.pend 0x0208 = none → (s.hub.page 0x02).commit = false →
        (s.hub.page 0x02).srst = none →
      ∃ t, exec (.frameTick inp) s = .next t ∧ t.hub.get FRM_NO_NO = no ∧ t.hub.frm.first = false
        ∧ t.hub.frm.skipNow = s.hub.frm.skipNext ∧ t.pending = s.pending) ∧
    (s.hub.mode = mNAP →
      ∃ t, exec (.frameTick inp) s = .next t ∧ t.hub.get FRM_NO_NO = no ∧ t.hub.frm.first = false
        ∧ t.hub.frm.skipNow = s.hub.frm.skipNext ∧ t.irq = s.irq ∧ t.pending = s.pending
        ∧ (s.hub.portSt .up ≠ 2 → t.hub.link.sentUp = []) ∧ (s.hub.portSt .dn ≠ 2 → t.hub.link.sentDn = [])
        ∧ (s.hub.md.phantomDue = false → s.hub.md.goingDown = none → s.hub.md.shipCommit = false → s.hub.md.cutoffDue = false → no % 100 ≠ 0 →
            t.hub.mode = mNAP)) ∧
    (∀ k, k < 2 → s.hub.tst.ovr.testBit k = true → (k = 0 → s.hub.frm.p1Due = true) →
      (k = 1 → s.hub.frm.p2Due = true ∧ s.hub.frm.p1Due = false) →
      ∃ t, exec .phaseDeadline s = .next t ∧ (k = 0 → t.hub.frm.defP1 = true ∧ t.hub.frm.p1Due = false)
        ∧ (k = 1 → t.hub.frm.defP2 = true ∧ t.hub.frm.p2Due = false)
        ∧ t.hub.frm.clean = 0
        ∧ (t.hub.get FRM_OVRINFO_PHASE).testBit k = true ∧ t.hub.get FRM_OVRFRM_FRAME = s.hub.frmNo
        ∧ (s.hub.frm.ovr = 0 → t.hub.get FRM_OVR_COUNT = (s.hub.get FRM_OVR_COUNT + 1) % 2 ^ 32
            ∧ t.hub.get FRM_OVRINFO_RUN = min 15 (s.hub.get FRM_OVRINFO_RUN + 1) ∧ t.hub.get (flagFld 0x02 0) = 1
            ∧ t.hub.frm.stallDue =
                (s.hub.frm.stallDue || s.hub.get FRM_OVRINFO_RUN + 1 == s.hub.cfgSafe FRM_STALLN_N))
        ∧ (s.hub.frm.ovr ≠ 0 → t.hub.get FRM_OVR_COUNT = s.hub.get FRM_OVR_COUNT
            ∧ t.hub.get FRM_OVRINFO_RUN = s.hub.get FRM_OVRINFO_RUN ∧ t.hub.frm.stallDue = s.hub.frm.stallDue)
        ∧ s.frame ([FRM_OVRINFO_PHASE, FRM_OVRFRM_FRAME, FRM_OVR_COUNT, FRM_OVRINFO_RUN, flagFld 0x02 0]
            ++ (List.range 4).flatMap fun i => geyFlds (s.hub.get (engF GEY_ENG_STAT_CH i))) geyPages t) ∧
    (s.hub.frm.stallDue = true →
      ∃ t, exec .frameStall s = .next t ∧ t.hub.frm = { s.hub.frm with stallDue := false }
        ∧ t.hub.get (flagFld 0x02 1) = 1 ∧ t.hub.hasCause 0x16 7 = true
        ∧ s.frame [flagFld 0x02 1, flagFld 0x16 29] tracePages t) ∧
    (s.hub.frm.ophDue = true →
      ∃ t, exec .ophIncrement s = .next t ∧ t.hub.oph = min (s.hub.oph + 1) (2 ^ 36 - 1)
        ∧ t.hub.frm = { s.hub.frm with ophDue := false }
        ∧ t.hub.get KEY_LOCKLEFT_LEFT =
            s.hub.get KEY_LOCKLEFT_LEFT - (if s.hub.get KEY_STAT_LOCKOUT = 1 then 1 else 0)
        ∧ s.frame [FRM_OPH_LO_OPH, FRM_OPH_HI_OPH, KEY_LOCKLEFT_LEFT] [] t)

/-- TICK on a follower (02 R55, R71, 10 R283, 14 R383, R392–R393, 18 R473): it goes on down, sets ERR and the next
frame's length by the table of R71, numbers the frame, and brings string mode, with cause 8 where the lead's watchdog
failed, positions, allocation, travel and the lead's watchdog; a hub that lost every TICK takes the string mode from
it again (04 R114); one that comes ahead of the hub's own tick counts for the next frame, and that of a skipped frame
is neither measured nor adopted. A missing one is counted where the hub does not wait for its string after a wake. A
replay for this hub joins the queue of a gap, and goes on down as every TICK does. -/
def Obligations.FollowersTakeTicks : Prop :=
  ∀ (s : State) (k : TickPkt) (a : Int) (w : Nat → Word), s.hub.running = true → s.hub.isFollower = true →
    s.hub.portUp .up = true → s.hub.posValid = true → w = (fun i => nth k.words i 0) →
    (bitsOf (w 11) 9 1 = 0 → s.hub.frm.tofsBad = false → (s.hub.frm.skipNow = false ∨ s.hub.link.tickGot = false) →
      (s.hub.wdtSt = 4 → (w 11).getLsbD 4 = false) →
      ∃ t, exec (.tick k a) s = .next t ∧ t.pending = s.pending
        ∧ t.hub.get FRM_TERR_ERR = wrapTo 16 ((s.hub.get FRM_TOFS_TOFS : Int) - a)
        ∧ t.hub.frm.nextLen = (40000 - (alignOf ((s.hub.get FRM_TOFS_TOFS : Int) - a)).1).toNat
        ∧ t.hub.frm.skipNext = (alignOf ((s.hub.get FRM_TOFS_TOFS : Int) - a)).2.2
        ∧ t.hub.get FRM_NO_NO = (if (w 0).toNat = (s.hub.frmNo + (if a < 0 then 1 else 0)) % 2 ^ 32 then s.hub.frmNo
            else (w 0).toNat)
        ∧ t.hub.md.stringMode = bitsOf (w 3) 0 3 ∧ t.hub.link.lastTick = (w 0).toNat
        ∧ (a < 0 → t.hub.link.tickEarly = true) ∧ (0 ≤ a → t.hub.link.tickGot = true)) ∧
    (bitsOf (w 11) 9 1 = 0 → s.hub.frm.tofsBad = false → (s.hub.frm.skipNow = false ∨ s.hub.link.tickGot = false) →
      (s.hub.wdtSt = 4 → (w 11).getLsbD 4 = false) →
      (a < 0 ∨ s.hub.frm.p1Due = false ∧ s.hub.frm.p2Due = false ∧ s.hub.link.inbox = []) →
      ∃ t, exec (.tick k a) s = .next t
        ∧ (s.hub.portUp .dn = true → t.hub.link.sentDn = s.hub.link.sentDn ++ [tickPkt s.hub k.words])
        ∧ t.hub.get STR_STAT_NHUBS = bitsOf (w 3) 4 4 + 1 ∧ t.hub.get STR_STAT_LIVE = bitsOf (w 3) 8 5
        ∧ t.hub.get STR_STAT_SVER = bitsOf (w 3) 13 2 ∧ t.hub.get STR_STAT_EPOCH = bitsOf (w 3) 16 8
        ∧ (s.hub.md.stringMode ≠ bitsOf (w 3) 0 3 ∨ s.hub.md.retake = true ∧ s.hub.md.loseArmed = false →
            t.hub.md.fromTick = some (bitsOf (w 3) 0 3, if bitsOf (w 11) 4 1 = 1 then 8 else 2))
        ∧ (s.hub.md.retake = true → s.hub.md.loseArmed = false → t.hub.md.retake = false ∧ t.hub.md.stringLost = false)
        ∧ (t.hub.link.liveLost = true ↔ bitsOf (w 3) 8 5 ≤ s.hub.pos)
        ∧ (∃ al, t.hub.bud.tickA = some al ∧ al < 2 ^ 12 ∧
            ∀ b, b < 12 → al.testBit b = (w (4 + (12 * s.hub.pos + b) / 32)).getLsbD ((12 * s.hub.pos + b) % 32))
        ∧ (s.hub.wdtSt = 4 → t.hub.get WDT_STAT_FAILRUN = bitsOf (w 11) 2 2)
        ∧ (s.hub.sec.haveTravel = false → t.hub.sec.haveTravel = true ∧ t.hub.sec.needFrm = (w 0).toNat
            ∧ t.hub.sec.queue = [⟨(w 0).toNat, (w 1).toInt, (w 2).toInt⟩])
        ∧ (s.hub.sec.haveTravel = true → 0 ≤ diff32 (w 0).toNat s.hub.sec.needFrm →
            (∀ u ∈ s.hub.sec.queue, u.frm ≠ (w 0).toNat) →
            t.hub.sec.queue = s.hub.sec.queue ++ [⟨(w 0).toNat, (w 1).toInt, (w 2).toInt⟩])
        ∧ s.frame [] (0x02 :: 0x04 :: 0x05 :: 0x0C :: 0x11 :: tracePages) t) ∧
    (bitsOf (w 11) 9 1 = 0 → s.hub.frm.skipNow = true → s.hub.link.tickGot = true → s.hub.wdtSt ≠ 4 →
      ∃ t, exec (.tick k a) s = .next t ∧ t.hub.frm = s.hub.frm ∧ t.hub.md.stringMode = bitsOf (w 3) 0 3
        ∧ (s.hub.portUp .dn = true → t.hub.link.sentDn = s.hub.link.sentDn ++ [tickPkt s.hub k.words])
        ∧ s.frame [] (0x05 :: 0x0C :: 0x11 :: tracePages) t) ∧
    (s.hub.link.tickGot = false → s.hub.link.tickMissed = false → s.hub.frm.first = false → s.hub.mode ≠ mNAP →
      ∃ t, exec .tickMissing s = .next t ∧ t.pending = s.pending
        ∧ t.hub.get FRM_TERR_MISS =
            min (s.hub.get FRM_TERR_MISS + (if s.hub.link.startWait = none then 1 else 0)) 255
        ∧ t.hub.link.goodTicks = 0 ∧ t.hub.link.tickMissed = true ∧ t.hub.frm.quietTicks = 0 ∧ t.hub.frm.alignRun = 0
        ∧ (s.hub.link.inbox = [] → (s.hub.frm.p1Due = false ∨ s.hub.tst.ovr.testBit 0 = true) →
            (s.hub.frm.p2Due = false ∨ s.hub.tst.ovr.testBit 1 = true) →
            t.hub.frm = { s.hub.frm with quietTicks := 0, alignRun := 0 }
            ∧ t.hub.md.loseCount =
                (if s.hub.link.startWait = none then min 65535 (s.hub.md.loseCount + 1) else s.hub.md.loseCount)
            ∧ (s.hub.link.startWait = none → s.hub.bud.polled = true → s.hub.bud.loss = false →
                s.hub.bud.heldSaid = false → t.hub.get (flagFld 0x0D 6) = 1)
            ∧ s.frame [FRM_TERR_MISS, flagFld 0x0D 6] tracePages t)) ∧
    ((s.hub.link.tickGot = true ∨ s.hub.link.tickMissed = true ∨ s.hub.frm.first = true ∨ s.hub.mode = mNAP) →
      exec .tickMissing s = .next s) ∧
    (∀ f d c : Word, s.hub.get SEC_STAT_GAP = 1 → s.hub.sec.haveTravel = true → 0 ≤ diff32 f.toNat s.hub.sec.needFrm →
      (∀ u ∈ s.hub.sec.queue, u.frm ≠ f.toNat) →
      ∃ t, exec (.replayTick f d c) s = .next t
        ∧ t.hub.sec.queue = s.hub.sec.queue ++ [⟨f.toNat, d.toInt, c.toInt⟩]
        ∧ t.hub.get STR_REPLAY_COUNT = (s.hub.get STR_REPLAY_COUNT + 1) % 2 ^ 16
        ∧ (s.hub.portUp .dn = true → t.hub.link.sentDn.length = s.hub.link.sentDn.length + 1)
        ∧ s.frame [STR_REPLAY_COUNT] [] t)

/-- Low power and wakes (04 R127–R131, R545): SHIP's record opens its last 2 ms; the idle time expires; NAP's
evaluation starts the power-down to STANDBY; a broadcast is decided; each wake source starts the wake, which ends in
READY with the core on the PLL; an access in NAP is answered and wakes. -/
def Obligations.LowPowerModesAndWakes : Prop :=
  ∀ (s : State) (late : Bool) (kind : LowPower) (src : WakeSrc) (port : Port) (acc : Access),
    (s.hub.running = true → s.hub.shipEnterDue = true →
      ∃ t, exec (.shipEnter late) s = .next t ∧ t.hub.md = { s.hub.md with shipCommit := true, downFrames := 0 }
        ∧ s.frame [] tracePages t) ∧
    (s.hub.running = true → s.hub.idleRunOut = true →
      ∃ t, exec .idleTimerExpiry s = .next t ∧ t.hub.md = { s.hub.md with idleExpired := true } ∧ s.frame [] [] t) ∧
    (s.hub.running = true → s.hub.mode = mNAP → s.hub.single = true → s.hub.md.waking = false → s.hub.stbyRule = true →
      ∃ t, exec .napEvaluation s = .next t ∧ t.hub.md.goingDown = some .standby ∧ t.hub.md.downFrames = 0
        ∧ (s.hub.fenced 0x07 = false →
            t.hub.md = { s.hub.md with goingDown := some .standby, downFrames := 0 }
            ∧ t.hub.get SEQ_STAT_STATE = 3 ∧ t.hub.get SEQ_STAT_TRIGGER = 4 ∧ s.frame [] (0x07 :: tracePages) t)) ∧
    (s.hub.running = true → s.hub.broadcastDue kind = true →
      ∃ t, exec (.lowPowerBroadcast kind) s = .next t
        ∧ t.hub.md = { s.hub.md with decided := some (match kind with | .nap => (mNAP, 3) | .standby => (mSTANDBY, 3)) }
        ∧ s.frame [] [] t) ∧
    (∀ c : Instr, (c = .napWake src ∧ s.hub.napWakeDue src = true ∨ c = .napTimedWake ∧ s.hub.timedWakeDue = true) →
      s.hub.running = true → s.hub.md.waking = false → s.hub.md.goingDown = none →
      ∃ t, exec c s = .next t ∧ t.hub.md = { s.hub.md with waking := true } ∧ t.hub.link.wakeDn = true
        ∧ t.hub.link.wakeUp = !s.hub.spiHost ∧ s.frame [] [] t) ∧
    (∀ c : Instr, (c = .standbyWake src ∧ s.hub.standbyWakeDue src = true
        ∨ c = .standbyWakeTimer ∧ s.hub.standbyTimerDue = true) →
      ∃ t, exec c s = .next t ∧ t.hub.md = { s.hub.md with waking := true } ∧ s.frame [] [] t) ∧
    (s.hub.md.waking = true → s.hub.mode = mNAP →
      ∃ t, exec .wakeComplete s = .next t ∧ t.hub.mode = mREADY ∧ t.hub.md = { s.hub.md with waking := false }
        ∧ t.hub.get CLK_STAT_CORE_SRC = 4 ∧ t.hub.get CLK_STAT_PLL_RDY = 1 ∧ t.hub.link.startWait = some 0
        ∧ s.frame [DEV_MODE_MODE, CLK_STAT_CORE_SRC, CLK_STAT_PLL_RDY, CLK_PLLSTAT_LOCKTIME] [] t) ∧
    (s.hub.md.waking = true → s.hub.md.power = .standby → s.hub.mode = mSTANDBY →
      ∃ t, exec .wakeComplete s = .next t ∧ t.hub.mode = mREADY ∧ t.hub.get DEV_MODE_PREV = mSTANDBY
        ∧ t.hub.get DEV_MODE_CHANGES = min (s.hub.get DEV_MODE_CHANGES + 1) 65535 ∧ t.hub.md.power = .on
        ∧ t.hub.md.waking = false ∧ t.hub.seq.start = some (true, 2) ∧ s.sameShell t) ∧
    (s.hub.running = true → s.hub.mode = mNAP → s.hub.md.waking = false →
      ∃ t, exec (.hostAccessInNap port acc) s = .next t ∧ t.hub.md.waking = true ∧ t.hub.md.idleRun = 0
        ∧ (∀ idx, acc = .read idx → t.hub.acc.status = (s.hub.read port idx.toNat).2.1)
        ∧ t.hub.link.wakeDn = true ∧ t.pending = s.pending)

/-- Clocks and the frequency meter (02 R59–R69): a source in bounds for two gates is READY; one that leaves its bounds
while READY counts and, where it is the reference, brings holdover and fences the clock block with cause 6; LREC falls
back to MOSC; lock and loss of the PLL; the meter's end. -/
def Obligations.ClocksAreMonitored : Prop :=
  ∀ (s : State) (m : ClkMon) (count us : Nat), s.hub.running = true →
    ((s.hub.cfgSafe CLK_MONCTL_EN).testBit (monNum m) = false → exec (.clockMonitorGate m count) s = .next s) ∧
    ((s.hub.cfgSafe CLK_MONCTL_EN).testBit (monNum m) = true → m ∈ [ClkMon.mosc, .clkin, .kres] →
        (s.hub.monBounds m).1 ≤ count → count ≤ (s.hub.monBounds m).2 →
      1 ≤ nth s.hub.clk.good (monNum m) 0 →
      ∃ t, exec (.clockMonitorGate m count) s = .next t ∧ t.hub.ready (monCode m) = true
        ∧ (t.hub.get CLK_MONSTAT_FAILNOW).testBit (monNum m) = false
        ∧ ((m = .clkin → s.hub.get LB_SYNC_SRC ≠ 2) →
            s.frame [rdyFld (monCode m), CLK_MONSTAT_FAILNOW, CLK_STAT_HOLDOVER, CLK_STAT_CLKIN_REFOK] [] t)) ∧
    ((s.hub.cfgSafe CLK_MONCTL_EN).testBit (monNum m) = true → m ∈ [ClkMon.mosc, .clkin] →
        (count < (s.hub.monBounds m).1 ∨ (s.hub.monBounds m).2 < count) →
      s.hub.ready (monCode m) = true →
      ∃ t, exec (.clockMonitorGate m count) s = .next t ∧ t.hub.ready (monCode m) = false
        ∧ (t.hub.get CLK_MONSTAT_FAILNOW).testBit (monNum m) = true
        ∧ t.hub.get CLK_MONSTAT_FAILCNT = min (s.hub.get CLK_MONSTAT_FAILCNT + 1) 65535
        ∧ t.hub.get CLK_MONSTAT_LASTFAIL = monCode m
        ∧ (s.hub.get CLK_STAT_PLLREF_ACT = monCode m → t.hub.get CLK_STAT_HOLDOVER = 1 ∧ t.hub.hasCause 0x01 6 = true
            ∧ t.hub.get (flagFld 0x01 3) = 1)
        ∧ (s.hub.get CLK_STAT_PLLREF_ACT ≠ monCode m → t.hub.get (flagFld 0x01 2) = 1
            ∧ t.hub.fenced 0x01 = s.hub.fenced 0x01)
        ∧ ((m = .clkin → s.hub.get LB_SYNC_SRC ≠ 2) →
            s.frame [rdyFld (monCode m), wholeFld CLK_MONSTAT_FAILNOW, CLK_STAT_HOLDOVER, CLK_STAT_CLKIN_REFOK,
              flagFld 0x01 2, flagFld 0x01 3, flagFld 0x01 29] tracePages t)) ∧
    ((s.hub.cfgSafe CLK_MONCTL_EN).testBit 3 = true → s.hub.get (CLK_MONSTAT_FAILNOW) = 0 →
      (count < (s.hub.monBounds .pll).1 ∨ (s.hub.monBounds .pll).2 < count) →
      ∃ t, exec (.clockMonitorGate .pll count) s = .next t ∧ t.hub.get CLK_MONSTAT_FAILNOW = 8
        ∧ t.hub.get CLK_MONSTAT_FAILCNT = min (s.hub.get CLK_MONSTAT_FAILCNT + 1) 65535
        ∧ t.hub.get CLK_MONSTAT_LASTFAIL = 4 ∧ t.hub.get (flagFld 0x01 2) = 1
        ∧ s.frame [wholeFld CLK_MONSTAT_FAILNOW, flagFld 0x01 2] tracePages t) ∧
    ((s.hub.cfgSafe CLK_MONCTL_EN).testBit 4 = true → s.hub.ready 5 = true →
      (count < (s.hub.monBounds .kres).1 ∨ (s.hub.monBounds .kres).2 < count) →
      ∃ t, exec (.clockMonitorGate .kres count) s = .next t ∧ t.hub.ready 5 = false ∧ t.hub.get RTC_STAT_OSF = 1
        ∧ t.hub.get (flagFld 0x01 2) = 1 ∧ s.frame [CLK_STAT_KRES_RDY, wholeFld CLK_MONSTAT_FAILNOW, flagFld 0x01 2]
            (0x05 :: tracePages) t) ∧
    ((s.hub.cfgSafe CLK_MONCTL_EN).testBit 1 = true →
        (count < (s.hub.monBounds .lrec).1 ∨ (s.hub.monBounds .lrec).2 < count) → s.hub.ready 2 = true →
      s.hub.get CLK_SEL_PLLREF = 2 →
      ∃ t, exec (.clockMonitorGate .lrec count) s = .next t ∧ t.hub.ready 2 = false ∧ t.hub.get CLK_SEL_PLLREF = 1
        ∧ t.hub.get CLK_STAT_PLLREF_ACT = 1 ∧ t.hub.get CLK_STAT_FALLBACK = 1 ∧ t.hub.get (flagFld 0x01 1) = 1
        ∧ t.hub.get CLK_ERRCNT_FALLCNT = min (s.hub.get CLK_ERRCNT_FALLCNT + 1) 65535
        ∧ s.frame [wholeFld CLK_STAT_RCO_RDY, CLK_SEL_PLLREF, wholeFld CLK_MONSTAT_FAILNOW, CLK_ERRCNT_FALLCNT,
            flagFld 0x01 1] tracePages t) ∧
    (s.hub.get CLK_STAT_PLL_RDY = 0 →
      ∃ t, exec (.pllLock us) s = .next t ∧ t.hub.get CLK_STAT_PLL_RDY = 1 ∧ t.hub.get CLK_PLLSTAT_LOCKTIME = min us 255
        ∧ s.regFrame [CLK_STAT_PLL_RDY, CLK_PLLSTAT_LOCKTIME, CLK_STAT_CORE_SRC] [] t) ∧
    (s.hub.get CLK_STAT_PLL_RDY = 1 →
      ∃ t, exec .pllUnlock s = .next t ∧ t.hub.get CLK_STAT_PLL_RDY = 0
        ∧ t.hub.get CLK_PLLSTAT_UNLOCKCNT = min (s.hub.get CLK_PLLSTAT_UNLOCKCNT + 1) 65535
        ∧ (s.hub.get CLK_STAT_PLLREF_ACT ∈ [1, 2, 3] → s.hub.ready (s.hub.get CLK_STAT_PLLREF_ACT) = true →
            t.hub.hasCause 0x01 6 = true ∧ t.hub.get (flagFld 0x01 4) = 1)
        ∧ s.frame [CLK_STAT_PLL_RDY, CLK_PLLSTAT_UNLOCKCNT, flagFld 0x01 4, flagFld 0x01 29] tracePages t) ∧
    (∀ c : Instr, (c = .fmDone count ∨ c = .fmTimeout count) → s.hub.get CLK_FMCTL_BUSY = 1 →
      (s.hub.get CLK_FMCTL_SRC ≠ s.hub.get CLK_FMCTL_REF ∨ c = .fmTimeout count) →
      ∃ t, exec c s = .next t ∧ t.hub.get CLK_FMCOUNT_COUNT = min count (2 ^ 32 - 1)
        ∧ t.hub.get CLK_FMCTL_OVF = (if 2 ^ 32 ≤ count then 1 else 0) ∧ t.hub.get CLK_FMCTL_BUSY = 0
        ∧ t.hub.get CLK_FMCTL_DONE = 1 ∧ t.hub.get CLK_FMCTL_TIMEOUT = (if c = .fmTimeout count then 1 else 0)
        ∧ t.hub.get (flagFld 0x01 5) = 1
        ∧ s.regFrame [CLK_FMCOUNT_COUNT, CLK_FMCTL_OVF, CLK_FMCTL_BUSY, CLK_FMCTL_DONE, CLK_FMCTL_TIMEOUT, flagFld 0x01 5]
            irqPages t)

/-- The loss of the logic's power (20 R499, 19 R489): the reserve commits every queued record, transactions, stacks,
waiting requests and the challenge are gone, and the clock runs free. A byte that fails parity (03 R100–R101) is shown
with its flag; in a page of a block that stops for it the page is fenced with cause 1; an entry of a lane (06 R192)
and a correction record (13 R368) are marked, a word of a snapshot bank reads 0 (R367), and a sample of a GEYSER
buffer is marked, or aborts its capture (07 R216, R224). -/
def Obligations.PowerFailsAndParityFails : Prop :=
  ∀ (s : State) (idx : BitVec 16) (byte : BitVec 2) (ch : BitVec 6) (n : BitVec 14) (c : BitVec 10) (bk : BitVec 1)
    (w : BitVec 11) (e : BitVec 2) (rel : Bool), s.hub.running = true →
    (∃ t, exec .logicPowerFail s = .next t ∧ t.hub.md.power = .off ∧ t.hub.rcd.queue = [] ∧ t.spi = {} ∧ t.irq = {}
      ∧ t.hub.link.inbox = [] ∧ t.hub.link.fwd = [] ∧ t.hub.link.bulk = [] ∧ t.hub.link.streams = []
      ∧ t.hub.get KEY_STAT_CHALVALID = 0 ∧ t.hub.get RTC_STAT_SLAVED = 0 ∧ t.pending = s.pending) ∧
    ((findReg s.hub.part idx.toNat).isSome = true →
      idx.toNat / 256 ∈ [0x04, 0x06, 0x07, 0x08, 0x0B, 0x0C, 0x0D, 0x11, 0x12, 0x13, 0x14, 0x15, 0x16] →
      s.hub.bad.any (fun b => b.idx == idx.toNat && !b.shadow) = false →
      ∃ t, exec (.parityError (.active idx byte)) s = .next t ∧ (⟨idx.toNat, byte.toNat, false⟩ : BadByte) ∈ t.hub.bad
        ∧ t.hub.get (flagFld (idx.toNat / 256) 31) = 1 ∧ t.hub.hasCause (idx.toNat / 256) 1 = true
        ∧ s.frame [flagFld (idx.toNat / 256) 31, flagFld (idx.toNat / 256) 29, IRQ_PARSRC_PAGE, IRQ_PARSRC_COUNT]
            tracePages t) ∧
    ((findReg s.hub.part idx.toNat).isSome = true →
      ∃ t, exec (.parityError (.active idx byte)) s = .next t ∧ (⟨idx.toNat, byte.toNat, false⟩ : BadByte) ∈ t.hub.bad
        ∧ t.hub.get (flagFld (idx.toNat / 256) 31) = 1
        ∧ (s.hub.bad.any (fun b => b.idx == idx.toNat && !b.shadow) = false →
            (idx.toNat / 256 ∈ [0x03, 0x09, 0x0A, 0x0E, 0x0F, 0x10, 0x17, 0x18, 0x1E, 0x1F]
              ∨ idx.toNat ∈ [0x0109, 0x010E, 0x010F]
              ∨ idx.toNat / 256 = 0x02 ∧ idx.toNat % 256 ∉ [0x0E, 0x0F, 0x10, 0x11]) →
            t.hub.hasCause (idx.toNat / 256) 1 = true)) ∧
    ((findReg s.hub.part idx.toNat).isSome = true →
      ∃ t, exec (.parityError (.shadow idx byte)) s = .next t ∧ (⟨idx.toNat, byte.toNat, true⟩ : BadByte) ∈ t.hub.bad
        ∧ t.hub.get (flagFld (idx.toNat / 256) 31) = 1 ∧ (∀ p, t.hub.fenced p = s.hub.fenced p)
        ∧ s.frame [flagFld (idx.toNat / 256) 31, IRQ_PARSRC_PAGE, IRQ_PARSRC_COUNT] tracePages t) ∧
    (∀ e, (s.hub.ch ch.toNat).lane[n.toNat]? = some e →
      ∃ t, exec (.parityError (.lane ch n)) s = .next t
        ∧ (t.hub.ch ch.toNat).lane[n.toNat]? = some { e with bad := true }
        ∧ (∀ j, j ≠ n.toNat → (t.hub.ch ch.toNat).lane[j]? = (s.hub.ch ch.toNat).lane[j]?)
        ∧ (∀ k, k ≠ ch.toNat → t.hub.ch k = s.hub.ch k) ∧ s.frame [] [] t) ∧
    (c.toNat < 528 →
      ∃ t, exec (.parityError (.calRec c rel)) s = .next t ∧ c.toNat ∈ t.hub.mea.nominal
        ∧ (s.hub.mea.reloadDue.any (·.1 == c.toNat) = false → (c.toNat, rel) ∈ t.hub.mea.reloadDue) ∧ s.frame [] [] t) ∧
    (w.toNat < 1088 →
      ∃ t, exec (.parityError (.bank bk w)) s = .next t ∧ t.hub.bankWord bk.toNat w.toNat = 0
        ∧ t.hub.get (flagFld 0x18 2) = 1
        ∧ s.frame [SNAP_B0FLG_FLAGS, SNAP_B1FLG_FLAGS, flagFld 0x18 2] tracePages t) ∧
    (w.toNat < (s.hub.engine e.toNat).samples.length →
      (s.hub.get (engF GEY_ENG_STAT_STATE e.toNat) ≠ 1 →
        ∃ t, exec (.parityError (.geySample e w)) s = .next t
          ∧ t.hub.sampleWord e.toNat w.toNat = 0x8000
          ∧ t.hub.get GEY_CNT_BUFPAR = min (s.hub.get GEY_CNT_BUFPAR + 1) 65535 ∧ t.hub.get (flagFld 0x17 9) = 1
          ∧ s.frame [GEY_CNT_BUFPAR, flagFld 0x17 9] tracePages t) ∧
      (s.hub.get (engF GEY_ENG_STAT_STATE e.toNat) = 1 →
        ∃ t, exec (.parityError (.geySample e w)) s = .next t
          ∧ t.hub.get (engF GEY_ENG_STAT_END e.toNat) = 3
          ∧ t.hub.get (CH_GEYMEAS_RESULT.pg (s.hub.get (engF GEY_ENG_STAT_CH e.toNat))) = 3))

/-- Writes of Live fields and act bits (03 R92, 02 R62, R68, 04 R110–R111, 05 R144, 06 R190, 07 R211, 12 R327, 13
R364, 14 R397, R405, 19 R481): accepted under the conditions of each register, they are answered OK, their value
awaits the tick, and as the tick brings it into force it stands in its field and does what its register is written
for: a lane is empty, an engine free, a sequence due, a snapshot armed, an enumeration due, the clock halted or
running, the reference switched, the meter busy, the mode requested entered, put to the string or gone down for. -/
def Obligations.LiveWritesWaitForTheTick : Prop :=
  ∀ (s : State) (port : Port) (ch : BitVec 6) (eng : BitVec 2) (val : Word) (halt slave : Bool), s.hub.running = true →
    (ch.toNat < s.hub.nch → bitsOf val 0 2 ≤ 2 →
      ∃ t, exec (.chForceWrite port ch val) s = .next t ∧ s.Waits t (CH_FORCE_FORCE.pg ch.toNat) (bitsOf val 0 2)
        ∧ (t.hub.inForce (CH_FORCE_FORCE.pg ch.toNat).idx).get (CH_FORCE_FORCE.pg ch.toNat) = bitsOf val 0 2) ∧
    (ch.toNat < s.hub.nch → bitsOf val 0 2 = 3 →
      ∃ t, exec (.chForceWrite port ch val) s = .next t ∧ s.Refused t (CH_FORCE_FORCE.pg ch.toNat).idx 0x04) ∧
    (ch.toNat < s.hub.nch →
      ∃ t, exec (.flush port ch) s = .next t ∧ s.Waits t (CH_LANECTL_FLUSH.pg ch.toNat) 1
        ∧ ((t.hub.inForce (CH_LANECTL_FLUSH.pg ch.toNat).idx).ch ch.toNat).lane = []) ∧
    (∃ t, exec (.engineRelease port eng) s = .next t ∧ s.Waits t (engF GEY_ENG_CTL_RELEASE eng.toNat) 1
      ∧ (t.hub.inForce (engF GEY_ENG_CTL_RELEASE eng.toNat).idx).get (engF GEY_ENG_STAT_STATE eng.toNat) =
          (if s.hub.get (engF GEY_ENG_STAT_STATE eng.toNat) = 2 then 0
           else s.hub.get (engF GEY_ENG_STAT_STATE eng.toNat))) ∧
    (s.hub.fenced 0x07 = false →
      (∃ t, exec (.seqUp port) s = .next t ∧ s.Waits t ⟨0x0708, 0, 2⟩ 1
        ∧ (t.hub.inForce 0x0708).seq.start = some (true, 0)) ∧
      (∃ t, exec (.seqDown port) s = .next t ∧ s.Waits t ⟨0x0708, 0, 2⟩ 2
        ∧ (t.hub.inForce 0x0708).seq.start = some (false, 0))) ∧
    (s.hub.fenced 0x07 = true →
      (∃ t, exec (.seqUp port) s = .next t ∧ s.Refused t 0x0708 0x0D) ∧
      (∃ t, exec (.seqDown port) s = .next t ∧ s.Refused t 0x0708 0x0D)) ∧
    (∃ t, exec (.snapArm port) s = .next t ∧ s.Waits t SNAP_CTL_ARM 1
      ∧ (0 < diff32 (s.hub.get SNAP_AT_FRAME) s.hub.frmNo → diff32 (s.hub.get SNAP_AT_FRAME) s.hub.frmNo < 2 ^ 20 →
          s.hub.mea.snapPend.any (·.1 == s.hub.get SNAP_AT_FRAME) = false → s.hub.mea.snapPend.length < 2 →
          (s.hub.get SNAP_AT_FRAME, (match port with | .e => 1 | .w => 2), s.hub.frmNo)
            ∈ (t.hub.inForce SNAP_CTL_ARM.idx).mea.snapPend)) ∧
    (s.hub.fenced 0x0C = false → s.hub.md.stringMode = mREADY →
      ∃ t, exec (.reenum port) s = .next t ∧ s.Waits t STR_CTL_REENUM 1
        ∧ (s.hub.isLead = true → (t.hub.inForce STR_CTL_REENUM.idx).link.enumDue = some 1)) ∧
    (s.hub.fenced 0x0C = false → s.hub.md.stringMode ≠ mREADY →
      ∃ t, exec (.reenum port) s = .next t ∧ s.Refused t STR_CTL_REENUM.idx 0x05) ∧
    (bitsOf (s.hub.newWord STR_CTL_REENUM.idx) 0 1 = 0 →
      ∃ t, exec (.creditResync true port) s = .next t ∧ s.Waits t STR_CTL_RESYNC 1) ∧
    ((halt = true → s.hub.get RTC_STAT_SLAVED = 0 ∨ s.hub.get RTC_CTL_HALT = 1) →
      (halt = false → s.hub.get RTC_CTL_HALT = 0 ∨ dateOk (bitsOf (s.hub.newWord 0x0509) 0 5)
        (bitsOf (s.hub.newWord 0x0509) 8 4) (bitsOf (s.hub.newWord 0x0509) 16 7) = true) →
      ∃ t, exec (.rtcHalt port halt slave) s = .next t ∧ s.Waits t RTC_CTL_HALT (if halt = true then 1 else 0)
        ∧ t.hub.awaits RTC_CTL_SLAVE (if slave = true then 1 else 0)
        ∧ (halt = true ∨ s.hub.get RTC_CTL_HALT = 0 ∨ dateOk s.hub.cal.date s.hub.cal.month s.hub.cal.year = true →
            (t.hub.inForce RTC_CTL_HALT.idx).get RTC_CTL_HALT = (if halt = true then 1 else 0)
            ∧ (t.hub.inForce RTC_CTL_HALT.idx).get RTC_CTL_SLAVE = (if slave = true then 1 else 0))) ∧
    (1 ≤ bitsOf val 0 3 → bitsOf val 0 3 ≤ 3 →
      (bitsOf val 0 3 = s.hub.get CLK_STAT_PLLREF_ACT ∨ s.hub.refOk (bitsOf val 0 3) = true →
        ∃ t, exec (.clockSelect port val) s = .next t ∧ s.Waits t CLK_SEL_PLLREF (bitsOf val 0 3)
          ∧ (t.hub.inForce CLK_SEL_PLLREF.idx).get CLK_SEL_PLLREF = bitsOf val 0 3
          ∧ (t.hub.inForce CLK_SEL_PLLREF.idx).get CLK_STAT_PLLREF_ACT = bitsOf val 0 3) ∧
      (bitsOf val 0 3 ≠ s.hub.get CLK_STAT_PLLREF_ACT → s.hub.refOk (bitsOf val 0 3) = false →
        ∃ t, exec (.clockSelect port val) s = .next t ∧ t.hub.acc = ⟨0x0B, 0⟩
          ∧ s.hub.ShowsErr t.hub CLK_SEL_PLLREF.idx 0x0B ∧ t.hub.get CLK_STAT_REFUSED = 1
          ∧ t.hub.get CLK_ERRCNT_REFCNT = min (s.hub.get CLK_ERRCNT_REFCNT + 1) 65535 ∧ t.hub.get (flagFld 0x01 0) = 1
          ∧ s.frame [wholeFld (PG_ERR_CODE.pg 0x01), CLK_STAT_REFUSED, CLK_ERRCNT_REFCNT, flagFld 0x01 0] tracePages t)) ∧
    (bitsOf val 0 3 ≤ 5 → bitsOf val 4 3 ≤ 5 → 8 ≤ bitsOf val 8 5 → bitsOf val 8 5 ≤ 24 → bitsOf val 16 1 = 1 →
      s.hub.get CLK_FMCTL_BUSY = 0 → s.hub.flag (PG_LOCK_CFG.pg 0x01) = false →
      ∃ t, exec (.fmStart port val) s = .next t ∧ s.Waits t CLK_FMCTL_START 1
        ∧ t.hub.awaits CLK_FMCTL_GATE (bitsOf val 8 5)
        ∧ (t.hub.inForce CLK_FMCTL_START.idx).get CLK_FMCTL_BUSY = 1
        ∧ (t.hub.inForce CLK_FMCTL_START.idx).get CLK_FMCTL_DONE = 0
        ∧ (t.hub.inForce CLK_FMCTL_START.idx).get CLK_FMCTL_SRC = bitsOf val 0 3
        ∧ (t.hub.inForce CLK_FMCTL_START.idx).get CLK_FMCTL_REF = bitsOf val 4 3) ∧
    (1 ≤ bitsOf val 0 2 → bitsOf val 0 2 ≤ 2 → s.hub.judgedMode ∈ [mREADY, mSERVICE] →
      s.hub.flag (PG_LOCK_CFG.pg 0x00) = false →
      (DEV_PROFILE_PROFILE.idx ∉ s.hub.once →
        ∃ t, exec (.profileWrite port 15 val) s = .next t ∧ s.Waits t DEV_PROFILE_PROFILE (bitsOf val 0 2)
          ∧ DEV_PROFILE_PROFILE.idx ∈ t.hub.once
          ∧ (t.hub.inForce DEV_PROFILE_PROFILE.idx).get DEV_PROFILE_PROFILE = bitsOf val 0 2) ∧
      (DEV_PROFILE_PROFILE.idx ∈ s.hub.once →
        ∃ t, exec (.profileWrite port 15 val) s = .next t ∧ s.Refused t DEV_PROFILE_PROFILE.idx 0x06)) ∧
    (s.hub.modeReqStatus (bitsOf val 0 3) = 0 →
      ∃ t, exec (.modeRequest port val) s = .next t ∧ s.Waits t DEV_MODEREQ_REQ (bitsOf val 0 3)
        ∧ t.hub.md.req = some (.mode (bitsOf val 0 3))
        ∧ (s.hub.mode ≠ mNAP →
            (bitsOf val 0 3 = s.hub.mode → t.hub.reqActs.mode = s.hub.mode ∧ t.hub.reqActs.md.req = none)
            ∧ (bitsOf val 0 3 ≠ s.hub.mode → bitsOf val 0 3 = mSERVICE → t.hub.reqActs.mode = mSERVICE)
            ∧ (bitsOf val 0 3 ≠ s.hub.mode → s.hub.mode = mSERVICE → t.hub.reqActs.mode = s.hub.md.stringMode)
            ∧ (bitsOf val 0 3 ≠ s.hub.mode → bitsOf val 0 3 ≠ mSERVICE → s.hub.mode ≠ mSERVICE →
                t.hub.reqActs.md.stringMode = bitsOf val 0 3
                ∧ t.hub.reqActs.md.fromTick = some (bitsOf val 0 3, 0)))) ∧
    (s.hub.modeReqStatus (bitsOf val 0 3) ≠ 0 →
      ∃ t, exec (.modeRequest port val) s = .next t
        ∧ s.Refused t DEV_MODEREQ_REQ.idx (s.hub.modeReqStatus (bitsOf val 0 3))) ∧
    (s.hub.shipStatus = 0 →
      ∃ t, exec (.shipRequest port 0x5B1D0A7E) s = .next t ∧ t.hub.acc = ⟨0, 0⟩ ∧ t.hub.md.req = some .ship
        ∧ t.hub.reqActs.md.goingDown = some .ship ∧ s.frame [] [] t) ∧
    (val ≠ 0x5B1D0A7E → ∃ t, exec (.shipRequest port val) s = .next t ∧ s.Refused t DEV_SHIP_KEY.idx 0x0E)

/-- What PG_CTL, PG_COMMIT, PG_LOCK and PG_EVT take for the tick (03 R85–R89, R95–R97): a commit of staged values
waits and reads PENDING, one of a clean page reads CLEAN; a release needs its key and cleared causes; a soft reset, an
enable, a view, locks and cleared flags wait; refusals have the status of their rule. -/
def Obligations.PageControlWaitsForTheTick : Prop :=
  ∀ (s : State) (port : Port) (page : BitVec 8) (p : Nat) (k : PageKind) (key : Byte) (on : Bool) (val : Word),
    s.hub.running = true → p = page.toNat → pageKind s.hub.part p = some k → p ≠ 0x1E →
    (p ≠ 0x0A → (s.hub.page p).commit = false →
      ((s.hub.page p).dirty = true → (s.hub.page p).src = port → s.hub.quietRefuses port = false →
        ∃ t, exec (.pageCommit port page) s = .next t ∧ t.hub.acc = ⟨0, 0⟩ ∧ t.hub.get (PG_COMMIT_RESULT.pg p) = 1
          ∧ t.hub.page p = { s.hub.page p with commit := true } ∧ (∀ q, q ≠ p → t.hub.page q = s.hub.page q)
          ∧ (port = .w → t.hub.twb.commit = some p) ∧ s.frame [PG_COMMIT_RESULT.pg p] [] t) ∧
      ((s.hub.page p).dirty = true → (s.hub.page p).src ≠ port →
        ∃ t, exec (.pageCommit port page) s = .next t ∧ s.Refused t (p * 256 + 5) 0x0A) ∧
      ((s.hub.page p).dirty = false →
        ∃ t, exec (.pageCommit port page) s = .next t ∧ t.hub.acc = ⟨0, 0⟩ ∧ t.hub.get (PG_COMMIT_RESULT.pg p) = 3
          ∧ t.hub.pages = s.hub.pages ∧ s.frame [PG_COMMIT_RESULT.pg p] [] t)) ∧
    ((k.enFixed = true ∨ s.hub.seqHolds p = false ∧ (p = 0x10 → s.hub.chg.committed = true)) →
      (key = 0xFE → (s.hub.fenced p = true → s.hub.allCleared p = true) →
        ∃ t, exec (.fenceRelease port page key) s = .next t ∧ t.hub.acc = ⟨0, 0⟩ ∧ (t.hub.page p).rel = true
          ∧ (t.hub.page p).causes = (s.hub.page p).causes ∧ (∀ q, q ≠ p → t.hub.page q = s.hub.page q)
          ∧ s.frame [] [] t) ∧
      (key = 0xFE → s.hub.fenced p = true → s.hub.allCleared p = false →
        ∃ t, exec (.fenceRelease port page key) s = .next t ∧ s.Refused t (p * 256 + 1) 0x0D) ∧
      (key ≠ 0xFE → ∃ t, exec (.fenceRelease port page key) s = .next t ∧ s.Refused t (p * 256 + 1) 0x0E) ∧
      (s.hub.srstStatus p = 0 →
        ∃ t, exec (.softReset port page) s = .next t ∧ t.hub.acc = ⟨0, 0⟩ ∧ (t.hub.page p).srst = some port
          ∧ (t.hub.page p).causes = (s.hub.page p).causes ∧ (∀ q, q ≠ p → t.hub.page q = s.hub.page q)
          ∧ s.frame [] [] t) ∧
      (s.hub.srstStatus p ≠ 0 →
        ∃ t, exec (.softReset port page) s = .next t ∧ s.Refused t (p * 256 + 1) (s.hub.srstStatus p)) ∧
      (k.enFixed = true ∨ on = false ∨ s.hub.fenced p = false →
        ∃ t, exec (.pageEnable port page on) s = .next t ∧ t.hub.acc = ⟨0, 0⟩
          ∧ (t.hub.page p).en = (if k.enFixed = true then none else some (on, 1))
          ∧ (∀ q, q ≠ p → t.hub.page q = s.hub.page q) ∧ s.frame [] [] t) ∧
      (k.enFixed = true ∨ s.hub.enShown p = false ∨ s.hub.fenced p = false →
        ∃ t, exec (.viewSelect port page on) s = .next t ∧ t.hub.acc = ⟨0, 0⟩
          ∧ t.hub.views = (match port with
              | .e => { s.hub.views with nextE := on }
              | .w => { s.hub.views with nextW := on })
          ∧ (t.hub.page p).causes = (s.hub.page p).causes ∧ (∀ q, q ≠ p → t.hub.page q = s.hub.page q) ∧ s.frame [] [] t)) ∧
    (k.enFixed = false → s.hub.fenced p = true →
      ∃ t, exec (.pageEnable port page true) s = .next t ∧ s.Refused t (p * 256 + 1) 0x0D) ∧
    (∃ t, exec (.pageLock port page val) s = .next t ∧ t.hub.acc = ⟨0, 0⟩
      ∧ (∀ i, i < 16 → i ∉ [2, 3, 4, 5, 6, 7] → val.getLsbD i = true → t.hub.awaits ⟨p * 256 + 6, i, 1⟩ 1)
      ∧ t.hub.regs = s.hub.regs ∧ s.frame [⟨p * 256 + 6, 0, 32⟩] [] t) ∧
    (∃ t, exec (.eventFlagClear port page val) s = .next t ∧ t.hub.acc = ⟨0, 0⟩
      ∧ (∀ i, i < 24 ∨ 29 ≤ i ∧ i < 32 → val.getLsbD i = true →
          ∃ w, mapFind t.hub.pend (p * 256 + 3) = some w ∧ w.clr.getLsbD i = true)
      ∧ t.hub.regs = s.hub.regs ∧ s.frame [flagFld p 0] [] t)

/-- REGISTER_WRITE (03 R79–R84, R92, R95–R96): an absent page, an unmapped offset and a register without a writable
field are refused with 1, 2 and 3; a plain Live field waits, or is refused with 4 out of its range; a Staged field of
a channel goes to the shadow and marks the page for its port, unless the page is locked, commits, or is staged by the
other port. -/
def Obligations.RegisterWritesAreClassed : Prop :=
  ∀ (s : State) (port : Port) (idx : BitVec 16) (be : BitVec 4) (val : Word), s.hub.running = true →
    (pageKind s.hub.part (idx.toNat / 256) = none →
      ∃ t, exec (.registerWrite port idx be val) s = .next t ∧ s.Refused t idx.toNat 0x01) ∧
    ((pageKind s.hub.part (idx.toNat / 256)).isSome = true → findReg s.hub.part idx.toNat = none →
      ∃ t, exec (.registerWrite port idx be val) s = .next t ∧ s.Refused t idx.toNat 0x02) ∧
    (∀ d, findReg s.hub.part idx.toNat = some d → idx.toNat / 256 ≠ 0x1E →
      (∀ f ∈ d.fields, f.acc = .ro ∨ f.acc = .rc) →
      ∃ t, exec (.registerWrite port idx be val) s = .next t ∧ s.Refused t idx.toNat 0x03) ∧
    (∀ (f : Fld) (lo hi : Nat), (f, lo, hi) ∈ [(DEV_IDLET_IDLE_T, 1, 65535), (CLK_MONTOL_TOLF, 1, 1000),
        (STR_CREDTMO_FRAMES, 10, 10000), (GEY_CUSP_CUSPMIN, 10, 2000)] → idx.toNat = f.idx → be = 15 →
      (lo ≤ bitsOf val f.lo f.w → bitsOf val f.lo f.w ≤ hi →
        ∃ t, exec (.registerWrite port idx be val) s = .next t ∧ s.Waits t f (bitsOf val f.lo f.w)) ∧
      (bitsOf val f.lo f.w < lo ∨ hi < bitsOf val f.lo f.w →
        ∃ t, exec (.registerWrite port idx be val) s = .next t ∧ s.Refused t idx.toNat 0x04)) ∧
    (∀ (d : RegDef) (f : FldDef), findReg s.hub.part idx.toNat = some d → d.fields = [f] → f.acc = .rw →
      f.eff = .staged → 0x40 ≤ idx.toNat / 256 → idx.toNat % 256 ≠ 0x08 → idx.toNat % 256 ≠ 0x0B → be = 15 →
      f.lo + f.w ≤ 32 → 0 < f.w → f.lim.ok s.hub.part f.w (bitsOf val f.lo f.w) = true →
      (s.hub.flag (PG_LOCK_CFG.pg (idx.toNat / 256)) = true →
        ∃ t, exec (.registerWrite port idx be val) s = .next t ∧ s.Refused t idx.toNat 0x08) ∧
      (s.hub.flag (PG_LOCK_CFG.pg (idx.toNat / 256)) = false → (s.hub.page (idx.toNat / 256)).commit = true →
        ∃ t, exec (.registerWrite port idx be val) s = .next t ∧ s.Refused t idx.toNat 0x09) ∧
      (s.hub.flag (PG_LOCK_CFG.pg (idx.toNat / 256)) = false → (s.hub.page (idx.toNat / 256)).commit = false →
        (s.hub.page (idx.toNat / 256)).dirty = true → (s.hub.page (idx.toNat / 256)).src ≠ port →
        ∃ t, exec (.registerWrite port idx be val) s = .next t ∧ s.Refused t idx.toNat 0x0A) ∧
      (s.hub.flag (PG_LOCK_CFG.pg (idx.toNat / 256)) = false → (s.hub.page (idx.toNat / 256)).commit = false →
        ((s.hub.page (idx.toNat / 256)).dirty = true → (s.hub.page (idx.toNat / 256)).src = port) →
        ∃ (t : State) (y : Shadow), exec (.registerWrite port idx be val) s = .next t ∧ t.hub.acc = ⟨0, 0⟩
          ∧ mapFind t.hub.shadow idx.toNat = some y ∧ bitsOf y.mask f.lo f.w = 2 ^ f.w - 1
          ∧ bitsOf y.val f.lo f.w = bitsOf val f.lo f.w
          ∧ (∀ i, i ≠ idx.toNat → mapFind t.hub.shadow i = mapFind s.hub.shadow i)
          ∧ t.hub.page (idx.toNat / 256) = { s.hub.page (idx.toNat / 256) with dirty := true, src := port }
          ∧ s.frame [] [] t))

/-- Writes that act at once (06 R187–R191, 13 R354, R361): APP1 appends its port's entry to the lane where it is
valid, there is room and the order holds, and APPRES shows outcome, channel and free slots; a refused entry leaves the
lane; a host request is noted; a field calibration is taken with its input and kind and the codes its conversions
bring. -/
def Obligations.AppendsAndCalibrationsAreTakenAtOnce : Prop :=
  ∀ (s : State) (port : Port) (w1 : Word) (e : Entry) (o : Nat) (input : Byte) (codes : List Nat), s.hub.running = true →
    (e = { w0 := (match port with | .e => s.hub.sec.app0E | .w => s.hub.sec.app0W), w1 := w1 } → o = s.hub.judgeEntry e →
      (o = 0 →
        ∃ t, exec (.appendEntry port 15 w1) s = .next t ∧ t.hub.acc = ⟨0, 0⟩
          ∧ (t.hub.ch e.chan).lane = (s.hub.ch e.chan).lane ++ [e]
          ∧ (e.key = 0 → (t.hub.ch e.chan).tailD = some e.target) ∧ (e.key = 1 → (t.hub.ch e.chan).tailT = some e.target)
          ∧ t.hub.get (CH_SECSTAT_STARVED.pg e.chan) = 0 ∧ (∀ n, n ≠ e.chan → t.hub.ch n = s.hub.ch n)
          ∧ bitsOf (match port with | .e => t.hub.sec.appresE | .w => t.hub.sec.appresW) 0 4 = 0
          ∧ bitsOf (match port with | .e => t.hub.sec.appresE | .w => t.hub.sec.appresW) 8 6 = e.chan
          ∧ s.frame [CH_SECSTAT_STARVED.pg e.chan] [] t) ∧
      (o = 1 →
        ∃ t, exec (.appendEntry port 15 w1) s = .next t ∧ t.hub.acc = ⟨0, 0⟩ ∧ t.hub.chans = s.hub.chans
          ∧ t.hub.get SEC_CNT2_INVAL = min (s.hub.get SEC_CNT2_INVAL + 1) 65535
          ∧ bitsOf (match port with | .e => t.hub.sec.appresE | .w => t.hub.sec.appresW) 0 4 = 1
          ∧ s.frame [SEC_CNT2_INVAL] [] t) ∧
      (2 ≤ o →
        ∃ t, exec (.appendEntry port 15 w1) s = .next t ∧ t.hub.acc = ⟨0, 0⟩ ∧ t.hub.chans = s.hub.chans
          ∧ t.hub.get (flagFld (chPage e.chan) 15) = 1
          ∧ bitsOf (match port with | .e => t.hub.sec.appresE | .w => t.hub.sec.appresW) 0 4 = o
          ∧ s.frame [CH_SECCNT1_REFUSED.pg e.chan, flagFld (chPage e.chan) 15] tracePages t)) ∧
    (∀ val : Word, (inputOf s.hub.part (bitsOf val 0 8)).isSome = true → bitsOf val 8 3 ≤ 4 → bitsOf val 16 16 ≤ 39999 →
      (bitsOf val 15 1 = 1 → (s.hub.host port).busy = false) →
      ∃ t, exec (.adcHostRequest port val) s = .next t ∧ t.hub.acc = ⟨0, 0⟩
        ∧ t.hub.host port = { s.hub.host port with next := some val } ∧ s.frame [] [] t) ∧
    (∀ (c : Instr) (kind : Nat), (c = .calGain port input codes ∧ kind = 0 ∨ c = .calOffset port input codes ∧ kind = 1
        ∨ c = .calRestore port input ∧ kind = 2 ∧ codes = []) →
      (inputOf s.hub.part input.toNat).isSome = true → (s.hub.fcalMode = true ∨ s.hub.judgedMode = mREADY) →
      (kind = 1 → (inputOf s.hub.part input.toNat).any (·.zeroKey.isSome) = false) → s.hub.mea.fcal = none →
      s.hub.get CAL_FSTAT_BUSY = 0 → s.hub.quietRefuses port = false →
      ∃ (t : State) (f : FieldCal), exec c s = .next t ∧ t.hub.acc = ⟨0, 0⟩ ∧ t.hub.mea.fcal = some f
        ∧ f.input = input.toNat ∧ f.kind = kind ∧ f.port = port ∧ f.codes.length = 16
        ∧ (∀ i, i < 16 → i < codes.length → nth f.codes i 0 = nth codes i 0 % 4096)
        ∧ s.frame [CAL_FCMD_INPUT, CAL_FCMD_KIND, CAL_FCMD_GO] [] t) ∧
    (∀ (c : Instr), (c = .calGain port input codes ∨ c = .calOffset port input codes) →
      (inputOf s.hub.part input.toNat).isSome = true → (s.hub.fcalMode = true ∨ s.hub.judgedMode = mREADY) →
      (c = .calGain port input codes ∨ (inputOf s.hub.part input.toNat).any (·.zeroKey.isSome) = false) →
      s.hub.mea.fcal.isSome = true → ∃ t, exec c s = .next t ∧ s.Refused t CAL_FCMD_GO.idx 0x05)
end

