-- ==== Sys2Proof/Laws/State.lean ====
section
/-! SUPPORT. What every update of a part of the hub leaves: one lemma for each update and each part. -/

namespace Sys2Proof.Machine

/-! ## `regs!` -/

@[simp] theorem Hub.regs!_part (h : Hub) (f : List (Nat × Word) → List (Nat × Word)) : (h.regs! f).part = h.part := rfl
@[simp] theorem Hub.regs!_regs (h : Hub) (f : List (Nat × Word) → List (Nat × Word)) : (h.regs! f).regs = f h.regs := rfl
@[simp] theorem Hub.regs!_pend (h : Hub) (f : List (Nat × Word) → List (Nat × Word)) : (h.regs! f).pend = h.pend := rfl
@[simp] theorem Hub.regs!_shadow (h : Hub) (f : List (Nat × Word) → List (Nat × Word)) : (h.regs! f).shadow = h.shadow := rfl
@[simp] theorem Hub.regs!_once (h : Hub) (f : List (Nat × Word) → List (Nat × Word)) : (h.regs! f).once = h.once := rfl
@[simp] theorem Hub.regs!_bad (h : Hub) (f : List (Nat × Word) → List (Nat × Word)) : (h.regs! f).bad = h.bad := rfl
@[simp] theorem Hub.regs!_pages (h : Hub) (f : List (Nat × Word) → List (Nat × Word)) : (h.regs! f).pages = h.pages := rfl
@[simp] theorem Hub.regs!_views (h : Hub) (f : List (Nat × Word) → List (Nat × Word)) : (h.regs! f).views = h.views := rfl
@[simp] theorem Hub.regs!_acc (h : Hub) (f : List (Nat × Word) → List (Nat × Word)) : (h.regs! f).acc = h.acc := rfl
@[simp] theorem Hub.regs!_cyc (h : Hub) (f : List (Nat × Word) → List (Nat × Word)) : (h.regs! f).cyc = h.cyc := rfl
@[simp] theorem Hub.regs!_clk (h : Hub) (f : List (Nat × Word) → List (Nat × Word)) : (h.regs! f).clk = h.clk := rfl
@[simp] theorem Hub.regs!_frm (h : Hub) (f : List (Nat × Word) → List (Nat × Word)) : (h.regs! f).frm = h.frm := rfl
@[simp] theorem Hub.regs!_md (h : Hub) (f : List (Nat × Word) → List (Nat × Word)) : (h.regs! f).md = h.md := rfl
@[simp] theorem Hub.regs!_rcd (h : Hub) (f : List (Nat × Word) → List (Nat × Word)) : (h.regs! f).rcd = h.rcd := rfl
@[simp] theorem Hub.regs!_keys (h : Hub) (f : List (Nat × Word) → List (Nat × Word)) : (h.regs! f).keys = h.keys := rfl
@[simp] theorem Hub.regs!_chans (h : Hub) (f : List (Nat × Word) → List (Nat × Word)) : (h.regs! f).chans = h.chans := rfl
@[simp] theorem Hub.regs!_sec (h : Hub) (f : List (Nat × Word) → List (Nat × Word)) : (h.regs! f).sec = h.sec := rfl
@[simp] theorem Hub.regs!_engines (h : Hub) (f : List (Nat × Word) → List (Nat × Word)) : (h.regs! f).engines = h.engines := rfl
@[simp] theorem Hub.regs!_meas (h : Hub) (f : List (Nat × Word) → List (Nat × Word)) : (h.regs! f).meas = h.meas := rfl
@[simp] theorem Hub.regs!_feedA (h : Hub) (f : List (Nat × Word) → List (Nat × Word)) : (h.regs! f).feedA = h.feedA := rfl
@[simp] theorem Hub.regs!_feedB (h : Hub) (f : List (Nat × Word) → List (Nat × Word)) : (h.regs! f).feedB = h.feedB := rfl
@[simp] theorem Hub.regs!_share (h : Hub) (f : List (Nat × Word) → List (Nat × Word)) : (h.regs! f).share = h.share := rfl
@[simp] theorem Hub.regs!_convs (h : Hub) (f : List (Nat × Word) → List (Nat × Word)) : (h.regs! f).convs = h.convs := rfl
@[simp] theorem Hub.regs!_lb (h : Hub) (f : List (Nat × Word) → List (Nat × Word)) : (h.regs! f).lb = h.lb := rfl
@[simp] theorem Hub.regs!_bud (h : Hub) (f : List (Nat × Word) → List (Nat × Word)) : (h.regs! f).bud = h.bud := rfl
@[simp] theorem Hub.regs!_chg (h : Hub) (f : List (Nat × Word) → List (Nat × Word)) : (h.regs! f).chg = h.chg := rfl
@[simp] theorem Hub.regs!_seq (h : Hub) (f : List (Nat × Word) → List (Nat × Word)) : (h.regs! f).seq = h.seq := rfl
@[simp] theorem Hub.regs!_mea (h : Hub) (f : List (Nat × Word) → List (Nat × Word)) : (h.regs! f).mea = h.mea := rfl
@[simp] theorem Hub.regs!_link (h : Hub) (f : List (Nat × Word) → List (Nat × Word)) : (h.regs! f).link = h.link := rfl
@[simp] theorem Hub.regs!_twb (h : Hub) (f : List (Nat × Word) → List (Nat × Word)) : (h.regs! f).twb = h.twb := rfl
@[simp] theorem Hub.regs!_wd (h : Hub) (f : List (Nat × Word) → List (Nat × Word)) : (h.regs! f).wd = h.wd := rfl
@[simp] theorem Hub.regs!_rtc (h : Hub) (f : List (Nat × Word) → List (Nat × Word)) : (h.regs! f).rtc = h.rtc := rfl
@[simp] theorem Hub.regs!_tst (h : Hub) (f : List (Nat × Word) → List (Nat × Word)) : (h.regs! f).tst = h.tst := rfl

/-! ## `pend!` -/

@[simp] theorem Hub.pend!_part (h : Hub) (f : List (Nat × PendW) → List (Nat × PendW)) : (h.pend! f).part = h.part := rfl
@[simp] theorem Hub.pend!_regs (h : Hub) (f : List (Nat × PendW) → List (Nat × PendW)) : (h.pend! f).regs = h.regs := rfl
@[simp] theorem Hub.pend!_pend (h : Hub) (f : List (Nat × PendW) → List (Nat × PendW)) : (h.pend! f).pend = f h.pend := rfl
@[simp] theorem Hub.pend!_shadow (h : Hub) (f : List (Nat × PendW) → List (Nat × PendW)) : (h.pend! f).shadow = h.shadow := rfl
@[simp] theorem Hub.pend!_once (h : Hub) (f : List (Nat × PendW) → List (Nat × PendW)) : (h.pend! f).once = h.once := rfl
@[simp] theorem Hub.pend!_bad (h : Hub) (f : List (Nat × PendW) → List (Nat × PendW)) : (h.pend! f).bad = h.bad := rfl
@[simp] theorem Hub.pend!_pages (h : Hub) (f : List (Nat × PendW) → List (Nat × PendW)) : (h.pend! f).pages = h.pages := rfl
@[simp] theorem Hub.pend!_views (h : Hub) (f : List (Nat × PendW) → List (Nat × PendW)) : (h.pend! f).views = h.views := rfl
@[simp] theorem Hub.pend!_acc (h : Hub) (f : List (Nat × PendW) → List (Nat × PendW)) : (h.pend! f).acc = h.acc := rfl
@[simp] theorem Hub.pend!_cyc (h : Hub) (f : List (Nat × PendW) → List (Nat × PendW)) : (h.pend! f).cyc = h.cyc := rfl
@[simp] theorem Hub.pend!_clk (h : Hub) (f : List (Nat × PendW) → List (Nat × PendW)) : (h.pend! f).clk = h.clk := rfl
@[simp] theorem Hub.pend!_frm (h : Hub) (f : List (Nat × PendW) → List (Nat × PendW)) : (h.pend! f).frm = h.frm := rfl
@[simp] theorem Hub.pend!_md (h : Hub) (f : List (Nat × PendW) → List (Nat × PendW)) : (h.pend! f).md = h.md := rfl
@[simp] theorem Hub.pend!_rcd (h : Hub) (f : List (Nat × PendW) → List (Nat × PendW)) : (h.pend! f).rcd = h.rcd := rfl
@[simp] theorem Hub.pend!_keys (h : Hub) (f : List (Nat × PendW) → List (Nat × PendW)) : (h.pend! f).keys = h.keys := rfl
@[simp] theorem Hub.pend!_chans (h : Hub) (f : List (Nat × PendW) → List (Nat × PendW)) : (h.pend! f).chans = h.chans := rfl
@[simp] theorem Hub.pend!_sec (h : Hub) (f : List (Nat × PendW) → List (Nat × PendW)) : (h.pend! f).sec = h.sec := rfl
@[simp] theorem Hub.pend!_engines (h : Hub) (f : List (Nat × PendW) → List (Nat × PendW)) : (h.pend! f).engines = h.engines := rfl
@[simp] theorem Hub.pend!_meas (h : Hub) (f : List (Nat × PendW) → List (Nat × PendW)) : (h.pend! f).meas = h.meas := rfl
@[simp] theorem Hub.pend!_feedA (h : Hub) (f : List (Nat × PendW) → List (Nat × PendW)) : (h.pend! f).feedA = h.feedA := rfl
@[simp] theorem Hub.pend!_feedB (h : Hub) (f : List (Nat × PendW) → List (Nat × PendW)) : (h.pend! f).feedB = h.feedB := rfl
@[simp] theorem Hub.pend!_share (h : Hub) (f : List (Nat × PendW) → List (Nat × PendW)) : (h.pend! f).share = h.share := rfl
@[simp] theorem Hub.pend!_convs (h : Hub) (f : List (Nat × PendW) → List (Nat × PendW)) : (h.pend! f).convs = h.convs := rfl
@[simp] theorem Hub.pend!_lb (h : Hub) (f : List (Nat × PendW) → List (Nat × PendW)) : (h.pend! f).lb = h.lb := rfl
@[simp] theorem Hub.pend!_bud (h : Hub) (f : List (Nat × PendW) → List (Nat × PendW)) : (h.pend! f).bud = h.bud := rfl
@[simp] theorem Hub.pend!_chg (h : Hub) (f : List (Nat × PendW) → List (Nat × PendW)) : (h.pend! f).chg = h.chg := rfl
@[simp] theorem Hub.pend!_seq (h : Hub) (f : List (Nat × PendW) → List (Nat × PendW)) : (h.pend! f).seq = h.seq := rfl
@[simp] theorem Hub.pend!_mea (h : Hub) (f : List (Nat × PendW) → List (Nat × PendW)) : (h.pend! f).mea = h.mea := rfl
@[simp] theorem Hub.pend!_link (h : Hub) (f : List (Nat × PendW) → List (Nat × PendW)) : (h.pend! f).link = h.link := rfl
@[simp] theorem Hub.pend!_twb (h : Hub) (f : List (Nat × PendW) → List (Nat × PendW)) : (h.pend! f).twb = h.twb := rfl
@[simp] theorem Hub.pend!_wd (h : Hub) (f : List (Nat × PendW) → List (Nat × PendW)) : (h.pend! f).wd = h.wd := rfl
@[simp] theorem Hub.pend!_rtc (h : Hub) (f : List (Nat × PendW) → List (Nat × PendW)) : (h.pend! f).rtc = h.rtc := rfl
@[simp] theorem Hub.pend!_tst (h : Hub) (f : List (Nat × PendW) → List (Nat × PendW)) : (h.pend! f).tst = h.tst := rfl

/-! ## `shadow!` -/

@[simp] theorem Hub.shadow!_part (h : Hub) (f : List (Nat × Shadow) → List (Nat × Shadow)) : (h.shadow! f).part = h.part := rfl
@[simp] theorem Hub.shadow!_regs (h : Hub) (f : List (Nat × Shadow) → List (Nat × Shadow)) : (h.shadow! f).regs = h.regs := rfl
@[simp] theorem Hub.shadow!_pend (h : Hub) (f : List (Nat × Shadow) → List (Nat × Shadow)) : (h.shadow! f).pend = h.pend := rfl
@[simp] theorem Hub.shadow!_shadow (h : Hub) (f : List (Nat × Shadow) → List (Nat × Shadow)) : (h.shadow! f).shadow = f h.shadow := rfl
@[simp] theorem Hub.shadow!_once (h : Hub) (f : List (Nat × Shadow) → List (Nat × Shadow)) : (h.shadow! f).once = h.once := rfl
@[simp] theorem Hub.shadow!_bad (h : Hub) (f : List (Nat × Shadow) → List (Nat × Shadow)) : (h.shadow! f).bad = h.bad := rfl
@[simp] theorem Hub.shadow!_pages (h : Hub) (f : List (Nat × Shadow) → List (Nat × Shadow)) : (h.shadow! f).pages = h.pages := rfl
@[simp] theorem Hub.shadow!_views (h : Hub) (f : List (Nat × Shadow) → List (Nat × Shadow)) : (h.shadow! f).views = h.views := rfl
@[simp] theorem Hub.shadow!_acc (h : Hub) (f : List (Nat × Shadow) → List (Nat × Shadow)) : (h.shadow! f).acc = h.acc := rfl
@[simp] theorem Hub.shadow!_cyc (h : Hub) (f : List (Nat × Shadow) → List (Nat × Shadow)) : (h.shadow! f).cyc = h.cyc := rfl
@[simp] theorem Hub.shadow!_clk (h : Hub) (f : List (Nat × Shadow) → List (Nat × Shadow)) : (h.shadow! f).clk = h.clk := rfl
@[simp] theorem Hub.shadow!_frm (h : Hub) (f : List (Nat × Shadow) → List (Nat × Shadow)) : (h.shadow! f).frm = h.frm := rfl
@[simp] theorem Hub.shadow!_md (h : Hub) (f : List (Nat × Shadow) → List (Nat × Shadow)) : (h.shadow! f).md = h.md := rfl
@[simp] theorem Hub.shadow!_rcd (h : Hub) (f : List (Nat × Shadow) → List (Nat × Shadow)) : (h.shadow! f).rcd = h.rcd := rfl
@[simp] theorem Hub.shadow!_keys (h : Hub) (f : List (Nat × Shadow) → List (Nat × Shadow)) : (h.shadow! f).keys = h.keys := rfl
@[simp] theorem Hub.shadow!_chans (h : Hub) (f : List (Nat × Shadow) → List (Nat × Shadow)) : (h.shadow! f).chans = h.chans := rfl
@[simp] theorem Hub.shadow!_sec (h : Hub) (f : List (Nat × Shadow) → List (Nat × Shadow)) : (h.shadow! f).sec = h.sec := rfl
@[simp] theorem Hub.shadow!_engines (h : Hub) (f : List (Nat × Shadow) → List (Nat × Shadow)) : (h.shadow! f).engines = h.engines := rfl
@[simp] theorem Hub.shadow!_meas (h : Hub) (f : List (Nat × Shadow) → List (Nat × Shadow)) : (h.shadow! f).meas = h.meas := rfl
@[simp] theorem Hub.shadow!_feedA (h : Hub) (f : List (Nat × Shadow) → List (Nat × Shadow)) : (h.shadow! f).feedA = h.feedA := rfl
@[simp] theorem Hub.shadow!_feedB (h : Hub) (f : List (Nat × Shadow) → List (Nat × Shadow)) : (h.shadow! f).feedB = h.feedB := rfl
@[simp] theorem Hub.shadow!_share (h : Hub) (f : List (Nat × Shadow) → List (Nat × Shadow)) : (h.shadow! f).share = h.share := rfl
@[simp] theorem Hub.shadow!_convs (h : Hub) (f : List (Nat × Shadow) → List (Nat × Shadow)) : (h.shadow! f).convs = h.convs := rfl
@[simp] theorem Hub.shadow!_lb (h : Hub) (f : List (Nat × Shadow) → List (Nat × Shadow)) : (h.shadow! f).lb = h.lb := rfl
@[simp] theorem Hub.shadow!_bud (h : Hub) (f : List (Nat × Shadow) → List (Nat × Shadow)) : (h.shadow! f).bud = h.bud := rfl
@[simp] theorem Hub.shadow!_chg (h : Hub) (f : List (Nat × Shadow) → List (Nat × Shadow)) : (h.shadow! f).chg = h.chg := rfl
@[simp] theorem Hub.shadow!_seq (h : Hub) (f : List (Nat × Shadow) → List (Nat × Shadow)) : (h.shadow! f).seq = h.seq := rfl
@[simp] theorem Hub.shadow!_mea (h : Hub) (f : List (Nat × Shadow) → List (Nat × Shadow)) : (h.shadow! f).mea = h.mea := rfl
@[simp] theorem Hub.shadow!_link (h : Hub) (f : List (Nat × Shadow) → List (Nat × Shadow)) : (h.shadow! f).link = h.link := rfl
@[simp] theorem Hub.shadow!_twb (h : Hub) (f : List (Nat × Shadow) → List (Nat × Shadow)) : (h.shadow! f).twb = h.twb := rfl
@[simp] theorem Hub.shadow!_wd (h : Hub) (f : List (Nat × Shadow) → List (Nat × Shadow)) : (h.shadow! f).wd = h.wd := rfl
@[simp] theorem Hub.shadow!_rtc (h : Hub) (f : List (Nat × Shadow) → List (Nat × Shadow)) : (h.shadow! f).rtc = h.rtc := rfl
@[simp] theorem Hub.shadow!_tst (h : Hub) (f : List (Nat × Shadow) → List (Nat × Shadow)) : (h.shadow! f).tst = h.tst := rfl

/-! ## `once!` -/

@[simp] theorem Hub.once!_part (h : Hub) (f : List Nat → List Nat) : (h.once! f).part = h.part := rfl
@[simp] theorem Hub.once!_regs (h : Hub) (f : List Nat → List Nat) : (h.once! f).regs = h.regs := rfl
@[simp] theorem Hub.once!_pend (h : Hub) (f : List Nat → List Nat) : (h.once! f).pend = h.pend := rfl
@[simp] theorem Hub.once!_shadow (h : Hub) (f : List Nat → List Nat) : (h.once! f).shadow = h.shadow := rfl
@[simp] theorem Hub.once!_once (h : Hub) (f : List Nat → List Nat) : (h.once! f).once = f h.once := rfl
@[simp] theorem Hub.once!_bad (h : Hub) (f : List Nat → List Nat) : (h.once! f).bad = h.bad := rfl
@[simp] theorem Hub.once!_pages (h : Hub) (f : List Nat → List Nat) : (h.once! f).pages = h.pages := rfl
@[simp] theorem Hub.once!_views (h : Hub) (f : List Nat → List Nat) : (h.once! f).views = h.views := rfl
@[simp] theorem Hub.once!_acc (h : Hub) (f : List Nat → List Nat) : (h.once! f).acc = h.acc := rfl
@[simp] theorem Hub.once!_cyc (h : Hub) (f : List Nat → List Nat) : (h.once! f).cyc = h.cyc := rfl
@[simp] theorem Hub.once!_clk (h : Hub) (f : List Nat → List Nat) : (h.once! f).clk = h.clk := rfl
@[simp] theorem Hub.once!_frm (h : Hub) (f : List Nat → List Nat) : (h.once! f).frm = h.frm := rfl
@[simp] theorem Hub.once!_md (h : Hub) (f : List Nat → List Nat) : (h.once! f).md = h.md := rfl
@[simp] theorem Hub.once!_rcd (h : Hub) (f : List Nat → List Nat) : (h.once! f).rcd = h.rcd := rfl
@[simp] theorem Hub.once!_keys (h : Hub) (f : List Nat → List Nat) : (h.once! f).keys = h.keys := rfl
@[simp] theorem Hub.once!_chans (h : Hub) (f : List Nat → List Nat) : (h.once! f).chans = h.chans := rfl
@[simp] theorem Hub.once!_sec (h : Hub) (f : List Nat → List Nat) : (h.once! f).sec = h.sec := rfl
@[simp] theorem Hub.once!_engines (h : Hub) (f : List Nat → List Nat) : (h.once! f).engines = h.engines := rfl
@[simp] theorem Hub.once!_meas (h : Hub) (f : List Nat → List Nat) : (h.once! f).meas = h.meas := rfl
@[simp] theorem Hub.once!_feedA (h : Hub) (f : List Nat → List Nat) : (h.once! f).feedA = h.feedA := rfl
@[simp] theorem Hub.once!_feedB (h : Hub) (f : List Nat → List Nat) : (h.once! f).feedB = h.feedB := rfl
@[simp] theorem Hub.once!_share (h : Hub) (f : List Nat → List Nat) : (h.once! f).share = h.share := rfl
@[simp] theorem Hub.once!_convs (h : Hub) (f : List Nat → List Nat) : (h.once! f).convs = h.convs := rfl
@[simp] theorem Hub.once!_lb (h : Hub) (f : List Nat → List Nat) : (h.once! f).lb = h.lb := rfl
@[simp] theorem Hub.once!_bud (h : Hub) (f : List Nat → List Nat) : (h.once! f).bud = h.bud := rfl
@[simp] theorem Hub.once!_chg (h : Hub) (f : List Nat → List Nat) : (h.once! f).chg = h.chg := rfl
@[simp] theorem Hub.once!_seq (h : Hub) (f : List Nat → List Nat) : (h.once! f).seq = h.seq := rfl
@[simp] theorem Hub.once!_mea (h : Hub) (f : List Nat → List Nat) : (h.once! f).mea = h.mea := rfl
@[simp] theorem Hub.once!_link (h : Hub) (f : List Nat → List Nat) : (h.once! f).link = h.link := rfl
@[simp] theorem Hub.once!_twb (h : Hub) (f : List Nat → List Nat) : (h.once! f).twb = h.twb := rfl
@[simp] theorem Hub.once!_wd (h : Hub) (f : List Nat → List Nat) : (h.once! f).wd = h.wd := rfl
@[simp] theorem Hub.once!_rtc (h : Hub) (f : List Nat → List Nat) : (h.once! f).rtc = h.rtc := rfl
@[simp] theorem Hub.once!_tst (h : Hub) (f : List Nat → List Nat) : (h.once! f).tst = h.tst := rfl

/-! ## `bad!` -/

@[simp] theorem Hub.bad!_part (h : Hub) (f : List BadByte → List BadByte) : (h.bad! f).part = h.part := rfl
@[simp] theorem Hub.bad!_regs (h : Hub) (f : List BadByte → List BadByte) : (h.bad! f).regs = h.regs := rfl
@[simp] theorem Hub.bad!_pend (h : Hub) (f : List BadByte → List BadByte) : (h.bad! f).pend = h.pend := rfl
@[simp] theorem Hub.bad!_shadow (h : Hub) (f : List BadByte → List BadByte) : (h.bad! f).shadow = h.shadow := rfl
@[simp] theorem Hub.bad!_once (h : Hub) (f : List BadByte → List BadByte) : (h.bad! f).once = h.once := rfl
@[simp] theorem Hub.bad!_bad (h : Hub) (f : List BadByte → List BadByte) : (h.bad! f).bad = f h.bad := rfl
@[simp] theorem Hub.bad!_pages (h : Hub) (f : List BadByte → List BadByte) : (h.bad! f).pages = h.pages := rfl
@[simp] theorem Hub.bad!_views (h : Hub) (f : List BadByte → List BadByte) : (h.bad! f).views = h.views := rfl
@[simp] theorem Hub.bad!_acc (h : Hub) (f : List BadByte → List BadByte) : (h.bad! f).acc = h.acc := rfl
@[simp] theorem Hub.bad!_cyc (h : Hub) (f : List BadByte → List BadByte) : (h.bad! f).cyc = h.cyc := rfl
@[simp] theorem Hub.bad!_clk (h : Hub) (f : List BadByte → List BadByte) : (h.bad! f).clk = h.clk := rfl
@[simp] theorem Hub.bad!_frm (h : Hub) (f : List BadByte → List BadByte) : (h.bad! f).frm = h.frm := rfl
@[simp] theorem Hub.bad!_md (h : Hub) (f : List BadByte → List BadByte) : (h.bad! f).md = h.md := rfl
@[simp] theorem Hub.bad!_rcd (h : Hub) (f : List BadByte → List BadByte) : (h.bad! f).rcd = h.rcd := rfl
@[simp] theorem Hub.bad!_keys (h : Hub) (f : List BadByte → List BadByte) : (h.bad! f).keys = h.keys := rfl
@[simp] theorem Hub.bad!_chans (h : Hub) (f : List BadByte → List BadByte) : (h.bad! f).chans = h.chans := rfl
@[simp] theorem Hub.bad!_sec (h : Hub) (f : List BadByte → List BadByte) : (h.bad! f).sec = h.sec := rfl
@[simp] theorem Hub.bad!_engines (h : Hub) (f : List BadByte → List BadByte) : (h.bad! f).engines = h.engines := rfl
@[simp] theorem Hub.bad!_meas (h : Hub) (f : List BadByte → List BadByte) : (h.bad! f).meas = h.meas := rfl
@[simp] theorem Hub.bad!_feedA (h : Hub) (f : List BadByte → List BadByte) : (h.bad! f).feedA = h.feedA := rfl
@[simp] theorem Hub.bad!_feedB (h : Hub) (f : List BadByte → List BadByte) : (h.bad! f).feedB = h.feedB := rfl
@[simp] theorem Hub.bad!_share (h : Hub) (f : List BadByte → List BadByte) : (h.bad! f).share = h.share := rfl
@[simp] theorem Hub.bad!_convs (h : Hub) (f : List BadByte → List BadByte) : (h.bad! f).convs = h.convs := rfl
@[simp] theorem Hub.bad!_lb (h : Hub) (f : List BadByte → List BadByte) : (h.bad! f).lb = h.lb := rfl
@[simp] theorem Hub.bad!_bud (h : Hub) (f : List BadByte → List BadByte) : (h.bad! f).bud = h.bud := rfl
@[simp] theorem Hub.bad!_chg (h : Hub) (f : List BadByte → List BadByte) : (h.bad! f).chg = h.chg := rfl
@[simp] theorem Hub.bad!_seq (h : Hub) (f : List BadByte → List BadByte) : (h.bad! f).seq = h.seq := rfl
@[simp] theorem Hub.bad!_mea (h : Hub) (f : List BadByte → List BadByte) : (h.bad! f).mea = h.mea := rfl
@[simp] theorem Hub.bad!_link (h : Hub) (f : List BadByte → List BadByte) : (h.bad! f).link = h.link := rfl
@[simp] theorem Hub.bad!_twb (h : Hub) (f : List BadByte → List BadByte) : (h.bad! f).twb = h.twb := rfl
@[simp] theorem Hub.bad!_wd (h : Hub) (f : List BadByte → List BadByte) : (h.bad! f).wd = h.wd := rfl
@[simp] theorem Hub.bad!_rtc (h : Hub) (f : List BadByte → List BadByte) : (h.bad! f).rtc = h.rtc := rfl
@[simp] theorem Hub.bad!_tst (h : Hub) (f : List BadByte → List BadByte) : (h.bad! f).tst = h.tst := rfl

/-! ## `pages!` -/

@[simp] theorem Hub.pages!_part (h : Hub) (f : List (Nat × PageHdr) → List (Nat × PageHdr)) : (h.pages! f).part = h.part := rfl
@[simp] theorem Hub.pages!_regs (h : Hub) (f : List (Nat × PageHdr) → List (Nat × PageHdr)) : (h.pages! f).regs = h.regs := rfl
@[simp] theorem Hub.pages!_pend (h : Hub) (f : List (Nat × PageHdr) → List (Nat × PageHdr)) : (h.pages! f).pend = h.pend := rfl
@[simp] theorem Hub.pages!_shadow (h : Hub) (f : List (Nat × PageHdr) → List (Nat × PageHdr)) : (h.pages! f).shadow = h.shadow := rfl
@[simp] theorem Hub.pages!_once (h : Hub) (f : List (Nat × PageHdr) → List (Nat × PageHdr)) : (h.pages! f).once = h.once := rfl
@[simp] theorem Hub.pages!_bad (h : Hub) (f : List (Nat × PageHdr) → List (Nat × PageHdr)) : (h.pages! f).bad = h.bad := rfl
@[simp] theorem Hub.pages!_pages (h : Hub) (f : List (Nat × PageHdr) → List (Nat × PageHdr)) : (h.pages! f).pages = f h.pages := rfl
@[simp] theorem Hub.pages!_views (h : Hub) (f : List (Nat × PageHdr) → List (Nat × PageHdr)) : (h.pages! f).views = h.views := rfl
@[simp] theorem Hub.pages!_acc (h : Hub) (f : List (Nat × PageHdr) → List (Nat × PageHdr)) : (h.pages! f).acc = h.acc := rfl
@[simp] theorem Hub.pages!_cyc (h : Hub) (f : List (Nat × PageHdr) → List (Nat × PageHdr)) : (h.pages! f).cyc = h.cyc := rfl
@[simp] theorem Hub.pages!_clk (h : Hub) (f : List (Nat × PageHdr) → List (Nat × PageHdr)) : (h.pages! f).clk = h.clk := rfl
@[simp] theorem Hub.pages!_frm (h : Hub) (f : List (Nat × PageHdr) → List (Nat × PageHdr)) : (h.pages! f).frm = h.frm := rfl
@[simp] theorem Hub.pages!_md (h : Hub) (f : List (Nat × PageHdr) → List (Nat × PageHdr)) : (h.pages! f).md = h.md := rfl
@[simp] theorem Hub.pages!_rcd (h : Hub) (f : List (Nat × PageHdr) → List (Nat × PageHdr)) : (h.pages! f).rcd = h.rcd := rfl
@[simp] theorem Hub.pages!_keys (h : Hub) (f : List (Nat × PageHdr) → List (Nat × PageHdr)) : (h.pages! f).keys = h.keys := rfl
@[simp] theorem Hub.pages!_chans (h : Hub) (f : List (Nat × PageHdr) → List (Nat × PageHdr)) : (h.pages! f).chans = h.chans := rfl
@[simp] theorem Hub.pages!_sec (h : Hub) (f : List (Nat × PageHdr) → List (Nat × PageHdr)) : (h.pages! f).sec = h.sec := rfl
@[simp] theorem Hub.pages!_engines (h : Hub) (f : List (Nat × PageHdr) → List (Nat × PageHdr)) : (h.pages! f).engines = h.engines := rfl
@[simp] theorem Hub.pages!_meas (h : Hub) (f : List (Nat × PageHdr) → List (Nat × PageHdr)) : (h.pages! f).meas = h.meas := rfl
@[simp] theorem Hub.pages!_feedA (h : Hub) (f : List (Nat × PageHdr) → List (Nat × PageHdr)) : (h.pages! f).feedA = h.feedA := rfl
@[simp] theorem Hub.pages!_feedB (h : Hub) (f : List (Nat × PageHdr) → List (Nat × PageHdr)) : (h.pages! f).feedB = h.feedB := rfl
@[simp] theorem Hub.pages!_share (h : Hub) (f : List (Nat × PageHdr) → List (Nat × PageHdr)) : (h.pages! f).share = h.share := rfl
@[simp] theorem Hub.pages!_convs (h : Hub) (f : List (Nat × PageHdr) → List (Nat × PageHdr)) : (h.pages! f).convs = h.convs := rfl
@[simp] theorem Hub.pages!_lb (h : Hub) (f : List (Nat × PageHdr) → List (Nat × PageHdr)) : (h.pages! f).lb = h.lb := rfl
@[simp] theorem Hub.pages!_bud (h : Hub) (f : List (Nat × PageHdr) → List (Nat × PageHdr)) : (h.pages! f).bud = h.bud := rfl
@[simp] theorem Hub.pages!_chg (h : Hub) (f : List (Nat × PageHdr) → List (Nat × PageHdr)) : (h.pages! f).chg = h.chg := rfl
@[simp] theorem Hub.pages!_seq (h : Hub) (f : List (Nat × PageHdr) → List (Nat × PageHdr)) : (h.pages! f).seq = h.seq := rfl
@[simp] theorem Hub.pages!_mea (h : Hub) (f : List (Nat × PageHdr) → List (Nat × PageHdr)) : (h.pages! f).mea = h.mea := rfl
@[simp] theorem Hub.pages!_link (h : Hub) (f : List (Nat × PageHdr) → List (Nat × PageHdr)) : (h.pages! f).link = h.link := rfl
@[simp] theorem Hub.pages!_twb (h : Hub) (f : List (Nat × PageHdr) → List (Nat × PageHdr)) : (h.pages! f).twb = h.twb := rfl
@[simp] theorem Hub.pages!_wd (h : Hub) (f : List (Nat × PageHdr) → List (Nat × PageHdr)) : (h.pages! f).wd = h.wd := rfl
@[simp] theorem Hub.pages!_rtc (h : Hub) (f : List (Nat × PageHdr) → List (Nat × PageHdr)) : (h.pages! f).rtc = h.rtc := rfl
@[simp] theorem Hub.pages!_tst (h : Hub) (f : List (Nat × PageHdr) → List (Nat × PageHdr)) : (h.pages! f).tst = h.tst := rfl

/-! ## `views!` -/

@[simp] theorem Hub.views!_part (h : Hub) (f : PortViews → PortViews) : (h.views! f).part = h.part := rfl
@[simp] theorem Hub.views!_regs (h : Hub) (f : PortViews → PortViews) : (h.views! f).regs = h.regs := rfl
@[simp] theorem Hub.views!_pend (h : Hub) (f : PortViews → PortViews) : (h.views! f).pend = h.pend := rfl
@[simp] theorem Hub.views!_shadow (h : Hub) (f : PortViews → PortViews) : (h.views! f).shadow = h.shadow := rfl
@[simp] theorem Hub.views!_once (h : Hub) (f : PortViews → PortViews) : (h.views! f).once = h.once := rfl
@[simp] theorem Hub.views!_bad (h : Hub) (f : PortViews → PortViews) : (h.views! f).bad = h.bad := rfl
@[simp] theorem Hub.views!_pages (h : Hub) (f : PortViews → PortViews) : (h.views! f).pages = h.pages := rfl
@[simp] theorem Hub.views!_views (h : Hub) (f : PortViews → PortViews) : (h.views! f).views = f h.views := rfl
@[simp] theorem Hub.views!_acc (h : Hub) (f : PortViews → PortViews) : (h.views! f).acc = h.acc := rfl
@[simp] theorem Hub.views!_cyc (h : Hub) (f : PortViews → PortViews) : (h.views! f).cyc = h.cyc := rfl
@[simp] theorem Hub.views!_clk (h : Hub) (f : PortViews → PortViews) : (h.views! f).clk = h.clk := rfl
@[simp] theorem Hub.views!_frm (h : Hub) (f : PortViews → PortViews) : (h.views! f).frm = h.frm := rfl
@[simp] theorem Hub.views!_md (h : Hub) (f : PortViews → PortViews) : (h.views! f).md = h.md := rfl
@[simp] theorem Hub.views!_rcd (h : Hub) (f : PortViews → PortViews) : (h.views! f).rcd = h.rcd := rfl
@[simp] theorem Hub.views!_keys (h : Hub) (f : PortViews → PortViews) : (h.views! f).keys = h.keys := rfl
@[simp] theorem Hub.views!_chans (h : Hub) (f : PortViews → PortViews) : (h.views! f).chans = h.chans := rfl
@[simp] theorem Hub.views!_sec (h : Hub) (f : PortViews → PortViews) : (h.views! f).sec = h.sec := rfl
@[simp] theorem Hub.views!_engines (h : Hub) (f : PortViews → PortViews) : (h.views! f).engines = h.engines := rfl
@[simp] theorem Hub.views!_meas (h : Hub) (f : PortViews → PortViews) : (h.views! f).meas = h.meas := rfl
@[simp] theorem Hub.views!_feedA (h : Hub) (f : PortViews → PortViews) : (h.views! f).feedA = h.feedA := rfl
@[simp] theorem Hub.views!_feedB (h : Hub) (f : PortViews → PortViews) : (h.views! f).feedB = h.feedB := rfl
@[simp] theorem Hub.views!_share (h : Hub) (f : PortViews → PortViews) : (h.views! f).share = h.share := rfl
@[simp] theorem Hub.views!_convs (h : Hub) (f : PortViews → PortViews) : (h.views! f).convs = h.convs := rfl
@[simp] theorem Hub.views!_lb (h : Hub) (f : PortViews → PortViews) : (h.views! f).lb = h.lb := rfl
@[simp] theorem Hub.views!_bud (h : Hub) (f : PortViews → PortViews) : (h.views! f).bud = h.bud := rfl
@[simp] theorem Hub.views!_chg (h : Hub) (f : PortViews → PortViews) : (h.views! f).chg = h.chg := rfl
@[simp] theorem Hub.views!_seq (h : Hub) (f : PortViews → PortViews) : (h.views! f).seq = h.seq := rfl
@[simp] theorem Hub.views!_mea (h : Hub) (f : PortViews → PortViews) : (h.views! f).mea = h.mea := rfl
@[simp] theorem Hub.views!_link (h : Hub) (f : PortViews → PortViews) : (h.views! f).link = h.link := rfl
@[simp] theorem Hub.views!_twb (h : Hub) (f : PortViews → PortViews) : (h.views! f).twb = h.twb := rfl
@[simp] theorem Hub.views!_wd (h : Hub) (f : PortViews → PortViews) : (h.views! f).wd = h.wd := rfl
@[simp] theorem Hub.views!_rtc (h : Hub) (f : PortViews → PortViews) : (h.views! f).rtc = h.rtc := rfl
@[simp] theorem Hub.views!_tst (h : Hub) (f : PortViews → PortViews) : (h.views! f).tst = h.tst := rfl

/-! ## `answered` -/

@[simp] theorem Hub.answered_part (h : Hub) (a : AccRes) : (h.answered a).part = h.part := rfl
@[simp] theorem Hub.answered_regs (h : Hub) (a : AccRes) : (h.answered a).regs = h.regs := rfl
@[simp] theorem Hub.answered_pend (h : Hub) (a : AccRes) : (h.answered a).pend = h.pend := rfl
@[simp] theorem Hub.answered_shadow (h : Hub) (a : AccRes) : (h.answered a).shadow = h.shadow := rfl
@[simp] theorem Hub.answered_once (h : Hub) (a : AccRes) : (h.answered a).once = h.once := rfl
@[simp] theorem Hub.answered_bad (h : Hub) (a : AccRes) : (h.answered a).bad = h.bad := rfl
@[simp] theorem Hub.answered_pages (h : Hub) (a : AccRes) : (h.answered a).pages = h.pages := rfl
@[simp] theorem Hub.answered_views (h : Hub) (a : AccRes) : (h.answered a).views = h.views := rfl
@[simp] theorem Hub.answered_acc (h : Hub) (a : AccRes) : (h.answered a).acc = a := rfl
@[simp] theorem Hub.answered_cyc (h : Hub) (a : AccRes) : (h.answered a).cyc = h.cyc := rfl
@[simp] theorem Hub.answered_clk (h : Hub) (a : AccRes) : (h.answered a).clk = h.clk := rfl
@[simp] theorem Hub.answered_frm (h : Hub) (a : AccRes) : (h.answered a).frm = h.frm := rfl
@[simp] theorem Hub.answered_md (h : Hub) (a : AccRes) : (h.answered a).md = h.md := rfl
@[simp] theorem Hub.answered_rcd (h : Hub) (a : AccRes) : (h.answered a).rcd = h.rcd := rfl
@[simp] theorem Hub.answered_keys (h : Hub) (a : AccRes) : (h.answered a).keys = h.keys := rfl
@[simp] theorem Hub.answered_chans (h : Hub) (a : AccRes) : (h.answered a).chans = h.chans := rfl
@[simp] theorem Hub.answered_sec (h : Hub) (a : AccRes) : (h.answered a).sec = h.sec := rfl
@[simp] theorem Hub.answered_engines (h : Hub) (a : AccRes) : (h.answered a).engines = h.engines := rfl
@[simp] theorem Hub.answered_meas (h : Hub) (a : AccRes) : (h.answered a).meas = h.meas := rfl
@[simp] theorem Hub.answered_feedA (h : Hub) (a : AccRes) : (h.answered a).feedA = h.feedA := rfl
@[simp] theorem Hub.answered_feedB (h : Hub) (a : AccRes) : (h.answered a).feedB = h.feedB := rfl
@[simp] theorem Hub.answered_share (h : Hub) (a : AccRes) : (h.answered a).share = h.share := rfl
@[simp] theorem Hub.answered_convs (h : Hub) (a : AccRes) : (h.answered a).convs = h.convs := rfl
@[simp] theorem Hub.answered_lb (h : Hub) (a : AccRes) : (h.answered a).lb = h.lb := rfl
@[simp] theorem Hub.answered_bud (h : Hub) (a : AccRes) : (h.answered a).bud = h.bud := rfl
@[simp] theorem Hub.answered_chg (h : Hub) (a : AccRes) : (h.answered a).chg = h.chg := rfl
@[simp] theorem Hub.answered_seq (h : Hub) (a : AccRes) : (h.answered a).seq = h.seq := rfl
@[simp] theorem Hub.answered_mea (h : Hub) (a : AccRes) : (h.answered a).mea = h.mea := rfl
@[simp] theorem Hub.answered_link (h : Hub) (a : AccRes) : (h.answered a).link = h.link := rfl
@[simp] theorem Hub.answered_twb (h : Hub) (a : AccRes) : (h.answered a).twb = h.twb := rfl
@[simp] theorem Hub.answered_wd (h : Hub) (a : AccRes) : (h.answered a).wd = h.wd := rfl
@[simp] theorem Hub.answered_rtc (h : Hub) (a : AccRes) : (h.answered a).rtc = h.rtc := rfl
@[simp] theorem Hub.answered_tst (h : Hub) (a : AccRes) : (h.answered a).tst = h.tst := rfl

/-! ## `atCyc` -/

@[simp] theorem Hub.atCyc_part (h : Hub) (c : Nat) : (h.atCyc c).part = h.part := rfl
@[simp] theorem Hub.atCyc_regs (h : Hub) (c : Nat) : (h.atCyc c).regs = h.regs := rfl
@[simp] theorem Hub.atCyc_pend (h : Hub) (c : Nat) : (h.atCyc c).pend = h.pend := rfl
@[simp] theorem Hub.atCyc_shadow (h : Hub) (c : Nat) : (h.atCyc c).shadow = h.shadow := rfl
@[simp] theorem Hub.atCyc_once (h : Hub) (c : Nat) : (h.atCyc c).once = h.once := rfl
@[simp] theorem Hub.atCyc_bad (h : Hub) (c : Nat) : (h.atCyc c).bad = h.bad := rfl
@[simp] theorem Hub.atCyc_pages (h : Hub) (c : Nat) : (h.atCyc c).pages = h.pages := rfl
@[simp] theorem Hub.atCyc_views (h : Hub) (c : Nat) : (h.atCyc c).views = h.views := rfl
@[simp] theorem Hub.atCyc_acc (h : Hub) (c : Nat) : (h.atCyc c).acc = h.acc := rfl
@[simp] theorem Hub.atCyc_cyc (h : Hub) (c : Nat) : (h.atCyc c).cyc = c := rfl
@[simp] theorem Hub.atCyc_clk (h : Hub) (c : Nat) : (h.atCyc c).clk = h.clk := rfl
@[simp] theorem Hub.atCyc_frm (h : Hub) (c : Nat) : (h.atCyc c).frm = h.frm := rfl
@[simp] theorem Hub.atCyc_md (h : Hub) (c : Nat) : (h.atCyc c).md = h.md := rfl
@[simp] theorem Hub.atCyc_rcd (h : Hub) (c : Nat) : (h.atCyc c).rcd = h.rcd := rfl
@[simp] theorem Hub.atCyc_keys (h : Hub) (c : Nat) : (h.atCyc c).keys = h.keys := rfl
@[simp] theorem Hub.atCyc_chans (h : Hub) (c : Nat) : (h.atCyc c).chans = h.chans := rfl
@[simp] theorem Hub.atCyc_sec (h : Hub) (c : Nat) : (h.atCyc c).sec = h.sec := rfl
@[simp] theorem Hub.atCyc_engines (h : Hub) (c : Nat) : (h.atCyc c).engines = h.engines := rfl
@[simp] theorem Hub.atCyc_meas (h : Hub) (c : Nat) : (h.atCyc c).meas = h.meas := rfl
@[simp] theorem Hub.atCyc_feedA (h : Hub) (c : Nat) : (h.atCyc c).feedA = h.feedA := rfl
@[simp] theorem Hub.atCyc_feedB (h : Hub) (c : Nat) : (h.atCyc c).feedB = h.feedB := rfl
@[simp] theorem Hub.atCyc_share (h : Hub) (c : Nat) : (h.atCyc c).share = h.share := rfl
@[simp] theorem Hub.atCyc_convs (h : Hub) (c : Nat) : (h.atCyc c).convs = h.convs := rfl
@[simp] theorem Hub.atCyc_lb (h : Hub) (c : Nat) : (h.atCyc c).lb = h.lb := rfl
@[simp] theorem Hub.atCyc_bud (h : Hub) (c : Nat) : (h.atCyc c).bud = h.bud := rfl
@[simp] theorem Hub.atCyc_chg (h : Hub) (c : Nat) : (h.atCyc c).chg = h.chg := rfl
@[simp] theorem Hub.atCyc_seq (h : Hub) (c : Nat) : (h.atCyc c).seq = h.seq := rfl
@[simp] theorem Hub.atCyc_mea (h : Hub) (c : Nat) : (h.atCyc c).mea = h.mea := rfl
@[simp] theorem Hub.atCyc_link (h : Hub) (c : Nat) : (h.atCyc c).link = h.link := rfl
@[simp] theorem Hub.atCyc_twb (h : Hub) (c : Nat) : (h.atCyc c).twb = h.twb := rfl
@[simp] theorem Hub.atCyc_wd (h : Hub) (c : Nat) : (h.atCyc c).wd = h.wd := rfl
@[simp] theorem Hub.atCyc_rtc (h : Hub) (c : Nat) : (h.atCyc c).rtc = h.rtc := rfl
@[simp] theorem Hub.atCyc_tst (h : Hub) (c : Nat) : (h.atCyc c).tst = h.tst := rfl

/-! ## `clk!` -/

@[simp] theorem Hub.clk!_part (h : Hub) (f : Clocks → Clocks) : (h.clk! f).part = h.part := rfl
@[simp] theorem Hub.clk!_regs (h : Hub) (f : Clocks → Clocks) : (h.clk! f).regs = h.regs := rfl
@[simp] theorem Hub.clk!_pend (h : Hub) (f : Clocks → Clocks) : (h.clk! f).pend = h.pend := rfl
@[simp] theorem Hub.clk!_shadow (h : Hub) (f : Clocks → Clocks) : (h.clk! f).shadow = h.shadow := rfl
@[simp] theorem Hub.clk!_once (h : Hub) (f : Clocks → Clocks) : (h.clk! f).once = h.once := rfl
@[simp] theorem Hub.clk!_bad (h : Hub) (f : Clocks → Clocks) : (h.clk! f).bad = h.bad := rfl
@[simp] theorem Hub.clk!_pages (h : Hub) (f : Clocks → Clocks) : (h.clk! f).pages = h.pages := rfl
@[simp] theorem Hub.clk!_views (h : Hub) (f : Clocks → Clocks) : (h.clk! f).views = h.views := rfl
@[simp] theorem Hub.clk!_acc (h : Hub) (f : Clocks → Clocks) : (h.clk! f).acc = h.acc := rfl
@[simp] theorem Hub.clk!_cyc (h : Hub) (f : Clocks → Clocks) : (h.clk! f).cyc = h.cyc := rfl
@[simp] theorem Hub.clk!_clk (h : Hub) (f : Clocks → Clocks) : (h.clk! f).clk = f h.clk := rfl
@[simp] theorem Hub.clk!_frm (h : Hub) (f : Clocks → Clocks) : (h.clk! f).frm = h.frm := rfl
@[simp] theorem Hub.clk!_md (h : Hub) (f : Clocks → Clocks) : (h.clk! f).md = h.md := rfl
@[simp] theorem Hub.clk!_rcd (h : Hub) (f : Clocks → Clocks) : (h.clk! f).rcd = h.rcd := rfl
@[simp] theorem Hub.clk!_keys (h : Hub) (f : Clocks → Clocks) : (h.clk! f).keys = h.keys := rfl
@[simp] theorem Hub.clk!_chans (h : Hub) (f : Clocks → Clocks) : (h.clk! f).chans = h.chans := rfl
@[simp] theorem Hub.clk!_sec (h : Hub) (f : Clocks → Clocks) : (h.clk! f).sec = h.sec := rfl
@[simp] theorem Hub.clk!_engines (h : Hub) (f : Clocks → Clocks) : (h.clk! f).engines = h.engines := rfl
@[simp] theorem Hub.clk!_meas (h : Hub) (f : Clocks → Clocks) : (h.clk! f).meas = h.meas := rfl
@[simp] theorem Hub.clk!_feedA (h : Hub) (f : Clocks → Clocks) : (h.clk! f).feedA = h.feedA := rfl
@[simp] theorem Hub.clk!_feedB (h : Hub) (f : Clocks → Clocks) : (h.clk! f).feedB = h.feedB := rfl
@[simp] theorem Hub.clk!_share (h : Hub) (f : Clocks → Clocks) : (h.clk! f).share = h.share := rfl
@[simp] theorem Hub.clk!_convs (h : Hub) (f : Clocks → Clocks) : (h.clk! f).convs = h.convs := rfl
@[simp] theorem Hub.clk!_lb (h : Hub) (f : Clocks → Clocks) : (h.clk! f).lb = h.lb := rfl
@[simp] theorem Hub.clk!_bud (h : Hub) (f : Clocks → Clocks) : (h.clk! f).bud = h.bud := rfl
@[simp] theorem Hub.clk!_chg (h : Hub) (f : Clocks → Clocks) : (h.clk! f).chg = h.chg := rfl
@[simp] theorem Hub.clk!_seq (h : Hub) (f : Clocks → Clocks) : (h.clk! f).seq = h.seq := rfl
@[simp] theorem Hub.clk!_mea (h : Hub) (f : Clocks → Clocks) : (h.clk! f).mea = h.mea := rfl
@[simp] theorem Hub.clk!_link (h : Hub) (f : Clocks → Clocks) : (h.clk! f).link = h.link := rfl
@[simp] theorem Hub.clk!_twb (h : Hub) (f : Clocks → Clocks) : (h.clk! f).twb = h.twb := rfl
@[simp] theorem Hub.clk!_wd (h : Hub) (f : Clocks → Clocks) : (h.clk! f).wd = h.wd := rfl
@[simp] theorem Hub.clk!_rtc (h : Hub) (f : Clocks → Clocks) : (h.clk! f).rtc = h.rtc := rfl
@[simp] theorem Hub.clk!_tst (h : Hub) (f : Clocks → Clocks) : (h.clk! f).tst = h.tst := rfl

/-! ## `frm!` -/

@[simp] theorem Hub.frm!_part (h : Hub) (f : Frame → Frame) : (h.frm! f).part = h.part := rfl
@[simp] theorem Hub.frm!_regs (h : Hub) (f : Frame → Frame) : (h.frm! f).regs = h.regs := rfl
@[simp] theorem Hub.frm!_pend (h : Hub) (f : Frame → Frame) : (h.frm! f).pend = h.pend := rfl
@[simp] theorem Hub.frm!_shadow (h : Hub) (f : Frame → Frame) : (h.frm! f).shadow = h.shadow := rfl
@[simp] theorem Hub.frm!_once (h : Hub) (f : Frame → Frame) : (h.frm! f).once = h.once := rfl
@[simp] theorem Hub.frm!_bad (h : Hub) (f : Frame → Frame) : (h.frm! f).bad = h.bad := rfl
@[simp] theorem Hub.frm!_pages (h : Hub) (f : Frame → Frame) : (h.frm! f).pages = h.pages := rfl
@[simp] theorem Hub.frm!_views (h : Hub) (f : Frame → Frame) : (h.frm! f).views = h.views := rfl
@[simp] theorem Hub.frm!_acc (h : Hub) (f : Frame → Frame) : (h.frm! f).acc = h.acc := rfl
@[simp] theorem Hub.frm!_cyc (h : Hub) (f : Frame → Frame) : (h.frm! f).cyc = h.cyc := rfl
@[simp] theorem Hub.frm!_clk (h : Hub) (f : Frame → Frame) : (h.frm! f).clk = h.clk := rfl
@[simp] theorem Hub.frm!_frm (h : Hub) (f : Frame → Frame) : (h.frm! f).frm = f h.frm := rfl
@[simp] theorem Hub.frm!_md (h : Hub) (f : Frame → Frame) : (h.frm! f).md = h.md := rfl
@[simp] theorem Hub.frm!_rcd (h : Hub) (f : Frame → Frame) : (h.frm! f).rcd = h.rcd := rfl
@[simp] theorem Hub.frm!_keys (h : Hub) (f : Frame → Frame) : (h.frm! f).keys = h.keys := rfl
@[simp] theorem Hub.frm!_chans (h : Hub) (f : Frame → Frame) : (h.frm! f).chans = h.chans := rfl
@[simp] theorem Hub.frm!_sec (h : Hub) (f : Frame → Frame) : (h.frm! f).sec = h.sec := rfl
@[simp] theorem Hub.frm!_engines (h : Hub) (f : Frame → Frame) : (h.frm! f).engines = h.engines := rfl
@[simp] theorem Hub.frm!_meas (h : Hub) (f : Frame → Frame) : (h.frm! f).meas = h.meas := rfl
@[simp] theorem Hub.frm!_feedA (h : Hub) (f : Frame → Frame) : (h.frm! f).feedA = h.feedA := rfl
@[simp] theorem Hub.frm!_feedB (h : Hub) (f : Frame → Frame) : (h.frm! f).feedB = h.feedB := rfl
@[simp] theorem Hub.frm!_share (h : Hub) (f : Frame → Frame) : (h.frm! f).share = h.share := rfl
@[simp] theorem Hub.frm!_convs (h : Hub) (f : Frame → Frame) : (h.frm! f).convs = h.convs := rfl
@[simp] theorem Hub.frm!_lb (h : Hub) (f : Frame → Frame) : (h.frm! f).lb = h.lb := rfl
@[simp] theorem Hub.frm!_bud (h : Hub) (f : Frame → Frame) : (h.frm! f).bud = h.bud := rfl
@[simp] theorem Hub.frm!_chg (h : Hub) (f : Frame → Frame) : (h.frm! f).chg = h.chg := rfl
@[simp] theorem Hub.frm!_seq (h : Hub) (f : Frame → Frame) : (h.frm! f).seq = h.seq := rfl
@[simp] theorem Hub.frm!_mea (h : Hub) (f : Frame → Frame) : (h.frm! f).mea = h.mea := rfl
@[simp] theorem Hub.frm!_link (h : Hub) (f : Frame → Frame) : (h.frm! f).link = h.link := rfl
@[simp] theorem Hub.frm!_twb (h : Hub) (f : Frame → Frame) : (h.frm! f).twb = h.twb := rfl
@[simp] theorem Hub.frm!_wd (h : Hub) (f : Frame → Frame) : (h.frm! f).wd = h.wd := rfl
@[simp] theorem Hub.frm!_rtc (h : Hub) (f : Frame → Frame) : (h.frm! f).rtc = h.rtc := rfl
@[simp] theorem Hub.frm!_tst (h : Hub) (f : Frame → Frame) : (h.frm! f).tst = h.tst := rfl

/-! ## `md!` -/

@[simp] theorem Hub.md!_part (h : Hub) (f : Modes → Modes) : (h.md! f).part = h.part := rfl
@[simp] theorem Hub.md!_regs (h : Hub) (f : Modes → Modes) : (h.md! f).regs = h.regs := rfl
@[simp] theorem Hub.md!_pend (h : Hub) (f : Modes → Modes) : (h.md! f).pend = h.pend := rfl
@[simp] theorem Hub.md!_shadow (h : Hub) (f : Modes → Modes) : (h.md! f).shadow = h.shadow := rfl
@[simp] theorem Hub.md!_once (h : Hub) (f : Modes → Modes) : (h.md! f).once = h.once := rfl
@[simp] theorem Hub.md!_bad (h : Hub) (f : Modes → Modes) : (h.md! f).bad = h.bad := rfl
@[simp] theorem Hub.md!_pages (h : Hub) (f : Modes → Modes) : (h.md! f).pages = h.pages := rfl
@[simp] theorem Hub.md!_views (h : Hub) (f : Modes → Modes) : (h.md! f).views = h.views := rfl
@[simp] theorem Hub.md!_acc (h : Hub) (f : Modes → Modes) : (h.md! f).acc = h.acc := rfl
@[simp] theorem Hub.md!_cyc (h : Hub) (f : Modes → Modes) : (h.md! f).cyc = h.cyc := rfl
@[simp] theorem Hub.md!_clk (h : Hub) (f : Modes → Modes) : (h.md! f).clk = h.clk := rfl
@[simp] theorem Hub.md!_frm (h : Hub) (f : Modes → Modes) : (h.md! f).frm = h.frm := rfl
@[simp] theorem Hub.md!_md (h : Hub) (f : Modes → Modes) : (h.md! f).md = f h.md := rfl
@[simp] theorem Hub.md!_rcd (h : Hub) (f : Modes → Modes) : (h.md! f).rcd = h.rcd := rfl
@[simp] theorem Hub.md!_keys (h : Hub) (f : Modes → Modes) : (h.md! f).keys = h.keys := rfl
@[simp] theorem Hub.md!_chans (h : Hub) (f : Modes → Modes) : (h.md! f).chans = h.chans := rfl
@[simp] theorem Hub.md!_sec (h : Hub) (f : Modes → Modes) : (h.md! f).sec = h.sec := rfl
@[simp] theorem Hub.md!_engines (h : Hub) (f : Modes → Modes) : (h.md! f).engines = h.engines := rfl
@[simp] theorem Hub.md!_meas (h : Hub) (f : Modes → Modes) : (h.md! f).meas = h.meas := rfl
@[simp] theorem Hub.md!_feedA (h : Hub) (f : Modes → Modes) : (h.md! f).feedA = h.feedA := rfl
@[simp] theorem Hub.md!_feedB (h : Hub) (f : Modes → Modes) : (h.md! f).feedB = h.feedB := rfl
@[simp] theorem Hub.md!_share (h : Hub) (f : Modes → Modes) : (h.md! f).share = h.share := rfl
@[simp] theorem Hub.md!_convs (h : Hub) (f : Modes → Modes) : (h.md! f).convs = h.convs := rfl
@[simp] theorem Hub.md!_lb (h : Hub) (f : Modes → Modes) : (h.md! f).lb = h.lb := rfl
@[simp] theorem Hub.md!_bud (h : Hub) (f : Modes → Modes) : (h.md! f).bud = h.bud := rfl
@[simp] theorem Hub.md!_chg (h : Hub) (f : Modes → Modes) : (h.md! f).chg = h.chg := rfl
@[simp] theorem Hub.md!_seq (h : Hub) (f : Modes → Modes) : (h.md! f).seq = h.seq := rfl
@[simp] theorem Hub.md!_mea (h : Hub) (f : Modes → Modes) : (h.md! f).mea = h.mea := rfl
@[simp] theorem Hub.md!_link (h : Hub) (f : Modes → Modes) : (h.md! f).link = h.link := rfl
@[simp] theorem Hub.md!_twb (h : Hub) (f : Modes → Modes) : (h.md! f).twb = h.twb := rfl
@[simp] theorem Hub.md!_wd (h : Hub) (f : Modes → Modes) : (h.md! f).wd = h.wd := rfl
@[simp] theorem Hub.md!_rtc (h : Hub) (f : Modes → Modes) : (h.md! f).rtc = h.rtc := rfl
@[simp] theorem Hub.md!_tst (h : Hub) (f : Modes → Modes) : (h.md! f).tst = h.tst := rfl

/-! ## `rcd!` -/

@[simp] theorem Hub.rcd!_part (h : Hub) (f : Recorder → Recorder) : (h.rcd! f).part = h.part := rfl
@[simp] theorem Hub.rcd!_regs (h : Hub) (f : Recorder → Recorder) : (h.rcd! f).regs = h.regs := rfl
@[simp] theorem Hub.rcd!_pend (h : Hub) (f : Recorder → Recorder) : (h.rcd! f).pend = h.pend := rfl
@[simp] theorem Hub.rcd!_shadow (h : Hub) (f : Recorder → Recorder) : (h.rcd! f).shadow = h.shadow := rfl
@[simp] theorem Hub.rcd!_once (h : Hub) (f : Recorder → Recorder) : (h.rcd! f).once = h.once := rfl
@[simp] theorem Hub.rcd!_bad (h : Hub) (f : Recorder → Recorder) : (h.rcd! f).bad = h.bad := rfl
@[simp] theorem Hub.rcd!_pages (h : Hub) (f : Recorder → Recorder) : (h.rcd! f).pages = h.pages := rfl
@[simp] theorem Hub.rcd!_views (h : Hub) (f : Recorder → Recorder) : (h.rcd! f).views = h.views := rfl
@[simp] theorem Hub.rcd!_acc (h : Hub) (f : Recorder → Recorder) : (h.rcd! f).acc = h.acc := rfl
@[simp] theorem Hub.rcd!_cyc (h : Hub) (f : Recorder → Recorder) : (h.rcd! f).cyc = h.cyc := rfl
@[simp] theorem Hub.rcd!_clk (h : Hub) (f : Recorder → Recorder) : (h.rcd! f).clk = h.clk := rfl
@[simp] theorem Hub.rcd!_frm (h : Hub) (f : Recorder → Recorder) : (h.rcd! f).frm = h.frm := rfl
@[simp] theorem Hub.rcd!_md (h : Hub) (f : Recorder → Recorder) : (h.rcd! f).md = h.md := rfl
@[simp] theorem Hub.rcd!_rcd (h : Hub) (f : Recorder → Recorder) : (h.rcd! f).rcd = f h.rcd := rfl
@[simp] theorem Hub.rcd!_keys (h : Hub) (f : Recorder → Recorder) : (h.rcd! f).keys = h.keys := rfl
@[simp] theorem Hub.rcd!_chans (h : Hub) (f : Recorder → Recorder) : (h.rcd! f).chans = h.chans := rfl
@[simp] theorem Hub.rcd!_sec (h : Hub) (f : Recorder → Recorder) : (h.rcd! f).sec = h.sec := rfl
@[simp] theorem Hub.rcd!_engines (h : Hub) (f : Recorder → Recorder) : (h.rcd! f).engines = h.engines := rfl
@[simp] theorem Hub.rcd!_meas (h : Hub) (f : Recorder → Recorder) : (h.rcd! f).meas = h.meas := rfl
@[simp] theorem Hub.rcd!_feedA (h : Hub) (f : Recorder → Recorder) : (h.rcd! f).feedA = h.feedA := rfl
@[simp] theorem Hub.rcd!_feedB (h : Hub) (f : Recorder → Recorder) : (h.rcd! f).feedB = h.feedB := rfl
@[simp] theorem Hub.rcd!_share (h : Hub) (f : Recorder → Recorder) : (h.rcd! f).share = h.share := rfl
@[simp] theorem Hub.rcd!_convs (h : Hub) (f : Recorder → Recorder) : (h.rcd! f).convs = h.convs := rfl
@[simp] theorem Hub.rcd!_lb (h : Hub) (f : Recorder → Recorder) : (h.rcd! f).lb = h.lb := rfl
@[simp] theorem Hub.rcd!_bud (h : Hub) (f : Recorder → Recorder) : (h.rcd! f).bud = h.bud := rfl
@[simp] theorem Hub.rcd!_chg (h : Hub) (f : Recorder → Recorder) : (h.rcd! f).chg = h.chg := rfl
@[simp] theorem Hub.rcd!_seq (h : Hub) (f : Recorder → Recorder) : (h.rcd! f).seq = h.seq := rfl
@[simp] theorem Hub.rcd!_mea (h : Hub) (f : Recorder → Recorder) : (h.rcd! f).mea = h.mea := rfl
@[simp] theorem Hub.rcd!_link (h : Hub) (f : Recorder → Recorder) : (h.rcd! f).link = h.link := rfl
@[simp] theorem Hub.rcd!_twb (h : Hub) (f : Recorder → Recorder) : (h.rcd! f).twb = h.twb := rfl
@[simp] theorem Hub.rcd!_wd (h : Hub) (f : Recorder → Recorder) : (h.rcd! f).wd = h.wd := rfl
@[simp] theorem Hub.rcd!_rtc (h : Hub) (f : Recorder → Recorder) : (h.rcd! f).rtc = h.rtc := rfl
@[simp] theorem Hub.rcd!_tst (h : Hub) (f : Recorder → Recorder) : (h.rcd! f).tst = h.tst := rfl

/-! ## `key!` -/

@[simp] theorem Hub.key!_part (h : Hub) (f : Keys → Keys) : (h.key! f).part = h.part := rfl
@[simp] theorem Hub.key!_regs (h : Hub) (f : Keys → Keys) : (h.key! f).regs = h.regs := rfl
@[simp] theorem Hub.key!_pend (h : Hub) (f : Keys → Keys) : (h.key! f).pend = h.pend := rfl
@[simp] theorem Hub.key!_shadow (h : Hub) (f : Keys → Keys) : (h.key! f).shadow = h.shadow := rfl
@[simp] theorem Hub.key!_once (h : Hub) (f : Keys → Keys) : (h.key! f).once = h.once := rfl
@[simp] theorem Hub.key!_bad (h : Hub) (f : Keys → Keys) : (h.key! f).bad = h.bad := rfl
@[simp] theorem Hub.key!_pages (h : Hub) (f : Keys → Keys) : (h.key! f).pages = h.pages := rfl
@[simp] theorem Hub.key!_views (h : Hub) (f : Keys → Keys) : (h.key! f).views = h.views := rfl
@[simp] theorem Hub.key!_acc (h : Hub) (f : Keys → Keys) : (h.key! f).acc = h.acc := rfl
@[simp] theorem Hub.key!_cyc (h : Hub) (f : Keys → Keys) : (h.key! f).cyc = h.cyc := rfl
@[simp] theorem Hub.key!_clk (h : Hub) (f : Keys → Keys) : (h.key! f).clk = h.clk := rfl
@[simp] theorem Hub.key!_frm (h : Hub) (f : Keys → Keys) : (h.key! f).frm = h.frm := rfl
@[simp] theorem Hub.key!_md (h : Hub) (f : Keys → Keys) : (h.key! f).md = h.md := rfl
@[simp] theorem Hub.key!_rcd (h : Hub) (f : Keys → Keys) : (h.key! f).rcd = h.rcd := rfl
@[simp] theorem Hub.key!_keys (h : Hub) (f : Keys → Keys) : (h.key! f).keys = f h.keys := rfl
@[simp] theorem Hub.key!_chans (h : Hub) (f : Keys → Keys) : (h.key! f).chans = h.chans := rfl
@[simp] theorem Hub.key!_sec (h : Hub) (f : Keys → Keys) : (h.key! f).sec = h.sec := rfl
@[simp] theorem Hub.key!_engines (h : Hub) (f : Keys → Keys) : (h.key! f).engines = h.engines := rfl
@[simp] theorem Hub.key!_meas (h : Hub) (f : Keys → Keys) : (h.key! f).meas = h.meas := rfl
@[simp] theorem Hub.key!_feedA (h : Hub) (f : Keys → Keys) : (h.key! f).feedA = h.feedA := rfl
@[simp] theorem Hub.key!_feedB (h : Hub) (f : Keys → Keys) : (h.key! f).feedB = h.feedB := rfl
@[simp] theorem Hub.key!_share (h : Hub) (f : Keys → Keys) : (h.key! f).share = h.share := rfl
@[simp] theorem Hub.key!_convs (h : Hub) (f : Keys → Keys) : (h.key! f).convs = h.convs := rfl
@[simp] theorem Hub.key!_lb (h : Hub) (f : Keys → Keys) : (h.key! f).lb = h.lb := rfl
@[simp] theorem Hub.key!_bud (h : Hub) (f : Keys → Keys) : (h.key! f).bud = h.bud := rfl
@[simp] theorem Hub.key!_chg (h : Hub) (f : Keys → Keys) : (h.key! f).chg = h.chg := rfl
@[simp] theorem Hub.key!_seq (h : Hub) (f : Keys → Keys) : (h.key! f).seq = h.seq := rfl
@[simp] theorem Hub.key!_mea (h : Hub) (f : Keys → Keys) : (h.key! f).mea = h.mea := rfl
@[simp] theorem Hub.key!_link (h : Hub) (f : Keys → Keys) : (h.key! f).link = h.link := rfl
@[simp] theorem Hub.key!_twb (h : Hub) (f : Keys → Keys) : (h.key! f).twb = h.twb := rfl
@[simp] theorem Hub.key!_wd (h : Hub) (f : Keys → Keys) : (h.key! f).wd = h.wd := rfl
@[simp] theorem Hub.key!_rtc (h : Hub) (f : Keys → Keys) : (h.key! f).rtc = h.rtc := rfl
@[simp] theorem Hub.key!_tst (h : Hub) (f : Keys → Keys) : (h.key! f).tst = h.tst := rfl

/-! ## `chans!` -/

@[simp] theorem Hub.chans!_part (h : Hub) (f : List Chan → List Chan) : (h.chans! f).part = h.part := rfl
@[simp] theorem Hub.chans!_regs (h : Hub) (f : List Chan → List Chan) : (h.chans! f).regs = h.regs := rfl
@[simp] theorem Hub.chans!_pend (h : Hub) (f : List Chan → List Chan) : (h.chans! f).pend = h.pend := rfl
@[simp] theorem Hub.chans!_shadow (h : Hub) (f : List Chan → List Chan) : (h.chans! f).shadow = h.shadow := rfl
@[simp] theorem Hub.chans!_once (h : Hub) (f : List Chan → List Chan) : (h.chans! f).once = h.once := rfl
@[simp] theorem Hub.chans!_bad (h : Hub) (f : List Chan → List Chan) : (h.chans! f).bad = h.bad := rfl
@[simp] theorem Hub.chans!_pages (h : Hub) (f : List Chan → List Chan) : (h.chans! f).pages = h.pages := rfl
@[simp] theorem Hub.chans!_views (h : Hub) (f : List Chan → List Chan) : (h.chans! f).views = h.views := rfl
@[simp] theorem Hub.chans!_acc (h : Hub) (f : List Chan → List Chan) : (h.chans! f).acc = h.acc := rfl
@[simp] theorem Hub.chans!_cyc (h : Hub) (f : List Chan → List Chan) : (h.chans! f).cyc = h.cyc := rfl
@[simp] theorem Hub.chans!_clk (h : Hub) (f : List Chan → List Chan) : (h.chans! f).clk = h.clk := rfl
@[simp] theorem Hub.chans!_frm (h : Hub) (f : List Chan → List Chan) : (h.chans! f).frm = h.frm := rfl
@[simp] theorem Hub.chans!_md (h : Hub) (f : List Chan → List Chan) : (h.chans! f).md = h.md := rfl
@[simp] theorem Hub.chans!_rcd (h : Hub) (f : List Chan → List Chan) : (h.chans! f).rcd = h.rcd := rfl
@[simp] theorem Hub.chans!_keys (h : Hub) (f : List Chan → List Chan) : (h.chans! f).keys = h.keys := rfl
@[simp] theorem Hub.chans!_chans (h : Hub) (f : List Chan → List Chan) : (h.chans! f).chans = f h.chans := rfl
@[simp] theorem Hub.chans!_sec (h : Hub) (f : List Chan → List Chan) : (h.chans! f).sec = h.sec := rfl
@[simp] theorem Hub.chans!_engines (h : Hub) (f : List Chan → List Chan) : (h.chans! f).engines = h.engines := rfl
@[simp] theorem Hub.chans!_meas (h : Hub) (f : List Chan → List Chan) : (h.chans! f).meas = h.meas := rfl
@[simp] theorem Hub.chans!_feedA (h : Hub) (f : List Chan → List Chan) : (h.chans! f).feedA = h.feedA := rfl
@[simp] theorem Hub.chans!_feedB (h : Hub) (f : List Chan → List Chan) : (h.chans! f).feedB = h.feedB := rfl
@[simp] theorem Hub.chans!_share (h : Hub) (f : List Chan → List Chan) : (h.chans! f).share = h.share := rfl
@[simp] theorem Hub.chans!_convs (h : Hub) (f : List Chan → List Chan) : (h.chans! f).convs = h.convs := rfl
@[simp] theorem Hub.chans!_lb (h : Hub) (f : List Chan → List Chan) : (h.chans! f).lb = h.lb := rfl
@[simp] theorem Hub.chans!_bud (h : Hub) (f : List Chan → List Chan) : (h.chans! f).bud = h.bud := rfl
@[simp] theorem Hub.chans!_chg (h : Hub) (f : List Chan → List Chan) : (h.chans! f).chg = h.chg := rfl
@[simp] theorem Hub.chans!_seq (h : Hub) (f : List Chan → List Chan) : (h.chans! f).seq = h.seq := rfl
@[simp] theorem Hub.chans!_mea (h : Hub) (f : List Chan → List Chan) : (h.chans! f).mea = h.mea := rfl
@[simp] theorem Hub.chans!_link (h : Hub) (f : List Chan → List Chan) : (h.chans! f).link = h.link := rfl
@[simp] theorem Hub.chans!_twb (h : Hub) (f : List Chan → List Chan) : (h.chans! f).twb = h.twb := rfl
@[simp] theorem Hub.chans!_wd (h : Hub) (f : List Chan → List Chan) : (h.chans! f).wd = h.wd := rfl
@[simp] theorem Hub.chans!_rtc (h : Hub) (f : List Chan → List Chan) : (h.chans! f).rtc = h.rtc := rfl
@[simp] theorem Hub.chans!_tst (h : Hub) (f : List Chan → List Chan) : (h.chans! f).tst = h.tst := rfl

/-! ## `sec!` -/

@[simp] theorem Hub.sec!_part (h : Hub) (f : Section → Section) : (h.sec! f).part = h.part := rfl
@[simp] theorem Hub.sec!_regs (h : Hub) (f : Section → Section) : (h.sec! f).regs = h.regs := rfl
@[simp] theorem Hub.sec!_pend (h : Hub) (f : Section → Section) : (h.sec! f).pend = h.pend := rfl
@[simp] theorem Hub.sec!_shadow (h : Hub) (f : Section → Section) : (h.sec! f).shadow = h.shadow := rfl
@[simp] theorem Hub.sec!_once (h : Hub) (f : Section → Section) : (h.sec! f).once = h.once := rfl
@[simp] theorem Hub.sec!_bad (h : Hub) (f : Section → Section) : (h.sec! f).bad = h.bad := rfl
@[simp] theorem Hub.sec!_pages (h : Hub) (f : Section → Section) : (h.sec! f).pages = h.pages := rfl
@[simp] theorem Hub.sec!_views (h : Hub) (f : Section → Section) : (h.sec! f).views = h.views := rfl
@[simp] theorem Hub.sec!_acc (h : Hub) (f : Section → Section) : (h.sec! f).acc = h.acc := rfl
@[simp] theorem Hub.sec!_cyc (h : Hub) (f : Section → Section) : (h.sec! f).cyc = h.cyc := rfl
@[simp] theorem Hub.sec!_clk (h : Hub) (f : Section → Section) : (h.sec! f).clk = h.clk := rfl
@[simp] theorem Hub.sec!_frm (h : Hub) (f : Section → Section) : (h.sec! f).frm = h.frm := rfl
@[simp] theorem Hub.sec!_md (h : Hub) (f : Section → Section) : (h.sec! f).md = h.md := rfl
@[simp] theorem Hub.sec!_rcd (h : Hub) (f : Section → Section) : (h.sec! f).rcd = h.rcd := rfl
@[simp] theorem Hub.sec!_keys (h : Hub) (f : Section → Section) : (h.sec! f).keys = h.keys := rfl
@[simp] theorem Hub.sec!_chans (h : Hub) (f : Section → Section) : (h.sec! f).chans = h.chans := rfl
@[simp] theorem Hub.sec!_sec (h : Hub) (f : Section → Section) : (h.sec! f).sec = f h.sec := rfl
@[simp] theorem Hub.sec!_engines (h : Hub) (f : Section → Section) : (h.sec! f).engines = h.engines := rfl
@[simp] theorem Hub.sec!_meas (h : Hub) (f : Section → Section) : (h.sec! f).meas = h.meas := rfl
@[simp] theorem Hub.sec!_feedA (h : Hub) (f : Section → Section) : (h.sec! f).feedA = h.feedA := rfl
@[simp] theorem Hub.sec!_feedB (h : Hub) (f : Section → Section) : (h.sec! f).feedB = h.feedB := rfl
@[simp] theorem Hub.sec!_share (h : Hub) (f : Section → Section) : (h.sec! f).share = h.share := rfl
@[simp] theorem Hub.sec!_convs (h : Hub) (f : Section → Section) : (h.sec! f).convs = h.convs := rfl
@[simp] theorem Hub.sec!_lb (h : Hub) (f : Section → Section) : (h.sec! f).lb = h.lb := rfl
@[simp] theorem Hub.sec!_bud (h : Hub) (f : Section → Section) : (h.sec! f).bud = h.bud := rfl
@[simp] theorem Hub.sec!_chg (h : Hub) (f : Section → Section) : (h.sec! f).chg = h.chg := rfl
@[simp] theorem Hub.sec!_seq (h : Hub) (f : Section → Section) : (h.sec! f).seq = h.seq := rfl
@[simp] theorem Hub.sec!_mea (h : Hub) (f : Section → Section) : (h.sec! f).mea = h.mea := rfl
@[simp] theorem Hub.sec!_link (h : Hub) (f : Section → Section) : (h.sec! f).link = h.link := rfl
@[simp] theorem Hub.sec!_twb (h : Hub) (f : Section → Section) : (h.sec! f).twb = h.twb := rfl
@[simp] theorem Hub.sec!_wd (h : Hub) (f : Section → Section) : (h.sec! f).wd = h.wd := rfl
@[simp] theorem Hub.sec!_rtc (h : Hub) (f : Section → Section) : (h.sec! f).rtc = h.rtc := rfl
@[simp] theorem Hub.sec!_tst (h : Hub) (f : Section → Section) : (h.sec! f).tst = h.tst := rfl

/-! ## `engines!` -/

@[simp] theorem Hub.engines!_part (h : Hub) (f : List Engine → List Engine) : (h.engines! f).part = h.part := rfl
@[simp] theorem Hub.engines!_regs (h : Hub) (f : List Engine → List Engine) : (h.engines! f).regs = h.regs := rfl
@[simp] theorem Hub.engines!_pend (h : Hub) (f : List Engine → List Engine) : (h.engines! f).pend = h.pend := rfl
@[simp] theorem Hub.engines!_shadow (h : Hub) (f : List Engine → List Engine) : (h.engines! f).shadow = h.shadow := rfl
@[simp] theorem Hub.engines!_once (h : Hub) (f : List Engine → List Engine) : (h.engines! f).once = h.once := rfl
@[simp] theorem Hub.engines!_bad (h : Hub) (f : List Engine → List Engine) : (h.engines! f).bad = h.bad := rfl
@[simp] theorem Hub.engines!_pages (h : Hub) (f : List Engine → List Engine) : (h.engines! f).pages = h.pages := rfl
@[simp] theorem Hub.engines!_views (h : Hub) (f : List Engine → List Engine) : (h.engines! f).views = h.views := rfl
@[simp] theorem Hub.engines!_acc (h : Hub) (f : List Engine → List Engine) : (h.engines! f).acc = h.acc := rfl
@[simp] theorem Hub.engines!_cyc (h : Hub) (f : List Engine → List Engine) : (h.engines! f).cyc = h.cyc := rfl
@[simp] theorem Hub.engines!_clk (h : Hub) (f : List Engine → List Engine) : (h.engines! f).clk = h.clk := rfl
@[simp] theorem Hub.engines!_frm (h : Hub) (f : List Engine → List Engine) : (h.engines! f).frm = h.frm := rfl
@[simp] theorem Hub.engines!_md (h : Hub) (f : List Engine → List Engine) : (h.engines! f).md = h.md := rfl
@[simp] theorem Hub.engines!_rcd (h : Hub) (f : List Engine → List Engine) : (h.engines! f).rcd = h.rcd := rfl
@[simp] theorem Hub.engines!_keys (h : Hub) (f : List Engine → List Engine) : (h.engines! f).keys = h.keys := rfl
@[simp] theorem Hub.engines!_chans (h : Hub) (f : List Engine → List Engine) : (h.engines! f).chans = h.chans := rfl
@[simp] theorem Hub.engines!_sec (h : Hub) (f : List Engine → List Engine) : (h.engines! f).sec = h.sec := rfl
@[simp] theorem Hub.engines!_engines (h : Hub) (f : List Engine → List Engine) : (h.engines! f).engines = f h.engines := rfl
@[simp] theorem Hub.engines!_meas (h : Hub) (f : List Engine → List Engine) : (h.engines! f).meas = h.meas := rfl
@[simp] theorem Hub.engines!_feedA (h : Hub) (f : List Engine → List Engine) : (h.engines! f).feedA = h.feedA := rfl
@[simp] theorem Hub.engines!_feedB (h : Hub) (f : List Engine → List Engine) : (h.engines! f).feedB = h.feedB := rfl
@[simp] theorem Hub.engines!_share (h : Hub) (f : List Engine → List Engine) : (h.engines! f).share = h.share := rfl
@[simp] theorem Hub.engines!_convs (h : Hub) (f : List Engine → List Engine) : (h.engines! f).convs = h.convs := rfl
@[simp] theorem Hub.engines!_lb (h : Hub) (f : List Engine → List Engine) : (h.engines! f).lb = h.lb := rfl
@[simp] theorem Hub.engines!_bud (h : Hub) (f : List Engine → List Engine) : (h.engines! f).bud = h.bud := rfl
@[simp] theorem Hub.engines!_chg (h : Hub) (f : List Engine → List Engine) : (h.engines! f).chg = h.chg := rfl
@[simp] theorem Hub.engines!_seq (h : Hub) (f : List Engine → List Engine) : (h.engines! f).seq = h.seq := rfl
@[simp] theorem Hub.engines!_mea (h : Hub) (f : List Engine → List Engine) : (h.engines! f).mea = h.mea := rfl
@[simp] theorem Hub.engines!_link (h : Hub) (f : List Engine → List Engine) : (h.engines! f).link = h.link := rfl
@[simp] theorem Hub.engines!_twb (h : Hub) (f : List Engine → List Engine) : (h.engines! f).twb = h.twb := rfl
@[simp] theorem Hub.engines!_wd (h : Hub) (f : List Engine → List Engine) : (h.engines! f).wd = h.wd := rfl
@[simp] theorem Hub.engines!_rtc (h : Hub) (f : List Engine → List Engine) : (h.engines! f).rtc = h.rtc := rfl
@[simp] theorem Hub.engines!_tst (h : Hub) (f : List Engine → List Engine) : (h.engines! f).tst = h.tst := rfl

/-! ## `meas!` -/

@[simp] theorem Hub.meas!_part (h : Hub) (f : List Meas → List Meas) : (h.meas! f).part = h.part := rfl
@[simp] theorem Hub.meas!_regs (h : Hub) (f : List Meas → List Meas) : (h.meas! f).regs = h.regs := rfl
@[simp] theorem Hub.meas!_pend (h : Hub) (f : List Meas → List Meas) : (h.meas! f).pend = h.pend := rfl
@[simp] theorem Hub.meas!_shadow (h : Hub) (f : List Meas → List Meas) : (h.meas! f).shadow = h.shadow := rfl
@[simp] theorem Hub.meas!_once (h : Hub) (f : List Meas → List Meas) : (h.meas! f).once = h.once := rfl
@[simp] theorem Hub.meas!_bad (h : Hub) (f : List Meas → List Meas) : (h.meas! f).bad = h.bad := rfl
@[simp] theorem Hub.meas!_pages (h : Hub) (f : List Meas → List Meas) : (h.meas! f).pages = h.pages := rfl
@[simp] theorem Hub.meas!_views (h : Hub) (f : List Meas → List Meas) : (h.meas! f).views = h.views := rfl
@[simp] theorem Hub.meas!_acc (h : Hub) (f : List Meas → List Meas) : (h.meas! f).acc = h.acc := rfl
@[simp] theorem Hub.meas!_cyc (h : Hub) (f : List Meas → List Meas) : (h.meas! f).cyc = h.cyc := rfl
@[simp] theorem Hub.meas!_clk (h : Hub) (f : List Meas → List Meas) : (h.meas! f).clk = h.clk := rfl
@[simp] theorem Hub.meas!_frm (h : Hub) (f : List Meas → List Meas) : (h.meas! f).frm = h.frm := rfl
@[simp] theorem Hub.meas!_md (h : Hub) (f : List Meas → List Meas) : (h.meas! f).md = h.md := rfl
@[simp] theorem Hub.meas!_rcd (h : Hub) (f : List Meas → List Meas) : (h.meas! f).rcd = h.rcd := rfl
@[simp] theorem Hub.meas!_keys (h : Hub) (f : List Meas → List Meas) : (h.meas! f).keys = h.keys := rfl
@[simp] theorem Hub.meas!_chans (h : Hub) (f : List Meas → List Meas) : (h.meas! f).chans = h.chans := rfl
@[simp] theorem Hub.meas!_sec (h : Hub) (f : List Meas → List Meas) : (h.meas! f).sec = h.sec := rfl
@[simp] theorem Hub.meas!_engines (h : Hub) (f : List Meas → List Meas) : (h.meas! f).engines = h.engines := rfl
@[simp] theorem Hub.meas!_meas (h : Hub) (f : List Meas → List Meas) : (h.meas! f).meas = f h.meas := rfl
@[simp] theorem Hub.meas!_feedA (h : Hub) (f : List Meas → List Meas) : (h.meas! f).feedA = h.feedA := rfl
@[simp] theorem Hub.meas!_feedB (h : Hub) (f : List Meas → List Meas) : (h.meas! f).feedB = h.feedB := rfl
@[simp] theorem Hub.meas!_share (h : Hub) (f : List Meas → List Meas) : (h.meas! f).share = h.share := rfl
@[simp] theorem Hub.meas!_convs (h : Hub) (f : List Meas → List Meas) : (h.meas! f).convs = h.convs := rfl
@[simp] theorem Hub.meas!_lb (h : Hub) (f : List Meas → List Meas) : (h.meas! f).lb = h.lb := rfl
@[simp] theorem Hub.meas!_bud (h : Hub) (f : List Meas → List Meas) : (h.meas! f).bud = h.bud := rfl
@[simp] theorem Hub.meas!_chg (h : Hub) (f : List Meas → List Meas) : (h.meas! f).chg = h.chg := rfl
@[simp] theorem Hub.meas!_seq (h : Hub) (f : List Meas → List Meas) : (h.meas! f).seq = h.seq := rfl
@[simp] theorem Hub.meas!_mea (h : Hub) (f : List Meas → List Meas) : (h.meas! f).mea = h.mea := rfl
@[simp] theorem Hub.meas!_link (h : Hub) (f : List Meas → List Meas) : (h.meas! f).link = h.link := rfl
@[simp] theorem Hub.meas!_twb (h : Hub) (f : List Meas → List Meas) : (h.meas! f).twb = h.twb := rfl
@[simp] theorem Hub.meas!_wd (h : Hub) (f : List Meas → List Meas) : (h.meas! f).wd = h.wd := rfl
@[simp] theorem Hub.meas!_rtc (h : Hub) (f : List Meas → List Meas) : (h.meas! f).rtc = h.rtc := rfl
@[simp] theorem Hub.meas!_tst (h : Hub) (f : List Meas → List Meas) : (h.meas! f).tst = h.tst := rfl

/-! ## `feedA!` -/

@[simp] theorem Hub.feedA!_part (h : Hub) (f : Feed → Feed) : (h.feedA! f).part = h.part := rfl
@[simp] theorem Hub.feedA!_regs (h : Hub) (f : Feed → Feed) : (h.feedA! f).regs = h.regs := rfl
@[simp] theorem Hub.feedA!_pend (h : Hub) (f : Feed → Feed) : (h.feedA! f).pend = h.pend := rfl
@[simp] theorem Hub.feedA!_shadow (h : Hub) (f : Feed → Feed) : (h.feedA! f).shadow = h.shadow := rfl
@[simp] theorem Hub.feedA!_once (h : Hub) (f : Feed → Feed) : (h.feedA! f).once = h.once := rfl
@[simp] theorem Hub.feedA!_bad (h : Hub) (f : Feed → Feed) : (h.feedA! f).bad = h.bad := rfl
@[simp] theorem Hub.feedA!_pages (h : Hub) (f : Feed → Feed) : (h.feedA! f).pages = h.pages := rfl
@[simp] theorem Hub.feedA!_views (h : Hub) (f : Feed → Feed) : (h.feedA! f).views = h.views := rfl
@[simp] theorem Hub.feedA!_acc (h : Hub) (f : Feed → Feed) : (h.feedA! f).acc = h.acc := rfl
@[simp] theorem Hub.feedA!_cyc (h : Hub) (f : Feed → Feed) : (h.feedA! f).cyc = h.cyc := rfl
@[simp] theorem Hub.feedA!_clk (h : Hub) (f : Feed → Feed) : (h.feedA! f).clk = h.clk := rfl
@[simp] theorem Hub.feedA!_frm (h : Hub) (f : Feed → Feed) : (h.feedA! f).frm = h.frm := rfl
@[simp] theorem Hub.feedA!_md (h : Hub) (f : Feed → Feed) : (h.feedA! f).md = h.md := rfl
@[simp] theorem Hub.feedA!_rcd (h : Hub) (f : Feed → Feed) : (h.feedA! f).rcd = h.rcd := rfl
@[simp] theorem Hub.feedA!_keys (h : Hub) (f : Feed → Feed) : (h.feedA! f).keys = h.keys := rfl
@[simp] theorem Hub.feedA!_chans (h : Hub) (f : Feed → Feed) : (h.feedA! f).chans = h.chans := rfl
@[simp] theorem Hub.feedA!_sec (h : Hub) (f : Feed → Feed) : (h.feedA! f).sec = h.sec := rfl
@[simp] theorem Hub.feedA!_engines (h : Hub) (f : Feed → Feed) : (h.feedA! f).engines = h.engines := rfl
@[simp] theorem Hub.feedA!_meas (h : Hub) (f : Feed → Feed) : (h.feedA! f).meas = h.meas := rfl
@[simp] theorem Hub.feedA!_feedA (h : Hub) (f : Feed → Feed) : (h.feedA! f).feedA = f h.feedA := rfl
@[simp] theorem Hub.feedA!_feedB (h : Hub) (f : Feed → Feed) : (h.feedA! f).feedB = h.feedB := rfl
@[simp] theorem Hub.feedA!_share (h : Hub) (f : Feed → Feed) : (h.feedA! f).share = h.share := rfl
@[simp] theorem Hub.feedA!_convs (h : Hub) (f : Feed → Feed) : (h.feedA! f).convs = h.convs := rfl
@[simp] theorem Hub.feedA!_lb (h : Hub) (f : Feed → Feed) : (h.feedA! f).lb = h.lb := rfl
@[simp] theorem Hub.feedA!_bud (h : Hub) (f : Feed → Feed) : (h.feedA! f).bud = h.bud := rfl
@[simp] theorem Hub.feedA!_chg (h : Hub) (f : Feed → Feed) : (h.feedA! f).chg = h.chg := rfl
@[simp] theorem Hub.feedA!_seq (h : Hub) (f : Feed → Feed) : (h.feedA! f).seq = h.seq := rfl
@[simp] theorem Hub.feedA!_mea (h : Hub) (f : Feed → Feed) : (h.feedA! f).mea = h.mea := rfl
@[simp] theorem Hub.feedA!_link (h : Hub) (f : Feed → Feed) : (h.feedA! f).link = h.link := rfl
@[simp] theorem Hub.feedA!_twb (h : Hub) (f : Feed → Feed) : (h.feedA! f).twb = h.twb := rfl
@[simp] theorem Hub.feedA!_wd (h : Hub) (f : Feed → Feed) : (h.feedA! f).wd = h.wd := rfl
@[simp] theorem Hub.feedA!_rtc (h : Hub) (f : Feed → Feed) : (h.feedA! f).rtc = h.rtc := rfl
@[simp] theorem Hub.feedA!_tst (h : Hub) (f : Feed → Feed) : (h.feedA! f).tst = h.tst := rfl

/-! ## `feedB!` -/

@[simp] theorem Hub.feedB!_part (h : Hub) (f : Feed → Feed) : (h.feedB! f).part = h.part := rfl
@[simp] theorem Hub.feedB!_regs (h : Hub) (f : Feed → Feed) : (h.feedB! f).regs = h.regs := rfl
@[simp] theorem Hub.feedB!_pend (h : Hub) (f : Feed → Feed) : (h.feedB! f).pend = h.pend := rfl
@[simp] theorem Hub.feedB!_shadow (h : Hub) (f : Feed → Feed) : (h.feedB! f).shadow = h.shadow := rfl
@[simp] theorem Hub.feedB!_once (h : Hub) (f : Feed → Feed) : (h.feedB! f).once = h.once := rfl
@[simp] theorem Hub.feedB!_bad (h : Hub) (f : Feed → Feed) : (h.feedB! f).bad = h.bad := rfl
@[simp] theorem Hub.feedB!_pages (h : Hub) (f : Feed → Feed) : (h.feedB! f).pages = h.pages := rfl
@[simp] theorem Hub.feedB!_views (h : Hub) (f : Feed → Feed) : (h.feedB! f).views = h.views := rfl
@[simp] theorem Hub.feedB!_acc (h : Hub) (f : Feed → Feed) : (h.feedB! f).acc = h.acc := rfl
@[simp] theorem Hub.feedB!_cyc (h : Hub) (f : Feed → Feed) : (h.feedB! f).cyc = h.cyc := rfl
@[simp] theorem Hub.feedB!_clk (h : Hub) (f : Feed → Feed) : (h.feedB! f).clk = h.clk := rfl
@[simp] theorem Hub.feedB!_frm (h : Hub) (f : Feed → Feed) : (h.feedB! f).frm = h.frm := rfl
@[simp] theorem Hub.feedB!_md (h : Hub) (f : Feed → Feed) : (h.feedB! f).md = h.md := rfl
@[simp] theorem Hub.feedB!_rcd (h : Hub) (f : Feed → Feed) : (h.feedB! f).rcd = h.rcd := rfl
@[simp] theorem Hub.feedB!_keys (h : Hub) (f : Feed → Feed) : (h.feedB! f).keys = h.keys := rfl
@[simp] theorem Hub.feedB!_chans (h : Hub) (f : Feed → Feed) : (h.feedB! f).chans = h.chans := rfl
@[simp] theorem Hub.feedB!_sec (h : Hub) (f : Feed → Feed) : (h.feedB! f).sec = h.sec := rfl
@[simp] theorem Hub.feedB!_engines (h : Hub) (f : Feed → Feed) : (h.feedB! f).engines = h.engines := rfl
@[simp] theorem Hub.feedB!_meas (h : Hub) (f : Feed → Feed) : (h.feedB! f).meas = h.meas := rfl
@[simp] theorem Hub.feedB!_feedA (h : Hub) (f : Feed → Feed) : (h.feedB! f).feedA = h.feedA := rfl
@[simp] theorem Hub.feedB!_feedB (h : Hub) (f : Feed → Feed) : (h.feedB! f).feedB = f h.feedB := rfl
@[simp] theorem Hub.feedB!_share (h : Hub) (f : Feed → Feed) : (h.feedB! f).share = h.share := rfl
@[simp] theorem Hub.feedB!_convs (h : Hub) (f : Feed → Feed) : (h.feedB! f).convs = h.convs := rfl
@[simp] theorem Hub.feedB!_lb (h : Hub) (f : Feed → Feed) : (h.feedB! f).lb = h.lb := rfl
@[simp] theorem Hub.feedB!_bud (h : Hub) (f : Feed → Feed) : (h.feedB! f).bud = h.bud := rfl
@[simp] theorem Hub.feedB!_chg (h : Hub) (f : Feed → Feed) : (h.feedB! f).chg = h.chg := rfl
@[simp] theorem Hub.feedB!_seq (h : Hub) (f : Feed → Feed) : (h.feedB! f).seq = h.seq := rfl
@[simp] theorem Hub.feedB!_mea (h : Hub) (f : Feed → Feed) : (h.feedB! f).mea = h.mea := rfl
@[simp] theorem Hub.feedB!_link (h : Hub) (f : Feed → Feed) : (h.feedB! f).link = h.link := rfl
@[simp] theorem Hub.feedB!_twb (h : Hub) (f : Feed → Feed) : (h.feedB! f).twb = h.twb := rfl
@[simp] theorem Hub.feedB!_wd (h : Hub) (f : Feed → Feed) : (h.feedB! f).wd = h.wd := rfl
@[simp] theorem Hub.feedB!_rtc (h : Hub) (f : Feed → Feed) : (h.feedB! f).rtc = h.rtc := rfl
@[simp] theorem Hub.feedB!_tst (h : Hub) (f : Feed → Feed) : (h.feedB! f).tst = h.tst := rfl

/-! ## `share!` -/

@[simp] theorem Hub.share!_part (h : Hub) (f : Sharing → Sharing) : (h.share! f).part = h.part := rfl
@[simp] theorem Hub.share!_regs (h : Hub) (f : Sharing → Sharing) : (h.share! f).regs = h.regs := rfl
@[simp] theorem Hub.share!_pend (h : Hub) (f : Sharing → Sharing) : (h.share! f).pend = h.pend := rfl
@[simp] theorem Hub.share!_shadow (h : Hub) (f : Sharing → Sharing) : (h.share! f).shadow = h.shadow := rfl
@[simp] theorem Hub.share!_once (h : Hub) (f : Sharing → Sharing) : (h.share! f).once = h.once := rfl
@[simp] theorem Hub.share!_bad (h : Hub) (f : Sharing → Sharing) : (h.share! f).bad = h.bad := rfl
@[simp] theorem Hub.share!_pages (h : Hub) (f : Sharing → Sharing) : (h.share! f).pages = h.pages := rfl
@[simp] theorem Hub.share!_views (h : Hub) (f : Sharing → Sharing) : (h.share! f).views = h.views := rfl
@[simp] theorem Hub.share!_acc (h : Hub) (f : Sharing → Sharing) : (h.share! f).acc = h.acc := rfl
@[simp] theorem Hub.share!_cyc (h : Hub) (f : Sharing → Sharing) : (h.share! f).cyc = h.cyc := rfl
@[simp] theorem Hub.share!_clk (h : Hub) (f : Sharing → Sharing) : (h.share! f).clk = h.clk := rfl
@[simp] theorem Hub.share!_frm (h : Hub) (f : Sharing → Sharing) : (h.share! f).frm = h.frm := rfl
@[simp] theorem Hub.share!_md (h : Hub) (f : Sharing → Sharing) : (h.share! f).md = h.md := rfl
@[simp] theorem Hub.share!_rcd (h : Hub) (f : Sharing → Sharing) : (h.share! f).rcd = h.rcd := rfl
@[simp] theorem Hub.share!_keys (h : Hub) (f : Sharing → Sharing) : (h.share! f).keys = h.keys := rfl
@[simp] theorem Hub.share!_chans (h : Hub) (f : Sharing → Sharing) : (h.share! f).chans = h.chans := rfl
@[simp] theorem Hub.share!_sec (h : Hub) (f : Sharing → Sharing) : (h.share! f).sec = h.sec := rfl
@[simp] theorem Hub.share!_engines (h : Hub) (f : Sharing → Sharing) : (h.share! f).engines = h.engines := rfl
@[simp] theorem Hub.share!_meas (h : Hub) (f : Sharing → Sharing) : (h.share! f).meas = h.meas := rfl
@[simp] theorem Hub.share!_feedA (h : Hub) (f : Sharing → Sharing) : (h.share! f).feedA = h.feedA := rfl
@[simp] theorem Hub.share!_feedB (h : Hub) (f : Sharing → Sharing) : (h.share! f).feedB = h.feedB := rfl
@[simp] theorem Hub.share!_share (h : Hub) (f : Sharing → Sharing) : (h.share! f).share = f h.share := rfl
@[simp] theorem Hub.share!_convs (h : Hub) (f : Sharing → Sharing) : (h.share! f).convs = h.convs := rfl
@[simp] theorem Hub.share!_lb (h : Hub) (f : Sharing → Sharing) : (h.share! f).lb = h.lb := rfl
@[simp] theorem Hub.share!_bud (h : Hub) (f : Sharing → Sharing) : (h.share! f).bud = h.bud := rfl
@[simp] theorem Hub.share!_chg (h : Hub) (f : Sharing → Sharing) : (h.share! f).chg = h.chg := rfl
@[simp] theorem Hub.share!_seq (h : Hub) (f : Sharing → Sharing) : (h.share! f).seq = h.seq := rfl
@[simp] theorem Hub.share!_mea (h : Hub) (f : Sharing → Sharing) : (h.share! f).mea = h.mea := rfl
@[simp] theorem Hub.share!_link (h : Hub) (f : Sharing → Sharing) : (h.share! f).link = h.link := rfl
@[simp] theorem Hub.share!_twb (h : Hub) (f : Sharing → Sharing) : (h.share! f).twb = h.twb := rfl
@[simp] theorem Hub.share!_wd (h : Hub) (f : Sharing → Sharing) : (h.share! f).wd = h.wd := rfl
@[simp] theorem Hub.share!_rtc (h : Hub) (f : Sharing → Sharing) : (h.share! f).rtc = h.rtc := rfl
@[simp] theorem Hub.share!_tst (h : Hub) (f : Sharing → Sharing) : (h.share! f).tst = h.tst := rfl

/-! ## `convs!` -/

@[simp] theorem Hub.convs!_part (h : Hub) (f : List Conv → List Conv) : (h.convs! f).part = h.part := rfl
@[simp] theorem Hub.convs!_regs (h : Hub) (f : List Conv → List Conv) : (h.convs! f).regs = h.regs := rfl
@[simp] theorem Hub.convs!_pend (h : Hub) (f : List Conv → List Conv) : (h.convs! f).pend = h.pend := rfl
@[simp] theorem Hub.convs!_shadow (h : Hub) (f : List Conv → List Conv) : (h.convs! f).shadow = h.shadow := rfl
@[simp] theorem Hub.convs!_once (h : Hub) (f : List Conv → List Conv) : (h.convs! f).once = h.once := rfl
@[simp] theorem Hub.convs!_bad (h : Hub) (f : List Conv → List Conv) : (h.convs! f).bad = h.bad := rfl
@[simp] theorem Hub.convs!_pages (h : Hub) (f : List Conv → List Conv) : (h.convs! f).pages = h.pages := rfl
@[simp] theorem Hub.convs!_views (h : Hub) (f : List Conv → List Conv) : (h.convs! f).views = h.views := rfl
@[simp] theorem Hub.convs!_acc (h : Hub) (f : List Conv → List Conv) : (h.convs! f).acc = h.acc := rfl
@[simp] theorem Hub.convs!_cyc (h : Hub) (f : List Conv → List Conv) : (h.convs! f).cyc = h.cyc := rfl
@[simp] theorem Hub.convs!_clk (h : Hub) (f : List Conv → List Conv) : (h.convs! f).clk = h.clk := rfl
@[simp] theorem Hub.convs!_frm (h : Hub) (f : List Conv → List Conv) : (h.convs! f).frm = h.frm := rfl
@[simp] theorem Hub.convs!_md (h : Hub) (f : List Conv → List Conv) : (h.convs! f).md = h.md := rfl
@[simp] theorem Hub.convs!_rcd (h : Hub) (f : List Conv → List Conv) : (h.convs! f).rcd = h.rcd := rfl
@[simp] theorem Hub.convs!_keys (h : Hub) (f : List Conv → List Conv) : (h.convs! f).keys = h.keys := rfl
@[simp] theorem Hub.convs!_chans (h : Hub) (f : List Conv → List Conv) : (h.convs! f).chans = h.chans := rfl
@[simp] theorem Hub.convs!_sec (h : Hub) (f : List Conv → List Conv) : (h.convs! f).sec = h.sec := rfl
@[simp] theorem Hub.convs!_engines (h : Hub) (f : List Conv → List Conv) : (h.convs! f).engines = h.engines := rfl
@[simp] theorem Hub.convs!_meas (h : Hub) (f : List Conv → List Conv) : (h.convs! f).meas = h.meas := rfl
@[simp] theorem Hub.convs!_feedA (h : Hub) (f : List Conv → List Conv) : (h.convs! f).feedA = h.feedA := rfl
@[simp] theorem Hub.convs!_feedB (h : Hub) (f : List Conv → List Conv) : (h.convs! f).feedB = h.feedB := rfl
@[simp] theorem Hub.convs!_share (h : Hub) (f : List Conv → List Conv) : (h.convs! f).share = h.share := rfl
@[simp] theorem Hub.convs!_convs (h : Hub) (f : List Conv → List Conv) : (h.convs! f).convs = f h.convs := rfl
@[simp] theorem Hub.convs!_lb (h : Hub) (f : List Conv → List Conv) : (h.convs! f).lb = h.lb := rfl
@[simp] theorem Hub.convs!_bud (h : Hub) (f : List Conv → List Conv) : (h.convs! f).bud = h.bud := rfl
@[simp] theorem Hub.convs!_chg (h : Hub) (f : List Conv → List Conv) : (h.convs! f).chg = h.chg := rfl
@[simp] theorem Hub.convs!_seq (h : Hub) (f : List Conv → List Conv) : (h.convs! f).seq = h.seq := rfl
@[simp] theorem Hub.convs!_mea (h : Hub) (f : List Conv → List Conv) : (h.convs! f).mea = h.mea := rfl
@[simp] theorem Hub.convs!_link (h : Hub) (f : List Conv → List Conv) : (h.convs! f).link = h.link := rfl
@[simp] theorem Hub.convs!_twb (h : Hub) (f : List Conv → List Conv) : (h.convs! f).twb = h.twb := rfl
@[simp] theorem Hub.convs!_wd (h : Hub) (f : List Conv → List Conv) : (h.convs! f).wd = h.wd := rfl
@[simp] theorem Hub.convs!_rtc (h : Hub) (f : List Conv → List Conv) : (h.convs! f).rtc = h.rtc := rfl
@[simp] theorem Hub.convs!_tst (h : Hub) (f : List Conv → List Conv) : (h.convs! f).tst = h.tst := rfl

/-! ## `lb!` -/

@[simp] theorem Hub.lb!_part (h : Hub) (f : LoadBus → LoadBus) : (h.lb! f).part = h.part := rfl
@[simp] theorem Hub.lb!_regs (h : Hub) (f : LoadBus → LoadBus) : (h.lb! f).regs = h.regs := rfl
@[simp] theorem Hub.lb!_pend (h : Hub) (f : LoadBus → LoadBus) : (h.lb! f).pend = h.pend := rfl
@[simp] theorem Hub.lb!_shadow (h : Hub) (f : LoadBus → LoadBus) : (h.lb! f).shadow = h.shadow := rfl
@[simp] theorem Hub.lb!_once (h : Hub) (f : LoadBus → LoadBus) : (h.lb! f).once = h.once := rfl
@[simp] theorem Hub.lb!_bad (h : Hub) (f : LoadBus → LoadBus) : (h.lb! f).bad = h.bad := rfl
@[simp] theorem Hub.lb!_pages (h : Hub) (f : LoadBus → LoadBus) : (h.lb! f).pages = h.pages := rfl
@[simp] theorem Hub.lb!_views (h : Hub) (f : LoadBus → LoadBus) : (h.lb! f).views = h.views := rfl
@[simp] theorem Hub.lb!_acc (h : Hub) (f : LoadBus → LoadBus) : (h.lb! f).acc = h.acc := rfl
@[simp] theorem Hub.lb!_cyc (h : Hub) (f : LoadBus → LoadBus) : (h.lb! f).cyc = h.cyc := rfl
@[simp] theorem Hub.lb!_clk (h : Hub) (f : LoadBus → LoadBus) : (h.lb! f).clk = h.clk := rfl
@[simp] theorem Hub.lb!_frm (h : Hub) (f : LoadBus → LoadBus) : (h.lb! f).frm = h.frm := rfl
@[simp] theorem Hub.lb!_md (h : Hub) (f : LoadBus → LoadBus) : (h.lb! f).md = h.md := rfl
@[simp] theorem Hub.lb!_rcd (h : Hub) (f : LoadBus → LoadBus) : (h.lb! f).rcd = h.rcd := rfl
@[simp] theorem Hub.lb!_keys (h : Hub) (f : LoadBus → LoadBus) : (h.lb! f).keys = h.keys := rfl
@[simp] theorem Hub.lb!_chans (h : Hub) (f : LoadBus → LoadBus) : (h.lb! f).chans = h.chans := rfl
@[simp] theorem Hub.lb!_sec (h : Hub) (f : LoadBus → LoadBus) : (h.lb! f).sec = h.sec := rfl
@[simp] theorem Hub.lb!_engines (h : Hub) (f : LoadBus → LoadBus) : (h.lb! f).engines = h.engines := rfl
@[simp] theorem Hub.lb!_meas (h : Hub) (f : LoadBus → LoadBus) : (h.lb! f).meas = h.meas := rfl
@[simp] theorem Hub.lb!_feedA (h : Hub) (f : LoadBus → LoadBus) : (h.lb! f).feedA = h.feedA := rfl
@[simp] theorem Hub.lb!_feedB (h : Hub) (f : LoadBus → LoadBus) : (h.lb! f).feedB = h.feedB := rfl
@[simp] theorem Hub.lb!_share (h : Hub) (f : LoadBus → LoadBus) : (h.lb! f).share = h.share := rfl
@[simp] theorem Hub.lb!_convs (h : Hub) (f : LoadBus → LoadBus) : (h.lb! f).convs = h.convs := rfl
@[simp] theorem Hub.lb!_lb (h : Hub) (f : LoadBus → LoadBus) : (h.lb! f).lb = f h.lb := rfl
@[simp] theorem Hub.lb!_bud (h : Hub) (f : LoadBus → LoadBus) : (h.lb! f).bud = h.bud := rfl
@[simp] theorem Hub.lb!_chg (h : Hub) (f : LoadBus → LoadBus) : (h.lb! f).chg = h.chg := rfl
@[simp] theorem Hub.lb!_seq (h : Hub) (f : LoadBus → LoadBus) : (h.lb! f).seq = h.seq := rfl
@[simp] theorem Hub.lb!_mea (h : Hub) (f : LoadBus → LoadBus) : (h.lb! f).mea = h.mea := rfl
@[simp] theorem Hub.lb!_link (h : Hub) (f : LoadBus → LoadBus) : (h.lb! f).link = h.link := rfl
@[simp] theorem Hub.lb!_twb (h : Hub) (f : LoadBus → LoadBus) : (h.lb! f).twb = h.twb := rfl
@[simp] theorem Hub.lb!_wd (h : Hub) (f : LoadBus → LoadBus) : (h.lb! f).wd = h.wd := rfl
@[simp] theorem Hub.lb!_rtc (h : Hub) (f : LoadBus → LoadBus) : (h.lb! f).rtc = h.rtc := rfl
@[simp] theorem Hub.lb!_tst (h : Hub) (f : LoadBus → LoadBus) : (h.lb! f).tst = h.tst := rfl

/-! ## `bud!` -/

@[simp] theorem Hub.bud!_part (h : Hub) (f : Budget → Budget) : (h.bud! f).part = h.part := rfl
@[simp] theorem Hub.bud!_regs (h : Hub) (f : Budget → Budget) : (h.bud! f).regs = h.regs := rfl
@[simp] theorem Hub.bud!_pend (h : Hub) (f : Budget → Budget) : (h.bud! f).pend = h.pend := rfl
@[simp] theorem Hub.bud!_shadow (h : Hub) (f : Budget → Budget) : (h.bud! f).shadow = h.shadow := rfl
@[simp] theorem Hub.bud!_once (h : Hub) (f : Budget → Budget) : (h.bud! f).once = h.once := rfl
@[simp] theorem Hub.bud!_bad (h : Hub) (f : Budget → Budget) : (h.bud! f).bad = h.bad := rfl
@[simp] theorem Hub.bud!_pages (h : Hub) (f : Budget → Budget) : (h.bud! f).pages = h.pages := rfl
@[simp] theorem Hub.bud!_views (h : Hub) (f : Budget → Budget) : (h.bud! f).views = h.views := rfl
@[simp] theorem Hub.bud!_acc (h : Hub) (f : Budget → Budget) : (h.bud! f).acc = h.acc := rfl
@[simp] theorem Hub.bud!_cyc (h : Hub) (f : Budget → Budget) : (h.bud! f).cyc = h.cyc := rfl
@[simp] theorem Hub.bud!_clk (h : Hub) (f : Budget → Budget) : (h.bud! f).clk = h.clk := rfl
@[simp] theorem Hub.bud!_frm (h : Hub) (f : Budget → Budget) : (h.bud! f).frm = h.frm := rfl
@[simp] theorem Hub.bud!_md (h : Hub) (f : Budget → Budget) : (h.bud! f).md = h.md := rfl
@[simp] theorem Hub.bud!_rcd (h : Hub) (f : Budget → Budget) : (h.bud! f).rcd = h.rcd := rfl
@[simp] theorem Hub.bud!_keys (h : Hub) (f : Budget → Budget) : (h.bud! f).keys = h.keys := rfl
@[simp] theorem Hub.bud!_chans (h : Hub) (f : Budget → Budget) : (h.bud! f).chans = h.chans := rfl
@[simp] theorem Hub.bud!_sec (h : Hub) (f : Budget → Budget) : (h.bud! f).sec = h.sec := rfl
@[simp] theorem Hub.bud!_engines (h : Hub) (f : Budget → Budget) : (h.bud! f).engines = h.engines := rfl
@[simp] theorem Hub.bud!_meas (h : Hub) (f : Budget → Budget) : (h.bud! f).meas = h.meas := rfl
@[simp] theorem Hub.bud!_feedA (h : Hub) (f : Budget → Budget) : (h.bud! f).feedA = h.feedA := rfl
@[simp] theorem Hub.bud!_feedB (h : Hub) (f : Budget → Budget) : (h.bud! f).feedB = h.feedB := rfl
@[simp] theorem Hub.bud!_share (h : Hub) (f : Budget → Budget) : (h.bud! f).share = h.share := rfl
@[simp] theorem Hub.bud!_convs (h : Hub) (f : Budget → Budget) : (h.bud! f).convs = h.convs := rfl
@[simp] theorem Hub.bud!_lb (h : Hub) (f : Budget → Budget) : (h.bud! f).lb = h.lb := rfl
@[simp] theorem Hub.bud!_bud (h : Hub) (f : Budget → Budget) : (h.bud! f).bud = f h.bud := rfl
@[simp] theorem Hub.bud!_chg (h : Hub) (f : Budget → Budget) : (h.bud! f).chg = h.chg := rfl
@[simp] theorem Hub.bud!_seq (h : Hub) (f : Budget → Budget) : (h.bud! f).seq = h.seq := rfl
@[simp] theorem Hub.bud!_mea (h : Hub) (f : Budget → Budget) : (h.bud! f).mea = h.mea := rfl
@[simp] theorem Hub.bud!_link (h : Hub) (f : Budget → Budget) : (h.bud! f).link = h.link := rfl
@[simp] theorem Hub.bud!_twb (h : Hub) (f : Budget → Budget) : (h.bud! f).twb = h.twb := rfl
@[simp] theorem Hub.bud!_wd (h : Hub) (f : Budget → Budget) : (h.bud! f).wd = h.wd := rfl
@[simp] theorem Hub.bud!_rtc (h : Hub) (f : Budget → Budget) : (h.bud! f).rtc = h.rtc := rfl
@[simp] theorem Hub.bud!_tst (h : Hub) (f : Budget → Budget) : (h.bud! f).tst = h.tst := rfl

/-! ## `chg!` -/

@[simp] theorem Hub.chg!_part (h : Hub) (f : Charger → Charger) : (h.chg! f).part = h.part := rfl
@[simp] theorem Hub.chg!_regs (h : Hub) (f : Charger → Charger) : (h.chg! f).regs = h.regs := rfl
@[simp] theorem Hub.chg!_pend (h : Hub) (f : Charger → Charger) : (h.chg! f).pend = h.pend := rfl
@[simp] theorem Hub.chg!_shadow (h : Hub) (f : Charger → Charger) : (h.chg! f).shadow = h.shadow := rfl
@[simp] theorem Hub.chg!_once (h : Hub) (f : Charger → Charger) : (h.chg! f).once = h.once := rfl
@[simp] theorem Hub.chg!_bad (h : Hub) (f : Charger → Charger) : (h.chg! f).bad = h.bad := rfl
@[simp] theorem Hub.chg!_pages (h : Hub) (f : Charger → Charger) : (h.chg! f).pages = h.pages := rfl
@[simp] theorem Hub.chg!_views (h : Hub) (f : Charger → Charger) : (h.chg! f).views = h.views := rfl
@[simp] theorem Hub.chg!_acc (h : Hub) (f : Charger → Charger) : (h.chg! f).acc = h.acc := rfl
@[simp] theorem Hub.chg!_cyc (h : Hub) (f : Charger → Charger) : (h.chg! f).cyc = h.cyc := rfl
@[simp] theorem Hub.chg!_clk (h : Hub) (f : Charger → Charger) : (h.chg! f).clk = h.clk := rfl
@[simp] theorem Hub.chg!_frm (h : Hub) (f : Charger → Charger) : (h.chg! f).frm = h.frm := rfl
@[simp] theorem Hub.chg!_md (h : Hub) (f : Charger → Charger) : (h.chg! f).md = h.md := rfl
@[simp] theorem Hub.chg!_rcd (h : Hub) (f : Charger → Charger) : (h.chg! f).rcd = h.rcd := rfl
@[simp] theorem Hub.chg!_keys (h : Hub) (f : Charger → Charger) : (h.chg! f).keys = h.keys := rfl
@[simp] theorem Hub.chg!_chans (h : Hub) (f : Charger → Charger) : (h.chg! f).chans = h.chans := rfl
@[simp] theorem Hub.chg!_sec (h : Hub) (f : Charger → Charger) : (h.chg! f).sec = h.sec := rfl
@[simp] theorem Hub.chg!_engines (h : Hub) (f : Charger → Charger) : (h.chg! f).engines = h.engines := rfl
@[simp] theorem Hub.chg!_meas (h : Hub) (f : Charger → Charger) : (h.chg! f).meas = h.meas := rfl
@[simp] theorem Hub.chg!_feedA (h : Hub) (f : Charger → Charger) : (h.chg! f).feedA = h.feedA := rfl
@[simp] theorem Hub.chg!_feedB (h : Hub) (f : Charger → Charger) : (h.chg! f).feedB = h.feedB := rfl
@[simp] theorem Hub.chg!_share (h : Hub) (f : Charger → Charger) : (h.chg! f).share = h.share := rfl
@[simp] theorem Hub.chg!_convs (h : Hub) (f : Charger → Charger) : (h.chg! f).convs = h.convs := rfl
@[simp] theorem Hub.chg!_lb (h : Hub) (f : Charger → Charger) : (h.chg! f).lb = h.lb := rfl
@[simp] theorem Hub.chg!_bud (h : Hub) (f : Charger → Charger) : (h.chg! f).bud = h.bud := rfl
@[simp] theorem Hub.chg!_chg (h : Hub) (f : Charger → Charger) : (h.chg! f).chg = f h.chg := rfl
@[simp] theorem Hub.chg!_seq (h : Hub) (f : Charger → Charger) : (h.chg! f).seq = h.seq := rfl
@[simp] theorem Hub.chg!_mea (h : Hub) (f : Charger → Charger) : (h.chg! f).mea = h.mea := rfl
@[simp] theorem Hub.chg!_link (h : Hub) (f : Charger → Charger) : (h.chg! f).link = h.link := rfl
@[simp] theorem Hub.chg!_twb (h : Hub) (f : Charger → Charger) : (h.chg! f).twb = h.twb := rfl
@[simp] theorem Hub.chg!_wd (h : Hub) (f : Charger → Charger) : (h.chg! f).wd = h.wd := rfl
@[simp] theorem Hub.chg!_rtc (h : Hub) (f : Charger → Charger) : (h.chg! f).rtc = h.rtc := rfl
@[simp] theorem Hub.chg!_tst (h : Hub) (f : Charger → Charger) : (h.chg! f).tst = h.tst := rfl

/-! ## `seq!` -/

@[simp] theorem Hub.seq!_part (h : Hub) (f : Sequencer → Sequencer) : (h.seq! f).part = h.part := rfl
@[simp] theorem Hub.seq!_regs (h : Hub) (f : Sequencer → Sequencer) : (h.seq! f).regs = h.regs := rfl
@[simp] theorem Hub.seq!_pend (h : Hub) (f : Sequencer → Sequencer) : (h.seq! f).pend = h.pend := rfl
@[simp] theorem Hub.seq!_shadow (h : Hub) (f : Sequencer → Sequencer) : (h.seq! f).shadow = h.shadow := rfl
@[simp] theorem Hub.seq!_once (h : Hub) (f : Sequencer → Sequencer) : (h.seq! f).once = h.once := rfl
@[simp] theorem Hub.seq!_bad (h : Hub) (f : Sequencer → Sequencer) : (h.seq! f).bad = h.bad := rfl
@[simp] theorem Hub.seq!_pages (h : Hub) (f : Sequencer → Sequencer) : (h.seq! f).pages = h.pages := rfl
@[simp] theorem Hub.seq!_views (h : Hub) (f : Sequencer → Sequencer) : (h.seq! f).views = h.views := rfl
@[simp] theorem Hub.seq!_acc (h : Hub) (f : Sequencer → Sequencer) : (h.seq! f).acc = h.acc := rfl
@[simp] theorem Hub.seq!_cyc (h : Hub) (f : Sequencer → Sequencer) : (h.seq! f).cyc = h.cyc := rfl
@[simp] theorem Hub.seq!_clk (h : Hub) (f : Sequencer → Sequencer) : (h.seq! f).clk = h.clk := rfl
@[simp] theorem Hub.seq!_frm (h : Hub) (f : Sequencer → Sequencer) : (h.seq! f).frm = h.frm := rfl
@[simp] theorem Hub.seq!_md (h : Hub) (f : Sequencer → Sequencer) : (h.seq! f).md = h.md := rfl
@[simp] theorem Hub.seq!_rcd (h : Hub) (f : Sequencer → Sequencer) : (h.seq! f).rcd = h.rcd := rfl
@[simp] theorem Hub.seq!_keys (h : Hub) (f : Sequencer → Sequencer) : (h.seq! f).keys = h.keys := rfl
@[simp] theorem Hub.seq!_chans (h : Hub) (f : Sequencer → Sequencer) : (h.seq! f).chans = h.chans := rfl
@[simp] theorem Hub.seq!_sec (h : Hub) (f : Sequencer → Sequencer) : (h.seq! f).sec = h.sec := rfl
@[simp] theorem Hub.seq!_engines (h : Hub) (f : Sequencer → Sequencer) : (h.seq! f).engines = h.engines := rfl
@[simp] theorem Hub.seq!_meas (h : Hub) (f : Sequencer → Sequencer) : (h.seq! f).meas = h.meas := rfl
@[simp] theorem Hub.seq!_feedA (h : Hub) (f : Sequencer → Sequencer) : (h.seq! f).feedA = h.feedA := rfl
@[simp] theorem Hub.seq!_feedB (h : Hub) (f : Sequencer → Sequencer) : (h.seq! f).feedB = h.feedB := rfl
@[simp] theorem Hub.seq!_share (h : Hub) (f : Sequencer → Sequencer) : (h.seq! f).share = h.share := rfl
@[simp] theorem Hub.seq!_convs (h : Hub) (f : Sequencer → Sequencer) : (h.seq! f).convs = h.convs := rfl
@[simp] theorem Hub.seq!_lb (h : Hub) (f : Sequencer → Sequencer) : (h.seq! f).lb = h.lb := rfl
@[simp] theorem Hub.seq!_bud (h : Hub) (f : Sequencer → Sequencer) : (h.seq! f).bud = h.bud := rfl
@[simp] theorem Hub.seq!_chg (h : Hub) (f : Sequencer → Sequencer) : (h.seq! f).chg = h.chg := rfl
@[simp] theorem Hub.seq!_seq (h : Hub) (f : Sequencer → Sequencer) : (h.seq! f).seq = f h.seq := rfl
@[simp] theorem Hub.seq!_mea (h : Hub) (f : Sequencer → Sequencer) : (h.seq! f).mea = h.mea := rfl
@[simp] theorem Hub.seq!_link (h : Hub) (f : Sequencer → Sequencer) : (h.seq! f).link = h.link := rfl
@[simp] theorem Hub.seq!_twb (h : Hub) (f : Sequencer → Sequencer) : (h.seq! f).twb = h.twb := rfl
@[simp] theorem Hub.seq!_wd (h : Hub) (f : Sequencer → Sequencer) : (h.seq! f).wd = h.wd := rfl
@[simp] theorem Hub.seq!_rtc (h : Hub) (f : Sequencer → Sequencer) : (h.seq! f).rtc = h.rtc := rfl
@[simp] theorem Hub.seq!_tst (h : Hub) (f : Sequencer → Sequencer) : (h.seq! f).tst = h.tst := rfl

/-! ## `mea!` -/

@[simp] theorem Hub.mea!_part (h : Hub) (f : Measure → Measure) : (h.mea! f).part = h.part := rfl
@[simp] theorem Hub.mea!_regs (h : Hub) (f : Measure → Measure) : (h.mea! f).regs = h.regs := rfl
@[simp] theorem Hub.mea!_pend (h : Hub) (f : Measure → Measure) : (h.mea! f).pend = h.pend := rfl
@[simp] theorem Hub.mea!_shadow (h : Hub) (f : Measure → Measure) : (h.mea! f).shadow = h.shadow := rfl
@[simp] theorem Hub.mea!_once (h : Hub) (f : Measure → Measure) : (h.mea! f).once = h.once := rfl
@[simp] theorem Hub.mea!_bad (h : Hub) (f : Measure → Measure) : (h.mea! f).bad = h.bad := rfl
@[simp] theorem Hub.mea!_pages (h : Hub) (f : Measure → Measure) : (h.mea! f).pages = h.pages := rfl
@[simp] theorem Hub.mea!_views (h : Hub) (f : Measure → Measure) : (h.mea! f).views = h.views := rfl
@[simp] theorem Hub.mea!_acc (h : Hub) (f : Measure → Measure) : (h.mea! f).acc = h.acc := rfl
@[simp] theorem Hub.mea!_cyc (h : Hub) (f : Measure → Measure) : (h.mea! f).cyc = h.cyc := rfl
@[simp] theorem Hub.mea!_clk (h : Hub) (f : Measure → Measure) : (h.mea! f).clk = h.clk := rfl
@[simp] theorem Hub.mea!_frm (h : Hub) (f : Measure → Measure) : (h.mea! f).frm = h.frm := rfl
@[simp] theorem Hub.mea!_md (h : Hub) (f : Measure → Measure) : (h.mea! f).md = h.md := rfl
@[simp] theorem Hub.mea!_rcd (h : Hub) (f : Measure → Measure) : (h.mea! f).rcd = h.rcd := rfl
@[simp] theorem Hub.mea!_keys (h : Hub) (f : Measure → Measure) : (h.mea! f).keys = h.keys := rfl
@[simp] theorem Hub.mea!_chans (h : Hub) (f : Measure → Measure) : (h.mea! f).chans = h.chans := rfl
@[simp] theorem Hub.mea!_sec (h : Hub) (f : Measure → Measure) : (h.mea! f).sec = h.sec := rfl
@[simp] theorem Hub.mea!_engines (h : Hub) (f : Measure → Measure) : (h.mea! f).engines = h.engines := rfl
@[simp] theorem Hub.mea!_meas (h : Hub) (f : Measure → Measure) : (h.mea! f).meas = h.meas := rfl
@[simp] theorem Hub.mea!_feedA (h : Hub) (f : Measure → Measure) : (h.mea! f).feedA = h.feedA := rfl
@[simp] theorem Hub.mea!_feedB (h : Hub) (f : Measure → Measure) : (h.mea! f).feedB = h.feedB := rfl
@[simp] theorem Hub.mea!_share (h : Hub) (f : Measure → Measure) : (h.mea! f).share = h.share := rfl
@[simp] theorem Hub.mea!_convs (h : Hub) (f : Measure → Measure) : (h.mea! f).convs = h.convs := rfl
@[simp] theorem Hub.mea!_lb (h : Hub) (f : Measure → Measure) : (h.mea! f).lb = h.lb := rfl
@[simp] theorem Hub.mea!_bud (h : Hub) (f : Measure → Measure) : (h.mea! f).bud = h.bud := rfl
@[simp] theorem Hub.mea!_chg (h : Hub) (f : Measure → Measure) : (h.mea! f).chg = h.chg := rfl
@[simp] theorem Hub.mea!_seq (h : Hub) (f : Measure → Measure) : (h.mea! f).seq = h.seq := rfl
@[simp] theorem Hub.mea!_mea (h : Hub) (f : Measure → Measure) : (h.mea! f).mea = f h.mea := rfl
@[simp] theorem Hub.mea!_link (h : Hub) (f : Measure → Measure) : (h.mea! f).link = h.link := rfl
@[simp] theorem Hub.mea!_twb (h : Hub) (f : Measure → Measure) : (h.mea! f).twb = h.twb := rfl
@[simp] theorem Hub.mea!_wd (h : Hub) (f : Measure → Measure) : (h.mea! f).wd = h.wd := rfl
@[simp] theorem Hub.mea!_rtc (h : Hub) (f : Measure → Measure) : (h.mea! f).rtc = h.rtc := rfl
@[simp] theorem Hub.mea!_tst (h : Hub) (f : Measure → Measure) : (h.mea! f).tst = h.tst := rfl

/-! ## `link!` -/

@[simp] theorem Hub.link!_part (h : Hub) (f : Link → Link) : (h.link! f).part = h.part := rfl
@[simp] theorem Hub.link!_regs (h : Hub) (f : Link → Link) : (h.link! f).regs = h.regs := rfl
@[simp] theorem Hub.link!_pend (h : Hub) (f : Link → Link) : (h.link! f).pend = h.pend := rfl
@[simp] theorem Hub.link!_shadow (h : Hub) (f : Link → Link) : (h.link! f).shadow = h.shadow := rfl
@[simp] theorem Hub.link!_once (h : Hub) (f : Link → Link) : (h.link! f).once = h.once := rfl
@[simp] theorem Hub.link!_bad (h : Hub) (f : Link → Link) : (h.link! f).bad = h.bad := rfl
@[simp] theorem Hub.link!_pages (h : Hub) (f : Link → Link) : (h.link! f).pages = h.pages := rfl
@[simp] theorem Hub.link!_views (h : Hub) (f : Link → Link) : (h.link! f).views = h.views := rfl
@[simp] theorem Hub.link!_acc (h : Hub) (f : Link → Link) : (h.link! f).acc = h.acc := rfl
@[simp] theorem Hub.link!_cyc (h : Hub) (f : Link → Link) : (h.link! f).cyc = h.cyc := rfl
@[simp] theorem Hub.link!_clk (h : Hub) (f : Link → Link) : (h.link! f).clk = h.clk := rfl
@[simp] theorem Hub.link!_frm (h : Hub) (f : Link → Link) : (h.link! f).frm = h.frm := rfl
@[simp] theorem Hub.link!_md (h : Hub) (f : Link → Link) : (h.link! f).md = h.md := rfl
@[simp] theorem Hub.link!_rcd (h : Hub) (f : Link → Link) : (h.link! f).rcd = h.rcd := rfl
@[simp] theorem Hub.link!_keys (h : Hub) (f : Link → Link) : (h.link! f).keys = h.keys := rfl
@[simp] theorem Hub.link!_chans (h : Hub) (f : Link → Link) : (h.link! f).chans = h.chans := rfl
@[simp] theorem Hub.link!_sec (h : Hub) (f : Link → Link) : (h.link! f).sec = h.sec := rfl
@[simp] theorem Hub.link!_engines (h : Hub) (f : Link → Link) : (h.link! f).engines = h.engines := rfl
@[simp] theorem Hub.link!_meas (h : Hub) (f : Link → Link) : (h.link! f).meas = h.meas := rfl
@[simp] theorem Hub.link!_feedA (h : Hub) (f : Link → Link) : (h.link! f).feedA = h.feedA := rfl
@[simp] theorem Hub.link!_feedB (h : Hub) (f : Link → Link) : (h.link! f).feedB = h.feedB := rfl
@[simp] theorem Hub.link!_share (h : Hub) (f : Link → Link) : (h.link! f).share = h.share := rfl
@[simp] theorem Hub.link!_convs (h : Hub) (f : Link → Link) : (h.link! f).convs = h.convs := rfl
@[simp] theorem Hub.link!_lb (h : Hub) (f : Link → Link) : (h.link! f).lb = h.lb := rfl
@[simp] theorem Hub.link!_bud (h : Hub) (f : Link → Link) : (h.link! f).bud = h.bud := rfl
@[simp] theorem Hub.link!_chg (h : Hub) (f : Link → Link) : (h.link! f).chg = h.chg := rfl
@[simp] theorem Hub.link!_seq (h : Hub) (f : Link → Link) : (h.link! f).seq = h.seq := rfl
@[simp] theorem Hub.link!_mea (h : Hub) (f : Link → Link) : (h.link! f).mea = h.mea := rfl
@[simp] theorem Hub.link!_link (h : Hub) (f : Link → Link) : (h.link! f).link = f h.link := rfl
@[simp] theorem Hub.link!_twb (h : Hub) (f : Link → Link) : (h.link! f).twb = h.twb := rfl
@[simp] theorem Hub.link!_wd (h : Hub) (f : Link → Link) : (h.link! f).wd = h.wd := rfl
@[simp] theorem Hub.link!_rtc (h : Hub) (f : Link → Link) : (h.link! f).rtc = h.rtc := rfl
@[simp] theorem Hub.link!_tst (h : Hub) (f : Link → Link) : (h.link! f).tst = h.tst := rfl

/-! ## `twb!` -/

@[simp] theorem Hub.twb!_part (h : Hub) (f : TwoWire → TwoWire) : (h.twb! f).part = h.part := rfl
@[simp] theorem Hub.twb!_regs (h : Hub) (f : TwoWire → TwoWire) : (h.twb! f).regs = h.regs := rfl
@[simp] theorem Hub.twb!_pend (h : Hub) (f : TwoWire → TwoWire) : (h.twb! f).pend = h.pend := rfl
@[simp] theorem Hub.twb!_shadow (h : Hub) (f : TwoWire → TwoWire) : (h.twb! f).shadow = h.shadow := rfl
@[simp] theorem Hub.twb!_once (h : Hub) (f : TwoWire → TwoWire) : (h.twb! f).once = h.once := rfl
@[simp] theorem Hub.twb!_bad (h : Hub) (f : TwoWire → TwoWire) : (h.twb! f).bad = h.bad := rfl
@[simp] theorem Hub.twb!_pages (h : Hub) (f : TwoWire → TwoWire) : (h.twb! f).pages = h.pages := rfl
@[simp] theorem Hub.twb!_views (h : Hub) (f : TwoWire → TwoWire) : (h.twb! f).views = h.views := rfl
@[simp] theorem Hub.twb!_acc (h : Hub) (f : TwoWire → TwoWire) : (h.twb! f).acc = h.acc := rfl
@[simp] theorem Hub.twb!_cyc (h : Hub) (f : TwoWire → TwoWire) : (h.twb! f).cyc = h.cyc := rfl
@[simp] theorem Hub.twb!_clk (h : Hub) (f : TwoWire → TwoWire) : (h.twb! f).clk = h.clk := rfl
@[simp] theorem Hub.twb!_frm (h : Hub) (f : TwoWire → TwoWire) : (h.twb! f).frm = h.frm := rfl
@[simp] theorem Hub.twb!_md (h : Hub) (f : TwoWire → TwoWire) : (h.twb! f).md = h.md := rfl
@[simp] theorem Hub.twb!_rcd (h : Hub) (f : TwoWire → TwoWire) : (h.twb! f).rcd = h.rcd := rfl
@[simp] theorem Hub.twb!_keys (h : Hub) (f : TwoWire → TwoWire) : (h.twb! f).keys = h.keys := rfl
@[simp] theorem Hub.twb!_chans (h : Hub) (f : TwoWire → TwoWire) : (h.twb! f).chans = h.chans := rfl
@[simp] theorem Hub.twb!_sec (h : Hub) (f : TwoWire → TwoWire) : (h.twb! f).sec = h.sec := rfl
@[simp] theorem Hub.twb!_engines (h : Hub) (f : TwoWire → TwoWire) : (h.twb! f).engines = h.engines := rfl
@[simp] theorem Hub.twb!_meas (h : Hub) (f : TwoWire → TwoWire) : (h.twb! f).meas = h.meas := rfl
@[simp] theorem Hub.twb!_feedA (h : Hub) (f : TwoWire → TwoWire) : (h.twb! f).feedA = h.feedA := rfl
@[simp] theorem Hub.twb!_feedB (h : Hub) (f : TwoWire → TwoWire) : (h.twb! f).feedB = h.feedB := rfl
@[simp] theorem Hub.twb!_share (h : Hub) (f : TwoWire → TwoWire) : (h.twb! f).share = h.share := rfl
@[simp] theorem Hub.twb!_convs (h : Hub) (f : TwoWire → TwoWire) : (h.twb! f).convs = h.convs := rfl
@[simp] theorem Hub.twb!_lb (h : Hub) (f : TwoWire → TwoWire) : (h.twb! f).lb = h.lb := rfl
@[simp] theorem Hub.twb!_bud (h : Hub) (f : TwoWire → TwoWire) : (h.twb! f).bud = h.bud := rfl
@[simp] theorem Hub.twb!_chg (h : Hub) (f : TwoWire → TwoWire) : (h.twb! f).chg = h.chg := rfl
@[simp] theorem Hub.twb!_seq (h : Hub) (f : TwoWire → TwoWire) : (h.twb! f).seq = h.seq := rfl
@[simp] theorem Hub.twb!_mea (h : Hub) (f : TwoWire → TwoWire) : (h.twb! f).mea = h.mea := rfl
@[simp] theorem Hub.twb!_link (h : Hub) (f : TwoWire → TwoWire) : (h.twb! f).link = h.link := rfl
@[simp] theorem Hub.twb!_twb (h : Hub) (f : TwoWire → TwoWire) : (h.twb! f).twb = f h.twb := rfl
@[simp] theorem Hub.twb!_wd (h : Hub) (f : TwoWire → TwoWire) : (h.twb! f).wd = h.wd := rfl
@[simp] theorem Hub.twb!_rtc (h : Hub) (f : TwoWire → TwoWire) : (h.twb! f).rtc = h.rtc := rfl
@[simp] theorem Hub.twb!_tst (h : Hub) (f : TwoWire → TwoWire) : (h.twb! f).tst = h.tst := rfl

/-! ## `wd!` -/

@[simp] theorem Hub.wd!_part (h : Hub) (f : Watchdog → Watchdog) : (h.wd! f).part = h.part := rfl
@[simp] theorem Hub.wd!_regs (h : Hub) (f : Watchdog → Watchdog) : (h.wd! f).regs = h.regs := rfl
@[simp] theorem Hub.wd!_pend (h : Hub) (f : Watchdog → Watchdog) : (h.wd! f).pend = h.pend := rfl
@[simp] theorem Hub.wd!_shadow (h : Hub) (f : Watchdog → Watchdog) : (h.wd! f).shadow = h.shadow := rfl
@[simp] theorem Hub.wd!_once (h : Hub) (f : Watchdog → Watchdog) : (h.wd! f).once = h.once := rfl
@[simp] theorem Hub.wd!_bad (h : Hub) (f : Watchdog → Watchdog) : (h.wd! f).bad = h.bad := rfl
@[simp] theorem Hub.wd!_pages (h : Hub) (f : Watchdog → Watchdog) : (h.wd! f).pages = h.pages := rfl
@[simp] theorem Hub.wd!_views (h : Hub) (f : Watchdog → Watchdog) : (h.wd! f).views = h.views := rfl
@[simp] theorem Hub.wd!_acc (h : Hub) (f : Watchdog → Watchdog) : (h.wd! f).acc = h.acc := rfl
@[simp] theorem Hub.wd!_cyc (h : Hub) (f : Watchdog → Watchdog) : (h.wd! f).cyc = h.cyc := rfl
@[simp] theorem Hub.wd!_clk (h : Hub) (f : Watchdog → Watchdog) : (h.wd! f).clk = h.clk := rfl
@[simp] theorem Hub.wd!_frm (h : Hub) (f : Watchdog → Watchdog) : (h.wd! f).frm = h.frm := rfl
@[simp] theorem Hub.wd!_md (h : Hub) (f : Watchdog → Watchdog) : (h.wd! f).md = h.md := rfl
@[simp] theorem Hub.wd!_rcd (h : Hub) (f : Watchdog → Watchdog) : (h.wd! f).rcd = h.rcd := rfl
@[simp] theorem Hub.wd!_keys (h : Hub) (f : Watchdog → Watchdog) : (h.wd! f).keys = h.keys := rfl
@[simp] theorem Hub.wd!_chans (h : Hub) (f : Watchdog → Watchdog) : (h.wd! f).chans = h.chans := rfl
@[simp] theorem Hub.wd!_sec (h : Hub) (f : Watchdog → Watchdog) : (h.wd! f).sec = h.sec := rfl
@[simp] theorem Hub.wd!_engines (h : Hub) (f : Watchdog → Watchdog) : (h.wd! f).engines = h.engines := rfl
@[simp] theorem Hub.wd!_meas (h : Hub) (f : Watchdog → Watchdog) : (h.wd! f).meas = h.meas := rfl
@[simp] theorem Hub.wd!_feedA (h : Hub) (f : Watchdog → Watchdog) : (h.wd! f).feedA = h.feedA := rfl
@[simp] theorem Hub.wd!_feedB (h : Hub) (f : Watchdog → Watchdog) : (h.wd! f).feedB = h.feedB := rfl
@[simp] theorem Hub.wd!_share (h : Hub) (f : Watchdog → Watchdog) : (h.wd! f).share = h.share := rfl
@[simp] theorem Hub.wd!_convs (h : Hub) (f : Watchdog → Watchdog) : (h.wd! f).convs = h.convs := rfl
@[simp] theorem Hub.wd!_lb (h : Hub) (f : Watchdog → Watchdog) : (h.wd! f).lb = h.lb := rfl
@[simp] theorem Hub.wd!_bud (h : Hub) (f : Watchdog → Watchdog) : (h.wd! f).bud = h.bud := rfl
@[simp] theorem Hub.wd!_chg (h : Hub) (f : Watchdog → Watchdog) : (h.wd! f).chg = h.chg := rfl
@[simp] theorem Hub.wd!_seq (h : Hub) (f : Watchdog → Watchdog) : (h.wd! f).seq = h.seq := rfl
@[simp] theorem Hub.wd!_mea (h : Hub) (f : Watchdog → Watchdog) : (h.wd! f).mea = h.mea := rfl
@[simp] theorem Hub.wd!_link (h : Hub) (f : Watchdog → Watchdog) : (h.wd! f).link = h.link := rfl
@[simp] theorem Hub.wd!_twb (h : Hub) (f : Watchdog → Watchdog) : (h.wd! f).twb = h.twb := rfl
@[simp] theorem Hub.wd!_wd (h : Hub) (f : Watchdog → Watchdog) : (h.wd! f).wd = f h.wd := rfl
@[simp] theorem Hub.wd!_rtc (h : Hub) (f : Watchdog → Watchdog) : (h.wd! f).rtc = h.rtc := rfl
@[simp] theorem Hub.wd!_tst (h : Hub) (f : Watchdog → Watchdog) : (h.wd! f).tst = h.tst := rfl

/-! ## `rtc!` -/

@[simp] theorem Hub.rtc!_part (h : Hub) (f : Rtc → Rtc) : (h.rtc! f).part = h.part := rfl
@[simp] theorem Hub.rtc!_regs (h : Hub) (f : Rtc → Rtc) : (h.rtc! f).regs = h.regs := rfl
@[simp] theorem Hub.rtc!_pend (h : Hub) (f : Rtc → Rtc) : (h.rtc! f).pend = h.pend := rfl
@[simp] theorem Hub.rtc!_shadow (h : Hub) (f : Rtc → Rtc) : (h.rtc! f).shadow = h.shadow := rfl
@[simp] theorem Hub.rtc!_once (h : Hub) (f : Rtc → Rtc) : (h.rtc! f).once = h.once := rfl
@[simp] theorem Hub.rtc!_bad (h : Hub) (f : Rtc → Rtc) : (h.rtc! f).bad = h.bad := rfl
@[simp] theorem Hub.rtc!_pages (h : Hub) (f : Rtc → Rtc) : (h.rtc! f).pages = h.pages := rfl
@[simp] theorem Hub.rtc!_views (h : Hub) (f : Rtc → Rtc) : (h.rtc! f).views = h.views := rfl
@[simp] theorem Hub.rtc!_acc (h : Hub) (f : Rtc → Rtc) : (h.rtc! f).acc = h.acc := rfl
@[simp] theorem Hub.rtc!_cyc (h : Hub) (f : Rtc → Rtc) : (h.rtc! f).cyc = h.cyc := rfl
@[simp] theorem Hub.rtc!_clk (h : Hub) (f : Rtc → Rtc) : (h.rtc! f).clk = h.clk := rfl
@[simp] theorem Hub.rtc!_frm (h : Hub) (f : Rtc → Rtc) : (h.rtc! f).frm = h.frm := rfl
@[simp] theorem Hub.rtc!_md (h : Hub) (f : Rtc → Rtc) : (h.rtc! f).md = h.md := rfl
@[simp] theorem Hub.rtc!_rcd (h : Hub) (f : Rtc → Rtc) : (h.rtc! f).rcd = h.rcd := rfl
@[simp] theorem Hub.rtc!_keys (h : Hub) (f : Rtc → Rtc) : (h.rtc! f).keys = h.keys := rfl
@[simp] theorem Hub.rtc!_chans (h : Hub) (f : Rtc → Rtc) : (h.rtc! f).chans = h.chans := rfl
@[simp] theorem Hub.rtc!_sec (h : Hub) (f : Rtc → Rtc) : (h.rtc! f).sec = h.sec := rfl
@[simp] theorem Hub.rtc!_engines (h : Hub) (f : Rtc → Rtc) : (h.rtc! f).engines = h.engines := rfl
@[simp] theorem Hub.rtc!_meas (h : Hub) (f : Rtc → Rtc) : (h.rtc! f).meas = h.meas := rfl
@[simp] theorem Hub.rtc!_feedA (h : Hub) (f : Rtc → Rtc) : (h.rtc! f).feedA = h.feedA := rfl
@[simp] theorem Hub.rtc!_feedB (h : Hub) (f : Rtc → Rtc) : (h.rtc! f).feedB = h.feedB := rfl
@[simp] theorem Hub.rtc!_share (h : Hub) (f : Rtc → Rtc) : (h.rtc! f).share = h.share := rfl
@[simp] theorem Hub.rtc!_convs (h : Hub) (f : Rtc → Rtc) : (h.rtc! f).convs = h.convs := rfl
@[simp] theorem Hub.rtc!_lb (h : Hub) (f : Rtc → Rtc) : (h.rtc! f).lb = h.lb := rfl
@[simp] theorem Hub.rtc!_bud (h : Hub) (f : Rtc → Rtc) : (h.rtc! f).bud = h.bud := rfl
@[simp] theorem Hub.rtc!_chg (h : Hub) (f : Rtc → Rtc) : (h.rtc! f).chg = h.chg := rfl
@[simp] theorem Hub.rtc!_seq (h : Hub) (f : Rtc → Rtc) : (h.rtc! f).seq = h.seq := rfl
@[simp] theorem Hub.rtc!_mea (h : Hub) (f : Rtc → Rtc) : (h.rtc! f).mea = h.mea := rfl
@[simp] theorem Hub.rtc!_link (h : Hub) (f : Rtc → Rtc) : (h.rtc! f).link = h.link := rfl
@[simp] theorem Hub.rtc!_twb (h : Hub) (f : Rtc → Rtc) : (h.rtc! f).twb = h.twb := rfl
@[simp] theorem Hub.rtc!_wd (h : Hub) (f : Rtc → Rtc) : (h.rtc! f).wd = h.wd := rfl
@[simp] theorem Hub.rtc!_rtc (h : Hub) (f : Rtc → Rtc) : (h.rtc! f).rtc = f h.rtc := rfl
@[simp] theorem Hub.rtc!_tst (h : Hub) (f : Rtc → Rtc) : (h.rtc! f).tst = h.tst := rfl

/-! ## `tst!` -/

@[simp] theorem Hub.tst!_part (h : Hub) (f : TestPage → TestPage) : (h.tst! f).part = h.part := rfl
@[simp] theorem Hub.tst!_regs (h : Hub) (f : TestPage → TestPage) : (h.tst! f).regs = h.regs := rfl
@[simp] theorem Hub.tst!_pend (h : Hub) (f : TestPage → TestPage) : (h.tst! f).pend = h.pend := rfl
@[simp] theorem Hub.tst!_shadow (h : Hub) (f : TestPage → TestPage) : (h.tst! f).shadow = h.shadow := rfl
@[simp] theorem Hub.tst!_once (h : Hub) (f : TestPage → TestPage) : (h.tst! f).once = h.once := rfl
@[simp] theorem Hub.tst!_bad (h : Hub) (f : TestPage → TestPage) : (h.tst! f).bad = h.bad := rfl
@[simp] theorem Hub.tst!_pages (h : Hub) (f : TestPage → TestPage) : (h.tst! f).pages = h.pages := rfl
@[simp] theorem Hub.tst!_views (h : Hub) (f : TestPage → TestPage) : (h.tst! f).views = h.views := rfl
@[simp] theorem Hub.tst!_acc (h : Hub) (f : TestPage → TestPage) : (h.tst! f).acc = h.acc := rfl
@[simp] theorem Hub.tst!_cyc (h : Hub) (f : TestPage → TestPage) : (h.tst! f).cyc = h.cyc := rfl
@[simp] theorem Hub.tst!_clk (h : Hub) (f : TestPage → TestPage) : (h.tst! f).clk = h.clk := rfl
@[simp] theorem Hub.tst!_frm (h : Hub) (f : TestPage → TestPage) : (h.tst! f).frm = h.frm := rfl
@[simp] theorem Hub.tst!_md (h : Hub) (f : TestPage → TestPage) : (h.tst! f).md = h.md := rfl
@[simp] theorem Hub.tst!_rcd (h : Hub) (f : TestPage → TestPage) : (h.tst! f).rcd = h.rcd := rfl
@[simp] theorem Hub.tst!_keys (h : Hub) (f : TestPage → TestPage) : (h.tst! f).keys = h.keys := rfl
@[simp] theorem Hub.tst!_chans (h : Hub) (f : TestPage → TestPage) : (h.tst! f).chans = h.chans := rfl
@[simp] theorem Hub.tst!_sec (h : Hub) (f : TestPage → TestPage) : (h.tst! f).sec = h.sec := rfl
@[simp] theorem Hub.tst!_engines (h : Hub) (f : TestPage → TestPage) : (h.tst! f).engines = h.engines := rfl
@[simp] theorem Hub.tst!_meas (h : Hub) (f : TestPage → TestPage) : (h.tst! f).meas = h.meas := rfl
@[simp] theorem Hub.tst!_feedA (h : Hub) (f : TestPage → TestPage) : (h.tst! f).feedA = h.feedA := rfl
@[simp] theorem Hub.tst!_feedB (h : Hub) (f : TestPage → TestPage) : (h.tst! f).feedB = h.feedB := rfl
@[simp] theorem Hub.tst!_share (h : Hub) (f : TestPage → TestPage) : (h.tst! f).share = h.share := rfl
@[simp] theorem Hub.tst!_convs (h : Hub) (f : TestPage → TestPage) : (h.tst! f).convs = h.convs := rfl
@[simp] theorem Hub.tst!_lb (h : Hub) (f : TestPage → TestPage) : (h.tst! f).lb = h.lb := rfl
@[simp] theorem Hub.tst!_bud (h : Hub) (f : TestPage → TestPage) : (h.tst! f).bud = h.bud := rfl
@[simp] theorem Hub.tst!_chg (h : Hub) (f : TestPage → TestPage) : (h.tst! f).chg = h.chg := rfl
@[simp] theorem Hub.tst!_seq (h : Hub) (f : TestPage → TestPage) : (h.tst! f).seq = h.seq := rfl
@[simp] theorem Hub.tst!_mea (h : Hub) (f : TestPage → TestPage) : (h.tst! f).mea = h.mea := rfl
@[simp] theorem Hub.tst!_link (h : Hub) (f : TestPage → TestPage) : (h.tst! f).link = h.link := rfl
@[simp] theorem Hub.tst!_twb (h : Hub) (f : TestPage → TestPage) : (h.tst! f).twb = h.twb := rfl
@[simp] theorem Hub.tst!_wd (h : Hub) (f : TestPage → TestPage) : (h.tst! f).wd = h.wd := rfl
@[simp] theorem Hub.tst!_rtc (h : Hub) (f : TestPage → TestPage) : (h.tst! f).rtc = h.rtc := rfl
@[simp] theorem Hub.tst!_tst (h : Hub) (f : TestPage → TestPage) : (h.tst! f).tst = f h.tst := rfl

/-! ## Writes of registers and of page headers -/

@[simp] theorem Hub.setWord_part (h : Hub) (i : Nat) (w : Word) : (h.setWord i w).part = h.part := rfl
@[simp] theorem Hub.setWord_pend (h : Hub) (i : Nat) (w : Word) : (h.setWord i w).pend = h.pend := rfl
@[simp] theorem Hub.setWord_shadow (h : Hub) (i : Nat) (w : Word) : (h.setWord i w).shadow = h.shadow := rfl
@[simp] theorem Hub.setWord_once (h : Hub) (i : Nat) (w : Word) : (h.setWord i w).once = h.once := rfl
@[simp] theorem Hub.setWord_bad (h : Hub) (i : Nat) (w : Word) : (h.setWord i w).bad = h.bad := rfl
@[simp] theorem Hub.setWord_pages (h : Hub) (i : Nat) (w : Word) : (h.setWord i w).pages = h.pages := rfl
@[simp] theorem Hub.setWord_views (h : Hub) (i : Nat) (w : Word) : (h.setWord i w).views = h.views := rfl
@[simp] theorem Hub.setWord_acc (h : Hub) (i : Nat) (w : Word) : (h.setWord i w).acc = h.acc := rfl
@[simp] theorem Hub.setWord_cyc (h : Hub) (i : Nat) (w : Word) : (h.setWord i w).cyc = h.cyc := rfl
@[simp] theorem Hub.setWord_clk (h : Hub) (i : Nat) (w : Word) : (h.setWord i w).clk = h.clk := rfl
@[simp] theorem Hub.setWord_frm (h : Hub) (i : Nat) (w : Word) : (h.setWord i w).frm = h.frm := rfl
@[simp] theorem Hub.setWord_md (h : Hub) (i : Nat) (w : Word) : (h.setWord i w).md = h.md := rfl
@[simp] theorem Hub.setWord_rcd (h : Hub) (i : Nat) (w : Word) : (h.setWord i w).rcd = h.rcd := rfl
@[simp] theorem Hub.setWord_keys (h : Hub) (i : Nat) (w : Word) : (h.setWord i w).keys = h.keys := rfl
@[simp] theorem Hub.setWord_chans (h : Hub) (i : Nat) (w : Word) : (h.setWord i w).chans = h.chans := rfl
@[simp] theorem Hub.setWord_sec (h : Hub) (i : Nat) (w : Word) : (h.setWord i w).sec = h.sec := rfl
@[simp] theorem Hub.setWord_engines (h : Hub) (i : Nat) (w : Word) : (h.setWord i w).engines = h.engines := rfl
@[simp] theorem Hub.setWord_meas (h : Hub) (i : Nat) (w : Word) : (h.setWord i w).meas = h.meas := rfl
@[simp] theorem Hub.setWord_feedA (h : Hub) (i : Nat) (w : Word) : (h.setWord i w).feedA = h.feedA := rfl
@[simp] theorem Hub.setWord_feedB (h : Hub) (i : Nat) (w : Word) : (h.setWord i w).feedB = h.feedB := rfl
@[simp] theorem Hub.setWord_share (h : Hub) (i : Nat) (w : Word) : (h.setWord i w).share = h.share := rfl
@[simp] theorem Hub.setWord_convs (h : Hub) (i : Nat) (w : Word) : (h.setWord i w).convs = h.convs := rfl
@[simp] theorem Hub.setWord_lb (h : Hub) (i : Nat) (w : Word) : (h.setWord i w).lb = h.lb := rfl
@[simp] theorem Hub.setWord_bud (h : Hub) (i : Nat) (w : Word) : (h.setWord i w).bud = h.bud := rfl
@[simp] theorem Hub.setWord_chg (h : Hub) (i : Nat) (w : Word) : (h.setWord i w).chg = h.chg := rfl
@[simp] theorem Hub.setWord_seq (h : Hub) (i : Nat) (w : Word) : (h.setWord i w).seq = h.seq := rfl
@[simp] theorem Hub.setWord_mea (h : Hub) (i : Nat) (w : Word) : (h.setWord i w).mea = h.mea := rfl
@[simp] theorem Hub.setWord_link (h : Hub) (i : Nat) (w : Word) : (h.setWord i w).link = h.link := rfl
@[simp] theorem Hub.setWord_twb (h : Hub) (i : Nat) (w : Word) : (h.setWord i w).twb = h.twb := rfl
@[simp] theorem Hub.setWord_wd (h : Hub) (i : Nat) (w : Word) : (h.setWord i w).wd = h.wd := rfl
@[simp] theorem Hub.setWord_rtc (h : Hub) (i : Nat) (w : Word) : (h.setWord i w).rtc = h.rtc := rfl
@[simp] theorem Hub.setWord_tst (h : Hub) (i : Nat) (w : Word) : (h.setWord i w).tst = h.tst := rfl

@[simp] theorem Hub.put_part (h : Hub) (f : Fld) (v : Nat) : (h.put f v).part = h.part := rfl
@[simp] theorem Hub.put_pend (h : Hub) (f : Fld) (v : Nat) : (h.put f v).pend = h.pend := rfl
@[simp] theorem Hub.put_shadow (h : Hub) (f : Fld) (v : Nat) : (h.put f v).shadow = h.shadow := rfl
@[simp] theorem Hub.put_once (h : Hub) (f : Fld) (v : Nat) : (h.put f v).once = h.once := rfl
@[simp] theorem Hub.put_bad (h : Hub) (f : Fld) (v : Nat) : (h.put f v).bad = h.bad := rfl
@[simp] theorem Hub.put_pages (h : Hub) (f : Fld) (v : Nat) : (h.put f v).pages = h.pages := rfl
@[simp] theorem Hub.put_views (h : Hub) (f : Fld) (v : Nat) : (h.put f v).views = h.views := rfl
@[simp] theorem Hub.put_acc (h : Hub) (f : Fld) (v : Nat) : (h.put f v).acc = h.acc := rfl
@[simp] theorem Hub.put_cyc (h : Hub) (f : Fld) (v : Nat) : (h.put f v).cyc = h.cyc := rfl
@[simp] theorem Hub.put_clk (h : Hub) (f : Fld) (v : Nat) : (h.put f v).clk = h.clk := rfl
@[simp] theorem Hub.put_frm (h : Hub) (f : Fld) (v : Nat) : (h.put f v).frm = h.frm := rfl
@[simp] theorem Hub.put_md (h : Hub) (f : Fld) (v : Nat) : (h.put f v).md = h.md := rfl
@[simp] theorem Hub.put_rcd (h : Hub) (f : Fld) (v : Nat) : (h.put f v).rcd = h.rcd := rfl
@[simp] theorem Hub.put_keys (h : Hub) (f : Fld) (v : Nat) : (h.put f v).keys = h.keys := rfl
@[simp] theorem Hub.put_chans (h : Hub) (f : Fld) (v : Nat) : (h.put f v).chans = h.chans := rfl
@[simp] theorem Hub.put_sec (h : Hub) (f : Fld) (v : Nat) : (h.put f v).sec = h.sec := rfl
@[simp] theorem Hub.put_engines (h : Hub) (f : Fld) (v : Nat) : (h.put f v).engines = h.engines := rfl
@[simp] theorem Hub.put_meas (h : Hub) (f : Fld) (v : Nat) : (h.put f v).meas = h.meas := rfl
@[simp] theorem Hub.put_feedA (h : Hub) (f : Fld) (v : Nat) : (h.put f v).feedA = h.feedA := rfl
@[simp] theorem Hub.put_feedB (h : Hub) (f : Fld) (v : Nat) : (h.put f v).feedB = h.feedB := rfl
@[simp] theorem Hub.put_share (h : Hub) (f : Fld) (v : Nat) : (h.put f v).share = h.share := rfl
@[simp] theorem Hub.put_convs (h : Hub) (f : Fld) (v : Nat) : (h.put f v).convs = h.convs := rfl
@[simp] theorem Hub.put_lb (h : Hub) (f : Fld) (v : Nat) : (h.put f v).lb = h.lb := rfl
@[simp] theorem Hub.put_bud (h : Hub) (f : Fld) (v : Nat) : (h.put f v).bud = h.bud := rfl
@[simp] theorem Hub.put_chg (h : Hub) (f : Fld) (v : Nat) : (h.put f v).chg = h.chg := rfl
@[simp] theorem Hub.put_seq (h : Hub) (f : Fld) (v : Nat) : (h.put f v).seq = h.seq := rfl
@[simp] theorem Hub.put_mea (h : Hub) (f : Fld) (v : Nat) : (h.put f v).mea = h.mea := rfl
@[simp] theorem Hub.put_link (h : Hub) (f : Fld) (v : Nat) : (h.put f v).link = h.link := rfl
@[simp] theorem Hub.put_twb (h : Hub) (f : Fld) (v : Nat) : (h.put f v).twb = h.twb := rfl
@[simp] theorem Hub.put_wd (h : Hub) (f : Fld) (v : Nat) : (h.put f v).wd = h.wd := rfl
@[simp] theorem Hub.put_rtc (h : Hub) (f : Fld) (v : Nat) : (h.put f v).rtc = h.rtc := rfl
@[simp] theorem Hub.put_tst (h : Hub) (f : Fld) (v : Nat) : (h.put f v).tst = h.tst := rfl

@[simp] theorem Hub.puti_part (h : Hub) (f : Fld) (v : Int) : (h.puti f v).part = h.part := rfl
@[simp] theorem Hub.puti_pend (h : Hub) (f : Fld) (v : Int) : (h.puti f v).pend = h.pend := rfl
@[simp] theorem Hub.puti_shadow (h : Hub) (f : Fld) (v : Int) : (h.puti f v).shadow = h.shadow := rfl
@[simp] theorem Hub.puti_once (h : Hub) (f : Fld) (v : Int) : (h.puti f v).once = h.once := rfl
@[simp] theorem Hub.puti_bad (h : Hub) (f : Fld) (v : Int) : (h.puti f v).bad = h.bad := rfl
@[simp] theorem Hub.puti_pages (h : Hub) (f : Fld) (v : Int) : (h.puti f v).pages = h.pages := rfl
@[simp] theorem Hub.puti_views (h : Hub) (f : Fld) (v : Int) : (h.puti f v).views = h.views := rfl
@[simp] theorem Hub.puti_acc (h : Hub) (f : Fld) (v : Int) : (h.puti f v).acc = h.acc := rfl
@[simp] theorem Hub.puti_cyc (h : Hub) (f : Fld) (v : Int) : (h.puti f v).cyc = h.cyc := rfl
@[simp] theorem Hub.puti_clk (h : Hub) (f : Fld) (v : Int) : (h.puti f v).clk = h.clk := rfl
@[simp] theorem Hub.puti_frm (h : Hub) (f : Fld) (v : Int) : (h.puti f v).frm = h.frm := rfl
@[simp] theorem Hub.puti_md (h : Hub) (f : Fld) (v : Int) : (h.puti f v).md = h.md := rfl
@[simp] theorem Hub.puti_rcd (h : Hub) (f : Fld) (v : Int) : (h.puti f v).rcd = h.rcd := rfl
@[simp] theorem Hub.puti_keys (h : Hub) (f : Fld) (v : Int) : (h.puti f v).keys = h.keys := rfl
@[simp] theorem Hub.puti_chans (h : Hub) (f : Fld) (v : Int) : (h.puti f v).chans = h.chans := rfl
@[simp] theorem Hub.puti_sec (h : Hub) (f : Fld) (v : Int) : (h.puti f v).sec = h.sec := rfl
@[simp] theorem Hub.puti_engines (h : Hub) (f : Fld) (v : Int) : (h.puti f v).engines = h.engines := rfl
@[simp] theorem Hub.puti_meas (h : Hub) (f : Fld) (v : Int) : (h.puti f v).meas = h.meas := rfl
@[simp] theorem Hub.puti_feedA (h : Hub) (f : Fld) (v : Int) : (h.puti f v).feedA = h.feedA := rfl
@[simp] theorem Hub.puti_feedB (h : Hub) (f : Fld) (v : Int) : (h.puti f v).feedB = h.feedB := rfl
@[simp] theorem Hub.puti_share (h : Hub) (f : Fld) (v : Int) : (h.puti f v).share = h.share := rfl
@[simp] theorem Hub.puti_convs (h : Hub) (f : Fld) (v : Int) : (h.puti f v).convs = h.convs := rfl
@[simp] theorem Hub.puti_lb (h : Hub) (f : Fld) (v : Int) : (h.puti f v).lb = h.lb := rfl
@[simp] theorem Hub.puti_bud (h : Hub) (f : Fld) (v : Int) : (h.puti f v).bud = h.bud := rfl
@[simp] theorem Hub.puti_chg (h : Hub) (f : Fld) (v : Int) : (h.puti f v).chg = h.chg := rfl
@[simp] theorem Hub.puti_seq (h : Hub) (f : Fld) (v : Int) : (h.puti f v).seq = h.seq := rfl
@[simp] theorem Hub.puti_mea (h : Hub) (f : Fld) (v : Int) : (h.puti f v).mea = h.mea := rfl
@[simp] theorem Hub.puti_link (h : Hub) (f : Fld) (v : Int) : (h.puti f v).link = h.link := rfl
@[simp] theorem Hub.puti_twb (h : Hub) (f : Fld) (v : Int) : (h.puti f v).twb = h.twb := rfl
@[simp] theorem Hub.puti_wd (h : Hub) (f : Fld) (v : Int) : (h.puti f v).wd = h.wd := rfl
@[simp] theorem Hub.puti_rtc (h : Hub) (f : Fld) (v : Int) : (h.puti f v).rtc = h.rtc := rfl
@[simp] theorem Hub.puti_tst (h : Hub) (f : Fld) (v : Int) : (h.puti f v).tst = h.tst := rfl

@[simp] theorem Hub.putb_part (h : Hub) (f : Fld) (b : Bool) : (h.putb f b).part = h.part := rfl
@[simp] theorem Hub.putb_pend (h : Hub) (f : Fld) (b : Bool) : (h.putb f b).pend = h.pend := rfl
@[simp] theorem Hub.putb_shadow (h : Hub) (f : Fld) (b : Bool) : (h.putb f b).shadow = h.shadow := rfl
@[simp] theorem Hub.putb_once (h : Hub) (f : Fld) (b : Bool) : (h.putb f b).once = h.once := rfl
@[simp] theorem Hub.putb_bad (h : Hub) (f : Fld) (b : Bool) : (h.putb f b).bad = h.bad := rfl
@[simp] theorem Hub.putb_pages (h : Hub) (f : Fld) (b : Bool) : (h.putb f b).pages = h.pages := rfl
@[simp] theorem Hub.putb_views (h : Hub) (f : Fld) (b : Bool) : (h.putb f b).views = h.views := rfl
@[simp] theorem Hub.putb_acc (h : Hub) (f : Fld) (b : Bool) : (h.putb f b).acc = h.acc := rfl
@[simp] theorem Hub.putb_cyc (h : Hub) (f : Fld) (b : Bool) : (h.putb f b).cyc = h.cyc := rfl
@[simp] theorem Hub.putb_clk (h : Hub) (f : Fld) (b : Bool) : (h.putb f b).clk = h.clk := rfl
@[simp] theorem Hub.putb_frm (h : Hub) (f : Fld) (b : Bool) : (h.putb f b).frm = h.frm := rfl
@[simp] theorem Hub.putb_md (h : Hub) (f : Fld) (b : Bool) : (h.putb f b).md = h.md := rfl
@[simp] theorem Hub.putb_rcd (h : Hub) (f : Fld) (b : Bool) : (h.putb f b).rcd = h.rcd := rfl
@[simp] theorem Hub.putb_keys (h : Hub) (f : Fld) (b : Bool) : (h.putb f b).keys = h.keys := rfl
@[simp] theorem Hub.putb_chans (h : Hub) (f : Fld) (b : Bool) : (h.putb f b).chans = h.chans := rfl
@[simp] theorem Hub.putb_sec (h : Hub) (f : Fld) (b : Bool) : (h.putb f b).sec = h.sec := rfl
@[simp] theorem Hub.putb_engines (h : Hub) (f : Fld) (b : Bool) : (h.putb f b).engines = h.engines := rfl
@[simp] theorem Hub.putb_meas (h : Hub) (f : Fld) (b : Bool) : (h.putb f b).meas = h.meas := rfl
@[simp] theorem Hub.putb_feedA (h : Hub) (f : Fld) (b : Bool) : (h.putb f b).feedA = h.feedA := rfl
@[simp] theorem Hub.putb_feedB (h : Hub) (f : Fld) (b : Bool) : (h.putb f b).feedB = h.feedB := rfl
@[simp] theorem Hub.putb_share (h : Hub) (f : Fld) (b : Bool) : (h.putb f b).share = h.share := rfl
@[simp] theorem Hub.putb_convs (h : Hub) (f : Fld) (b : Bool) : (h.putb f b).convs = h.convs := rfl
@[simp] theorem Hub.putb_lb (h : Hub) (f : Fld) (b : Bool) : (h.putb f b).lb = h.lb := rfl
@[simp] theorem Hub.putb_bud (h : Hub) (f : Fld) (b : Bool) : (h.putb f b).bud = h.bud := rfl
@[simp] theorem Hub.putb_chg (h : Hub) (f : Fld) (b : Bool) : (h.putb f b).chg = h.chg := rfl
@[simp] theorem Hub.putb_seq (h : Hub) (f : Fld) (b : Bool) : (h.putb f b).seq = h.seq := rfl
@[simp] theorem Hub.putb_mea (h : Hub) (f : Fld) (b : Bool) : (h.putb f b).mea = h.mea := rfl
@[simp] theorem Hub.putb_link (h : Hub) (f : Fld) (b : Bool) : (h.putb f b).link = h.link := rfl
@[simp] theorem Hub.putb_twb (h : Hub) (f : Fld) (b : Bool) : (h.putb f b).twb = h.twb := rfl
@[simp] theorem Hub.putb_wd (h : Hub) (f : Fld) (b : Bool) : (h.putb f b).wd = h.wd := rfl
@[simp] theorem Hub.putb_rtc (h : Hub) (f : Fld) (b : Bool) : (h.putb f b).rtc = h.rtc := rfl
@[simp] theorem Hub.putb_tst (h : Hub) (f : Fld) (b : Bool) : (h.putb f b).tst = h.tst := rfl

@[simp] theorem Hub.putSat_part (h : Hub) (f : Fld) (v : Nat) : (h.putSat f v).part = h.part := rfl
@[simp] theorem Hub.putSat_pend (h : Hub) (f : Fld) (v : Nat) : (h.putSat f v).pend = h.pend := rfl
@[simp] theorem Hub.putSat_shadow (h : Hub) (f : Fld) (v : Nat) : (h.putSat f v).shadow = h.shadow := rfl
@[simp] theorem Hub.putSat_once (h : Hub) (f : Fld) (v : Nat) : (h.putSat f v).once = h.once := rfl
@[simp] theorem Hub.putSat_bad (h : Hub) (f : Fld) (v : Nat) : (h.putSat f v).bad = h.bad := rfl
@[simp] theorem Hub.putSat_pages (h : Hub) (f : Fld) (v : Nat) : (h.putSat f v).pages = h.pages := rfl
@[simp] theorem Hub.putSat_views (h : Hub) (f : Fld) (v : Nat) : (h.putSat f v).views = h.views := rfl
@[simp] theorem Hub.putSat_acc (h : Hub) (f : Fld) (v : Nat) : (h.putSat f v).acc = h.acc := rfl
@[simp] theorem Hub.putSat_cyc (h : Hub) (f : Fld) (v : Nat) : (h.putSat f v).cyc = h.cyc := rfl
@[simp] theorem Hub.putSat_clk (h : Hub) (f : Fld) (v : Nat) : (h.putSat f v).clk = h.clk := rfl
@[simp] theorem Hub.putSat_frm (h : Hub) (f : Fld) (v : Nat) : (h.putSat f v).frm = h.frm := rfl
@[simp] theorem Hub.putSat_md (h : Hub) (f : Fld) (v : Nat) : (h.putSat f v).md = h.md := rfl
@[simp] theorem Hub.putSat_rcd (h : Hub) (f : Fld) (v : Nat) : (h.putSat f v).rcd = h.rcd := rfl
@[simp] theorem Hub.putSat_keys (h : Hub) (f : Fld) (v : Nat) : (h.putSat f v).keys = h.keys := rfl
@[simp] theorem Hub.putSat_chans (h : Hub) (f : Fld) (v : Nat) : (h.putSat f v).chans = h.chans := rfl
@[simp] theorem Hub.putSat_sec (h : Hub) (f : Fld) (v : Nat) : (h.putSat f v).sec = h.sec := rfl
@[simp] theorem Hub.putSat_engines (h : Hub) (f : Fld) (v : Nat) : (h.putSat f v).engines = h.engines := rfl
@[simp] theorem Hub.putSat_meas (h : Hub) (f : Fld) (v : Nat) : (h.putSat f v).meas = h.meas := rfl
@[simp] theorem Hub.putSat_feedA (h : Hub) (f : Fld) (v : Nat) : (h.putSat f v).feedA = h.feedA := rfl
@[simp] theorem Hub.putSat_feedB (h : Hub) (f : Fld) (v : Nat) : (h.putSat f v).feedB = h.feedB := rfl
@[simp] theorem Hub.putSat_share (h : Hub) (f : Fld) (v : Nat) : (h.putSat f v).share = h.share := rfl
@[simp] theorem Hub.putSat_convs (h : Hub) (f : Fld) (v : Nat) : (h.putSat f v).convs = h.convs := rfl
@[simp] theorem Hub.putSat_lb (h : Hub) (f : Fld) (v : Nat) : (h.putSat f v).lb = h.lb := rfl
@[simp] theorem Hub.putSat_bud (h : Hub) (f : Fld) (v : Nat) : (h.putSat f v).bud = h.bud := rfl
@[simp] theorem Hub.putSat_chg (h : Hub) (f : Fld) (v : Nat) : (h.putSat f v).chg = h.chg := rfl
@[simp] theorem Hub.putSat_seq (h : Hub) (f : Fld) (v : Nat) : (h.putSat f v).seq = h.seq := rfl
@[simp] theorem Hub.putSat_mea (h : Hub) (f : Fld) (v : Nat) : (h.putSat f v).mea = h.mea := rfl
@[simp] theorem Hub.putSat_link (h : Hub) (f : Fld) (v : Nat) : (h.putSat f v).link = h.link := rfl
@[simp] theorem Hub.putSat_twb (h : Hub) (f : Fld) (v : Nat) : (h.putSat f v).twb = h.twb := rfl
@[simp] theorem Hub.putSat_wd (h : Hub) (f : Fld) (v : Nat) : (h.putSat f v).wd = h.wd := rfl
@[simp] theorem Hub.putSat_rtc (h : Hub) (f : Fld) (v : Nat) : (h.putSat f v).rtc = h.rtc := rfl
@[simp] theorem Hub.putSat_tst (h : Hub) (f : Fld) (v : Nat) : (h.putSat f v).tst = h.tst := rfl

@[simp] theorem Hub.incSat_part (h : Hub) (f : Fld) (n : Nat) : (h.incSat f n).part = h.part := rfl
@[simp] theorem Hub.incSat_pend (h : Hub) (f : Fld) (n : Nat) : (h.incSat f n).pend = h.pend := rfl
@[simp] theorem Hub.incSat_shadow (h : Hub) (f : Fld) (n : Nat) : (h.incSat f n).shadow = h.shadow := rfl
@[simp] theorem Hub.incSat_once (h : Hub) (f : Fld) (n : Nat) : (h.incSat f n).once = h.once := rfl
@[simp] theorem Hub.incSat_bad (h : Hub) (f : Fld) (n : Nat) : (h.incSat f n).bad = h.bad := rfl
@[simp] theorem Hub.incSat_pages (h : Hub) (f : Fld) (n : Nat) : (h.incSat f n).pages = h.pages := rfl
@[simp] theorem Hub.incSat_views (h : Hub) (f : Fld) (n : Nat) : (h.incSat f n).views = h.views := rfl
@[simp] theorem Hub.incSat_acc (h : Hub) (f : Fld) (n : Nat) : (h.incSat f n).acc = h.acc := rfl
@[simp] theorem Hub.incSat_cyc (h : Hub) (f : Fld) (n : Nat) : (h.incSat f n).cyc = h.cyc := rfl
@[simp] theorem Hub.incSat_clk (h : Hub) (f : Fld) (n : Nat) : (h.incSat f n).clk = h.clk := rfl
@[simp] theorem Hub.incSat_frm (h : Hub) (f : Fld) (n : Nat) : (h.incSat f n).frm = h.frm := rfl
@[simp] theorem Hub.incSat_md (h : Hub) (f : Fld) (n : Nat) : (h.incSat f n).md = h.md := rfl
@[simp] theorem Hub.incSat_rcd (h : Hub) (f : Fld) (n : Nat) : (h.incSat f n).rcd = h.rcd := rfl
@[simp] theorem Hub.incSat_keys (h : Hub) (f : Fld) (n : Nat) : (h.incSat f n).keys = h.keys := rfl
@[simp] theorem Hub.incSat_chans (h : Hub) (f : Fld) (n : Nat) : (h.incSat f n).chans = h.chans := rfl
@[simp] theorem Hub.incSat_sec (h : Hub) (f : Fld) (n : Nat) : (h.incSat f n).sec = h.sec := rfl
@[simp] theorem Hub.incSat_engines (h : Hub) (f : Fld) (n : Nat) : (h.incSat f n).engines = h.engines := rfl
@[simp] theorem Hub.incSat_meas (h : Hub) (f : Fld) (n : Nat) : (h.incSat f n).meas = h.meas := rfl
@[simp] theorem Hub.incSat_feedA (h : Hub) (f : Fld) (n : Nat) : (h.incSat f n).feedA = h.feedA := rfl
@[simp] theorem Hub.incSat_feedB (h : Hub) (f : Fld) (n : Nat) : (h.incSat f n).feedB = h.feedB := rfl
@[simp] theorem Hub.incSat_share (h : Hub) (f : Fld) (n : Nat) : (h.incSat f n).share = h.share := rfl
@[simp] theorem Hub.incSat_convs (h : Hub) (f : Fld) (n : Nat) : (h.incSat f n).convs = h.convs := rfl
@[simp] theorem Hub.incSat_lb (h : Hub) (f : Fld) (n : Nat) : (h.incSat f n).lb = h.lb := rfl
@[simp] theorem Hub.incSat_bud (h : Hub) (f : Fld) (n : Nat) : (h.incSat f n).bud = h.bud := rfl
@[simp] theorem Hub.incSat_chg (h : Hub) (f : Fld) (n : Nat) : (h.incSat f n).chg = h.chg := rfl
@[simp] theorem Hub.incSat_seq (h : Hub) (f : Fld) (n : Nat) : (h.incSat f n).seq = h.seq := rfl
@[simp] theorem Hub.incSat_mea (h : Hub) (f : Fld) (n : Nat) : (h.incSat f n).mea = h.mea := rfl
@[simp] theorem Hub.incSat_link (h : Hub) (f : Fld) (n : Nat) : (h.incSat f n).link = h.link := rfl
@[simp] theorem Hub.incSat_twb (h : Hub) (f : Fld) (n : Nat) : (h.incSat f n).twb = h.twb := rfl
@[simp] theorem Hub.incSat_wd (h : Hub) (f : Fld) (n : Nat) : (h.incSat f n).wd = h.wd := rfl
@[simp] theorem Hub.incSat_rtc (h : Hub) (f : Fld) (n : Nat) : (h.incSat f n).rtc = h.rtc := rfl
@[simp] theorem Hub.incSat_tst (h : Hub) (f : Fld) (n : Nat) : (h.incSat f n).tst = h.tst := rfl

@[simp] theorem Hub.incWrap_part (h : Hub) (f : Fld) (n : Nat) : (h.incWrap f n).part = h.part := rfl
@[simp] theorem Hub.incWrap_pend (h : Hub) (f : Fld) (n : Nat) : (h.incWrap f n).pend = h.pend := rfl
@[simp] theorem Hub.incWrap_shadow (h : Hub) (f : Fld) (n : Nat) : (h.incWrap f n).shadow = h.shadow := rfl
@[simp] theorem Hub.incWrap_once (h : Hub) (f : Fld) (n : Nat) : (h.incWrap f n).once = h.once := rfl
@[simp] theorem Hub.incWrap_bad (h : Hub) (f : Fld) (n : Nat) : (h.incWrap f n).bad = h.bad := rfl
@[simp] theorem Hub.incWrap_pages (h : Hub) (f : Fld) (n : Nat) : (h.incWrap f n).pages = h.pages := rfl
@[simp] theorem Hub.incWrap_views (h : Hub) (f : Fld) (n : Nat) : (h.incWrap f n).views = h.views := rfl
@[simp] theorem Hub.incWrap_acc (h : Hub) (f : Fld) (n : Nat) : (h.incWrap f n).acc = h.acc := rfl
@[simp] theorem Hub.incWrap_cyc (h : Hub) (f : Fld) (n : Nat) : (h.incWrap f n).cyc = h.cyc := rfl
@[simp] theorem Hub.incWrap_clk (h : Hub) (f : Fld) (n : Nat) : (h.incWrap f n).clk = h.clk := rfl
@[simp] theorem Hub.incWrap_frm (h : Hub) (f : Fld) (n : Nat) : (h.incWrap f n).frm = h.frm := rfl
@[simp] theorem Hub.incWrap_md (h : Hub) (f : Fld) (n : Nat) : (h.incWrap f n).md = h.md := rfl
@[simp] theorem Hub.incWrap_rcd (h : Hub) (f : Fld) (n : Nat) : (h.incWrap f n).rcd = h.rcd := rfl
@[simp] theorem Hub.incWrap_keys (h : Hub) (f : Fld) (n : Nat) : (h.incWrap f n).keys = h.keys := rfl
@[simp] theorem Hub.incWrap_chans (h : Hub) (f : Fld) (n : Nat) : (h.incWrap f n).chans = h.chans := rfl
@[simp] theorem Hub.incWrap_sec (h : Hub) (f : Fld) (n : Nat) : (h.incWrap f n).sec = h.sec := rfl
@[simp] theorem Hub.incWrap_engines (h : Hub) (f : Fld) (n : Nat) : (h.incWrap f n).engines = h.engines := rfl
@[simp] theorem Hub.incWrap_meas (h : Hub) (f : Fld) (n : Nat) : (h.incWrap f n).meas = h.meas := rfl
@[simp] theorem Hub.incWrap_feedA (h : Hub) (f : Fld) (n : Nat) : (h.incWrap f n).feedA = h.feedA := rfl
@[simp] theorem Hub.incWrap_feedB (h : Hub) (f : Fld) (n : Nat) : (h.incWrap f n).feedB = h.feedB := rfl
@[simp] theorem Hub.incWrap_share (h : Hub) (f : Fld) (n : Nat) : (h.incWrap f n).share = h.share := rfl
@[simp] theorem Hub.incWrap_convs (h : Hub) (f : Fld) (n : Nat) : (h.incWrap f n).convs = h.convs := rfl
@[simp] theorem Hub.incWrap_lb (h : Hub) (f : Fld) (n : Nat) : (h.incWrap f n).lb = h.lb := rfl
@[simp] theorem Hub.incWrap_bud (h : Hub) (f : Fld) (n : Nat) : (h.incWrap f n).bud = h.bud := rfl
@[simp] theorem Hub.incWrap_chg (h : Hub) (f : Fld) (n : Nat) : (h.incWrap f n).chg = h.chg := rfl
@[simp] theorem Hub.incWrap_seq (h : Hub) (f : Fld) (n : Nat) : (h.incWrap f n).seq = h.seq := rfl
@[simp] theorem Hub.incWrap_mea (h : Hub) (f : Fld) (n : Nat) : (h.incWrap f n).mea = h.mea := rfl
@[simp] theorem Hub.incWrap_link (h : Hub) (f : Fld) (n : Nat) : (h.incWrap f n).link = h.link := rfl
@[simp] theorem Hub.incWrap_twb (h : Hub) (f : Fld) (n : Nat) : (h.incWrap f n).twb = h.twb := rfl
@[simp] theorem Hub.incWrap_wd (h : Hub) (f : Fld) (n : Nat) : (h.incWrap f n).wd = h.wd := rfl
@[simp] theorem Hub.incWrap_rtc (h : Hub) (f : Fld) (n : Nat) : (h.incWrap f n).rtc = h.rtc := rfl
@[simp] theorem Hub.incWrap_tst (h : Hub) (f : Fld) (n : Nat) : (h.incWrap f n).tst = h.tst := rfl

@[simp] theorem Hub.putPair_part (h : Hub) (a b : Fld) (v : Nat) : (h.putPair a b v).part = h.part := rfl
@[simp] theorem Hub.putPair_pend (h : Hub) (a b : Fld) (v : Nat) : (h.putPair a b v).pend = h.pend := rfl
@[simp] theorem Hub.putPair_shadow (h : Hub) (a b : Fld) (v : Nat) : (h.putPair a b v).shadow = h.shadow := rfl
@[simp] theorem Hub.putPair_once (h : Hub) (a b : Fld) (v : Nat) : (h.putPair a b v).once = h.once := rfl
@[simp] theorem Hub.putPair_bad (h : Hub) (a b : Fld) (v : Nat) : (h.putPair a b v).bad = h.bad := rfl
@[simp] theorem Hub.putPair_pages (h : Hub) (a b : Fld) (v : Nat) : (h.putPair a b v).pages = h.pages := rfl
@[simp] theorem Hub.putPair_views (h : Hub) (a b : Fld) (v : Nat) : (h.putPair a b v).views = h.views := rfl
@[simp] theorem Hub.putPair_acc (h : Hub) (a b : Fld) (v : Nat) : (h.putPair a b v).acc = h.acc := rfl
@[simp] theorem Hub.putPair_cyc (h : Hub) (a b : Fld) (v : Nat) : (h.putPair a b v).cyc = h.cyc := rfl
@[simp] theorem Hub.putPair_clk (h : Hub) (a b : Fld) (v : Nat) : (h.putPair a b v).clk = h.clk := rfl
@[simp] theorem Hub.putPair_frm (h : Hub) (a b : Fld) (v : Nat) : (h.putPair a b v).frm = h.frm := rfl
@[simp] theorem Hub.putPair_md (h : Hub) (a b : Fld) (v : Nat) : (h.putPair a b v).md = h.md := rfl
@[simp] theorem Hub.putPair_rcd (h : Hub) (a b : Fld) (v : Nat) : (h.putPair a b v).rcd = h.rcd := rfl
@[simp] theorem Hub.putPair_keys (h : Hub) (a b : Fld) (v : Nat) : (h.putPair a b v).keys = h.keys := rfl
@[simp] theorem Hub.putPair_chans (h : Hub) (a b : Fld) (v : Nat) : (h.putPair a b v).chans = h.chans := rfl
@[simp] theorem Hub.putPair_sec (h : Hub) (a b : Fld) (v : Nat) : (h.putPair a b v).sec = h.sec := rfl
@[simp] theorem Hub.putPair_engines (h : Hub) (a b : Fld) (v : Nat) : (h.putPair a b v).engines = h.engines := rfl
@[simp] theorem Hub.putPair_meas (h : Hub) (a b : Fld) (v : Nat) : (h.putPair a b v).meas = h.meas := rfl
@[simp] theorem Hub.putPair_feedA (h : Hub) (a b : Fld) (v : Nat) : (h.putPair a b v).feedA = h.feedA := rfl
@[simp] theorem Hub.putPair_feedB (h : Hub) (a b : Fld) (v : Nat) : (h.putPair a b v).feedB = h.feedB := rfl
@[simp] theorem Hub.putPair_share (h : Hub) (a b : Fld) (v : Nat) : (h.putPair a b v).share = h.share := rfl
@[simp] theorem Hub.putPair_convs (h : Hub) (a b : Fld) (v : Nat) : (h.putPair a b v).convs = h.convs := rfl
@[simp] theorem Hub.putPair_lb (h : Hub) (a b : Fld) (v : Nat) : (h.putPair a b v).lb = h.lb := rfl
@[simp] theorem Hub.putPair_bud (h : Hub) (a b : Fld) (v : Nat) : (h.putPair a b v).bud = h.bud := rfl
@[simp] theorem Hub.putPair_chg (h : Hub) (a b : Fld) (v : Nat) : (h.putPair a b v).chg = h.chg := rfl
@[simp] theorem Hub.putPair_seq (h : Hub) (a b : Fld) (v : Nat) : (h.putPair a b v).seq = h.seq := rfl
@[simp] theorem Hub.putPair_mea (h : Hub) (a b : Fld) (v : Nat) : (h.putPair a b v).mea = h.mea := rfl
@[simp] theorem Hub.putPair_link (h : Hub) (a b : Fld) (v : Nat) : (h.putPair a b v).link = h.link := rfl
@[simp] theorem Hub.putPair_twb (h : Hub) (a b : Fld) (v : Nat) : (h.putPair a b v).twb = h.twb := rfl
@[simp] theorem Hub.putPair_wd (h : Hub) (a b : Fld) (v : Nat) : (h.putPair a b v).wd = h.wd := rfl
@[simp] theorem Hub.putPair_rtc (h : Hub) (a b : Fld) (v : Nat) : (h.putPair a b v).rtc = h.rtc := rfl
@[simp] theorem Hub.putPair_tst (h : Hub) (a b : Fld) (v : Nat) : (h.putPair a b v).tst = h.tst := rfl

@[simp] theorem Hub.setPage_part (h : Hub) (p : Nat) (x : PageHdr) : (h.setPage p x).part = h.part := rfl
@[simp] theorem Hub.setPage_regs (h : Hub) (p : Nat) (x : PageHdr) : (h.setPage p x).regs = h.regs := rfl
@[simp] theorem Hub.setPage_pend (h : Hub) (p : Nat) (x : PageHdr) : (h.setPage p x).pend = h.pend := rfl
@[simp] theorem Hub.setPage_shadow (h : Hub) (p : Nat) (x : PageHdr) : (h.setPage p x).shadow = h.shadow := rfl
@[simp] theorem Hub.setPage_once (h : Hub) (p : Nat) (x : PageHdr) : (h.setPage p x).once = h.once := rfl
@[simp] theorem Hub.setPage_bad (h : Hub) (p : Nat) (x : PageHdr) : (h.setPage p x).bad = h.bad := rfl
@[simp] theorem Hub.setPage_views (h : Hub) (p : Nat) (x : PageHdr) : (h.setPage p x).views = h.views := rfl
@[simp] theorem Hub.setPage_acc (h : Hub) (p : Nat) (x : PageHdr) : (h.setPage p x).acc = h.acc := rfl
@[simp] theorem Hub.setPage_cyc (h : Hub) (p : Nat) (x : PageHdr) : (h.setPage p x).cyc = h.cyc := rfl
@[simp] theorem Hub.setPage_clk (h : Hub) (p : Nat) (x : PageHdr) : (h.setPage p x).clk = h.clk := rfl
@[simp] theorem Hub.setPage_frm (h : Hub) (p : Nat) (x : PageHdr) : (h.setPage p x).frm = h.frm := rfl
@[simp] theorem Hub.setPage_md (h : Hub) (p : Nat) (x : PageHdr) : (h.setPage p x).md = h.md := rfl
@[simp] theorem Hub.setPage_rcd (h : Hub) (p : Nat) (x : PageHdr) : (h.setPage p x).rcd = h.rcd := rfl
@[simp] theorem Hub.setPage_keys (h : Hub) (p : Nat) (x : PageHdr) : (h.setPage p x).keys = h.keys := rfl
@[simp] theorem Hub.setPage_chans (h : Hub) (p : Nat) (x : PageHdr) : (h.setPage p x).chans = h.chans := rfl
@[simp] theorem Hub.setPage_sec (h : Hub) (p : Nat) (x : PageHdr) : (h.setPage p x).sec = h.sec := rfl
@[simp] theorem Hub.setPage_engines (h : Hub) (p : Nat) (x : PageHdr) : (h.setPage p x).engines = h.engines := rfl
@[simp] theorem Hub.setPage_meas (h : Hub) (p : Nat) (x : PageHdr) : (h.setPage p x).meas = h.meas := rfl
@[simp] theorem Hub.setPage_feedA (h : Hub) (p : Nat) (x : PageHdr) : (h.setPage p x).feedA = h.feedA := rfl
@[simp] theorem Hub.setPage_feedB (h : Hub) (p : Nat) (x : PageHdr) : (h.setPage p x).feedB = h.feedB := rfl
@[simp] theorem Hub.setPage_share (h : Hub) (p : Nat) (x : PageHdr) : (h.setPage p x).share = h.share := rfl
@[simp] theorem Hub.setPage_convs (h : Hub) (p : Nat) (x : PageHdr) : (h.setPage p x).convs = h.convs := rfl
@[simp] theorem Hub.setPage_lb (h : Hub) (p : Nat) (x : PageHdr) : (h.setPage p x).lb = h.lb := rfl
@[simp] theorem Hub.setPage_bud (h : Hub) (p : Nat) (x : PageHdr) : (h.setPage p x).bud = h.bud := rfl
@[simp] theorem Hub.setPage_chg (h : Hub) (p : Nat) (x : PageHdr) : (h.setPage p x).chg = h.chg := rfl
@[simp] theorem Hub.setPage_seq (h : Hub) (p : Nat) (x : PageHdr) : (h.setPage p x).seq = h.seq := rfl
@[simp] theorem Hub.setPage_mea (h : Hub) (p : Nat) (x : PageHdr) : (h.setPage p x).mea = h.mea := rfl
@[simp] theorem Hub.setPage_link (h : Hub) (p : Nat) (x : PageHdr) : (h.setPage p x).link = h.link := rfl
@[simp] theorem Hub.setPage_twb (h : Hub) (p : Nat) (x : PageHdr) : (h.setPage p x).twb = h.twb := rfl
@[simp] theorem Hub.setPage_wd (h : Hub) (p : Nat) (x : PageHdr) : (h.setPage p x).wd = h.wd := rfl
@[simp] theorem Hub.setPage_rtc (h : Hub) (p : Nat) (x : PageHdr) : (h.setPage p x).rtc = h.rtc := rfl
@[simp] theorem Hub.setPage_tst (h : Hub) (p : Nat) (x : PageHdr) : (h.setPage p x).tst = h.tst := rfl

@[simp] theorem Hub.setCh_part (h : Hub) (n : Nat) (c : Chan) : (h.setCh n c).part = h.part := rfl
@[simp] theorem Hub.setCh_regs (h : Hub) (n : Nat) (c : Chan) : (h.setCh n c).regs = h.regs := rfl
@[simp] theorem Hub.setCh_pend (h : Hub) (n : Nat) (c : Chan) : (h.setCh n c).pend = h.pend := rfl
@[simp] theorem Hub.setCh_shadow (h : Hub) (n : Nat) (c : Chan) : (h.setCh n c).shadow = h.shadow := rfl
@[simp] theorem Hub.setCh_once (h : Hub) (n : Nat) (c : Chan) : (h.setCh n c).once = h.once := rfl
@[simp] theorem Hub.setCh_bad (h : Hub) (n : Nat) (c : Chan) : (h.setCh n c).bad = h.bad := rfl
@[simp] theorem Hub.setCh_pages (h : Hub) (n : Nat) (c : Chan) : (h.setCh n c).pages = h.pages := rfl
@[simp] theorem Hub.setCh_views (h : Hub) (n : Nat) (c : Chan) : (h.setCh n c).views = h.views := rfl
@[simp] theorem Hub.setCh_acc (h : Hub) (n : Nat) (c : Chan) : (h.setCh n c).acc = h.acc := rfl
@[simp] theorem Hub.setCh_cyc (h : Hub) (n : Nat) (c : Chan) : (h.setCh n c).cyc = h.cyc := rfl
@[simp] theorem Hub.setCh_clk (h : Hub) (n : Nat) (c : Chan) : (h.setCh n c).clk = h.clk := rfl
@[simp] theorem Hub.setCh_frm (h : Hub) (n : Nat) (c : Chan) : (h.setCh n c).frm = h.frm := rfl
@[simp] theorem Hub.setCh_md (h : Hub) (n : Nat) (c : Chan) : (h.setCh n c).md = h.md := rfl
@[simp] theorem Hub.setCh_rcd (h : Hub) (n : Nat) (c : Chan) : (h.setCh n c).rcd = h.rcd := rfl
@[simp] theorem Hub.setCh_keys (h : Hub) (n : Nat) (c : Chan) : (h.setCh n c).keys = h.keys := rfl
@[simp] theorem Hub.setCh_sec (h : Hub) (n : Nat) (c : Chan) : (h.setCh n c).sec = h.sec := rfl
@[simp] theorem Hub.setCh_engines (h : Hub) (n : Nat) (c : Chan) : (h.setCh n c).engines = h.engines := rfl
@[simp] theorem Hub.setCh_meas (h : Hub) (n : Nat) (c : Chan) : (h.setCh n c).meas = h.meas := rfl
@[simp] theorem Hub.setCh_feedA (h : Hub) (n : Nat) (c : Chan) : (h.setCh n c).feedA = h.feedA := rfl
@[simp] theorem Hub.setCh_feedB (h : Hub) (n : Nat) (c : Chan) : (h.setCh n c).feedB = h.feedB := rfl
@[simp] theorem Hub.setCh_share (h : Hub) (n : Nat) (c : Chan) : (h.setCh n c).share = h.share := rfl
@[simp] theorem Hub.setCh_convs (h : Hub) (n : Nat) (c : Chan) : (h.setCh n c).convs = h.convs := rfl
@[simp] theorem Hub.setCh_lb (h : Hub) (n : Nat) (c : Chan) : (h.setCh n c).lb = h.lb := rfl
@[simp] theorem Hub.setCh_bud (h : Hub) (n : Nat) (c : Chan) : (h.setCh n c).bud = h.bud := rfl
@[simp] theorem Hub.setCh_chg (h : Hub) (n : Nat) (c : Chan) : (h.setCh n c).chg = h.chg := rfl
@[simp] theorem Hub.setCh_seq (h : Hub) (n : Nat) (c : Chan) : (h.setCh n c).seq = h.seq := rfl
@[simp] theorem Hub.setCh_mea (h : Hub) (n : Nat) (c : Chan) : (h.setCh n c).mea = h.mea := rfl
@[simp] theorem Hub.setCh_link (h : Hub) (n : Nat) (c : Chan) : (h.setCh n c).link = h.link := rfl
@[simp] theorem Hub.setCh_twb (h : Hub) (n : Nat) (c : Chan) : (h.setCh n c).twb = h.twb := rfl
@[simp] theorem Hub.setCh_wd (h : Hub) (n : Nat) (c : Chan) : (h.setCh n c).wd = h.wd := rfl
@[simp] theorem Hub.setCh_rtc (h : Hub) (n : Nat) (c : Chan) : (h.setCh n c).rtc = h.rtc := rfl
@[simp] theorem Hub.setCh_tst (h : Hub) (n : Nat) (c : Chan) : (h.setCh n c).tst = h.tst := rfl

@[simp] theorem Hub.ch!_part (h : Hub) (n : Nat) (f : Chan → Chan) : (h.ch! n f).part = h.part := rfl
@[simp] theorem Hub.ch!_regs (h : Hub) (n : Nat) (f : Chan → Chan) : (h.ch! n f).regs = h.regs := rfl
@[simp] theorem Hub.ch!_pend (h : Hub) (n : Nat) (f : Chan → Chan) : (h.ch! n f).pend = h.pend := rfl
@[simp] theorem Hub.ch!_shadow (h : Hub) (n : Nat) (f : Chan → Chan) : (h.ch! n f).shadow = h.shadow := rfl
@[simp] theorem Hub.ch!_once (h : Hub) (n : Nat) (f : Chan → Chan) : (h.ch! n f).once = h.once := rfl
@[simp] theorem Hub.ch!_bad (h : Hub) (n : Nat) (f : Chan → Chan) : (h.ch! n f).bad = h.bad := rfl
@[simp] theorem Hub.ch!_pages (h : Hub) (n : Nat) (f : Chan → Chan) : (h.ch! n f).pages = h.pages := rfl
@[simp] theorem Hub.ch!_views (h : Hub) (n : Nat) (f : Chan → Chan) : (h.ch! n f).views = h.views := rfl
@[simp] theorem Hub.ch!_acc (h : Hub) (n : Nat) (f : Chan → Chan) : (h.ch! n f).acc = h.acc := rfl
@[simp] theorem Hub.ch!_cyc (h : Hub) (n : Nat) (f : Chan → Chan) : (h.ch! n f).cyc = h.cyc := rfl
@[simp] theorem Hub.ch!_clk (h : Hub) (n : Nat) (f : Chan → Chan) : (h.ch! n f).clk = h.clk := rfl
@[simp] theorem Hub.ch!_frm (h : Hub) (n : Nat) (f : Chan → Chan) : (h.ch! n f).frm = h.frm := rfl
@[simp] theorem Hub.ch!_md (h : Hub) (n : Nat) (f : Chan → Chan) : (h.ch! n f).md = h.md := rfl
@[simp] theorem Hub.ch!_rcd (h : Hub) (n : Nat) (f : Chan → Chan) : (h.ch! n f).rcd = h.rcd := rfl
@[simp] theorem Hub.ch!_keys (h : Hub) (n : Nat) (f : Chan → Chan) : (h.ch! n f).keys = h.keys := rfl
@[simp] theorem Hub.ch!_sec (h : Hub) (n : Nat) (f : Chan → Chan) : (h.ch! n f).sec = h.sec := rfl
@[simp] theorem Hub.ch!_engines (h : Hub) (n : Nat) (f : Chan → Chan) : (h.ch! n f).engines = h.engines := rfl
@[simp] theorem Hub.ch!_meas (h : Hub) (n : Nat) (f : Chan → Chan) : (h.ch! n f).meas = h.meas := rfl
@[simp] theorem Hub.ch!_feedA (h : Hub) (n : Nat) (f : Chan → Chan) : (h.ch! n f).feedA = h.feedA := rfl
@[simp] theorem Hub.ch!_feedB (h : Hub) (n : Nat) (f : Chan → Chan) : (h.ch! n f).feedB = h.feedB := rfl
@[simp] theorem Hub.ch!_share (h : Hub) (n : Nat) (f : Chan → Chan) : (h.ch! n f).share = h.share := rfl
@[simp] theorem Hub.ch!_convs (h : Hub) (n : Nat) (f : Chan → Chan) : (h.ch! n f).convs = h.convs := rfl
@[simp] theorem Hub.ch!_lb (h : Hub) (n : Nat) (f : Chan → Chan) : (h.ch! n f).lb = h.lb := rfl
@[simp] theorem Hub.ch!_bud (h : Hub) (n : Nat) (f : Chan → Chan) : (h.ch! n f).bud = h.bud := rfl
@[simp] theorem Hub.ch!_chg (h : Hub) (n : Nat) (f : Chan → Chan) : (h.ch! n f).chg = h.chg := rfl
@[simp] theorem Hub.ch!_seq (h : Hub) (n : Nat) (f : Chan → Chan) : (h.ch! n f).seq = h.seq := rfl
@[simp] theorem Hub.ch!_mea (h : Hub) (n : Nat) (f : Chan → Chan) : (h.ch! n f).mea = h.mea := rfl
@[simp] theorem Hub.ch!_link (h : Hub) (n : Nat) (f : Chan → Chan) : (h.ch! n f).link = h.link := rfl
@[simp] theorem Hub.ch!_twb (h : Hub) (n : Nat) (f : Chan → Chan) : (h.ch! n f).twb = h.twb := rfl
@[simp] theorem Hub.ch!_wd (h : Hub) (n : Nat) (f : Chan → Chan) : (h.ch! n f).wd = h.wd := rfl
@[simp] theorem Hub.ch!_rtc (h : Hub) (n : Nat) (f : Chan → Chan) : (h.ch! n f).rtc = h.rtc := rfl
@[simp] theorem Hub.ch!_tst (h : Hub) (n : Nat) (f : Chan → Chan) : (h.ch! n f).tst = h.tst := rfl

end Sys2Proof.Machine
end

