-- ==== Sys2Proof/Laws/Regs.lean ====
section
/-! SUPPORT. The laws of the register file: sparse maps, words, and the bits of fields. -/

namespace Sys2Proof.Machine

/-! ## Sparse maps -/

theorem mapFind_mapPut_same {α : Type} (m : List (Nat × α)) (k : Nat) (v : α) : mapFind (mapPut m k v) k = some v := by
  induction m with
  | nil => simp [mapPut, mapFind]
  | cons e m ih =>
    obtain ⟨i, u⟩ := e
    simp only [mapPut]
    split
    · simp [mapFind]
    · split
      · simp [mapFind]
      · rw [mapFind, if_neg (by assumption), ih]

theorem mapFind_mapPut_ne {α : Type} (m : List (Nat × α)) {k j : Nat} (v : α) (hj : j ≠ k) :
    mapFind (mapPut m k v) j = mapFind m j := by
  induction m with
  | nil => simp [mapPut, mapFind, hj.symm]
  | cons e m ih =>
    obtain ⟨i, u⟩ := e
    simp only [mapPut]
    split
    · rename_i h; subst h; simp [mapFind, hj.symm]
    · split
      · simp [mapFind, hj.symm]
      · simp only [mapFind, ih]

theorem mapFind_mapDel_same {α : Type} (m : List (Nat × α)) (k : Nat) : mapFind (mapDel m k) k = none := by
  induction m with
  | nil => simp [mapDel, mapFind]
  | cons e m ih =>
    obtain ⟨i, u⟩ := e
    simp only [mapDel]
    split
    · exact ih
    · rw [mapFind, if_neg (by assumption), ih]

theorem mapFind_mapDel_ne {α : Type} (m : List (Nat × α)) {k j : Nat} (hj : j ≠ k) :
    mapFind (mapDel m k) j = mapFind m j := by
  induction m with
  | nil => simp [mapDel]
  | cons e m ih =>
    obtain ⟨i, u⟩ := e
    simp only [mapDel]
    split
    · rename_i h; subst h; simp [mapFind, ih, hj.symm]
    · simp only [mapFind, ih]

/-! ## Words -/

/-- Everything a register write does to the words of a hub. -/
theorem Hub.word_setWord (h : Hub) (i j : Nat) (w : Word) :
    (h.setWord i w).word j = if j = i then w else h.word j := by
  unfold Hub.word Hub.setWord Hub.regs!
  by_cases hw : w = resetWord h.part i
  · simp only [hw, if_true]
    split
    · rename_i hj; subst hj; simp [mapFind_mapDel_same]
    · rename_i hj; simp [mapFind_mapDel_ne _ hj]
  · simp only [hw, if_false]
    split
    · rename_i hj; subst hj; simp [mapFind_mapPut_same]
    · rename_i hj; simp [mapFind_mapPut_ne _ _ hj]

theorem Hub.word_setWord_same (h : Hub) (i : Nat) (w : Word) : (h.setWord i w).word i = w := by simp [Hub.word_setWord]

theorem Hub.word_setWord_ne (h : Hub) {i j : Nat} (w : Word) (hj : j ≠ i) : (h.setWord i w).word j = h.word j := by
  simp [Hub.word_setWord, hj]

/-! ## Bits of a word -/

theorem nat_field_split (x lo n : Nat) :
    x = x / 2 ^ (lo + n) * 2 ^ (lo + n) + x / 2 ^ lo % 2 ^ n * 2 ^ lo + x % 2 ^ lo := by
  have h1 := Nat.div_add_mod x (2 ^ lo)
  have h2 := Nat.div_add_mod (x / 2 ^ lo) (2 ^ n)
  rw [Nat.div_div_eq_div_mul, ← Nat.pow_add] at h2
  have h3 : x / 2 ^ lo * 2 ^ lo + x % 2 ^ lo = x := by rw [Nat.mul_comm]; exact h1
  have h4 : (2 ^ n * (x / 2 ^ (lo + n)) + x / 2 ^ lo % 2 ^ n) * 2 ^ lo + x % 2 ^ lo = x := by rw [h2]; exact h3
  rw [Nat.add_mul, Nat.mul_comm (2 ^ n), Nat.mul_assoc, ← Nat.pow_add, Nat.add_comm n lo] at h4
  exact h4.symm

theorem bitsOf_lt (w : Word) (lo n : Nat) : bitsOf w lo n < 2 ^ n := Nat.mod_lt _ (Nat.two_pow_pos n)

/-- The number a changed word stands for. -/
theorem putBits_toNat (w : Word) {lo n : Nat} (v : Nat) (hf : lo + n ≤ 32) :
    (putBits w lo n v).toNat = w.toNat / 2 ^ (lo + n) * 2 ^ (lo + n) + v % 2 ^ n * 2 ^ lo + w.toNat % 2 ^ lo := by
  have hs := nat_field_split w.toNat lo n
  have hw : w.toNat < 2 ^ 32 := w.isLt
  have hv : v % 2 ^ n < 2 ^ n := Nat.mod_lt _ (Nat.two_pow_pos n)
  have hl : w.toNat % 2 ^ lo < 2 ^ lo := Nat.mod_lt _ (Nat.two_pow_pos lo)
  unfold putBits bitsOf
  rw [BitVec.toNat_ofNat]
  have e : w.toNat - w.toNat / 2 ^ lo % 2 ^ n * 2 ^ lo + v % 2 ^ n * 2 ^ lo
      = w.toNat / 2 ^ (lo + n) * 2 ^ (lo + n) + v % 2 ^ n * 2 ^ lo + w.toNat % 2 ^ lo := by omega
  rw [e, Nat.mod_eq_of_lt]
  have hhi : w.toNat / 2 ^ (lo + n) < 2 ^ (32 - (lo + n)) := by
    rw [Nat.div_lt_iff_lt_mul (Nat.two_pow_pos _), ← Nat.pow_add]
    have : 32 - (lo + n) + (lo + n) = 32 := by omega
    rw [this]; exact hw
  have h1 : v % 2 ^ n * 2 ^ lo + w.toNat % 2 ^ lo < 2 ^ (lo + n) := by
    have : (v % 2 ^ n + 1) * 2 ^ lo ≤ 2 ^ n * 2 ^ lo := Nat.mul_le_mul_right _ hv
    rw [Nat.add_mul, Nat.one_mul, ← Nat.pow_add, Nat.add_comm n lo] at this
    omega
  have h2 : (w.toNat / 2 ^ (lo + n) + 1) * 2 ^ (lo + n) ≤ 2 ^ (32 - (lo + n)) * 2 ^ (lo + n) := Nat.mul_le_mul_right _ hhi
  rw [Nat.add_mul, Nat.one_mul, ← Nat.pow_add] at h2
  have : 32 - (lo + n) + (lo + n) = 32 := by omega
  rw [this] at h2
  omega

/-- A field reads as what was put. -/
theorem bitsOf_putBits_same (w : Word) {lo n : Nat} (v : Nat) (hf : lo + n ≤ 32) :
    bitsOf (putBits w lo n v) lo n = v % 2 ^ n := by
  have hl : w.toNat % 2 ^ lo < 2 ^ lo := Nat.mod_lt _ (Nat.two_pow_pos lo)
  unfold bitsOf
  rw [putBits_toNat w v hf, Nat.pow_add]
  have e : w.toNat / (2 ^ lo * 2 ^ n) * (2 ^ lo * 2 ^ n) + v % 2 ^ n * 2 ^ lo + w.toNat % 2 ^ lo
      = 2 ^ lo * (2 ^ n * (w.toNat / (2 ^ lo * 2 ^ n)) + v % 2 ^ n) + w.toNat % 2 ^ lo := by
    simp only [Nat.mul_add, Nat.mul_assoc, Nat.mul_comm]
  rw [e, Nat.mul_add_div (Nat.two_pow_pos lo), Nat.div_eq_of_lt hl, Nat.add_zero, Nat.mul_add_mod, Nat.mod_mod]

/-- A field above the one that was put is as it was. -/
theorem bitsOf_putBits_above (w : Word) {lo n : Nat} (v : Nat) {lo' n' : Nat} (hf : lo + n ≤ 32) (hd : lo + n ≤ lo') :
    bitsOf (putBits w lo n v) lo' n' = bitsOf w lo' n' := by
  have hl : w.toNat % 2 ^ lo < 2 ^ lo := Nat.mod_lt _ (Nat.two_pow_pos lo)
  have hv : v % 2 ^ n < 2 ^ n := Nat.mod_lt _ (Nat.two_pow_pos n)
  unfold bitsOf
  rw [putBits_toNat w v hf]
  obtain ⟨k, rfl⟩ := Nat.exists_eq_add_of_le hd
  congr 1
  rw [Nat.pow_add 2 (lo + n) k, ← Nat.div_div_eq_div_mul, ← Nat.div_div_eq_div_mul]
  congr 1
  have h1 : v % 2 ^ n * 2 ^ lo + w.toNat % 2 ^ lo < 2 ^ (lo + n) := by
    have : (v % 2 ^ n + 1) * 2 ^ lo ≤ 2 ^ n * 2 ^ lo := Nat.mul_le_mul_right _ hv
    rw [Nat.add_mul, Nat.one_mul, ← Nat.pow_add, Nat.add_comm n lo] at this
    omega
  rw [Nat.add_assoc, Nat.mul_comm, Nat.mul_add_div (Nat.two_pow_pos _), Nat.div_eq_of_lt h1, Nat.add_zero]

/-- A field below the one that was put is as it was. -/
theorem bitsOf_putBits_below (w : Word) {lo n : Nat} (v : Nat) {lo' n' : Nat} (hf : lo + n ≤ 32) (hd : lo' + n' ≤ lo) :
    bitsOf (putBits w lo n v) lo' n' = bitsOf w lo' n' := by
  have hs := nat_field_split w.toNat lo n
  unfold bitsOf
  rw [putBits_toNat w v hf]
  obtain ⟨k, rfl⟩ := Nat.exists_eq_add_of_le hd
  have key : ∀ a b x : Nat, (a * 2 ^ (lo' + n' + k + n) + b * 2 ^ (lo' + n' + k) + x) / 2 ^ lo' % 2 ^ n' = x / 2 ^ lo' % 2 ^ n' := by
    intro a b x
    have e : a * 2 ^ (lo' + n' + k + n) + b * 2 ^ (lo' + n' + k) + x
        = 2 ^ lo' * (2 ^ n' * (a * 2 ^ (k + n) + b * 2 ^ k)) + x := by
      simp only [Nat.pow_add, Nat.mul_add, Nat.mul_assoc, Nat.mul_comm, Nat.mul_left_comm]
    rw [e, Nat.mul_add_div (Nat.two_pow_pos _), Nat.mul_add_mod]
  rw [key]
  conv => rhs; rw [hs]
  rw [key]

/-! ## Fields -/

theorem Hub.word_put (h : Hub) (f : Fld) (v j : Nat) :
    (h.put f v).word j = if j = f.idx then putBits (h.word f.idx) f.lo f.w v else h.word j := by
  simp [Hub.put, Hub.word_setWord]

theorem Hub.word_put_ne (h : Hub) {f : Fld} {j : Nat} (v : Nat) (hj : j ≠ f.idx) : (h.put f v).word j = h.word j := by
  simp [Hub.word_put, hj]

/-- A field that has been given a value holds its low bits. -/
theorem Hub.get_put_same (h : Hub) {f : Fld} (v : Nat) (hf : f.fits) : (h.put f v).get f = v % 2 ^ f.w := by
  unfold Hub.get
  rw [Hub.word_put, if_pos rfl, bitsOf_putBits_same _ _ hf]

/-- Fields apart from it hold what they held. -/
theorem Hub.get_put_apart (h : Hub) {f g : Fld} (v : Nat) (hf : f.fits) (ha : f.apart g) : (h.put f v).get g = h.get g := by
  unfold Hub.get
  rw [Hub.word_put]
  split
  · rename_i hi
    rcases ha with ha | ha | ha
    · exact absurd hi.symm ha
    · rw [bitsOf_putBits_above _ _ hf ha, hi]
    · rw [bitsOf_putBits_below _ _ hf ha, hi]
  · rfl

/-! ## The canonical form -/

theorem keysRise_cons {α : Type} {i : Nat} {v : α} {m : List (Nat × α)} :
    keysRise ((i, v) :: m) = true ↔ keysRise m = true ∧ ∀ e ∈ m, i < e.1 := by
  induction m generalizing i v with
  | nil => simp [keysRise]
  | cons e m ih =>
    obtain ⟨j, u⟩ := e
    simp only [keysRise, Bool.and_eq_true, decide_eq_true_eq]
    rw [ih]
    constructor
    · rintro ⟨h1, h2, h3⟩
      refine ⟨⟨h2, h3⟩, ?_⟩
      intro e he
      rcases List.mem_cons.mp he with rfl | he
      · exact h1
      · exact Nat.lt_trans h1 (h3 e he)
    · rintro ⟨⟨h2, h3⟩, h4⟩
      exact ⟨h4 _ (List.mem_cons_self ..), h2, h3⟩

theorem mem_mapPut {α : Type} {m : List (Nat × α)} {k : Nat} {v : α} {e : Nat × α} (he : e ∈ mapPut m k v) :
    e = (k, v) ∨ e ∈ m := by
  induction m with
  | nil => simp [mapPut] at he; exact .inl he
  | cons x m ih =>
    obtain ⟨i, u⟩ := x
    simp only [mapPut] at he
    split at he
    · rcases List.mem_cons.mp he with h | h
      · exact .inl h
      · exact .inr (List.mem_cons_of_mem _ h)
    · split at he
      · rcases List.mem_cons.mp he with h | h
        · exact .inl h
        · exact .inr h
      · rcases List.mem_cons.mp he with h | h
        · exact .inr (h ▸ List.mem_cons_self ..)
        · rcases ih h with h | h
          · exact .inl h
          · exact .inr (List.mem_cons_of_mem _ h)

theorem mem_mapDel {α : Type} {m : List (Nat × α)} {k : Nat} {e : Nat × α} (he : e ∈ mapDel m k) : e ∈ m := by
  induction m with
  | nil => simp [mapDel] at he
  | cons x m ih =>
    obtain ⟨i, u⟩ := x
    simp only [mapDel] at he
    split at he
    · exact List.mem_cons_of_mem _ (ih he)
    · rcases List.mem_cons.mp he with h | h
      · exact h ▸ List.mem_cons_self ..
      · exact List.mem_cons_of_mem _ (ih h)

theorem keysRise_mapDel {α : Type} {m : List (Nat × α)} (k : Nat) (h : keysRise m = true) : keysRise (mapDel m k) = true := by
  induction m with
  | nil => simp [mapDel, keysRise]
  | cons x m ih =>
    obtain ⟨i, u⟩ := x
    have h' := keysRise_cons.mp h
    simp only [mapDel]
    split
    · exact ih h'.1
    · exact keysRise_cons.mpr ⟨ih h'.1, fun e he => h'.2 e (mem_mapDel he)⟩

theorem keysRise_mapPut {α : Type} {m : List (Nat × α)} (k : Nat) (v : α) (h : keysRise m = true) :
    keysRise (mapPut m k v) = true := by
  induction m with
  | nil => simp [mapPut, keysRise]
  | cons x m ih =>
    obtain ⟨i, u⟩ := x
    have h' := keysRise_cons.mp h
    simp only [mapPut]
    split
    · rename_i hik; exact keysRise_cons.mpr ⟨h'.1, fun e he => hik ▸ h'.2 e he⟩
    · split
      · rename_i hk
        refine keysRise_cons.mpr ⟨h, ?_⟩
        intro e he
        rcases List.mem_cons.mp he with h1 | h1
        · exact h1 ▸ hk
        · exact Nat.lt_trans hk (h'.2 e h1)
      · rename_i hik hki
        refine keysRise_cons.mpr ⟨ih h'.1, ?_⟩
        intro e he
        rcases mem_mapPut he with h1 | h1
        · rw [h1]; show i < k; omega
        · exact h'.2 e h1

/-- A register write keeps the canonical form. -/
theorem Hub.regsOk_setWord {h : Hub} (i : Nat) (w : Word) (ok : h.regsOk) : (h.setWord i w).regsOk := by
  unfold Hub.regsOk regsWf at *
  simp only [Bool.and_eq_true, List.all_eq_true] at *
  obtain ⟨h1, h2⟩ := ok
  unfold Hub.setWord Hub.regs!
  by_cases hw : w = resetWord h.part i
  · simp only [hw, if_true]
    exact ⟨keysRise_mapDel i h1, fun e he => h2 e (mem_mapDel he)⟩
  · simp only [hw, if_false]
    refine ⟨keysRise_mapPut i w h1, ?_⟩
    intro e he
    rcases mem_mapPut he with rfl | he
    · simpa using hw
    · exact h2 e he

theorem Hub.regsOk_put {h : Hub} (f : Fld) (v : Nat) (ok : h.regsOk) : (h.put f v).regsOk := Hub.regsOk_setWord _ _ ok

theorem reset_regsOk : State.reset.hub.regsOk := rfl

end Sys2Proof.Machine
end

