-- ==== Sys2Proof/Laws/Only.lean ====
section
/-! SUPPORT. What the shared operations over registers, event flags, records and fences can do to a hub: `Hub.only`, one
lemma for each operation, read from the last operation backward. -/

namespace Sys2Proof.Machine

/-! ## The relation -/

theorem Hub.only.refl (fs : List Fld) (ps : List Nat) (h : Hub) : Hub.only fs ps h h :=
  ⟨rfl, fun _ _ _ _ => rfl, fun _ _ _ => rfl, fun _ => rfl⟩

theorem Hub.only.trans {fs : List Fld} {ps : List Nat} {a b c : Hub} (x : Hub.only fs ps a b) (y : Hub.only fs ps b c) :
    Hub.only fs ps a c :=
  ⟨y.part.trans x.part, fun f h1 h2 h3 => (y.fields f h1 h2 h3).trans (x.fields f h1 h2 h3),
    fun i h1 h2 => (y.waits i h1 h2).trans (x.waits i h1 h2), fun h1 => (y.recs h1).trans (x.recs h1)⟩

theorem Hub.only.mono {fs gs : List Fld} {ps qs : List Nat} {a b : Hub} (hf : ∀ g ∈ fs, g ∈ gs) (hp : ∀ p ∈ ps, p ∈ qs)
    (x : Hub.only fs ps a b) : Hub.only gs qs a b :=
  ⟨x.part, fun f h1 h2 h3 => x.fields f h1 (fun g hg => h2 g (hf g hg)) (fun h => h3 (hp _ h)),
    fun i h1 h2 => x.waits i (fun g hg => h1 g (hf g hg)) (fun h => h2 (hp _ h)), fun h1 => x.recs (fun h => h1 (hp _ h))⟩

/-- A hub that differs elsewhere than in its part, registers, waiting writes and records. -/
theorem Hub.only.data {fs : List Fld} {ps : List Nat} {a b c : Hub} (x : Hub.only fs ps a b)
    (hp : c.part = b.part) (hr : c.regs = b.regs) (hw : c.pend = b.pend) (hq : c.rcd = b.rcd) : Hub.only fs ps a c :=
  x.trans ⟨hp, fun f _ _ _ => by simp [Hub.get, Hub.word, hp, hr], fun i _ _ => by rw [hw], fun _ => hq⟩

/-! ## Updates -/

theorem Hub.only.shadow! {fs : List Fld} {ps : List Nat} {a b : Hub} (f : List (Nat × Shadow) → List (Nat × Shadow)) (x : Hub.only fs ps a b) :
    Hub.only fs ps a (b.shadow! f) := x.data rfl rfl rfl rfl
theorem Hub.only.once! {fs : List Fld} {ps : List Nat} {a b : Hub} (f : List Nat → List Nat) (x : Hub.only fs ps a b) :
    Hub.only fs ps a (b.once! f) := x.data rfl rfl rfl rfl
theorem Hub.only.bad! {fs : List Fld} {ps : List Nat} {a b : Hub} (f : List BadByte → List BadByte) (x : Hub.only fs ps a b) :
    Hub.only fs ps a (b.bad! f) := x.data rfl rfl rfl rfl
theorem Hub.only.pages! {fs : List Fld} {ps : List Nat} {a b : Hub} (f : List (Nat × PageHdr) → List (Nat × PageHdr)) (x : Hub.only fs ps a b) :
    Hub.only fs ps a (b.pages! f) := x.data rfl rfl rfl rfl
theorem Hub.only.views! {fs : List Fld} {ps : List Nat} {a b : Hub} (f : PortViews → PortViews) (x : Hub.only fs ps a b) :
    Hub.only fs ps a (b.views! f) := x.data rfl rfl rfl rfl
theorem Hub.only.chans! {fs : List Fld} {ps : List Nat} {a b : Hub} (f : List Chan → List Chan) (x : Hub.only fs ps a b) :
    Hub.only fs ps a (b.chans! f) := x.data rfl rfl rfl rfl
theorem Hub.only.engines! {fs : List Fld} {ps : List Nat} {a b : Hub} (f : List Engine → List Engine) (x : Hub.only fs ps a b) :
    Hub.only fs ps a (b.engines! f) := x.data rfl rfl rfl rfl
theorem Hub.only.meas! {fs : List Fld} {ps : List Nat} {a b : Hub} (f : List Meas → List Meas) (x : Hub.only fs ps a b) :
    Hub.only fs ps a (b.meas! f) := x.data rfl rfl rfl rfl
theorem Hub.only.feedA! {fs : List Fld} {ps : List Nat} {a b : Hub} (f : Feed → Feed) (x : Hub.only fs ps a b) :
    Hub.only fs ps a (b.feedA! f) := x.data rfl rfl rfl rfl
theorem Hub.only.feedB! {fs : List Fld} {ps : List Nat} {a b : Hub} (f : Feed → Feed) (x : Hub.only fs ps a b) :
    Hub.only fs ps a (b.feedB! f) := x.data rfl rfl rfl rfl
theorem Hub.only.convs! {fs : List Fld} {ps : List Nat} {a b : Hub} (f : List Conv → List Conv) (x : Hub.only fs ps a b) :
    Hub.only fs ps a (b.convs! f) := x.data rfl rfl rfl rfl
theorem Hub.only.bud! {fs : List Fld} {ps : List Nat} {a b : Hub} (f : Budget → Budget) (x : Hub.only fs ps a b) :
    Hub.only fs ps a (b.bud! f) := x.data rfl rfl rfl rfl
theorem Hub.only.clk! {fs : List Fld} {ps : List Nat} {a b : Hub} (f : Clocks → Clocks) (x : Hub.only fs ps a b) :
    Hub.only fs ps a (b.clk! f) := x.data rfl rfl rfl rfl
theorem Hub.only.lb! {fs : List Fld} {ps : List Nat} {a b : Hub} (f : LoadBus → LoadBus) (x : Hub.only fs ps a b) :
    Hub.only fs ps a (b.lb! f) := x.data rfl rfl rfl rfl
theorem Hub.only.chg! {fs : List Fld} {ps : List Nat} {a b : Hub} (f : Charger → Charger) (x : Hub.only fs ps a b) :
    Hub.only fs ps a (b.chg! f) := x.data rfl rfl rfl rfl
theorem Hub.only.share! {fs : List Fld} {ps : List Nat} {a b : Hub} (f : Sharing → Sharing) (x : Hub.only fs ps a b) :
    Hub.only fs ps a (b.share! f) := x.data rfl rfl rfl rfl
theorem Hub.only.key! {fs : List Fld} {ps : List Nat} {a b : Hub} (f : Keys → Keys) (x : Hub.only fs ps a b) :
    Hub.only fs ps a (b.key! f) := x.data rfl rfl rfl rfl
theorem Hub.only.mea! {fs : List Fld} {ps : List Nat} {a b : Hub} (f : Measure → Measure) (x : Hub.only fs ps a b) :
    Hub.only fs ps a (b.mea! f) := x.data rfl rfl rfl rfl
theorem Hub.only.md! {fs : List Fld} {ps : List Nat} {a b : Hub} (f : Modes → Modes) (x : Hub.only fs ps a b) :
    Hub.only fs ps a (b.md! f) := x.data rfl rfl rfl rfl
theorem Hub.only.link! {fs : List Fld} {ps : List Nat} {a b : Hub} (f : Link → Link) (x : Hub.only fs ps a b) :
    Hub.only fs ps a (b.link! f) := x.data rfl rfl rfl rfl
theorem Hub.only.rtc! {fs : List Fld} {ps : List Nat} {a b : Hub} (f : Rtc → Rtc) (x : Hub.only fs ps a b) :
    Hub.only fs ps a (b.rtc! f) := x.data rfl rfl rfl rfl
theorem Hub.only.sec! {fs : List Fld} {ps : List Nat} {a b : Hub} (f : Section → Section) (x : Hub.only fs ps a b) :
    Hub.only fs ps a (b.sec! f) := x.data rfl rfl rfl rfl
theorem Hub.only.seq! {fs : List Fld} {ps : List Nat} {a b : Hub} (f : Sequencer → Sequencer) (x : Hub.only fs ps a b) :
    Hub.only fs ps a (b.seq! f) := x.data rfl rfl rfl rfl
theorem Hub.only.tst! {fs : List Fld} {ps : List Nat} {a b : Hub} (f : TestPage → TestPage) (x : Hub.only fs ps a b) :
    Hub.only fs ps a (b.tst! f) := x.data rfl rfl rfl rfl
theorem Hub.only.frm! {fs : List Fld} {ps : List Nat} {a b : Hub} (f : Frame → Frame) (x : Hub.only fs ps a b) :
    Hub.only fs ps a (b.frm! f) := x.data rfl rfl rfl rfl
theorem Hub.only.twb! {fs : List Fld} {ps : List Nat} {a b : Hub} (f : TwoWire → TwoWire) (x : Hub.only fs ps a b) :
    Hub.only fs ps a (b.twb! f) := x.data rfl rfl rfl rfl
theorem Hub.only.wd! {fs : List Fld} {ps : List Nat} {a b : Hub} (f : Watchdog → Watchdog) (x : Hub.only fs ps a b) :
    Hub.only fs ps a (b.wd! f) := x.data rfl rfl rfl rfl
theorem Hub.only.atCyc {fs : List Fld} {ps : List Nat} {a b : Hub} (c : Nat) (x : Hub.only fs ps a b) :
    Hub.only fs ps a (b.atCyc c) := x.data rfl rfl rfl rfl
theorem Hub.only.answered {fs : List Fld} {ps : List Nat} {a b : Hub} (r : AccRes) (x : Hub.only fs ps a b) :
    Hub.only fs ps a (b.answered r) := x.data rfl rfl rfl rfl
theorem Hub.only.setPage {fs : List Fld} {ps : List Nat} {a b : Hub} (p : Nat) (y : PageHdr) (x : Hub.only fs ps a b) :
    Hub.only fs ps a (b.setPage p y) := x.pages! _
theorem Hub.only.setCh {fs : List Fld} {ps : List Nat} {a b : Hub} (n : Nat) (c : Chan) (x : Hub.only fs ps a b) :
    Hub.only fs ps a (b.setCh n c) := x.chans! _
theorem Hub.only.ch! {fs : List Fld} {ps : List Nat} {a b : Hub} (n : Nat) (f : Chan → Chan) (x : Hub.only fs ps a b) :
    Hub.only fs ps a (b.ch! n f) := x.setCh _ _
theorem Hub.only.rcd! {fs : List Fld} {ps : List Nat} {a b : Hub} (f : Recorder → Recorder) (hp : 6 ∈ ps)
    (x : Hub.only fs ps a b) : Hub.only fs ps a (b.rcd! f) :=
  x.trans ⟨rfl, fun _ _ _ _ => rfl, fun _ _ _ => rfl, fun h => absurd hp h⟩

/-- A branch on either side. -/
theorem Hub.only.ite {fs : List Fld} {ps : List Nat} {a b c : Hub} {p : Prop} [Decidable p] (x : Hub.only fs ps a b)
    (y : Hub.only fs ps a c) : Hub.only fs ps a (if p then b else c) := by split <;> assumption

theorem Hub.only.foldl {α : Type} {fs : List Fld} {ps : List Nat} {a b : Hub} (f : Hub → α → Hub)
    (hf : ∀ c y, Hub.only fs ps a c → Hub.only fs ps a (f c y)) (l : List α) (x : Hub.only fs ps a b) :
    Hub.only fs ps a (l.foldl f b) := by
  induction l generalizing b with
  | nil => exact x
  | cons y l ih => exact ih (hf b y x)

/-! ## Registers -/

/-- A register write to a page that may change. -/
theorem Hub.only.setWord {fs : List Fld} {ps : List Nat} {a b : Hub} {i : Nat} (w : Word) (hi : i / 256 ∈ ps)
    (x : Hub.only fs ps a b) : Hub.only fs ps a (b.setWord i w) := by
  refine x.trans ⟨rfl, fun f _ _ hp => ?_, fun _ _ _ => rfl, fun _ => rfl⟩
  unfold Hub.get
  rw [Hub.word_setWord_ne b w (fun e => hp (by rw [e]; exact hi))]

/-- One field lies within another. -/
abbrev Fld.within (f g : Fld) : Prop := f.idx = g.idx ∧ g.lo ≤ f.lo ∧ f.lo + f.w ≤ g.lo + g.w

/-- A field within one that may change, or one of a page that may. -/
abbrev Fld.mayIn (fs : List Fld) (ps : List Nat) (f : Fld) : Prop := (∃ g ∈ fs, f.within g ∧ f.fits) ∨ f.idx / 256 ∈ ps

theorem Hub.only.put {fs : List Fld} {ps : List Nat} {a b : Hub} {f : Fld} (v : Nat) (hf : f.mayIn fs ps)
    (x : Hub.only fs ps a b) : Hub.only fs ps a (b.put f v) := by
  rcases hf with ⟨g, h1, h2, h3⟩ | h
  · refine x.trans ⟨rfl, fun k _ ha _ => Hub.get_put_apart b v h3 ?_, fun _ _ _ => rfl, fun _ => rfl⟩
    have := ha g h1
    simp only [Fld.within] at h2
    simp only [Fld.apart] at this ⊢
    omega
  · exact x.setWord _ h

theorem Hub.only.puti {fs : List Fld} {ps : List Nat} {a b : Hub} {f : Fld} (v : Int) (hf : f.mayIn fs ps)
    (x : Hub.only fs ps a b) : Hub.only fs ps a (b.puti f v) := x.put _ hf
theorem Hub.only.putb {fs : List Fld} {ps : List Nat} {a b : Hub} {f : Fld} (v : Bool) (hf : f.mayIn fs ps)
    (x : Hub.only fs ps a b) : Hub.only fs ps a (b.putb f v) := x.put _ hf
theorem Hub.only.putSat {fs : List Fld} {ps : List Nat} {a b : Hub} {f : Fld} (v : Nat) (hf : f.mayIn fs ps)
    (x : Hub.only fs ps a b) : Hub.only fs ps a (b.putSat f v) := x.put _ hf
theorem Hub.only.incSat {fs : List Fld} {ps : List Nat} {a b : Hub} {f : Fld} (n : Nat) (hf : f.mayIn fs ps)
    (x : Hub.only fs ps a b) : Hub.only fs ps a (b.incSat f n) := x.put _ hf
theorem Hub.only.incWrap {fs : List Fld} {ps : List Nat} {a b : Hub} {f : Fld} (n : Nat) (hf : f.mayIn fs ps)
    (x : Hub.only fs ps a b) : Hub.only fs ps a (b.incWrap f n) := x.put _ hf
theorem Hub.only.putPair {fs : List Fld} {ps : List Nat} {a b : Hub} {f g : Fld} (v : Nat) (hf : f.mayIn fs ps)
    (hg : g.mayIn fs ps) (x : Hub.only fs ps a b) : Hub.only fs ps a (b.putPair f g v) := (x.put _ hf).put _ hg

theorem Hub.only.keepBits {fs : List Fld} {ps : List Nat} {a b : Hub} {i : Nat} (w : Word)
    (hi : (∃ g ∈ fs, g.idx = i) ∨ i / 256 ∈ ps) (x : Hub.only fs ps a b) : Hub.only fs ps a (b.keepBits i w) := by
  unfold Hub.keepBits
  split
  · exact x
  · refine x.trans ⟨rfl, fun _ _ _ _ => rfl, fun j h1 h2 => ?_, fun _ => rfl⟩
    refine mapFind_mapPut_ne _ _ (fun e => ?_)
    subst e
    rcases hi with ⟨g, hg, he⟩ | h
    · exact h1 g hg he
    · exact h2 h

theorem Hub.only.setFlag {fs : List Fld} {ps : List Nat} {a b : Hub} {f : Fld} (hf : f.mayIn fs ps)
    (x : Hub.only fs ps a b) : Hub.only fs ps a (b.setFlag f) :=
  (x.put 1 hf).keepBits _ (hf.elim (fun ⟨g, h⟩ => .inl ⟨g, h.1, h.2.1.1.symm⟩) .inr)

/-! ## Event flags, records, fences -/

theorem Hub.sourceFitted_lt {h : Hub} {s : Nat} (hs : h.sourceFitted s = true) : s < 256 := by
  simp [Hub.sourceFitted] at hs; omega

theorem pendFld_page {s : Nat} (hs : s < 256) : (pendFld s).idx / 256 ∈ irqPages := by
  have e : (pendFld s).idx / 256 = 0x20 + s / 64 := by simp only [pendFld]; omega
  rw [e]
  have : s / 64 = 0 ∨ s / 64 = 1 ∨ s / 64 = 2 ∨ s / 64 = 3 := by omega
  rcases this with h | h | h | h <;> simp [irqPages, h]

/-- The pages of the pending bits may change. -/
abbrev irqIn (ps : List Nat) : Prop := ∀ p ∈ irqPages, p ∈ ps

theorem Hub.only.raise {fs : List Fld} {ps : List Nat} {a b : Hub} (s : Nat) (hp : irqIn ps)
    (x : Hub.only fs ps a b) : Hub.only fs ps a (b.raise s) := by
  unfold Hub.raise
  split
  · rename_i hs
    exact x.setFlag (.inr (hp _ (pendFld_page (Hub.sourceFitted_lt hs))))
  · exact x

theorem Hub.only.raiseAll {fs : List Fld} {ps : List Nat} {a b : Hub} (l : List Nat) (hp : irqIn ps)
    (x : Hub.only fs ps a b) : Hub.only fs ps a (b.raiseAll l) :=
  Hub.only.foldl Hub.raise (fun _ y z => z.raise y hp) l x

/-- An event reaches its flag, pending bits, and with PARITY the note of the last parity source. -/
theorem Hub.only.evt {fs : List Fld} {ps : List Nat} {a b : Hub} (page bit : Nat) (hf : (flagFld page bit).mayIn fs ps)
    (hp : irqIn ps) (h31 : bit ≠ 31 ∨ 3 ∈ ps) (x : Hub.only fs ps a b) : Hub.only fs ps a (b.evt page bit) := by
  unfold Hub.evt
  dsimp only
  have k0 : Hub.only fs ps a (b.setFlag ⟨page * 256 + 3, bit, 1⟩) := x.setFlag hf
  have k1 : Hub.only fs ps a
      (if bit = 31 ∧ ¬ b.flag ⟨page * 256 + 3, bit, 1⟩ = true then
        ((b.setFlag ⟨page * 256 + 3, bit, 1⟩).put IRQ_PARSRC_PAGE page).incSat IRQ_PARSRC_COUNT
      else b.setFlag ⟨page * 256 + 3, bit, 1⟩) := by
    split
    · rename_i hb
      have h3 : 3 ∈ ps := h31.resolve_left (fun h => h hb.1)
      exact (k0.put _ (.inr h3)).incSat _ (.inr h3)
    · exact k0
  split
  · exact .ite (k1.raiseAll _ hp) k1
  · exact k1

theorem Hub.only.touchSlot {fs : List Fld} {ps : List Nat} {a b : Hub} (slot : Nat) (r : Rec) (hp : 6 ∈ ps)
    (x : Hub.only fs ps a b) : Hub.only fs ps a (b.touchSlot slot r) := by
  unfold Hub.touchSlot
  split
  · exact x
  · exact x.rcd! _ hp

/-- A record reaches the recorder alone. -/
theorem Hub.only.record {fs : List Fld} {ps : List Nat} {a b : Hub} (code inst sev pay : Nat) (hp : 6 ∈ ps)
    (x : Hub.only fs ps a b) : Hub.only fs ps a (b.record code inst sev pay) := by
  unfold Hub.record
  dsimp only
  split
  · exact .ite (((x.rcd! _ hp).put _ (.inr hp)).touchSlot _ _ hp) (x.rcd! _ hp)
  · exact .ite ((x.incSat _ (.inr hp)).rcd! _ hp) ((x.put _ (.inr hp)).rcd! _ hp)

/-- The recorder and the pending bits may change. -/
abbrev traceIn (ps : List Nat) : Prop := ∀ p ∈ tracePages, p ∈ ps

theorem traceIn.rec {ps : List Nat} (h : traceIn ps) : 6 ∈ ps := h 6 (by simp [tracePages])
theorem traceIn.irq {ps : List Nat} (h : traceIn ps) : irqIn ps := fun p hp => h p (by simp [irqPages, tracePages] at *; omega)

theorem Hub.only.report {fs : List Fld} {ps : List Nat} {a b : Hub} (page bit code inst sev : Nat) (l : List (Nat × Nat × Nat))
    (hf : (flagFld page bit).mayIn fs ps) (hp : traceIn ps) (h31 : bit ≠ 31 ∨ 3 ∈ ps) (x : Hub.only fs ps a b) :
    Hub.only fs ps a (b.report page bit code inst sev l) :=
  (x.evt page bit hf hp.irq h31).record _ _ _ _ hp.rec

theorem Hub.only.fence {fs : List Fld} {ps : List Nat} {a b : Hub} (page code : Nat) (hf : (flagFld page 29).mayIn fs ps)
    (hp : traceIn ps) (x : Hub.only fs ps a b) : Hub.only fs ps a (b.fence page code) := by
  unfold Hub.fence
  dsimp only
  exact .ite x ((((x.setPage _ _).evt page 29 hf hp.irq (.inl (by decide)))).record _ _ _ _ hp.rec)

theorem Hub.only.clearCause {fs : List Fld} {ps : List Nat} {a b : Hub} (page code : Nat) (x : Hub.only fs ps a b) :
    Hub.only fs ps a (b.clearCause page code) := x.setPage _ _

theorem Hub.only.dropCause {fs : List Fld} {ps : List Nat} {a b : Hub} (page code : Nat) (hp : 6 ∈ ps)
    (x : Hub.only fs ps a b) : Hub.only fs ps a (b.dropCause page code) := by
  unfold Hub.dropCause
  dsimp only
  split
  · exact x.setPage _ _
  · exact .ite ((x.setPage _ _).record _ _ _ _ hp) (x.setPage _ _)

/-! ## What does not reach the bare hub -/

@[simp] theorem Hub.bare_setWord (h : Hub) (i : Nat) (w : Word) : (h.setWord i w).bare = h.bare := rfl
@[simp] theorem Hub.bare_put (h : Hub) (f : Fld) (v : Nat) : (h.put f v).bare = h.bare := Hub.bare_setWord ..
@[simp] theorem Hub.bare_puti (h : Hub) (f : Fld) (v : Int) : (h.puti f v).bare = h.bare := Hub.bare_put ..
@[simp] theorem Hub.bare_putb (h : Hub) (f : Fld) (b : Bool) : (h.putb f b).bare = h.bare := Hub.bare_put ..
@[simp] theorem Hub.bare_putSat (h : Hub) (f : Fld) (v : Nat) : (h.putSat f v).bare = h.bare := Hub.bare_put ..
@[simp] theorem Hub.bare_incSat (h : Hub) (f : Fld) (n : Nat) : (h.incSat f n).bare = h.bare := Hub.bare_put ..
@[simp] theorem Hub.bare_incWrap (h : Hub) (f : Fld) (n : Nat) : (h.incWrap f n).bare = h.bare := Hub.bare_put ..
@[simp] theorem Hub.bare_putPair (h : Hub) (a b : Fld) (v : Nat) : (h.putPair a b v).bare = h.bare := (Hub.bare_put ..).trans (Hub.bare_put ..)
@[simp] theorem Hub.bare_rcd! (h : Hub) (f : Recorder → Recorder) : (h.rcd! f).bare = h.bare := rfl
@[simp] theorem Hub.bare_pend! (h : Hub) (f : List (Nat × PendW) → List (Nat × PendW)) : (h.pend! f).bare = h.bare := rfl

@[simp] theorem Hub.bare_shadow! (h : Hub) (f : List (Nat × Shadow) → List (Nat × Shadow)) : (h.shadow! f).bare = h.bare.shadow! f := rfl
@[simp] theorem Hub.bare_once! (h : Hub) (f : List Nat → List Nat) : (h.once! f).bare = h.bare.once! f := rfl
@[simp] theorem Hub.bare_bad! (h : Hub) (f : List BadByte → List BadByte) : (h.bad! f).bare = h.bare.bad! f := rfl
@[simp] theorem Hub.bare_pages! (h : Hub) (f : List (Nat × PageHdr) → List (Nat × PageHdr)) : (h.pages! f).bare = h.bare.pages! f := rfl
@[simp] theorem Hub.bare_views! (h : Hub) (f : PortViews → PortViews) : (h.views! f).bare = h.bare.views! f := rfl
@[simp] theorem Hub.bare_chans! (h : Hub) (f : List Chan → List Chan) : (h.chans! f).bare = h.bare.chans! f := rfl
@[simp] theorem Hub.bare_engines! (h : Hub) (f : List Engine → List Engine) : (h.engines! f).bare = h.bare.engines! f := rfl
@[simp] theorem Hub.bare_meas! (h : Hub) (f : List Meas → List Meas) : (h.meas! f).bare = h.bare.meas! f := rfl
@[simp] theorem Hub.bare_feedA! (h : Hub) (f : Feed → Feed) : (h.feedA! f).bare = h.bare.feedA! f := rfl
@[simp] theorem Hub.bare_feedB! (h : Hub) (f : Feed → Feed) : (h.feedB! f).bare = h.bare.feedB! f := rfl
@[simp] theorem Hub.bare_convs! (h : Hub) (f : List Conv → List Conv) : (h.convs! f).bare = h.bare.convs! f := rfl
@[simp] theorem Hub.bare_bud! (h : Hub) (f : Budget → Budget) : (h.bud! f).bare = h.bare.bud! f := rfl
@[simp] theorem Hub.bare_clk! (h : Hub) (f : Clocks → Clocks) : (h.clk! f).bare = h.bare.clk! f := rfl
@[simp] theorem Hub.bare_lb! (h : Hub) (f : LoadBus → LoadBus) : (h.lb! f).bare = h.bare.lb! f := rfl
@[simp] theorem Hub.bare_chg! (h : Hub) (f : Charger → Charger) : (h.chg! f).bare = h.bare.chg! f := rfl
@[simp] theorem Hub.bare_share! (h : Hub) (f : Sharing → Sharing) : (h.share! f).bare = h.bare.share! f := rfl
@[simp] theorem Hub.bare_key! (h : Hub) (f : Keys → Keys) : (h.key! f).bare = h.bare.key! f := rfl
@[simp] theorem Hub.bare_mea! (h : Hub) (f : Measure → Measure) : (h.mea! f).bare = h.bare.mea! f := rfl
@[simp] theorem Hub.bare_md! (h : Hub) (f : Modes → Modes) : (h.md! f).bare = h.bare.md! f := rfl
@[simp] theorem Hub.bare_link! (h : Hub) (f : Link → Link) : (h.link! f).bare = h.bare.link! f := rfl
@[simp] theorem Hub.bare_rtc! (h : Hub) (f : Rtc → Rtc) : (h.rtc! f).bare = h.bare.rtc! f := rfl
@[simp] theorem Hub.bare_sec! (h : Hub) (f : Section → Section) : (h.sec! f).bare = h.bare.sec! f := rfl
@[simp] theorem Hub.bare_seq! (h : Hub) (f : Sequencer → Sequencer) : (h.seq! f).bare = h.bare.seq! f := rfl
@[simp] theorem Hub.bare_tst! (h : Hub) (f : TestPage → TestPage) : (h.tst! f).bare = h.bare.tst! f := rfl
@[simp] theorem Hub.bare_frm! (h : Hub) (f : Frame → Frame) : (h.frm! f).bare = h.bare.frm! f := rfl
@[simp] theorem Hub.bare_twb! (h : Hub) (f : TwoWire → TwoWire) : (h.twb! f).bare = h.bare.twb! f := rfl
@[simp] theorem Hub.bare_wd! (h : Hub) (f : Watchdog → Watchdog) : (h.wd! f).bare = h.bare.wd! f := rfl
@[simp] theorem Hub.bare_atCyc (h : Hub) (c : Nat) : (h.atCyc c).bare = h.bare.atCyc c := rfl
@[simp] theorem Hub.bare_answered (h : Hub) (a : AccRes) : (h.answered a).bare = h.bare.answered a := rfl
@[simp] theorem Hub.bare_setPage (h : Hub) (p : Nat) (x : PageHdr) : (h.setPage p x).bare = h.bare.setPage p x := rfl
@[simp] theorem Hub.bare_setCh (h : Hub) (n : Nat) (c : Chan) : (h.setCh n c).bare = h.bare.setCh n c := rfl

@[simp] theorem Hub.bare_keepBits (h : Hub) (i : Nat) (b : Word) : (h.keepBits i b).bare = h.bare := by
  unfold Hub.keepBits; split <;> simp

@[simp] theorem Hub.bare_setFlag (h : Hub) (f : Fld) : (h.setFlag f).bare = h.bare := by simp [Hub.setFlag]

@[simp] theorem Hub.bare_raise (h : Hub) (s : Nat) : (h.raise s).bare = h.bare := by
  unfold Hub.raise; split <;> simp

@[simp] theorem Hub.bare_raiseAll (h : Hub) (l : List Nat) : (h.raiseAll l).bare = h.bare := by
  unfold Hub.raiseAll
  induction l generalizing h with
  | nil => rfl
  | cons s l ih => rw [List.foldl_cons, ih]; simp

@[simp] theorem Hub.bare_evt (h : Hub) (page bit : Nat) : (h.evt page bit).bare = h.bare := by
  unfold Hub.evt
  dsimp only
  split <;> split <;> (try split) <;> simp

@[simp] theorem Hub.bare_touchSlot (h : Hub) (slot : Nat) (r : Rec) : (h.touchSlot slot r).bare = h.bare := by
  unfold Hub.touchSlot; split <;> simp

@[simp] theorem Hub.bare_record (h : Hub) (code inst sev pay : Nat) : (h.record code inst sev pay).bare = h.bare := by
  unfold Hub.record
  dsimp only
  split
  · split <;> simp
  · split <;> simp

@[simp] theorem Hub.bare_report (h : Hub) (page bit code inst sev : Nat) (l : List (Nat × Nat × Nat)) :
    (h.report page bit code inst sev l).bare = h.bare := by simp [Hub.report]

end Sys2Proof.Machine
end

