-- ==== Sys2Proof/Laws/Get.lean ====
section
/-! SUPPORT. Reading a field past the updates, events, records and fences that do not reach it. -/

namespace Sys2Proof.Machine

/-! ## Past updates of the hub's own data -/

@[simp] theorem Hub.get_pend! (h : Hub) (f : List (Nat × PendW) → List (Nat × PendW)) (g : Fld) : (h.pend! f).get g = h.get g := id rfl
@[simp] theorem Hub.word_pend! (h : Hub) (f : List (Nat × PendW) → List (Nat × PendW)) (i : Nat) : (h.pend! f).word i = h.word i := id rfl
@[simp] theorem Hub.get_rcd! (h : Hub) (f : Recorder → Recorder) (g : Fld) : (h.rcd! f).get g = h.get g := id rfl
@[simp] theorem Hub.word_rcd! (h : Hub) (f : Recorder → Recorder) (i : Nat) : (h.rcd! f).word i = h.word i := id rfl
@[simp] theorem Hub.get_shadow! (h : Hub) (f : List (Nat × Shadow) → List (Nat × Shadow)) (g : Fld) : (h.shadow! f).get g = h.get g := id rfl
@[simp] theorem Hub.word_shadow! (h : Hub) (f : List (Nat × Shadow) → List (Nat × Shadow)) (i : Nat) : (h.shadow! f).word i = h.word i := id rfl
@[simp] theorem Hub.get_once! (h : Hub) (f : List Nat → List Nat) (g : Fld) : (h.once! f).get g = h.get g := id rfl
@[simp] theorem Hub.word_once! (h : Hub) (f : List Nat → List Nat) (i : Nat) : (h.once! f).word i = h.word i := id rfl
@[simp] theorem Hub.get_bad! (h : Hub) (f : List BadByte → List BadByte) (g : Fld) : (h.bad! f).get g = h.get g := id rfl
@[simp] theorem Hub.word_bad! (h : Hub) (f : List BadByte → List BadByte) (i : Nat) : (h.bad! f).word i = h.word i := id rfl
@[simp] theorem Hub.get_pages! (h : Hub) (f : List (Nat × PageHdr) → List (Nat × PageHdr)) (g : Fld) : (h.pages! f).get g = h.get g := id rfl
@[simp] theorem Hub.word_pages! (h : Hub) (f : List (Nat × PageHdr) → List (Nat × PageHdr)) (i : Nat) : (h.pages! f).word i = h.word i := id rfl
@[simp] theorem Hub.get_views! (h : Hub) (f : PortViews → PortViews) (g : Fld) : (h.views! f).get g = h.get g := id rfl
@[simp] theorem Hub.word_views! (h : Hub) (f : PortViews → PortViews) (i : Nat) : (h.views! f).word i = h.word i := id rfl
@[simp] theorem Hub.get_chans! (h : Hub) (f : List Chan → List Chan) (g : Fld) : (h.chans! f).get g = h.get g := id rfl
@[simp] theorem Hub.word_chans! (h : Hub) (f : List Chan → List Chan) (i : Nat) : (h.chans! f).word i = h.word i := id rfl
@[simp] theorem Hub.get_engines! (h : Hub) (f : List Engine → List Engine) (g : Fld) : (h.engines! f).get g = h.get g := id rfl
@[simp] theorem Hub.word_engines! (h : Hub) (f : List Engine → List Engine) (i : Nat) : (h.engines! f).word i = h.word i := id rfl
@[simp] theorem Hub.get_meas! (h : Hub) (f : List Meas → List Meas) (g : Fld) : (h.meas! f).get g = h.get g := id rfl
@[simp] theorem Hub.word_meas! (h : Hub) (f : List Meas → List Meas) (i : Nat) : (h.meas! f).word i = h.word i := id rfl
@[simp] theorem Hub.get_feedA! (h : Hub) (f : Feed → Feed) (g : Fld) : (h.feedA! f).get g = h.get g := id rfl
@[simp] theorem Hub.word_feedA! (h : Hub) (f : Feed → Feed) (i : Nat) : (h.feedA! f).word i = h.word i := id rfl
@[simp] theorem Hub.get_feedB! (h : Hub) (f : Feed → Feed) (g : Fld) : (h.feedB! f).get g = h.get g := id rfl
@[simp] theorem Hub.word_feedB! (h : Hub) (f : Feed → Feed) (i : Nat) : (h.feedB! f).word i = h.word i := id rfl
@[simp] theorem Hub.get_convs! (h : Hub) (f : List Conv → List Conv) (g : Fld) : (h.convs! f).get g = h.get g := id rfl
@[simp] theorem Hub.word_convs! (h : Hub) (f : List Conv → List Conv) (i : Nat) : (h.convs! f).word i = h.word i := id rfl
@[simp] theorem Hub.get_bud! (h : Hub) (f : Budget → Budget) (g : Fld) : (h.bud! f).get g = h.get g := id rfl
@[simp] theorem Hub.word_bud! (h : Hub) (f : Budget → Budget) (i : Nat) : (h.bud! f).word i = h.word i := id rfl
@[simp] theorem Hub.get_clk! (h : Hub) (f : Clocks → Clocks) (g : Fld) : (h.clk! f).get g = h.get g := id rfl
@[simp] theorem Hub.word_clk! (h : Hub) (f : Clocks → Clocks) (i : Nat) : (h.clk! f).word i = h.word i := id rfl
@[simp] theorem Hub.get_lb! (h : Hub) (f : LoadBus → LoadBus) (g : Fld) : (h.lb! f).get g = h.get g := id rfl
@[simp] theorem Hub.word_lb! (h : Hub) (f : LoadBus → LoadBus) (i : Nat) : (h.lb! f).word i = h.word i := id rfl
@[simp] theorem Hub.get_chg! (h : Hub) (f : Charger → Charger) (g : Fld) : (h.chg! f).get g = h.get g := id rfl
@[simp] theorem Hub.word_chg! (h : Hub) (f : Charger → Charger) (i : Nat) : (h.chg! f).word i = h.word i := id rfl
@[simp] theorem Hub.get_share! (h : Hub) (f : Sharing → Sharing) (g : Fld) : (h.share! f).get g = h.get g := id rfl
@[simp] theorem Hub.word_share! (h : Hub) (f : Sharing → Sharing) (i : Nat) : (h.share! f).word i = h.word i := id rfl
@[simp] theorem Hub.get_key! (h : Hub) (f : Keys → Keys) (g : Fld) : (h.key! f).get g = h.get g := id rfl
@[simp] theorem Hub.word_key! (h : Hub) (f : Keys → Keys) (i : Nat) : (h.key! f).word i = h.word i := id rfl
@[simp] theorem Hub.get_mea! (h : Hub) (f : Measure → Measure) (g : Fld) : (h.mea! f).get g = h.get g := id rfl
@[simp] theorem Hub.word_mea! (h : Hub) (f : Measure → Measure) (i : Nat) : (h.mea! f).word i = h.word i := id rfl
@[simp] theorem Hub.get_md! (h : Hub) (f : Modes → Modes) (g : Fld) : (h.md! f).get g = h.get g := id rfl
@[simp] theorem Hub.word_md! (h : Hub) (f : Modes → Modes) (i : Nat) : (h.md! f).word i = h.word i := id rfl
@[simp] theorem Hub.get_link! (h : Hub) (f : Link → Link) (g : Fld) : (h.link! f).get g = h.get g := id rfl
@[simp] theorem Hub.word_link! (h : Hub) (f : Link → Link) (i : Nat) : (h.link! f).word i = h.word i := id rfl
@[simp] theorem Hub.get_rtc! (h : Hub) (f : Rtc → Rtc) (g : Fld) : (h.rtc! f).get g = h.get g := id rfl
@[simp] theorem Hub.word_rtc! (h : Hub) (f : Rtc → Rtc) (i : Nat) : (h.rtc! f).word i = h.word i := id rfl
@[simp] theorem Hub.get_sec! (h : Hub) (f : Section → Section) (g : Fld) : (h.sec! f).get g = h.get g := id rfl
@[simp] theorem Hub.word_sec! (h : Hub) (f : Section → Section) (i : Nat) : (h.sec! f).word i = h.word i := id rfl
@[simp] theorem Hub.get_seq! (h : Hub) (f : Sequencer → Sequencer) (g : Fld) : (h.seq! f).get g = h.get g := id rfl
@[simp] theorem Hub.word_seq! (h : Hub) (f : Sequencer → Sequencer) (i : Nat) : (h.seq! f).word i = h.word i := id rfl
@[simp] theorem Hub.get_tst! (h : Hub) (f : TestPage → TestPage) (g : Fld) : (h.tst! f).get g = h.get g := id rfl
@[simp] theorem Hub.word_tst! (h : Hub) (f : TestPage → TestPage) (i : Nat) : (h.tst! f).word i = h.word i := id rfl
@[simp] theorem Hub.get_frm! (h : Hub) (f : Frame → Frame) (g : Fld) : (h.frm! f).get g = h.get g := id rfl
@[simp] theorem Hub.word_frm! (h : Hub) (f : Frame → Frame) (i : Nat) : (h.frm! f).word i = h.word i := id rfl
@[simp] theorem Hub.get_twb! (h : Hub) (f : TwoWire → TwoWire) (g : Fld) : (h.twb! f).get g = h.get g := id rfl
@[simp] theorem Hub.word_twb! (h : Hub) (f : TwoWire → TwoWire) (i : Nat) : (h.twb! f).word i = h.word i := id rfl
@[simp] theorem Hub.get_wd! (h : Hub) (f : Watchdog → Watchdog) (g : Fld) : (h.wd! f).get g = h.get g := id rfl
@[simp] theorem Hub.word_wd! (h : Hub) (f : Watchdog → Watchdog) (i : Nat) : (h.wd! f).word i = h.word i := id rfl
@[simp] theorem Hub.get_atCyc (h : Hub) (c : Nat) (g : Fld) : (h.atCyc c).get g = h.get g := id rfl
@[simp] theorem Hub.word_atCyc (h : Hub) (c : Nat) (i : Nat) : (h.atCyc c).word i = h.word i := id rfl
@[simp] theorem Hub.get_answered (h : Hub) (a : AccRes) (g : Fld) : (h.answered a).get g = h.get g := id rfl
@[simp] theorem Hub.word_answered (h : Hub) (a : AccRes) (i : Nat) : (h.answered a).word i = h.word i := id rfl
@[simp] theorem Hub.get_setPage (h : Hub) (p : Nat) (x : PageHdr) (g : Fld) : (h.setPage p x).get g = h.get g := id rfl
@[simp] theorem Hub.word_setPage (h : Hub) (p : Nat) (x : PageHdr) (i : Nat) : (h.setPage p x).word i = h.word i := id rfl
@[simp] theorem Hub.get_setCh (h : Hub) (n : Nat) (c : Chan) (g : Fld) : (h.setCh n c).get g = h.get g := id rfl
@[simp] theorem Hub.word_setCh (h : Hub) (n : Nat) (c : Chan) (i : Nat) : (h.setCh n c).word i = h.word i := id rfl
@[simp] theorem Hub.get_ch! (h : Hub) (n : Nat) (f : Chan → Chan) (g : Fld) : (h.ch! n f).get g = h.get g := id rfl
@[simp] theorem Hub.word_ch! (h : Hub) (n : Nat) (f : Chan → Chan) (i : Nat) : (h.ch! n f).word i = h.word i := id rfl

@[simp] theorem Hub.get_keepBits (h : Hub) (i : Nat) (w : Word) (g : Fld) : (h.keepBits i w).get g = h.get g := by
  unfold Hub.keepBits; split <;> simp

@[simp] theorem Hub.word_keepBits (h : Hub) (i : Nat) (w : Word) (j : Nat) : (h.keepBits i w).word j = h.word j := by
  unfold Hub.keepBits; split <;> simp

/-! ## Past fields -/

theorem Hub.get_puti_same (h : Hub) {f : Fld} (v : Int) (hf : f.fits) : (h.puti f v).get f = wrapTo f.w v % 2 ^ f.w :=
  Hub.get_put_same h _ hf
theorem Hub.get_puti_apart (h : Hub) {f g : Fld} (v : Int) (hf : f.fits) (ha : f.apart g) : (h.puti f v).get g = h.get g :=
  Hub.get_put_apart h _ hf ha
theorem Hub.get_putb_same (h : Hub) {f : Fld} (b : Bool) (hf : f.fits) : (h.putb f b).get f = boolNat b % 2 ^ f.w :=
  Hub.get_put_same h _ hf
theorem Hub.get_putb_apart (h : Hub) {f g : Fld} (b : Bool) (hf : f.fits) (ha : f.apart g) : (h.putb f b).get g = h.get g :=
  Hub.get_put_apart h _ hf ha
theorem Hub.get_putSat_same (h : Hub) {f : Fld} (v : Nat) (hf : f.fits) : (h.putSat f v).get f = min v (2 ^ f.w - 1) := by
  unfold Hub.putSat
  rw [Hub.get_put_same h _ hf, Nat.mod_eq_of_lt]
  have := Nat.two_pow_pos f.w
  omega
theorem Hub.get_putSat_apart (h : Hub) {f g : Fld} (v : Nat) (hf : f.fits) (ha : f.apart g) : (h.putSat f v).get g = h.get g :=
  Hub.get_put_apart h _ hf ha
theorem Hub.get_incSat_same (h : Hub) {f : Fld} (n : Nat) (hf : f.fits) :
    (h.incSat f n).get f = min (h.get f + n) (2 ^ f.w - 1) := Hub.get_putSat_same h _ hf
theorem Hub.get_incSat_apart (h : Hub) {f g : Fld} (n : Nat) (hf : f.fits) (ha : f.apart g) : (h.incSat f n).get g = h.get g :=
  Hub.get_put_apart h _ hf ha
theorem Hub.get_incWrap_same (h : Hub) {f : Fld} (n : Nat) (hf : f.fits) :
    (h.incWrap f n).get f = (h.get f + n) % 2 ^ f.w := Hub.get_put_same h _ hf
theorem Hub.get_incWrap_apart (h : Hub) {f g : Fld} (n : Nat) (hf : f.fits) (ha : f.apart g) : (h.incWrap f n).get g = h.get g :=
  Hub.get_put_apart h _ hf ha

/-- Two fields that do not meet the frame of a change hold what they held. -/
theorem Hub.only.getEq {fs : List Fld} {ps : List Nat} {a b : Hub} (x : Hub.only fs ps a b) {g : Fld} (hg : g.fits)
    (ha : ∀ f ∈ fs, f.apart g) (hp : g.idx / 256 ∉ ps) : b.get g = a.get g := x.fields g hg ha hp

theorem Hub.word_record (h : Hub) (code inst sev pay : Nat) {i : Nat} (hi : i / 256 ≠ 6) :
    (h.record code inst sev pay).word i = h.word i := by
  have x := Hub.only.record (fs := []) (ps := [6]) code inst sev pay (by simp) (Hub.only.refl [] [6] h)
  have e := x.fields ⟨i, 0, 32⟩ (by simp [Fld.fits]) (by simp) (by simpa using hi)
  apply BitVec.eq_of_toNat_eq
  have l1 := ((h.record code inst sev pay).word i).isLt
  have l2 := (h.word i).isLt
  simpa [Hub.get, bitsOf, Nat.mod_eq_of_lt l1, Nat.mod_eq_of_lt l2] using e

theorem Hub.get_record (h : Hub) (code inst sev pay : Nat) {g : Fld} (hg : g.idx / 256 ≠ 6) :
    (h.record code inst sev pay).get g = h.get g := by unfold Hub.get; rw [Hub.word_record h _ _ _ _ hg]

theorem Hub.get_setFlag_same (h : Hub) {f : Fld} (hf : f.fits) (hw : f.w = 1) : (h.setFlag f).get f = 1 := by
  simp [Hub.setFlag, Hub.get_put_same h 1 hf, hw]

theorem Hub.get_setFlag_apart (h : Hub) {f g : Fld} (hf : f.fits) (ha : f.apart g) : (h.setFlag f).get g = h.get g := by
  simp [Hub.setFlag, Hub.get_put_apart h 1 hf ha]

/-- A raised source sets no bit but pending bits. -/
theorem Hub.get_raise (h : Hub) (s : Nat) {g : Fld} (hg : g.idx / 256 ∉ irqPages) : (h.raise s).get g = h.get g := by
  unfold Hub.raise
  split
  · rename_i hs
    have hp := pendFld_page (Hub.sourceFitted_lt hs)
    refine Hub.get_setFlag_apart h ?_ (.inl fun e => hg (e ▸ hp))
    show 16 + 1 ≤ 32
    decide
  · rfl

theorem Hub.get_raiseAll (h : Hub) (l : List Nat) {g : Fld} (hg : g.idx / 256 ∉ irqPages) : (h.raiseAll l).get g = h.get g := by
  unfold Hub.raiseAll
  induction l generalizing h with
  | nil => rfl
  | cons s l ih => rw [List.foldl_cons, ih, Hub.get_raise h s hg]

/-- An event sets its flag. -/
theorem Hub.get_evt_flag (h : Hub) (page bit : Nat) (hb : bit < 31) (hp : page ∉ irqPages) :
    (h.evt page bit).get (flagFld page bit) = 1 := by
  have hq : (flagFld page bit).idx / 256 ∉ irqPages := by
    have : (page * 256 + 3) / 256 = page := by omega
    simpa [flagFld, this] using hp
  have ff : (flagFld page bit).fits := by simp only [Fld.fits]; omega
  have k : (h.setFlag ⟨page * 256 + 3, bit, 1⟩).get (flagFld page bit) = 1 := Hub.get_setFlag_same h ff rfl
  have nb : ¬ (bit = 31 ∧ ¬ h.flag ⟨page * 256 + 3, bit, 1⟩ = true) := fun e => by omega
  unfold Hub.evt
  dsimp only
  rw [if_neg nb]
  split
  · split
    · rw [Hub.get_raiseAll _ _ hq]; exact k
    · exact k
  · exact k

/-- An event reaches no field apart from its flag, the pending bits and the note of the last parity source. -/
theorem Hub.get_evt (h : Hub) (page bit : Nat) {g : Fld} (hb : bit < 31) (ha : (flagFld page bit).apart g)
    (hg : g.idx / 256 ∉ irqPages) : (h.evt page bit).get g = h.get g := by
  have ff : (flagFld page bit).fits := by simp only [Fld.fits]; omega
  have k : (h.setFlag ⟨page * 256 + 3, bit, 1⟩).get g = h.get g := Hub.get_setFlag_apart h ff ha
  have nb : ¬ (bit = 31 ∧ ¬ h.flag ⟨page * 256 + 3, bit, 1⟩ = true) := fun e => by omega
  unfold Hub.evt
  dsimp only
  rw [if_neg nb]
  split
  · split
    · rw [Hub.get_raiseAll _ _ hg]; exact k
    · exact k
  · exact k

theorem Hub.get_report_flag (h : Hub) (page bit code inst sev : Nat) (l : List (Nat × Nat × Nat)) (hb : bit < 31)
    (hp : page ∉ irqPages) (h6 : page ≠ 6) : (h.report page bit code inst sev l).get (flagFld page bit) = 1 := by
  unfold Hub.report
  rw [Hub.get_record _ _ _ _ _ (show (page * 256 + 3) / 256 ≠ 6 by omega), Hub.get_evt_flag h page bit hb hp]

theorem Hub.get_report (h : Hub) (page bit code inst sev : Nat) (l : List (Nat × Nat × Nat)) {g : Fld} (hb : bit < 31)
    (ha : (flagFld page bit).apart g) (hg : g.idx / 256 ∉ tracePages) :
    (h.report page bit code inst sev l).get g = h.get g := by
  unfold Hub.report
  rw [Hub.get_record _ _ _ _ _ (by simp [tracePages] at hg; omega),
    Hub.get_evt h page bit hb ha (by simp [tracePages] at hg; simp [irqPages]; omega)]

theorem Hub.get_fence (h : Hub) (page code : Nat) {g : Fld} (ha : (flagFld page 29).apart g) (hg : g.idx / 256 ∉ tracePages) :
    (h.fence page code).get g = h.get g := by
  unfold Hub.fence
  dsimp only
  split
  · rfl
  · rw [Hub.get_record _ _ _ _ _ (by simp [tracePages] at hg; omega),
      Hub.get_evt _ page 29 (by decide) ha (by simp [tracePages] at hg; simp [irqPages]; omega), Hub.get_setPage]

end Sys2Proof.Machine
end

