-- ==== Sys2Proof/Laws/Ops.lean ====
section
/-! SUPPORT. What the shared forms of a meaning answer: the effect where its condition holds, else the state as it was. -/

namespace Sys2Proof.Machine

theorem State.upd_on {s : State} (f : Hub → Hub) (hr : s.hub.running = true) : s.upd f = .next { s with hub := f s.hub } := by
  simp [State.upd, State.updAny, hr]

theorem State.upd_off {s : State} (f : Hub → Hub) (hr : s.hub.running = false) : s.upd f = .next s := by simp [State.upd, hr]

theorem State.when_on {s : State} {c : Bool} (f : Hub → Hub) (hc : c = true) (hr : s.hub.running = true) :
    s.when c f = .next { s with hub := f s.hub } := by simp [State.when, State.upd, State.updAny, hc, hr]

theorem State.when_not {s : State} {c : Bool} (f : Hub → Hub) (hc : c = false) : s.when c f = .next s := by
  simp [State.when, hc]

theorem State.when_off {s : State} (c : Bool) (f : Hub → Hub) (hr : s.hub.running = false) : s.when c f = .next s := by
  cases c <;> simp [State.when, State.upd, hr]

theorem State.chWhen_on {s : State} {n : Nat} {c : Bool} (f : Hub → Hub) (hn : n < s.hub.nch) (hc : c = true)
    (hr : s.hub.running = true) : s.chWhen n c f = .next { s with hub := f s.hub } :=
  State.when_on f (by simp [hn, hc]) hr

theorem State.chWhen_not {s : State} {n : Nat} {c : Bool} (f : Hub → Hub) (hc : c = false) : s.chWhen n c f = .next s :=
  State.when_not f (by simp [hc])

theorem State.feedWhen_on {s : State} {c : Bool} (f : Hub → Hub) (hc : c = true) :
    s.feedWhen c f = .next { s with hub := f s.hub } := by simp [State.feedWhen, State.updAny, hc]

theorem State.rtcWhen_on {s : State} {c : Bool} (f : Hub → Hub) (hc : c = true) :
    s.rtcWhen c f = .next { s with hub := f s.hub } := by simp [State.rtcWhen, State.updAny, hc]

theorem State.runs_on {s : State} (f : State → State) (hr : s.hub.running = true) : s.runs f = .next (f s) := by
  simp [State.runs, hr]

theorem State.rowWrite_on {s : State} (p : Port) (i be : Nat) (w : Word) (hr : s.hub.running = true) :
    s.rowWrite p i be w = .next (s.portWrite p i be w).1 := by simp [State.rowWrite, hr]

/-- An effect on the hub alone leaves the queue, the SPI output and the stacks. -/
theorem State.frame_hub {s : State} {h : Hub} {fs : List Fld} {ps : List Nat} (x : s.hub.only fs ps h) :
    s.frame fs ps { s with hub := h } := ⟨⟨rfl, rfl, rfl⟩, x⟩

theorem State.regFrame_hub {s : State} {h : Hub} {fs : List Fld} {ps : List Nat} (x : s.hub.only fs ps h)
    (hb : h.bare = s.hub.bare) : s.regFrame fs ps { s with hub := h } := ⟨⟨rfl, rfl, rfl⟩, x, hb⟩

end Sys2Proof.Machine
end

