-- ==== Sys2Proof/Tests/Slice0.lean ====
section
/-! SUPPORT. Tests: ill-formed terms that the checks of WellFormed refuse, worked values of the spec, and for every statement
a state and operands that meet its hypotheses, clause by clause.  No test is a statement for the provers. -/

namespace Sys2Proof.Tests

open Sys2Proof.Machine

/-- The hub after reset with fields put, and then changed by `f`. -/
def wst (l : List (Fld × Nat)) (f : Hub → Hub := id) : State :=
  { State.reset with hub := f (l.foldl (fun h p => h.put p.1 p.2) State.reset.hub) }

/-! ## Ill-formed commands -/

theorem test_wf_cold_start : Instr.wf (.coldStart ⟨.checkFailed, 0, [0x80], false⟩) = false := by decide
theorem test_wf_frame_tick :
    Instr.wf (.frameTick ⟨[], 0, 0, false, 0, 0, [0, 0, 0], 0, 0, 0, 0, 0, 0⟩) = false
      ∧ Instr.wf (.frameTick ⟨List.replicate 65 0, 0, 0, false, 0, 0, [0, 0, 0, 0], 0, 0, 0, 0, 0, 0⟩) = false := by decide
theorem test_wf_tick :
    Instr.wf (.tick ⟨List.replicate 11 0⟩ 0) = false ∧ Instr.wf (.tick ⟨List.replicate 12 0⟩ 80000) = false
      ∧ Instr.wf (.tick ⟨List.replicate 12 0⟩ (-40001)) = false := by decide
theorem test_wf_pwm :
    Instr.wf (.pwmPeriodStart 0 80000) = false ∧ Instr.wf (.pwmOnEnd 0 80000) = false := by decide
theorem test_wf_calibration :
    Instr.wf (.calDone 0 [0, 0, 0] 0) = false ∧ Instr.wf (.calGain .e 0 [4096]) = false
      ∧ Instr.wf (.calOffset .e 0 (List.replicate 17 0)) = false := by decide
theorem test_wf_supervisor : Instr.wf (.supFilter 24 ⟨0, 0⟩) = false := by decide
theorem test_wf_packets :
    Instr.wf (.packetForward .up ⟨⟨0x11, 0xF, 0, 0, 0, 0, 0x20⟩, List.replicate 65 0, false, 0⟩ false) = false
      ∧ Instr.wf (.rd ⟨0x11, 0xF, 0, 0, 0, 0, 0x20⟩ (List.replicate 65 0) 0) = false
      ∧ Instr.wf (.wr ⟨0x12, 0xF, 0, 0, 0, 0, 0x20⟩ [] 80000) = false
      ∧ Instr.wf (.tbl ⟨0x13, 0xF, 0, 0, 0, 0, 0x20⟩ (List.replicate 65 0) 0) = false
      ∧ Instr.wf (.snap ⟨0x30, 0xF, 0, 0, 0, 0, 0x20⟩ (List.replicate 65 0)) = false
      ∧ Instr.wf (.srd ⟨0x14, 0xF, 0, 0, 0, 0, 0x20⟩ (List.replicate 65 0)) = false
      ∧ Instr.wf (.poll ⟨0, 0, [0, 0, 0, 0, 0, 0]⟩) = false := by decide
theorem test_wf_enumeration : Instr.wf (.enumDone 0 0) = false ∧ Instr.wf (.enumDone 17 0) = false := by decide
theorem test_wf_two_wire :
    Instr.wf (.twbRead 0 false 80000) = false ∧ Instr.wf (.twbWrite 0x3F [] 80000) = false
      ∧ Instr.wf (.twbWrite 0x3F (List.replicate 256 0) 0) = false
      ∧ Instr.wf (.formatError 0x3F 0) = false ∧ Instr.wf (.formatError 0x3F 4) = false := by decide +kernel
theorem test_wf_swset : Instr.wf (.irqSwset .e 191) = false ∧ Instr.wf (.irqSwset .e 192) = true := by decide


/-! ## Worked values of the spec -/

/-- A word of the opcode table spells no command: its rows have no bits. -/
theorem test_no_word_spells_a_command : decodeTableWord 32 0xFFFFFFFF = none := by decide

/-- CRC-8 of "123456789" is 0xF4 and CRC-16 is 0x29B1: the check values of the polynomials of 14 R377. -/
theorem test_crc_check_values :
    crc8 [0x31, 0x32, 0x33, 0x34, 0x35, 0x36, 0x37, 0x38, 0x39] = 0xF4
      ∧ crc16 [0x31, 0x32, 0x33, 0x34, 0x35, 0x36, 0x37, 0x38, 0x39] = 0x29B1 := ⟨by decide +kernel, by decide +kernel⟩

/-- Example of 02 R71: err = 118 + 13,250 makes the next frame 80,000 − 13,368 = 66,632 cycles; then err = −2 makes one of 40,002. -/
theorem test_align_example :
    alignOf 13368 = (13368 - 40000, true, true) ∧ (40000 : Int) - (alignOf 13368).1 = 66632 ∧ alignOf (-2) = (-2, false, false) := by
  decide

/-- Bounds of the rows of 02 R71. -/
theorem test_align_bounds :
    (alignOf 8).1 = 8 ∧ (alignOf 9).1 = 8 ∧ (alignOf (-400)).1 = -8 ∧ (alignOf (-401)).1 = -401 ∧ (alignOf 2000).1 = 2000
      ∧ (alignOf 2001).1 = 2001 - 40000 := by decide

/-- Example of 05 R147–R153: CH05 at phase 2,560, 10 Hz and duty 600: period, on-phase and phase in cycles. -/
theorem test_pwm_example :
    periodCyc 10 = 40000000 ∧ onCyc 40000000 600 = 24000000 ∧ phaseCyc 40000000 2560 = 1562500 := by decide

/-- The phase of CH05 of the lead of two hubs is 2,560 (05 R147). -/
theorem test_pwm_phase :
    (wst [(STR_STAT_NHUBS, 2), (DEV_POS_VALID, 1), (DEV_POS_POS, 0)]).hub.phaseNow 5 = 2560
      ∧ (wst [(STR_STAT_NHUBS, 2), (DEV_POS_VALID, 1), (DEV_POS_POS, 1)]).hub.phaseNow 5 = 35328 := by decide

/-- Example of 06 R180: the boom turns left on 15 m; nozzle 1 runs backwards and nozzle 72 fast. -/
theorem test_boom_turn :
    chanStep 218431 1118481 (-17750) = -40046 ∧ chanStep 218431 1118481 17750 = 476907 := by decide

/-- Example of 13 R357–R358: 65 °C, codes summing to 8,919 with OS 2, mid gain 0x8148, heavy 0x8000: 1,462 mA without EXTRAP. -/
theorem test_correction_example :
    (let mid : CalRec := { gain := 33096, tc := 50, tcal := 50, tlo := -40, thi := 150 }
     let heavy : CalRec := { gain := 32768, tc := 50, tcal := 50, tlo := -40, thi := 150 }
     let s := wst [(CH_TEMP_TEMP.pg 5, 130)] fun h => h.mea! fun m => { m with ram := [(16, mid), (17, heavy)], zero := [(10, 6, 0)] }
     let c := s.hub.correct (.hs 5) (Input.raw16 (.hs 5) 8919 2)
     (c.y, c.i0, c.g, c.extrap)) = (1462, 1468, 33032, false) := by decide +kernel

/-- Example of 07 R219: the cusp at sample 212 of 25 µs with 5,200 µs of mechanical delay measures 10,500 µs. -/
theorem test_latency_example : measuredM 212 25 5200 = 10500 := by decide

/-- Example of 14 R405: with TOFS 118 at position 1 the reply starts at cycle 3,002. -/
theorem test_slot_cycle : slotCyc 1 118 = 3002 := by decide

/-- Example of chapter 19: 2031-06-14 09:12:07, a Saturday, is 11,487 days and 33,127 s after the epoch. -/
theorem test_epoch_example :
    Cal.epoch ⟨7, 12, 9, 14, 6, 31⟩ = 992509927 ∧ 11487 * 86400 + 33127 = 992509927 ∧ dayOfWeek 992509927 = 6 := by decide

/-- The calendar of that second count is the date again; February of 2000 has 29 days (19 R477). -/
theorem test_calendar_back : calOf 992509927 = ⟨7, 12, 9, 14, 6, 31⟩ ∧ monthDays 2 0 = 29 ∧ dateOk 29 2 1 = false := by
  decide +kernel

/-- Example of chapter 23: at TMOD 100.5 °C p_therm is 2,258 W. -/
theorem test_thermal_example : ptherm 201 = 2258 := by decide

/-- Example of 14 R415–R430: EN = 0 and EN = 1 in one WR to a fenced channel of one page: OK, then FENCED. -/
theorem test_enable_under_fence :
    (let s := wst [] fun h => h.setPage 0x46 { causes := [⟨2, false, 0⟩] }
     ((s.write .e 0x4608 15 0).2, ((s.write .e 0x4608 15 0).1.write .e 0x4608 15 1).2)) = (0x00, 0x0D) := by decide

/-- Example of chapter 17: CH10 at PRIO 20 alone on target E: ACK answers 0x0114010A and clears PEND. -/
theorem test_irq_ack_example :
    (let s := wst [(pendFld 10, 1), (⟨srcIdx 10, 0, 6⟩, 20), (⟨srcIdx 10, 9, 1⟩, 1), (IRQ_PRIGROUP_G, 3)]
     ((s.ackRead .e).2, ((s.ackRead .e).1.hub.get (pendFld 10)))) = (0x0114010A, 0) := by decide

/-- The message "abc" of FIPS 180-4: its hash begins BA7816BF and ends F20015AD. -/
theorem test_sha256_abc :
    (sha256 [0x61, 0x62, 0x63]).take 4 = [0xBA, 0x78, 0x16, 0xBF]
      ∧ (sha256 [0x61, 0x62, 0x63]).drop 28 = [0xF2, 0x00, 0x15, 0xAD] := by decide +kernel

/-! ## Witnesses of the statements -/

/-- The reset state meets the invariant, and a step from it answers a next state. -/
theorem witness_StepKeepsTheInvariant : State.reset.Inv ∧ step State.reset = .next State.reset :=
  ⟨⟨by decide, by decide⟩, rfl⟩

theorem witness_StepRunsTheFront :
    (let c : Instr := .syncOk; let rest : List Instr := [.strapUnstable];
      let s : State := { State.reset with pending := [.syncOk, .strapUnstable] }; (s.pending = c :: rest)) :=
  by decide

theorem witness_StepIdlesOnAnEmptyQueue :
    (let s : State := State.reset; (s.pending = [])) :=
  by decide

theorem witness_UnpoweredLogicTakesNoNotice :
    (let c : Instr := .syncOk; let s : State := wst [] fun h => h.md! fun m => { m with power := .off }; (s.hub.running = false)
      ∧ (c.alwaysOn = false)) :=
  by decide

theorem witness_ResetHoldsTheTables :
    (let n : Nat := 63; (n < 64)) :=
  by decide

theorem witness_AbsentPagesAndUnmappedOffsets :
    (let idx : BitVec 16 := 0x3000; let s : State := wst [] fun h => h.frm! fun x => { x with first := false }; (s.hub.running = true)
      ∧ (pageKind s.hub.part (idx.toNat / 256) = none) ∧ (s.hub.frm.first = false) ∧ (s.hub.twbBusy = false)) ∧
    (let idx : BitVec 16 := 0x00F0; let s : State := wst [] fun h => h.frm! fun x => { x with first := false }; (s.hub.running = true)
      ∧ ((pageKind s.hub.part (idx.toNat / 256)).isSome = true) ∧ (findReg s.hub.part idx.toNat = none) ∧ (s.hub.frm.first = false)
      ∧ (s.hub.twbBusy = false)) :=
  ⟨by decide, by decide⟩

theorem witness_EntriesAreInvalidExactlyWhere :
    (let s : State := wst []; (s.hub.running = true)) :=
  by decide

theorem witness_TimeKeyedHeadsWaitArmOrAreLate :
    (let ch : Nat := 63; let n : Nat := 10; let e : Entry := ⟨1200, 0x00002000, false⟩;
      let h : Hub := (wst [] fun h => h.ch! 63 fun c => { c with lane := [⟨1200, 0x00002000, false⟩] }).hub; let r : Int := 200;
      (ch < h.nch) ∧ (e.key = 1) ∧ (e.bad = false) ∧ ((h.ch ch).lane = [e])
      ∧ (r = signed 32 (wrapTo 32 ((e.target : Int) - h.entryLead ch e - (n * 100 : Nat)))) ∧ (200 ≤ r)) ∧
    (let ch : Nat := 63; let n : Nat := 10; let e : Entry := ⟨1100, 0x00002000, false⟩;
      let h : Hub := (wst [] fun h => h.ch! 63 fun c => { c with lane := [⟨1100, 0x00002000, false⟩] }).hub; let r : Int := 100;
      (ch < h.nch) ∧ (e.key = 1) ∧ (e.bad = false) ∧ ((h.ch ch).lane = [e])
      ∧ (r = signed 32 (wrapTo 32 ((e.target : Int) - h.entryLead ch e - (n * 100 : Nat)))) ∧ (100 ≤ r) ∧ (r < 200)) ∧
    (let ch : Nat := 63; let n : Nat := 10; let e : Entry := ⟨1099, 0x00002000, false⟩;
      let h : Hub := (wst [(CH_LANECTL_LATEPOL.pg 63, 1)] fun h => h.ch! 63 fun c => { c with lane := [⟨1099, 0x00002000, false⟩] }).hub;
      let r : Int := 99; (ch < h.nch) ∧ (e.key = 1) ∧ (e.bad = false) ∧ ((h.ch ch).lane = [e])
      ∧ (r = signed 32 (wrapTo 32 ((e.target : Int) - h.entryLead ch e - (n * 100 : Nat)))) ∧ (r < 100)
      ∧ (h.get (CH_LANECTL_LATEPOL.pg ch) = 1)) ∧
    (let ch : Nat := 63; let n : Nat := 10; let e : Entry := ⟨1099, 0x00002000, false⟩;
      let h : Hub := (wst [] fun h => h.ch! 63 fun c => { c with lane := [⟨1099, 0x00002000, false⟩] }).hub; let r : Int := 99; (ch < h.nch)
      ∧ (e.key = 1) ∧ (e.bad = false) ∧ ((h.ch ch).lane = [e])
      ∧ (r = signed 32 (wrapTo 32 ((e.target : Int) - h.entryLead ch e - (n * 100 : Nat)))) ∧ (r < 100)
      ∧ (h.get (CH_LANECTL_LATEPOL.pg ch) = 0)) :=
  ⟨by decide, by decide, by decide, by decide⟩

theorem witness_NegRolesMustMatchThePort :
    (let p : LinkPort := .dn; let s : State := wst [((pState p), 2)]; (s.hub.running = true) ∧ (s.hub.portSt p = 2)) :=
  by decide

theorem witness_TwoWireAddressAndLast :
    (let s : State := wst [] fun h => h.md! fun m => { m with power := .booting, straps := { accepted := 15, value := 0b1101 } };
      let v : BitVec 4 := s.hub.md.straps.value ||| ~~~ s.hub.md.straps.accepted; (s.hub.md.power = .booting)
      ∧ (v = s.hub.md.straps.value ||| ~~~ s.hub.md.straps.accepted)) ∧
    (let cmd : Byte := 0x31; let b : List Byte := [0x11, 0x00, 1, 0, 0, 0];
      let s : State := wst [] fun h => h.frm! fun x => { x with first := false }; (s.hub.running = true) ∧ (s.hub.frm.first = false)
      ∧ (s.hub.twbBusy = false) ∧ (0x31 ≤ cmd.toNat) ∧ (cmd.toNat ≤ 0x3F) ∧ (b.length = 6) ∧ (s.hub.cfgSafe TWB_CTL_PEC_EN = 0)) ∧
    (let cmd : Byte := 0x3F; let b : List Byte := [0x11, 0x00, 1, 0, 0, 0, 7];
      let s : State := wst [] fun h => h.frm! fun x => { x with first := false }; (s.hub.running = true) ∧ ((s.hub.twbBusy = true
      ∧ s.hub.windowOver = false ∨ s.hub.twbBusy = false ∧ (b.length < 6 ∨ (7 ≤ b.length
      ∧ (nth b 6 0).toNat ≠ crc8 (s.hub.twbAddr :: cmd.toNat :: (b.take 6).map (·.toNat))))))) :=
  ⟨by decide, by decide, by decide +kernel⟩

theorem witness_RtcTimeReadCaptures :
    (let port : Port := .w; let c : RtcCap := ⟨1, 2, 3, 0⟩;
      let s : State := wst [] fun h => h.rtc! fun r => { r with capW := some ⟨1, 2, 3, 0⟩ }; (s.hub.running = true)
      ∧ (s.hub.viewOf port = false) ∧ ((∀ b ∈ s.hub.bad, b.idx / 256 ≠ 0x05)) ∧ (s.hub.rtcCap port = some c)) ∧
    (let port : Port := .w; let s : State := wst [(FRM_NO_NO, 1)] fun h => h.rtc! fun r => { r with capW := some ⟨1, 2, 3, 0⟩ };
      (s.hub.running = true) ∧ (s.hub.viewOf port = false) ∧ ((∀ b ∈ s.hub.bad, b.idx / 256 ≠ 0x05))
      ∧ ((∀ c, (match port with | .e => s.hub.rtc.capE | .w => s.hub.rtc.capW) = some c → c.frm ≠ s.hub.frmNo))
      ∧ (mapFind s.hub.pend 0x0509 = none) ∧ (mapFind s.hub.pend 0x050B = none)) :=
  ⟨by decide, by decide⟩

theorem witness_LimitAndTemperatureWarnings :
    (let ch : BitVec 6 := 63;
      let s : State := wst [((CH_STAT_STATE.pg ch.toNat), 2), ((CH_STAT_LIMITING.pg ch.toNat), 0), ((CH_STAT_OUT.pg ch.toNat), 1)];
      (s.hub.running = true) ∧ (ch.toNat < s.hub.nch) ∧ (s.hub.get (CH_STAT_STATE.pg ch.toNat) ∈ [2, 5])
      ∧ (s.hub.get (CH_STAT_LIMITING.pg ch.toNat) = 0) ∧ (s.hub.get (CH_STAT_OUT.pg ch.toNat) = 1)) ∧
    (let ch : BitVec 6 := 63;
      let s : State := wst [((CH_STAT_STATE.pg ch.toNat), 2), ((CH_STAT_LIMITING.pg ch.toNat), 1), ((CH_STAT_OUT.pg ch.toNat), 1)];
      (s.hub.running = true) ∧ (ch.toNat < s.hub.nch) ∧ (s.hub.get (CH_STAT_STATE.pg ch.toNat) ∈ [2, 3, 5])
      ∧ (s.hub.get (CH_STAT_LIMITING.pg ch.toNat) = 1) ∧ (s.hub.get (CH_STAT_OUT.pg ch.toNat) = 1)) ∧
    (let ch : BitVec 6 := 63; let temp : BitVec 10 := 300; let s : State := wst [((CH_STAT_STATE.pg ch.toNat), 1)]; (s.hub.running = true)
      ∧ (ch.toNat < s.hub.nch) ∧ (s.hub.get (CH_STAT_STATE.pg ch.toNat) ≠ 0) ∧ (300 ≤ temp.toInt) ∧ ((s.hub.ch ch.toNat).otArmed = true)) ∧
    (let ch : BitVec 6 := 63; let temp : BitVec 10 := 279; let s : State := wst [((CH_STAT_STATE.pg ch.toNat), 1)]; (s.hub.running = true)
      ∧ (ch.toNat < s.hub.nch) ∧ (s.hub.get (CH_STAT_STATE.pg ch.toNat) ≠ 0) ∧ (temp.toInt < 280)) :=
  ⟨by decide, by decide, by decide, by decide⟩

theorem witness_LoadMonitorsAndRetryCounts :
    (let ch : BitVec 6 := 3; let mv : BitVec 16 := 3001;
      let s : State := wst [((CH_STAT_STATE.pg ch.toNat), 1), ((CH_CTL_OLT.pg ch.toNat), 1), ((CH_STAT_OPEN.pg ch.toNat), 0)] fun h => h.ch! 3 fun c => { c with stRun := 100 };
      (s.hub.running = true) ∧ (ch.toNat < s.hub.nch) ∧ (s.hub.get (CH_STAT_STATE.pg ch.toNat) = 1)
      ∧ (s.hub.get (CH_CTL_OLT.pg ch.toNat) = 1) ∧ (s.hub.get (CH_STAT_OPEN.pg ch.toNat) = 0) ∧ (100 ≤ (s.hub.ch ch.toNat).stRun)
      ∧ (3000 < mv.toNat)) ∧
    (let ch : BitVec 6 := 3;
      let s : State := wst [((CH_STAT_OPEN.pg ch.toNat), 1), ((CH_STAT_STATE.pg ch.toNat), 1)] fun h => h.ch! 3 fun c => { c with openRun := 100 };
      (s.hub.running = true) ∧ (ch.toNat < s.hub.nch) ∧ (s.hub.get (CH_STAT_OPEN.pg ch.toNat) = 1)
      ∧ (s.hub.get (CH_STAT_STATE.pg ch.toNat) ≠ 0) ∧ (100 ≤ (s.hub.ch ch.toNat).openRun)) ∧
    (let ch : BitVec 6 := 3;
      let s : State := wst [((CH_STAT_OUT.pg ch.toNat), 1), (CH_HIT_THIT.pg 3, 0)] fun h => h.ch! 3 fun c => { c with hit := true };
      (s.hub.running = true) ∧ (ch.toNat < s.hub.nch) ∧ ((s.hub.ch ch.toNat).hit = true) ∧ (s.hub.get (CH_STAT_OUT.pg ch.toNat) = 1)
      ∧ ((s.hub.ch ch.toNat).hitStart + (s.hub.get (CH_HIT_THIT.pg ch.toNat) * 4000 : Nat) ≤ ((s.hub.get FRM_NO_NO * 40000 + 39999 : Nat) : Int))) ∧
    (let ch : BitVec 6 := 3;
      let s : State := wst [((CH_STAT_STATE.pg ch.toNat), 5), (CH_LIM_TLIM.pg 3, 2000)] fun h => h.ch! 3 fun c => { c with stRun := 2000 };
      (s.hub.running = true) ∧ (ch.toNat < s.hub.nch) ∧ (s.hub.get (CH_STAT_STATE.pg ch.toNat) = 5)
      ∧ (s.hub.get (CH_LIM_TLIM.pg ch.toNat) ≤ (s.hub.ch ch.toNat).stRun)
      ∧ ((s.hub.get (CH_STAT_LIMITING.pg ch.toNat) = 1 → (s.hub.ch ch.toNat).limRan (s.hub.eng s.hub.cyc) ≤ s.hub.get (CH_LIM_TLIM.pg ch.toNat) * 40000 + 400))) ∧
    (let ch : BitVec 6 := 3; let s : State := wst [] fun h => h.ch! 3 fun c => { c with quiet := 100000 }; (s.hub.running = true)
      ∧ (ch.toNat < s.hub.nch) ∧ (100000 ≤ (s.hub.ch ch.toNat).quiet)) :=
  ⟨by decide, by decide, by decide, by decide, by decide⟩

theorem witness_TripsWaitOrLatch :
    (let ch : BitVec 6 := 3; let m : TripMeas := ⟨2401, 0, 0⟩;
      let s : State := wst [((CH_STAT_STATE.pg ch.toNat), 2), (CH_LIM_ILIM.pg 3, 120)]; (s.hub.running = true) ∧ (ch.toNat < s.hub.nch)
      ∧ (s.hub.get (CH_STAT_STATE.pg ch.toNat) ∈ [2, 3, 5]) ∧ (s.hub.get (CH_LIM_ILIM.pg ch.toNat) * 20 < m.peak.toNat)) ∧
    (let ch : BitVec 6 := 3;
      let s : State := wst [((CH_STAT_STATE.pg ch.toNat), 2), ((CH_STAT_LIMITING.pg ch.toNat), 1)] fun h => h.ch! 3 fun c => { c with limAcc := 1000000000 };
      (s.hub.running = true) ∧ (ch.toNat < s.hub.nch) ∧ (s.hub.get (CH_STAT_STATE.pg ch.toNat) ∈ [2, 3, 5])
      ∧ (s.hub.get (CH_STAT_LIMITING.pg ch.toNat) = 1)
      ∧ (s.hub.get (CH_LIM_TLIM.pg ch.toNat) * 40000 ≤ (s.hub.ch ch.toNat).limRan (s.hub.eng 39999) + 400)) ∧
    (let ch : BitVec 6 := 3;
      let s : State := wst [((CH_STAT_STATE.pg ch.toNat), 2)] fun h => h.ch! 3 fun c => { c with i2t := 100000 * h.get (CH_OCL_I2T.pg 3) };
      (s.hub.running = true) ∧ (ch.toNat < s.hub.nch) ∧ (s.hub.get (CH_STAT_STATE.pg ch.toNat) ∈ [2, 3, 5])
      ∧ (s.hub.get (CH_OCL_I2T.pg ch.toNat) * 100000 ≤ (s.hub.ch ch.toNat).i2t)) ∧
    (let ch : BitVec 6 := 3; let temp : BitVec 10 := 340; let s : State := wst [((CH_STAT_STATE.pg ch.toNat), 2)]; (s.hub.running = true)
      ∧ (ch.toNat < s.hub.nch) ∧ (s.hub.get (CH_STAT_STATE.pg ch.toNat) ∈ [2, 3, 5]) ∧ (340 ≤ temp.toInt)) ∧
    (let ch : BitVec 6 := 3; let temp : BitVec 10 := 340; let s : State := wst [((CH_STAT_STATE.pg ch.toNat), 1)]; (s.hub.running = true)
      ∧ (ch.toNat < s.hub.nch) ∧ (s.hub.get (CH_STAT_STATE.pg ch.toNat) ∈ [1, 4, 6, 7]) ∧ (340 ≤ temp.toInt)) :=
  ⟨by decide, by decide, by decide, by decide, by decide⟩

theorem witness_BlockedAndWaitingChannelsReturn :
    (let ch : BitVec 6 := 3; let mv : BitVec 16 := 6001;
      let s : State := wst [((CH_STAT_STATE.pg ch.toNat), 1)] fun h => h.ch! 3 fun c => { c with stRun := 100 }; (s.hub.running = true)
      ∧ (ch.toNat < s.hub.nch) ∧ (s.hub.get (CH_STAT_STATE.pg ch.toNat) = 1) ∧ (100 ≤ (s.hub.ch ch.toNat).stRun) ∧ (6000 < mv.toNat)) ∧
    (let ch : BitVec 6 := 3; let s : State := wst [((CH_STAT_STATE.pg ch.toNat), 2), ((CH_STAT_OUT.pg ch.toNat), 1)]; (s.hub.running = true)
      ∧ (ch.toNat < s.hub.nch) ∧ (s.hub.get (CH_STAT_STATE.pg ch.toNat) ∈ [2, 3, 5]) ∧ (s.hub.get (CH_STAT_OUT.pg ch.toNat) = 1)) ∧
    (let ch : BitVec 6 := 3; let s : State := wst [((CH_STAT_STATE.pg ch.toNat), 7)] fun h => h.ch! 3 fun c => { c with stRun := 1000 };
      (s.hub.running = true) ∧ (ch.toNat < s.hub.nch) ∧ (s.hub.get (CH_STAT_STATE.pg ch.toNat) = 7) ∧ (1000 ≤ (s.hub.ch ch.toNat).stRun)) ∧
    (let ch : BitVec 6 := 3;
      let s : State := wst [((CH_STAT_STATE.pg ch.toNat), 4), ((CH_STAT_OT.pg ch.toNat), 0), (CH_LIM_TLIM.pg 3, 100)] fun h => h.ch! 3 fun c => { c with stRun := 60000 };
      (s.hub.running = true) ∧ (ch.toNat < s.hub.nch) ∧ (s.hub.get (CH_STAT_STATE.pg ch.toNat) = 4)
      ∧ (max (s.hub.get (CH_RETRY_WAIT.pg ch.toNat) * 10) (19 * s.hub.get (CH_LIM_TLIM.pg ch.toNat)) ≤ (s.hub.ch ch.toNat).stRun)
      ∧ (s.hub.get (CH_STAT_OT.pg ch.toNat) = 0) ∧ (s.hub.lbSupplies = false)) ∧
    (let ch : BitVec 6 := 3;
      let s : State := wst [((CH_STAT_STATE.pg ch.toNat), 4), ((CH_STAT_OT.pg ch.toNat), 0), (DEV_MODE_MODE, mFIELD), ((CH_FORCE_FORCE.pg ch.toNat), 1), ((CH_MODE_MODE.pg ch.toNat), 1), (CH_LIM_TLIM.pg 3, 100), (LB_STAT_STATE, 4), (CH_CLASS_CLASS.pg 3, 0)] fun h => h.ch! 3 fun c => { c with stRun := 60000 };
      (s.hub.running = true) ∧ (ch.toNat < s.hub.nch) ∧ (s.hub.get (CH_STAT_STATE.pg ch.toNat) = 4)
      ∧ (max (s.hub.get (CH_RETRY_WAIT.pg ch.toNat) * 10) (19 * s.hub.get (CH_LIM_TLIM.pg ch.toNat)) ≤ (s.hub.ch ch.toNat).stRun)
      ∧ (s.hub.get (CH_STAT_OT.pg ch.toNat) = 0) ∧ (s.hub.lbSupplies = true) ∧ (s.hub.safeCond ch.toNat = false) ∧ (s.hub.mode = mFIELD)
      ∧ (s.hub.get (CH_FORCE_FORCE.pg ch.toNat) = 1) ∧ (s.hub.get (CH_MODE_MODE.pg ch.toNat) ≠ 0) ∧ (s.hub.effClass ch.toNat = 0)
      ∧ ((s.hub.ch ch.toNat).tickDefer = none) ∧ ((∀ d ∈ s.hub.bud.deferred, d.ch ≠ ch.toNat))) :=
  ⟨by decide, by decide, by decide, by decide, by decide⟩

theorem witness_PwmPeriodsFollowTheGrid :
    (let ch : BitVec 6 := 3; let cyc : Nat := 0;
      let s : State := wst [((CH_STAT_STATE.pg ch.toNat), 2), (CH_GRP_FREQ.pg 0, 200), (CH_APPLIED_PHASE.pg 3, 0)]; (s.hub.running = true)
      ∧ (ch.toNat < s.hub.nch) ∧ (s.hub.get (CH_STAT_STATE.pg ch.toNat) ∈ [2, 3, 5]) ∧ (s.hub.onGrid ch.toNat = true)
      ∧ (s.hub.chPhaseCyc ch.toNat ≤ s.hub.get FRM_NO_NO * 40000 + cyc)
      ∧ (intoPeriod (400000000 / s.hub.grpFreq ch.toNat) (s.hub.chPhaseCyc ch.toNat) (s.hub.get FRM_NO_NO * 40000 + cyc) = 0)) ∧
    (let ch : BitVec 6 := 3; let cyc : Nat := 5001;
      let s : State := wst [((CH_STAT_STATE.pg ch.toNat), 2), ((CH_STAT_OUT.pg ch.toNat), 1), (CH_GRP_FREQ.pg 0, 200)] fun h => h.ch! 3 fun c => { c with onPhase := true, onEnd := 5000 };
      (s.hub.running = true) ∧ (ch.toNat < s.hub.nch) ∧ (s.hub.get (CH_STAT_STATE.pg ch.toNat) ∈ [2, 3, 5]) ∧ (s.hub.onGrid ch.toNat = true)
      ∧ (s.hub.get (CH_STAT_OUT.pg ch.toNat) = 1) ∧ ((s.hub.ch ch.toNat).onPhase = true)
      ∧ ((s.hub.ch ch.toNat).onEnd ≤ s.hub.get FRM_NO_NO * 40000 + cyc)
      ∧ ((s.hub.periodStartDue ch.toNat cyc = false ∨ 400000000 / s.hub.grpFreq ch.toNat * s.hub.periodDuty ch.toNat / 1000 < 1600))) :=
  ⟨by decide, by decide⟩

theorem witness_ArmedEdgesAndStarvation :
    (let ch : BitVec 6 := 3; let a : Armed := ⟨9, 100, .on, 7, 0, false, 0, 0⟩;
      let s : State := wst [(DEV_MODE_MODE, mFIELD), (FRM_NO_NO, 9), (PG_CTL_EN.pg 0x16, 1)] fun h => h.ch! 3 fun c => { c with armed := [⟨9, 100, .on, 7, 0, false, 0, 0⟩] };
      (s.hub.running = true) ∧ (ch.toNat < s.hub.nch) ∧ ((s.hub.ch ch.toNat).armed = [a]) ∧ (diff32 a.frm (s.hub.get FRM_NO_NO) ≤ 0)
      ∧ (s.hub.en 0x16 = true) ∧ (s.hub.fenced 0x16 = false) ∧ (s.hub.ruleMode = mFIELD) ∧ (a.kind = .on)) ∧
    (let ch : BitVec 6 := 3; let a : Armed := ⟨9, 100, .off, 7, 0, false, 0, 0⟩;
      let s : State := wst [(DEV_MODE_MODE, mFIELD), (FRM_NO_NO, 9), (PG_CTL_EN.pg 0x16, 1)] fun h => h.ch! 3 fun c => { c with armed := [⟨9, 100, .off, 7, 0, false, 0, 0⟩] };
      (s.hub.running = true) ∧ (ch.toNat < s.hub.nch) ∧ ((s.hub.ch ch.toNat).armed = [a]) ∧ (diff32 a.frm (s.hub.get FRM_NO_NO) ≤ 0)
      ∧ (s.hub.en 0x16 = true) ∧ (s.hub.fenced 0x16 = false) ∧ (s.hub.ruleMode = mFIELD) ∧ (a.kind = .off)) ∧
    (let ch : BitVec 6 := 3; let a : Armed := ⟨9, 100, .duty 500, 7, 0, false, 0, 0⟩; let d : Nat := 500;
      let s : State := wst [(DEV_MODE_MODE, mFIELD), (FRM_NO_NO, 9), (PG_CTL_EN.pg 0x16, 1)] fun h => h.ch! 3 fun c => { c with armed := [⟨9, 100, .duty 500, 7, 0, false, 0, 0⟩] };
      (s.hub.running = true) ∧ (ch.toNat < s.hub.nch) ∧ ((s.hub.ch ch.toNat).armed = [a]) ∧ (diff32 a.frm (s.hub.get FRM_NO_NO) ≤ 0)
      ∧ (s.hub.en 0x16 = true) ∧ (s.hub.fenced 0x16 = false) ∧ (s.hub.ruleMode = mFIELD) ∧ (a.kind = .duty d)) ∧
    (let ch : BitVec 6 := 3; let a : Armed := ⟨9, 100, .mark, 7, 0, false, 0, 0⟩;
      let s : State := wst [(FRM_NO_NO, 9), (PG_CTL_EN.pg 0x16, 1)] fun h => h.ch! 3 fun c => { c with armed := [⟨9, 100, .mark, 7, 0, false, 0, 0⟩] };
      (s.hub.running = true) ∧ (ch.toNat < s.hub.nch) ∧ ((s.hub.ch ch.toNat).armed = [a]) ∧ (diff32 a.frm (s.hub.get FRM_NO_NO) ≤ 0)
      ∧ (s.hub.en 0x16 = true) ∧ (s.hub.fenced 0x16 = false) ∧ (a.kind = .mark)) ∧
    (let ch : BitVec 6 := 3; let a : Armed := ⟨9, 100, .off, 7, 0, false, 0, 0⟩;
      let s : State := wst [(DEV_MODE_MODE, mREADY), (FRM_NO_NO, 9), (PG_CTL_EN.pg 0x16, 1)] fun h => h.ch! 3 fun c => { c with armed := [⟨9, 100, .off, 7, 0, false, 0, 0⟩] };
      (s.hub.running = true) ∧ (ch.toNat < s.hub.nch) ∧ ((s.hub.ch ch.toNat).armed = [a]) ∧ (diff32 a.frm (s.hub.get FRM_NO_NO) ≤ 0)
      ∧ (s.hub.en 0x16 = true) ∧ (s.hub.fenced 0x16 = false) ∧ (s.hub.ruleMode ∈ [mREADY, mTRANSPORT, mSERVICE]) ∧ (a.kind ∈ [.on, .off])) ∧
    (let ch : BitVec 6 := 3;
      let s : State := wst [((CH_STARVE_TU.pg ch.toNat), 1), ((CH_SECSTAT_STARVED.pg ch.toNat), 0), (DEV_MODE_MODE, mFIELD), (CH_STARVE_TU.pg 3, 1)] fun h => h.ch! 3 fun c => { c with starve := 65536 };
      (s.hub.running = true) ∧ (ch.toNat < s.hub.nch) ∧ (s.hub.get (CH_STARVE_TU.pg ch.toNat) ≠ 0)
      ∧ (s.hub.get (CH_STARVE_TU.pg ch.toNat) * 65536 ≤ (s.hub.ch ch.toNat).starve) ∧ (s.hub.get (CH_SECSTAT_STARVED.pg ch.toNat) = 0)
      ∧ (s.hub.ruleMode = mFIELD)) :=
  ⟨by decide, by decide, by decide, by decide, by decide, by decide⟩

theorem witness_TravelIsCountedOrTakenFromSpeed :
    (let s : State := wst [(SEC_TRVSRC_DECODE, 1)] fun h => h.sec! fun x => { x with trvA := false }; (s.hub.running = true)
      ∧ (s.hub.leads = true) ∧ (s.hub.mode ≠ mNAP) ∧ (s.hub.get SEC_TRVSRC_DECODE = 1)) ∧
    (let a : Bool := false; let b : Bool := false; let s : State := wst [(SEC_TRVSRC_DECODE, 0)]; (s.hub.running = true)
      ∧ (s.hub.leads = true) ∧ (s.hub.mode ≠ mNAP) ∧ (s.hub.get SEC_TRVSRC_DECODE = 0) ∧ (a ≠ s.hub.sec.trvA) ∧ (b ≠ s.hub.sec.trvB)) ∧
    (let a : Bool := true; let b : Bool := false; let s : State := wst [(SEC_TRVSRC_DECODE, 0)]; (s.hub.running = true)
      ∧ (s.hub.leads = true) ∧ (s.hub.mode ≠ mNAP) ∧ (s.hub.get SEC_TRVSRC_DECODE = 0) ∧ ((a = s.hub.sec.trvA ∨ b = s.hub.sec.trvB))) ∧
    (let s : State := wst [(DEV_MODE_MODE, 2)]; (s.hub.running = true) ∧ (s.hub.leads = false ∨ s.hub.mode = mNAP)) ∧
    (let s : State := wst [(SEC_TRVSRC_SRC, 2), (SEC_STAT_SPDSTALE, 0), (SEC_SPDTMO_FRAMES, 100)] fun h => h.sec! fun x => { x with speedAge := 100 };
      (s.hub.running = true) ∧ (s.hub.leads = true) ∧ (s.hub.get SEC_TRVSRC_SRC = 2) ∧ (s.hub.get SEC_STAT_SPDSTALE = 0)
      ∧ (s.hub.get SEC_SPDTMO_FRAMES ≤ s.hub.sec.speedAge)) ∧
    (let s : State := wst [(SEC_TRVSRC_SRC, 3), (SEC_STAT_TRVACT, 0)] fun h => h.sec! fun x => { x with zeroRun := 500 };
      (s.hub.running = true) ∧ (s.hub.leads = true) ∧ (s.hub.get SEC_TRVSRC_SRC = 3) ∧ (s.hub.get SEC_STAT_TRVACT = 0)
      ∧ (s.hub.sec.count = 0) ∧ (500 ≤ s.hub.sec.zeroRun)) ∧
    (let s : State := wst [(SEC_TRVSRC_SRC, 3), (SEC_STAT_TRVACT, 1)] fun h => h.sec! fun x => { x with count := -1 };
      (s.hub.running = true) ∧ (s.hub.leads = true) ∧ (s.hub.get SEC_TRVSRC_SRC = 3) ∧ (s.hub.get SEC_STAT_TRVACT = 1)
      ∧ (s.hub.sec.count ≠ 0)) :=
  ⟨by decide, by decide, by decide, by decide, by decide, by decide, by decide⟩

theorem witness_ZeroFramesAndUnclosedGaps :
    (let s : State := wst [(FRM_NO_NO, 5), (SEC_ZEROAT_FRAME, 5)] fun h => h.sec! fun x => { x with zeroDue := true };
      (s.hub.running = true) ∧ (s.hub.sec.zeroDue = true) ∧ (s.hub.get SEC_ZEROAT_FRAME = s.hub.get FRM_NO_NO)) ∧
    (let s : State := wst [(FRM_NO_NO, 6), (SEC_ZEROAT_FRAME, 5)] fun h => h.sec! fun x => { x with zeroDue := true };
      (s.hub.running = true) ∧ (s.hub.sec.zeroDue = true) ∧ (s.hub.get SEC_ZEROAT_FRAME ≠ s.hub.get FRM_NO_NO)) ∧
    (let s : State := wst [(SEC_STAT_GAP, 1), (FRM_NO_NO, 64)]; (s.hub.running = true) ∧ (s.hub.get SEC_STAT_GAP = 1)
      ∧ (64 ≤ diff32 (s.hub.get FRM_NO_NO) s.hub.sec.gapFirst)) :=
  ⟨by decide, by decide, by decide⟩

theorem witness_CapturesTakeSamples :
    (let eng : BitVec 2 := 3; let s : State := wst [((engF GEY_ENG_STAT_STATE eng.toNat), 1)]; (s.hub.running = true)
      ∧ (s.hub.get (engF GEY_ENG_STAT_STATE eng.toNat) = 1) ∧ (s.hub.adcFenced (s.hub.get (engF GEY_ENG_STAT_CH eng.toNat) / 32) = false)) :=
  by decide

theorem witness_FeedInsertionSteps :
    (let feed : FeedId := .a; let s : State := wst [((FEED_STAT_PRESENT.pg (feedNum feed)), 0)];
      (s.hub.get (FEED_STAT_PRESENT.pg (feedNum feed)) = 0)) ∧
    (let feed : FeedId := .b; let s : State := wst [((FEED_STAT_PRESENT.pg (feedNum feed)), 1)];
      (s.hub.get (FEED_STAT_PRESENT.pg (feedNum feed)) = 1) ∧ (s.hub.feedSt (feedNum feed) ≠ 5)) ∧
    (let feed : FeedId := .a; let s : State := wst [((FEED_STAT_STATE.pg (feedNum feed)), 1)]; (s.hub.feedSt (feedNum feed) = 1)
      ∧ (s.hub.feedFenced (feedNum feed) = false)) ∧
    (let feed : FeedId := .a; let s : State := wst [((FEED_STAT_STATE.pg (feedNum feed)), 2)]; (s.hub.feedSt (feedNum feed) = 2)) ∧
    (let feed : FeedId := .b;
      let s : State := wst [((FEED_STAT_STATE.pg (feedNum feed)), 3), (FEED_STAT_INWIN.pg 1, 1)] fun h => h.feedB! fun x => { x with run := 100000 };
      (s.hub.feedSt (feedNum feed) = 3) ∧ (s.hub.feedFenced (feedNum feed) = false)
      ∧ ((s.hub.running = true → s.hub.get (FEED_STAT_INWIN.pg (feedNum feed)) = 1))
      ∧ (s.hub.feedCfg (FEED_QUALT_T.pg (feedNum feed)) * 10 ≤ (s.hub.feed (feedNum feed)).run)) ∧
    (let feed : FeedId := .a; let s : State := wst [((FEED_STAT_POLREV.pg (feedNum feed)), 0)];
      (s.hub.get (FEED_STAT_POLREV.pg (feedNum feed)) = 0)) ∧
    (let feed : FeedId := .a; let s : State := wst [((FEED_STAT_POLREV.pg (feedNum feed)), 1)];
      (s.hub.get (FEED_STAT_POLREV.pg (feedNum feed)) = 1)) :=
  ⟨by decide, by decide, by decide, by decide, by decide, by decide, by decide⟩

theorem witness_FeedLossAndTrips :
    (let feed : FeedId := .a; let s : State := wst [((FEED_STAT_STATE.pg (feedNum feed)), 5), ((FEED_STAT_PRESENT.pg (feedNum feed)), 1)];
      (s.hub.feedSt (feedNum feed) = 5) ∧ (s.hub.get (FEED_STAT_PRESENT.pg (feedNum feed)) = 1)) ∧
    (let limiting : Bool := true; let peak : BitVec 16 := 0; let v : BitVec 16 := 0; let feed : FeedId := .b;
      let c : Instr := .fuseTrip .b 0 0;
      let s : State := wst [(FEED_STAT_STATE.pg 1, 5)] fun h => h.feedB! fun x => { x with fuseRun := 100000 };
      (((c = .insTrip feed limiting v ∧ s.hub.feedSt (feedNum feed) = 4
      ∧ s.hub.feedCfg (FEED_IRUSHT_T.pg (feedNum feed)) * 10 ≤ (s.hub.feed (feedNum feed)).run) ∨ (c = .feedFastTrip feed peak v
      ∧ s.hub.feedSt (feedNum feed) ∈ [4, 5]) ∨ (c = .fuseTrip feed peak v ∧ s.hub.feedSt (feedNum feed) = 5
      ∧ s.hub.feedCfg (FEED_FUSE_FUSET.pg (feedNum feed)) ≤ (s.hub.feed (feedNum feed)).fuseRun)))) :=
  ⟨by decide, by decide⟩

theorem witness_FeedConductionAndTakeover :
    (let feed : FeedId := .a; let s : State := wst [((FEED_STAT_STATE.pg (feedNum feed)), 4)]; (s.hub.feedSt (feedNum feed) = 4)
      ∧ ((s.hub.running = true → s.hub.get (FEED_STAT_LIMITING.pg (feedNum feed)) = 0
      ∧ s.hub.geti (FEED_V_V.pg (feedNum feed)) ≤ s.hub.get (FEED_V_VINB.pg (feedNum feed)) + 50
      ∧ (s.hub.feedOn (1 - (feedNum feed)) = true ∨ s.hub.geti (FEED_V_V.pg (feedNum feed)) ≤ (s.hub.feed (feedNum feed)).ramp + s.hub.feedCfg (FEED_RAMP_RATE.pg (feedNum feed)) + 50)))) ∧
    (let feed : FeedId := .a; let s : State := wst [((FEED_STAT_STATE.pg (feedNum feed)), 5), ((FEED_STAT_CONDUCT.pg (feedNum feed)), 1)];
      (s.hub.feedSt (feedNum feed) = 5) ∧ (s.hub.get (FEED_STAT_CONDUCT.pg (feedNum feed)) = 1)) ∧
    (let feed : FeedId := .a;
      let s : State := wst [((FEED_STAT_STATE.pg (feedNum feed)), 5), ((FEED_STAT_CONDUCT.pg (feedNum feed)), 0), ((FEED_STAT_STANDBY_B.pg (feedNum feed)), 0)];
      (s.hub.feedSt (feedNum feed) = 5) ∧ (s.hub.get (FEED_STAT_CONDUCT.pg (feedNum feed)) = 0)
      ∧ (s.hub.get (FEED_STAT_STANDBY_B.pg (feedNum feed)) = 0) ∧ (s.hub.ratioIdle ≠ some feed)) ∧
    (let feed : FeedId := .a;
      let s : State := wst [((FEED_STAT_STATE.pg (feedNum feed)), 6)] fun h => h.feedA! fun x => { x with run := 10000 };
      (s.hub.feedSt (feedNum feed) = 6) ∧ (10000 ≤ (s.hub.feed (feedNum feed)).run)) ∧
    (let feed : FeedId := .a;
      let s : State := wst [((FEED_STAT_STATE.pg (feedNum feed)), 5)] fun h => h.feedA! fun x => { x with run := 100000 };
      (s.hub.feedSt (feedNum feed) = 5) ∧ (100000 ≤ (s.hub.feed (feedNum feed)).run)) ∧
    (let s : State := wst [((FEED_STAT_STANDBY_B.pg 1), 1)]; (s.hub.get (FEED_STAT_STANDBY_B.pg 1) = 1)) ∧
    (let s : State := wst [(FEED_STAT_STATE.pg 0, 5), (FEED_STAT_STATE.pg 1, 5), (FEED_SHARE_MODE, 2)] fun h => h.share! fun x => { x with bCarries := true, returnRun := 1000 };
      (s.hub.feedCfg FEED_SHARE_MODE = 2) ∧ (s.hub.feedSt 0 = 5) ∧ (s.hub.feedSt 1 = 5) ∧ (s.hub.share.bCarries = true)
      ∧ (1000 ≤ s.hub.share.returnRun)) :=
  ⟨by decide, by decide, by decide, by decide, by decide, by decide, by decide⟩

theorem witness_ConverterTripsRetryOrLatch :
    (let m : ConvMeas := ⟨0, 0⟩; let conv : ConvId := .h4; let c : Instr := .converterLimitTrip .h4 ⟨0, 0⟩;
      let s : State := wst [(cSTATE 4, 4), (cLIMIT 4, 1)] fun h => { h with convs := [{}, {}, {}, {}, { limRun := 50 }] };
      (s.hub.running = true) ∧ (s.hub.switching (convNum conv) = true) ∧ (((c = .converterLimitTrip conv m
      ∧ s.hub.get (cLIMIT (convNum conv)) = 1
      ∧ (if conv = .lb then s.hub.cfg LB_LIM_TLIM * 10 else 50) ≤ (s.hub.conv (convNum conv)).limRun) ∨ (c = .converterShortTrip conv m
      ∧ s.hub.get (cLIMIT (convNum conv)) = 1 ∧ m.out.toNat * 20 < s.hub.refMv (convNum conv)
      ∧ (if conv = .lb then 1 else 10) ≤ (s.hub.conv (convNum conv)).limRun) ∨ (c = .converterOvTrip conv m
      ∧ (s.hub.refMv (convNum conv) * 11 + 2000 < m.out.toNat * 100 ∨ absLevel (convNum conv) < m.out.toNat * 10))))) :=
  by decide

theorem witness_ReferencesSlewAndTrack :
    (let conv : ConvId := .h1; let s : State := wst [((cSTATE (convNum conv)), 3)] fun h => { h with convs := [{}, { stepped := true }] };
      (s.hub.running = true) ∧ (s.hub.followsItself (convNum conv) = false) ∧ (s.hub.convSt (convNum conv) ∈ [3, 4, 5])
      ∧ ((s.hub.conv (convNum conv)).stepped = true)) ∧
    (let conv : ConvId := .h1; let s : State := wst [((cSTATE (convNum conv)), 3)]; (s.hub.running = true)
      ∧ (s.hub.followsItself (convNum conv) = false) ∧ ((s.hub.conv (convNum conv)).stepped = false)
      ∧ (s.hub.convSt (convNum conv) ∈ [3, 4, 5])
      ∧ ((conv = .lb ∨ s.hub.cfg (H_TRACK_MODE.pg ((convNum conv) - 1)) = 0 ∨ (s.hub.get (cTRACKING (convNum conv)) = 0
      ∧ (s.hub.conv (convNum conv)).trackStop = false)))) ∧
    (let conv : ConvId := .lb; let s : State := wst [((cSTATE 0), 9), (LB_STAT_NPH, 1)]; (s.hub.running = true)
      ∧ (s.hub.followsItself (convNum conv) = false) ∧ (conv = .lb) ∧ (s.hub.convSt 0 = 9) ∧ (s.hub.get LB_STAT_NPH ≠ 0)
      ∧ ((s.hub.conv 0).stepped = false)) ∧
    (let conv : ConvId := .h2;
      let s : State := wst [((cSTATE (convNum conv)), 3), ((cTRACKING (convNum conv)), 1), (H_TRACK_MODE.pg 1, 1), (H_TRACK_LEADER.pg 1, 1), (cSTATE 1, 3)];
      (s.hub.running = true) ∧ (s.hub.followsItself (convNum conv) = false) ∧ (conv ≠ .lb) ∧ ((s.hub.conv (convNum conv)).stepped = false)
      ∧ (s.hub.cfg (H_TRACK_MODE.pg ((convNum conv) - 1)) ≠ 0) ∧ (s.hub.convSt (convNum conv) ∈ [3, 4])
      ∧ ((s.hub.conv (convNum conv)).trackStop = false) ∧ (s.hub.get (cTRACKING (convNum conv)) = 1)) ∧
    (let conv : ConvId := .h2;
      let s : State := wst [((cSTATE (convNum conv)), 5), (H_TRACK_MODE.pg 1, 1), (H_TRACK_LEADER.pg 1, 1), (cSTATE 1, 3)] fun h => { h with convs := [{}, {}, { trackStop := true }] };
      (s.hub.running = true) ∧ (s.hub.followsItself (convNum conv) = false) ∧ (conv ≠ .lb) ∧ ((s.hub.conv (convNum conv)).stepped = false)
      ∧ (s.hub.cfg (H_TRACK_MODE.pg ((convNum conv) - 1)) ≠ 0) ∧ (s.hub.convSt (convNum conv) = 5)
      ∧ ((s.hub.conv (convNum conv)).trackStop = true)) :=
  ⟨by decide, by decide, by decide, by decide, by decide⟩

theorem witness_ConvertersMoveOnAndAreSupervised_1 :
    (let s : State := wst [((cSTATE 0), 2)]; (s.hub.running = true) ∧ (s.hub.convSt 0 = 2)) ∧
    (let conv : ConvId := .h1; let s : State := wst [((cSTATE (convNum conv)), 6)] fun h => { h with convs := [{}, { run := 1000 }] };
      (s.hub.running = true) ∧ (s.hub.convSt (convNum conv) = 6) ∧ ((if conv = .lb then 10000 else 1000) ≤ (s.hub.conv (convNum conv)).run)) ∧
    (let conv : ConvId := .lb; let s : State := wst [((cSTATE (convNum conv)), 4)] fun h => { h with convs := [{ run := 100000 }] };
      (s.hub.running = true) ∧ (s.hub.convSt (convNum conv) = 4) ∧ (100000 ≤ (s.hub.conv (convNum conv)).run)) ∧
    (let conv : ConvId := .h1; let s : State := wst [((cSTATE (convNum conv)), 3)]; (s.hub.running = true) ∧ (conv ≠ .lb)
      ∧ (s.hub.convSt (convNum conv) ∈ [3, 4])) ∧
    (let conv : ConvId := .h1; let v : BitVec 16 := 60000; let s : State := wst [((cHIGH (convNum conv)), 0)]; (s.hub.running = true)
      ∧ (s.hub.switching (convNum conv) = false) ∧ (s.hub.get (cHIGH (convNum conv)) = 0) ∧ (absLevel (convNum conv) < v.toNat * 10)) ∧
    (let conv : ConvId := .h1; let s : State := wst [((cDROPOUT (convNum conv)), 0), (cSTATE 1, 4)]; (s.hub.running = true)
      ∧ (s.hub.switching (convNum conv) = true) ∧ (s.hub.get (cDROPOUT (convNum conv)) = 0)) ∧
    (let conv : ConvId := .h1; let s : State := wst [] fun h => { h with convs := [{}, { vent := true }] }; (s.hub.running = true)
      ∧ ((s.hub.conv (convNum conv)).vent = true) ∧ ((s.hub.conv (convNum conv)).seqVent = false) ∧ (s.hub.outMv (convNum conv) < 400)) ∧
    (let s : State := wst [(LB_STAT_NPH, 3), (LB_SHED_I, 1), (cSTATE 0, 4)] fun h => h.lb! fun x => { x with shedRun := 16 };
      (s.hub.running = true) ∧ (s.hub.convRuns 0 = true) ∧ (s.hub.get LB_STAT_NPH = 3) ∧ (s.hub.get LB_SHED_I ≠ 0)
      ∧ (16 ≤ s.hub.lb.shedRun)) :=
  ⟨by decide, by decide, by decide, by decide, by decide, by decide, by decide, by decide⟩

theorem witness_ConvertersMoveOnAndAreSupervised_2 :
    (let s : State := wst [(LB_STAT_NPH, 2), (cSTATE 0, 4)] fun h => h.lb! fun x => { x with unshedDue := true }; (s.hub.running = true)
      ∧ (s.hub.convRuns 0 = true) ∧ (s.hub.get LB_STAT_NPH = 2) ∧ (s.hub.lb.unshedDue = true)) ∧
    (let phase : BitVec 2 := 3; let s : State := wst [((cSTATE 0), 2)]; (s.hub.running = true)
      ∧ (s.hub.convSt 0 = 2 ∨ (s.hub.get LB_STAT_NPH = 2 ∧ phase.toNat ∈ [1, 3] ∧ 1 ≤ s.hub.lb.twoRun
      ∧ 1 ≤ s.hub.get (LB_PHSTAT_AGE.nth phase.toNat)))) ∧
    (let p : Preview := ⟨0, 5, 3, 300⟩; let l : List Preview := [⟨0, 6, 4, -300⟩];
      let s : State := wst [(LB_CTL_FFEN, 1), ((cSTATE 0), 4)] fun h => h.sec! fun x => { x with previews := [⟨0, 5, 3, 300⟩, ⟨0, 6, 4, -300⟩] };
      (s.hub.running = true) ∧ (s.hub.get LB_CTL_FFEN = 1) ∧ (s.hub.convSt 0 = 4) ∧ (s.hub.sec.previews = p :: l)
      ∧ (diff32 p.frm (s.hub.get FRM_NO_NO) ≤ 0)) ∧
    (let s : State := wst [(LB_SYNC_SRC, 2), (CLK_STAT_CLKIN_RDY, 1), (LB_SYNC_CLKDIV, 50)] fun h => (h.lb! fun x => { x with clkRun := 1000 }).clk! fun c => { c with clkin := (1000, 1000) };
      (s.hub.running = true) ∧ (s.hub.lbSyncDue = true)) :=
  ⟨by decide, by decide, by decide, by decide⟩

theorem witness_ChargeCycle :
    (let mv : Nat := 18000; let s : State := wst [(CHG_STAT_STATE, 2)]; (s.hub.running = true) ∧ (s.hub.chgSt = 2) ∧ (s.hub.vPre ≤ mv)) ∧
    (let mv : Nat := 30000; let s : State := wst [(CHG_STAT_STATE, 3)]; (s.hub.running = true) ∧ (s.hub.chgSt = 3) ∧ (s.hub.vChg ≤ mv)) ∧
    (let s : State := wst [(CHG_STAT_STATE, 4)] fun h => h.chg! fun c => { c with taper := 1000 }; (s.hub.running = true)
      ∧ (s.hub.chgSt = 4) ∧ (1000 ≤ s.hub.chg.taper)) ∧
    (let s : State := wst [(CHG_STAT_STATE, 5), (CHG_RECHK_S, 10)] fun h => h.chg! fun c => { c with sinceCheck := 100000 };
      (s.hub.running = true) ∧ (s.hub.chgSt = 5) ∧ (s.hub.get CHG_RECHK_S * 10000 ≤ s.hub.chg.sinceCheck)) ∧
    (let s : State := wst [(CHG_STAT_STATE, 6), (CHG_RECHK_S, 10)] fun h => h.chg! fun c => { c with sinceCheck := 100000 };
      (s.hub.running = true) ∧ (s.hub.chgSt = 6) ∧ (s.hub.get CHG_RECHK_S * 10000 ≤ s.hub.chg.sinceCheck)) ∧
    (let die : Byte := 214; let s : State := wst [(CHG_STAT_STATE, 2)]; (s.hub.running = true) ∧ (s.hub.chgSt ∈ [2, 3, 4])
      ∧ (214 ≤ die.toNat)) :=
  ⟨by decide, by decide, by decide, by decide, by decide, by decide⟩

theorem witness_BatteryZoneTimerAndPresence_1 :
    (let s : State := wst [(ADC_STAT_FENCED.nth 3, 1)]; (s.hub.running = true) ∧ (s.hub.adcFenced 3 = true)) ∧
    (let s : State := wst []; (s.hub.running = true) ∧ (s.hub.adcFenced 3 = false)) ∧
    (let s : State := wst [(CHG_STAT_STATE, 2)] fun h => h.chg! fun c => { c with secFrames := 10000 }; (s.hub.running = true)
      ∧ (s.hub.chgSt ∈ [2, 3, 4, 6]) ∧ (10000 ≤ s.hub.chg.secFrames)) ∧
    (let n : Nat := 399; let s : State := wst [] fun h => h.chg! fun c => { c with presTest := true }; (s.hub.running = true)
      ∧ (s.hub.chg.presTest = true) ∧ (n < 400)) ∧
    (let n : Nat := 400; let s : State := wst [(CHG_STAT_STATE, 1)] fun h => h.chg! fun c => { c with presTest := true };
      (s.hub.running = true) ∧ (s.hub.chg.presTest = true) ∧ (400 ≤ n) ∧ (s.hub.chgSt ∈ [1, 2, 3, 4, 5, 6, 7])) ∧
    (let s : State := wst [(CHG_STAT_STATE, 1), (FEED_STAT_STATE.pg 0, 5)]; (s.hub.running = true) ∧ (s.hub.anyFeedOn = true)
      ∧ (s.hub.chgSt ∈ [1, 5, 6, 7])) ∧
    (let n : Nat := 4999; let s : State := wst [(CHG_STAT_STATE, 8)] fun h => h.chg! fun c => { c with sinceCheck := 10000 };
      (s.hub.running = true) ∧ (s.hub.chgSt = 8) ∧ (10000 ≤ s.hub.chg.sinceCheck) ∧ (n < 5000)) ∧
    (let n : Nat := 5000; let s : State := wst [(CHG_STAT_STATE, 8)] fun h => h.chg! fun c => { c with sinceCheck := 10000 };
      (s.hub.running = true) ∧ (s.hub.chgSt = 8) ∧ (10000 ≤ s.hub.chg.sinceCheck) ∧ (5000 ≤ n)) :=
  ⟨by decide, by decide, by decide, by decide, by decide, by decide, by decide, by decide⟩

theorem witness_BatteryZoneTimerAndPresence_2 :
    (let v : BitVec 16 := 699; let s : State := wst []; (s.hub.running = true) ∧ (s.hub.anyFeedOn = false) ∧ (s.hub.md.cutoffDue = false)
      ∧ (v.toNat < s.hub.cutLevel)) ∧
    (let v : BitVec 16 := 1979; let s : State := wst [(CHG_STAT_LOWBAT, 0), (CHG_BATCFG_CELLS, 6), (CHG_VLIM_VCUT, 310)];
      ((s.hub.running = true ∨ s.hub.md.power = .standby)) ∧ (s.hub.anyFeedOn = false) ∧ (s.hub.get CHG_STAT_LOWBAT = 0)
      ∧ (v.toNat < s.hub.lowLevel)) ∧
    (let v : BitVec 16 := 699; let s : State := wst [] fun h => h.md! fun m => { m with power := .standby };
      ((s.hub.running = true ∨ s.hub.md.power = .standby)) ∧ (s.hub.anyFeedOn = false) ∧ (s.hub.md.power = .standby)
      ∧ (s.hub.md.cutoffDue = false) ∧ (v.toNat < s.hub.cutLevel)) :=
  ⟨by decide, by decide, by decide⟩

theorem witness_HoldupTriggerToHandback :
    (let trig : HoldTrig := .level; let v : BitVec 16 := 149; let s : State := wst [(CHG_STAT_ARMED, 1)]; (s.hub.running = true)
      ∧ (s.hub.get CHG_STAT_ARMED = 1) ∧ (s.hub.trigHolds trig v.toNat = true)) ∧
    (let s : State := wst [(DEV_MODE_MODE, 5), (CHG_STAT_HOLDUP, 1), (CHG_HOLD_HOLDMAX, 1), (CHG_HULAST_FRAMES, 10000)];
      (s.hub.running = true) ∧ (s.hub.holdmaxDue = true)) ∧
    (let s : State := wst [(CHG_STAT_HANDBACK, 1), (CHG_STAT_BYPASS, 1)]; (s.hub.running = true) ∧ (s.hub.get CHG_STAT_HANDBACK = 1)
      ∧ (s.hub.get CHG_STAT_BYPASS = 1) ∧ (s.hub.convSt 0 ≠ 2)) ∧
    (let s : State := wst [(CHG_STAT_REPEAT, 1)] fun h => h.chg! fun c => { c with outside := 100000 }; (s.hub.running = true)
      ∧ (0 < s.hub.get CHG_STAT_REPEAT) ∧ (s.hub.mode ≠ mHOLDUP) ∧ (100000 ≤ s.hub.chg.outside)) :=
  ⟨by decide, by decide, by decide, by decide⟩

theorem witness_SlotsStartTimeOutAndVent_1 :
    (let slot : BitVec 4 := 2;
      let s : State := wst [(SEQ_STAT_STATE, 2), (SEQ_CFG_UP.nth 2, 1), (SEQ_CFG_RAIL.nth 2, 2), (SEQ_STS_STATE.nth 2, 1), (SEQ_STS_GOOD.nth 2, 1)];
      (s.hub.running = true) ∧ (s.hub.slotStartDue slot.toNat = true) ∧ (s.hub.slotGood slot.toNat = true)) ∧
    (let slot : BitVec 4 := 2;
      let s : State := wst [(SEQ_STAT_STATE, 2), (SEQ_CFG_UP.nth 2, 1), (SEQ_CFG_RAIL.nth 2, 2), (SEQ_STS_STATE.nth 2, 1)] fun h => h.setPage 0x12 { causes := [⟨2, false, 0⟩] };
      (s.hub.running = true) ∧ (s.hub.slotStartDue slot.toNat = true) ∧ (s.hub.slotGood slot.toNat = false)
      ∧ (s.hub.fenced (railPage (s.hub.rail slot.toNat)) = true)) ∧
    (let slot : BitVec 4 := 2;
      let s : State := wst [(SEQ_STAT_STATE, 2), (SEQ_CFG_UP.nth 2, 1), (SEQ_CFG_RAIL.nth 2, 2), (SEQ_STS_STATE.nth 2, 1), (SEQ_DEP_DEP.nth 2, 1), (SEQ_CFG_UP.nth 0, 0), (SEQ_CFG_RAIL.nth 0, 3), (SEQ_STS_STATE.nth 0, 5)];
      (s.hub.running = true) ∧ (s.hub.slotStartDue slot.toNat = true) ∧ (s.hub.slotGood slot.toNat = false)
      ∧ (s.hub.fenced (railPage (s.hub.rail slot.toNat)) = false) ∧ (s.hub.depFailed slot.toNat)) ∧
    (let slot : BitVec 4 := 2;
      let s : State := wst [(SEQ_STAT_STATE, 2), (SEQ_CFG_UP.nth 2, 1), (SEQ_CFG_RAIL.nth 2, 2), (SEQ_STS_STATE.nth 2, 1), (CHG_MEAS2_VSYS, 900)];
      (s.hub.running = true) ∧ (s.hub.slotStartDue slot.toNat = true) ∧ (s.hub.slotGood slot.toNat = false)
      ∧ (s.hub.fenced (railPage (s.hub.rail slot.toNat)) = false) ∧ (¬ s.hub.depFailed slot.toNat)
      ∧ ((∀ j, j < 16 → s.hub.dep slot.toNat j = true → s.hub.slotGood j = true)) ∧ (s.hub.supplyHolds (s.hub.rail slot.toNat) = true)
      ∧ ((s.hub.rail slot.toNat ≤ 5 ∨ 64 ≤ s.hub.rail slot.toNat))) ∧
    (let slot : BitVec 4 := 2;
      let s : State := wst [(SEQ_STAT_STATE, 2), (SEQ_CFG_UP.nth 2, 1), (SEQ_CFG_RAIL.nth 2, 2), (SEQ_STS_STATE.nth 2, 1), (CHG_MEAS2_VSYS, 899)];
      (s.hub.running = true) ∧ (s.hub.slotStartDue slot.toNat = true) ∧ (s.hub.slotGood slot.toNat = false)
      ∧ (s.hub.fenced (railPage (s.hub.rail slot.toNat)) = false) ∧ (¬ s.hub.depFailed slot.toNat)
      ∧ (¬ ((∀ j, j < 16 → s.hub.dep slot.toNat j = true → s.hub.slotGood j = true) ∧ s.hub.supplyHolds (s.hub.rail slot.toNat) = true))) ∧
    (let slot : BitVec 4 := 15;
      let s : State := wst [((SEQ_STS_STATE.nth slot.toNat), 2), (SEQ_LIM_WAIT.nth 15, 5), (SEQ_STS_FRAMES.nth 15, 50)];
      (s.hub.running = true) ∧ (s.hub.fenced 0x07 = false) ∧ (s.hub.slotSt slot.toNat = 2)
      ∧ (s.hub.get (SEQ_LIM_WAIT.nth slot.toNat) * 10 ≤ s.hub.get (SEQ_STS_FRAMES.nth slot.toNat))) ∧
    (let slot : BitVec 4 := 15;
      let s : State := wst [((SEQ_STS_STATE.nth slot.toNat), 3), (SEQ_LIM_RISE.nth 15, 5), (SEQ_STS_FRAMES.nth 15, 50)];
      (s.hub.running = true) ∧ (s.hub.fenced 0x07 = false) ∧ (s.hub.slotSt slot.toNat = 3) ∧ (s.hub.get SEQ_STAT_STATE ≠ 3)
      ∧ (s.hub.get (SEQ_LIM_RISE.nth slot.toNat) * 10 ≤ s.hub.get (SEQ_STS_FRAMES.nth slot.toNat))) ∧
    (let slot : BitVec 4 := 2;
      let s : State := wst [(SEQ_STS_STATE.nth 2, 3), (SEQ_CFG_RAIL.nth 2, 2), (SEQ_CFG_SUPSEL.nth 2, 23), (SUP_INSIDE_INSIDE, 0x800000)];
      (s.hub.running = true) ∧ (s.hub.slotGoodDue slot.toNat = true)) :=
  ⟨by decide, by decide, by decide, by decide, by decide, by decide, by decide, by decide⟩

theorem witness_SlotsStartTimeOutAndVent_2 :
    (let slot : BitVec 4 := 2;
      let s : State := wst [(SEQ_STAT_STATE, 3), (SEQ_CFG_DN.nth 2, 1), (SEQ_CFG_RAIL.nth 2, 2), (PG_CTL_EN.pg 0x12, 1)];
      (s.hub.running = true) ∧ (s.hub.holdoffDue slot.toNat = true)) ∧
    (let slot : BitVec 4 := 2; let s : State := wst [(SEQ_STS_STATE.nth 2, 8), (SEQ_CFG_RAIL.nth 2, 2), (SEQ_VENT_LEVEL.nth 2, 40)];
      (s.hub.running = true) ∧ (s.hub.ventedDue slot.toNat = true)) ∧
    (let slot : BitVec 4 := 15;
      let s : State := wst [((SEQ_STS_STATE.nth slot.toNat), 8), (SEQ_VENT_VT.nth 15, 5), (SEQ_STS_FRAMES.nth 15, 50)];
      (s.hub.running = true) ∧ (s.hub.fenced 0x07 = false) ∧ (s.hub.slotSt slot.toNat = 8)
      ∧ (s.hub.get (SEQ_VENT_VT.nth slot.toNat) * 10 ≤ s.hub.get (SEQ_STS_FRAMES.nth slot.toNat))) :=
  ⟨by decide, by decide, by decide⟩

theorem witness_SupervisorsJudgeTheirWindow :
    (let held : Nat := 7; let sup : BitVec 5 := 23;
      let s : State := wst [((SUP_CFG_EN.nth sup.toNat), 1), ((SUP_CFG_INPUT.nth sup.toNat), 1), (SUP_FILT_T.nth 23, 8), (SUP_THR_LO.nth 23, 100), (SUP_THR_HI.nth 23, 200), (SUP_CFG_HYS.nth 23, 5)] fun h => h.seq! fun q => { q with rawIn := 0x800000 };
      (s.hub.running = true) ∧ (sup.toNat < 24) ∧ (s.hub.get (SUP_CFG_EN.nth sup.toNat) = 1) ∧ (s.hub.get (SUP_CFG_INPUT.nth sup.toNat) ≠ 0)
      ∧ (held < s.hub.get (SUP_FILT_T.nth sup.toNat))) ∧
    (let held : Nat := 8; let sup : BitVec 5 := 23; let v : BitVec 12 := 99;
      let s : State := wst [((SUP_CFG_EN.nth sup.toNat), 1), ((SUP_CFG_INPUT.nth sup.toNat), 1), (SUP_INSIDE_INSIDE, 0x800000), (SUP_FILT_T.nth 23, 8), (SUP_THR_LO.nth 23, 100), (SUP_THR_HI.nth 23, 200)];
      (s.hub.running = true) ∧ (sup.toNat < 24) ∧ (s.hub.get (SUP_CFG_EN.nth sup.toNat) = 1) ∧ (s.hub.get (SUP_CFG_INPUT.nth sup.toNat) ≠ 0)
      ∧ (s.hub.get (SUP_FILT_T.nth sup.toNat) ≤ held) ∧ ((s.hub.get SUP_INSIDE_INSIDE).testBit sup.toNat = true)
      ∧ ((v.toNat < s.hub.get (SUP_THR_LO.nth sup.toNat) ∨ s.hub.get (SUP_THR_HI.nth sup.toNat) < v.toNat ∨ s.hub.seq.chatForced = true
      ∧ s.hub.get TST_SUPCHAT_EN = 1 ∧ s.hub.get TST_SUPCHAT_SUP = sup.toNat))) ∧
    (let held : Nat := 8; let sup : BitVec 5 := 23; let v : BitVec 12 := 195;
      let s : State := wst [((SUP_CFG_EN.nth sup.toNat), 1), ((SUP_CFG_INPUT.nth sup.toNat), 1), (SUP_FILT_T.nth 23, 8), (SUP_THR_LO.nth 23, 100), (SUP_THR_HI.nth 23, 200), (SUP_CFG_HYS.nth 23, 5)];
      (s.hub.running = true) ∧ (sup.toNat < 24) ∧ (s.hub.get (SUP_CFG_EN.nth sup.toNat) = 1) ∧ (s.hub.get (SUP_CFG_INPUT.nth sup.toNat) ≠ 0)
      ∧ (s.hub.get (SUP_FILT_T.nth sup.toNat) ≤ held) ∧ ((s.hub.get SUP_INSIDE_INSIDE).testBit sup.toNat = false)
      ∧ (¬ (s.hub.seq.chatForced = true ∧ s.hub.get TST_SUPCHAT_EN = 1 ∧ s.hub.get TST_SUPCHAT_SUP = sup.toNat))
      ∧ (s.hub.get (SUP_THR_LO.nth sup.toNat) + s.hub.get (SUP_CFG_HYS.nth sup.toNat) ≤ v.toNat)
      ∧ (v.toNat + s.hub.get (SUP_CFG_HYS.nth sup.toNat) ≤ s.hub.get (SUP_THR_HI.nth sup.toNat))) :=
  ⟨by decide, by decide, by decide⟩

theorem witness_ConversionsAreDelivered :
    (let k : BitVec 2 := 3; let entry : BitVec 6 := 15; let i : Input := .head 15;
      let s : State := wst [((ADC_STAT_STATE.nth k.toNat), 1), (ADC_STAT_POS.nth 3, 15)]; (s.hub.running = true)
      ∧ (s.hub.get (ADC_STAT_STATE.nth k.toNat) = 1) ∧ (s.hub.get (ADC_STAT_POS.nth k.toNat) = entry.toNat)
      ∧ (s.hub.adcFenced k.toNat = false) ∧ (inputOf s.hub.part (s.hub.scanWord k.toNat entry.toNat % 256) = some i)) ∧
    (let s : State := wst [(ADC_STAT_STATE.nth 3, 1), (ADC_STAT_POS.nth 3, 15)]; (s.hub.running = true) ∧ (s.hub.headLateDue = true)) ∧
    (let port : Port := .w; let i : Input := .hs 5; let cyc : Nat := 40000;
      let s : State := wst [] fun h => h.mea! fun m => { m with hostW := { m.hostW with run := 5, res := 0x40000 } }; (s.hub.running = true)
      ∧ (s.hub.hostInput port = some i) ∧ (s.hub.hostReady port cyc = true)) :=
  ⟨by decide, by decide, by decide⟩

theorem witness_CalibrationAndStoreWritesEnd :
    (let ch : BitVec 6 := 3; let s : State := wst [(FRM_NO_NO, 900)] fun h => h.ch! 3 fun c => { c with offRun := 10 };
      (s.hub.running = true) ∧ (ch.toNat < s.hub.nch) ∧ (s.hub.zeroDue ch.toNat true = true)) ∧
    (let ch : BitVec 6 := 3; let s : State := wst [] fun h => h.ch! 3 fun c => { c with refreshing := true }; (s.hub.running = true)
      ∧ (ch.toNat < s.hub.nch) ∧ ((s.hub.ch ch.toNat).refreshing = true) ∧ (s.hub.adcFenced (ch.toNat / 32) = false)) ∧
    (let rest : List NvJob := []; let idx : Nat := 12; let r : CalRec := {}; let old : Nat := 1; let new : Nat := 2; let kind : Nat := 0;
      let p : Port := .e; let s : State := wst [] fun h => h.mea! fun m => { m with nvq := [.field 12 {} 1 2 0 .e] }; (s.hub.running = true)
      ∧ (s.hub.nvStall ≤ s.hub.mea.nvAge) ∧ (s.hub.mea.nvq = .field idx r old new kind p :: rest)) ∧
    (let rest : List NvJob := []; let idx : Nat := 12; let r : CalRec := {}; let p : Port := .e;
      let s : State := wst [] fun h => h.mea! fun m => { m with nvq := [.commit 12 {} .e] }; (s.hub.running = true)
      ∧ (s.hub.nvStall ≤ s.hub.mea.nvAge) ∧ (s.hub.mea.nvq = .commit idx r p :: rest)) ∧
    (let rest : List NvJob := []; let p : Port := .w; let s : State := wst [] fun h => h.mea! fun m => { m with nvq := [.other .w] };
      (s.hub.running = true) ∧ (s.hub.nvStall ≤ s.hub.mea.nvAge) ∧ (s.hub.mea.nvq = .other p :: rest)) ∧
    (let rest : List NvJob := []; let slot : Nat := 1; let s : State := wst [] fun h => h.mea! fun m => { m with nvq := [.key 1] };
      (s.hub.running = true) ∧ (s.hub.nvStall ≤ s.hub.mea.nvAge) ∧ (slot < 2) ∧ (s.hub.mea.nvq = .key slot :: rest)) :=
  ⟨by decide, by decide, by decide, by decide, by decide, by decide⟩

theorem witness_SnapshotsLatchAndComplete :
    (let src : Nat := 2; let at0 : Nat := 0; let l : List (Nat × Nat × Nat) := [(8, 1, 0)];
      let s : State := wst [(FRM_NO_NO, 7)] fun h => h.mea! fun m => { m with snapPend := [(7, 2, 0), (8, 1, 0)] }; (s.hub.running = true)
      ∧ (s.hub.mea.snapPend = (s.hub.get FRM_NO_NO, src, at0) :: l) ∧ ((∀ e ∈ l, e.1 ≠ s.hub.get FRM_NO_NO
      ∧ 0 ≤ diff32 e.1 (s.hub.get FRM_NO_NO)))
      ∧ (s.hub.get (if s.hub.get SNAP_STAT_NEWEST = 0 then SNAP_CTL_HOLD1 else SNAP_CTL_HOLD0) = 0)) ∧
    (let src : Nat := 2; let at0 : Nat := 0; let l : List (Nat × Nat × Nat) := [(8, 1, 0)];
      let s : State := wst [(FRM_NO_NO, 7), (SNAP_CTL_HOLD0, 1), (SNAP_CTL_HOLD1, 1)] fun h => h.mea! fun m => { m with snapPend := [(7, 2, 0), (8, 1, 0)] };
      (s.hub.running = true) ∧ (s.hub.mea.snapPend = (s.hub.get FRM_NO_NO, src, at0) :: l) ∧ ((∀ e ∈ l, e.1 ≠ s.hub.get FRM_NO_NO
      ∧ 0 ≤ diff32 e.1 (s.hub.get FRM_NO_NO)))
      ∧ (s.hub.get (if s.hub.get SNAP_STAT_NEWEST = 0 then SNAP_CTL_HOLD1 else SNAP_CTL_HOLD0) = 1)) ∧
    (let w : SnapWrite := ⟨1, [(0, 5)]⟩; let s : State := wst [] fun h => h.mea! fun m => { m with writing := some ⟨1, [(0, 5)]⟩ };
      (s.hub.running = true) ∧ (w.bank < 2) ∧ (s.hub.mea.writing = some w)) :=
  ⟨by decide, by decide, by decide⟩

theorem witness_RecorderCommitsAndClears :
    (let rest : List Rec := []; let r : Rec := { code := 0x0103, inst := 0, sev := 0 };
      let s : State := wst [(REC_STAT_CLEARING, 0)] fun h => h.rcd! fun x => { x with queue := [{ code := 0x0103, inst := 0, sev := 0 }] };
      (s.hub.running = true) ∧ (s.hub.get REC_STAT_CLEARING = 0) ∧ (s.hub.rcd.clearing = none) ∧ (s.hub.rcd.queue = r :: rest)
      ∧ ((r.done = true ∨ r.set = none)) ∧ (r.pairs.length ≤ 64) ∧ (s.hub.rcd.lostCount = 0) ∧ (s.hub.nvStall ≤ r.age) ∧ (r.sev ≠ sevFATAL)) ∧
    (let rest : List Rec := []; let r : Rec := { code := 0x0103, inst := 0, sev := sevFATAL }; let slot : Nat := 8192;
      let s : State := wst [(REC_STAT_CLEARING, 0)] fun h => h.rcd! fun x => { x with queue := [{ code := 0x0103, inst := 0, sev := sevFATAL }] };
      (s.hub.running = true) ∧ (s.hub.get REC_STAT_CLEARING = 0) ∧ (s.hub.rcd.clearing = none) ∧ (s.hub.rcd.queue = r :: rest)
      ∧ ((r.done = true ∨ r.set = none)) ∧ (r.pairs.length ≤ 64) ∧ (s.hub.rcd.lostCount = 0) ∧ (s.hub.nvStall ≤ r.age) ∧ (r.sev = sevFATAL)
      ∧ (s.hub.protFree (1 + (r.pairs.length + 6) / 7) = some slot)) ∧
    (let s : State := wst [(REC_STAT_CLEARING, 0)]; (s.hub.running = true) ∧ (s.hub.get REC_STAT_CLEARING = 0)) ∧
    (let slot : Nat := 1; let s : State := wst [] fun h => h.rcd! fun x => { x with clearDue := some 1 }; (s.hub.running = true)
      ∧ (s.hub.rcd.clearDue = some slot)) ∧
    (let rest : List Rec := []; let c : Clearing := ⟨1, 5, false, 0, 0⟩; let r : Rec := { code := 0x0702, inst := 0, sev := 0 };
      let s : State := wst [] fun h => h.rcd! fun x => { x with clearing := some ⟨1, 5, false, 0, 0⟩, queue := [{ code := 0x0702, inst := 0, sev := 0 }] };
      (s.hub.running = true) ∧ (s.hub.rcd.clearing = some c) ∧ (s.hub.rcd.queue = r :: rest) ∧ (r.sev ≠ sevFATAL) ∧ (r.pairs = [])
      ∧ (s.hub.rcd.lostCount = 0) ∧ (s.hub.nvStall ≤ r.age)) :=
  ⟨by decide, by decide, by decide, by decide, by decide⟩

theorem witness_LinkPortsTrainNegotiateAndFall_1 :
    (let p : LinkPort := .dn; let s : State := wst [((pState p), 0), (STR_CTL_DNEN, 1)]; (s.hub.running = true) ∧ (s.hub.portSt p = 0)
      ∧ ((p = .up → s.hub.get DEV_STRAPS_HOSTSEL = 1)) ∧ ((p = .dn → s.hub.cfgSafe STR_CTL_DNEN = 1)) ∧ ((s.hub.side p).silent = 0)) ∧
    (let p : LinkPort := .up; let s : State := wst [] fun h => h.link! fun l => { l with up := { l.up with silent := 1 } };
      (s.hub.running = true) ∧ (0 < (s.hub.side p).silent)) ∧
    (let p : LinkPort := .up; let s : State := wst [((pState p), 1)] fun h => h.link! fun l => { l with up := { l.up with run := 5 } };
      (s.hub.running = true) ∧ (s.hub.portSt p = 1) ∧ (5 ≤ (s.hub.side p).run)) ∧
    (let p : LinkPort := .up; let s : State := wst [((pState p), 2)] fun h => h.link! fun l => { l with up := { l.up with run := 10 } };
      (s.hub.running = true) ∧ (s.hub.portSt p = 2) ∧ (10 ≤ (s.hub.side p).run)) ∧
    (let p : LinkPort := .up; let s : State := wst []; (s.hub.running = true) ∧ ((s.hub.side p).run < 5)) ∧
    (let p : LinkPort := .up; let c : LinkLoss := .symErrors;
      let s : State := wst [((pState p), 3)] fun h => h.link! fun l => { l with up := { l.up with symRun := 16 } }; (s.hub.running = true)
      ∧ (s.hub.portSt p = 3) ∧ (c ≠ .negTimeout) ∧ ((c = .symErrors → 16 ≤ (s.hub.side p).symRun))) ∧
    (let p : LinkPort := .dn; let w : Word := 0x107; let s : State := wst [((pState p), 2)]; (s.hub.running = true) ∧ (s.hub.portSt p = 2)
      ∧ (bitsOf w 8 2 ∉ (match p with | .up => [0, 1] | .dn => [2]))) ∧
    (let p : LinkPort := .up; let w : Word := 0x100; let s : State := wst [((pState p), 2)]; (s.hub.running = true) ∧ (s.hub.portSt p = 2)
      ∧ (bitsOf w 8 2 ∈ (match p with | .up => [0, 1] | .dn => [2])) ∧ (bitsOf w 0 3 = 0)) :=
  ⟨by decide, by decide, by decide, by decide, by decide, by decide, by decide, by decide⟩

theorem witness_LinkPortsTrainNegotiateAndFall_2 :
    (let p : LinkPort := .up; let w : Word := 0x107; let s : State := wst [((pState p), 2)]; (s.hub.running = true) ∧ (s.hub.portSt p = 2)
      ∧ (bitsOf w 8 2 ∈ (match p with | .up => [0, 1] | .dn => [2])) ∧ (bitsOf w 0 3 ≠ 0) ∧ (bitsOf w 10 1 = 0)
      ∧ ((s.hub.side p).acked = false)) ∧
    (let p : LinkPort := .dn; let w : Word := 0x607; let s : State := wst [((pState p), 2)]; (s.hub.running = true) ∧ (s.hub.portSt p = 2)
      ∧ (bitsOf w 8 2 ∈ (match p with | .up => [0, 1] | .dn => [2])) ∧ (bitsOf w 0 3 ≠ 0) ∧ (bitsOf w 10 1 = 1)) :=
  ⟨by decide, by decide⟩

theorem witness_DiscardsCountAndCreditsReturn_1 :
    (let p : LinkPort := .up; let s : State := wst [((pState p), 0)]; (s.hub.running = true) ∧ (s.hub.portSt p = 0)) ∧
    (let p : LinkPort := .up; let s : State := wst [(pState .up, 3)]; (s.hub.running = true) ∧ (s.hub.portSt p ≠ 0)) ∧
    (let s : State := wst [((pState .dn), 3)]; (s.hub.running = true) ∧ (s.hub.portUp .dn = true) ∧ (s.hub.link.fwd = [])) ∧
    (let w : Word := 1; let f : FwdReq := ⟨⟨⟨0x10, 1, 0xF, 0, 0, 0, 0x20⟩, [], false, 0⟩, 3⟩;
      let s : State := wst [((pState .dn), 3), ((credDn 0), 0)] fun h => h.link! fun l => { l with fwd := [⟨⟨⟨0x10, 1, 0xF, 0, 0, 0, 0x20⟩, [], false, 0⟩, 3⟩] };
      (s.hub.running = true) ∧ (s.hub.portUp .dn = true) ∧ (s.hub.link.fwd = [f]) ∧ (f.pkt.hdr.type = 0x10) ∧ (s.hub.get (credDn 0) = 0)
      ∧ (bitsOf w 17 1 = 0) ∧ (1 ≤ bitsOf w 0 4) ∧ (s.hub.creditsHeld = false) ∧ (s.hub.spiHost = false) ∧ (s.hub.unreachable f.pkt = false)
      ∧ (s.hub.dnStart (wireCycles f.pkt.payload.length) = none)) ∧
    (let w : Word := 1; let f : FwdReq := ⟨⟨⟨0x10, 1, 0xF, 0, 0, 0, 0x20⟩, [], false, 0⟩, 3⟩;
      let s : State := wst [((pState .dn), 3), ((credDn 0), 0)] fun h => (h.link! fun l => { l with fwd := [⟨⟨⟨0x10, 1, 0xF, 0, 0, 0, 0x20⟩, [], false, 0⟩, 3⟩] }).atCyc 1600;
      (s.hub.running = true) ∧ (s.hub.portUp .dn = true) ∧ (s.hub.link.fwd = [f]) ∧ (f.pkt.hdr.type = 0x10) ∧ (s.hub.get (credDn 0) = 0)
      ∧ (bitsOf w 17 1 = 0) ∧ (1 ≤ bitsOf w 0 4) ∧ (s.hub.creditsHeld = false) ∧ (s.hub.spiHost = false) ∧ (s.hub.unreachable f.pkt = false)
      ∧ (s.hub.dnStart (wireCycles f.pkt.payload.length) ≠ none)) ∧
    (let w : Word := 0x10000; let s : State := wst [((pState .up), 3), (TST_CRED_FRAMES, 0)]; (s.hub.running = true)
      ∧ (s.hub.portUp .up = true) ∧ (bitsOf w 16 1 = 1) ∧ (s.hub.link.fwd = []) ∧ (s.hub.get TST_CRED_FRAMES = 0)) ∧
    (let s : State := wst [(pState .dn, 3), (STR_CREDTMO_FRAMES, 100)] fun h => h.link! fun l => { l with fwd := [⟨⟨⟨0x10, 1, 0xF, 0, 0, 0, 0x20⟩, [], false, 0⟩, 100⟩] };
      (s.hub.running = true) ∧ (s.hub.resyncDue = true) ∧ (s.hub.creditsHeld = true ∨ s.hub.dnStart (wireCycles 1) = none)) ∧
    (let s : State := wst [(TST_PKT_ACT, 0), (pState .dn, 3), (STR_CREDTMO_FRAMES, 100)] fun h => (h.link! fun l => { l with fwd := [⟨⟨⟨0x10, 1, 0xF, 0, 0, 0, 0x20⟩, [], false, 0⟩, 100⟩] }).atCyc 1600;
      (s.hub.running = true) ∧ (s.hub.resyncDue = true) ∧ (s.hub.get TST_PKT_ACT = 0) ∧ (s.hub.creditsHeld = false)
      ∧ (s.hub.dnStart (wireCycles 1) ≠ none)) :=
  ⟨by decide, by decide, by decide, by decide, by decide, by decide, by decide, by decide⟩

theorem witness_DiscardsCountAndCreditsReturn_2 :
    (let cls : CredClass := .reg;
      let s : State := wst [(pState .dn, 3), (STR_CREDTMO_FRAMES, 100)] fun h => h.link! fun l => { l with fwd := [⟨⟨⟨0x10, 1, 0xF, 0, 0, 0, 0x20⟩, [], false, 0⟩, 200⟩] };
      (s.hub.running = true) ∧ (s.hub.creditTimeoutDue (credNum cls) = true)) :=
  by decide

theorem witness_PollSlotsAreAnsweredOrMissed :
    (let s : State := wst [(STR_STAT_ROLE, 1), (STR_STAT_CUTOFF, 0), ((pState .up), 3), (TST_PKT_ACT, 0), (DEV_POS_VALID, 1)] fun h => h.link! fun l => { l with pollSend := [1, 2, 3] };
      (s.hub.running = true) ∧ (s.hub.get STR_STAT_ROLE ≠ 0) ∧ (s.hub.posValid = true) ∧ (s.hub.get STR_STAT_CUTOFF = 0)
      ∧ (s.hub.link.pollSend ≠ []) ∧ (s.hub.portUp .up = true) ∧ (s.hub.get TST_PKT_ACT = 0) ∧ (s.hub.link.tentative = none)) ∧
    (let r : PollPkt := ⟨1, 0, [0, 5, 0, 0, 0, 0, 0]⟩; let s : State := wst [((pState .dn), 3), (STR_STAT_ROLE, 1), (STR_STAT_LIVE, 2)];
      (s.hub.running = true) ∧ (s.hub.portUp .dn = true) ∧ (s.hub.isLead = true) ∧ (0 < r.src.toNat)
      ∧ (r.src.toNat < s.hub.get STR_STAT_LIVE) ∧ ((nth s.hub.link.reps r.src.toNat {}).got = false)) ∧
    (let s : State := wst [((pState .dn), 3), ((pState .up), 3), (STR_STAT_ROLE, 2)]; (s.hub.running = true) ∧ (s.hub.portUp .dn = true)
      ∧ (s.hub.isLead = false) ∧ (s.hub.portUp .up = true)) ∧
    (let pos : BitVec 4 := 15; let s : State := wst [(STR_STAT_ROLE, 1), (STR_STAT_LIVE, 16)]; (s.hub.running = true)
      ∧ (s.hub.slotJudged pos.toNat = true)) :=
  ⟨by decide, by decide, by decide, by decide⟩

theorem witness_CutoffAndEnumeration_1 :
    (let s : State := wst [(STR_STAT_ROLE, 2), (DEV_POS_VALID, 1), (STR_LOSTT_FRAMES, 10)] fun h => h.md! fun m => { m with loseCount := 10 };
      (s.hub.running = true) ∧ (s.hub.cutoffIsDue = true)) ∧
    (let s : State := wst [(STR_STAT_CUTOFF, 1), (STR_LOSTT_FRAMES, 10)] fun h => h.link! fun l => { l with goodTicks := 10 };
      (s.hub.running = true) ∧ (s.hub.cutoffClearDue = true)) ∧
    (let s : State := wst [(STR_STAT_ROLE, 2)]; (s.hub.running = true) ∧ (s.hub.isFollower = true) ∧ (s.hub.posValid = false)) ∧
    (let s : State := wst [((pState .dn), 3), (STR_STAT_ROLE, 2), (DEV_POS_VALID, 1), (DEV_POS_POS, 1)]; (s.hub.running = true)
      ∧ (s.hub.isFollower = true) ∧ (s.hub.posValid = true) ∧ (s.hub.portUp .dn = true)) ∧
    (let pos : BitVec 4 := 15;
      let s : State := wst [((pState .up), 3), (TST_PKT_ACT, 0), (STR_STAT_ROLE, 2), (DEV_POS_VALID, 1), (DEV_POS_POS, 15)];
      (s.hub.running = true) ∧ (s.hub.isFollower = true) ∧ (s.hub.holdsPos pos.toNat = true) ∧ (s.hub.portUp .up = true)
      ∧ (s.hub.get TST_PKT_ACT = 0)) ∧
    (let pos : BitVec 4 := 2; let e : EnumRun := { trigger := 0, pos := 2, step := 1, epoch := 1 };
      let s : State := wst [(STR_STAT_ROLE, 1)] fun h => h.link! fun l => { l with enum := some { trigger := 0, pos := 2, step := 1, rtts := [], epoch := 1 } };
      (s.hub.running = true) ∧ (s.hub.isLead = true) ∧ (s.hub.link.enum = some e) ∧ (e.pos = pos.toNat) ∧ (e.step = 1)) ∧
    (let pos : BitVec 4 := 2; let e : EnumRun := { trigger := 0, pos := 2, step := 10, epoch := 1 };
      let s : State := wst [(STR_STAT_ROLE, 1)] fun h => h.link! fun l => { l with enum := some { trigger := 0, pos := 2, step := 10, rtts := [], epoch := 1 } };
      (s.hub.running = true) ∧ (s.hub.isLead = true) ∧ (s.hub.link.enum = some e) ∧ (e.pos = pos.toNat) ∧ (e.step = 10)) ∧
    (let pos : BitVec 4 := 2; let e : EnumRun := { trigger := 0, pos := 2, step := 9, rtts := [1, 2, 3, 4, 5, 6, 7], epoch := 1 };
      let s : State := wst [(STR_STAT_ROLE, 1)] fun h => h.link! fun l => { l with enum := some { trigger := 0, pos := 2, step := 9, rtts := [1, 2, 3, 4, 5, 6, 7], epoch := 1 } };
      (s.hub.running = true) ∧ (s.hub.isLead = true) ∧ (s.hub.link.enum = some e) ∧ (e.pos = pos.toNat) ∧ (2 ≤ e.step) ∧ (e.step ≤ 9)
      ∧ (e.rtts.length + 2 ≤ e.step)) :=
  ⟨by decide, by decide, by decide, by decide, by decide, by decide, by decide, by decide⟩

theorem witness_CutoffAndEnumeration_2 :
    (let q : Nat := 2; let k : Nat := 20; let s : State := wst [] fun h => h.link! fun l => { l with tentative := some (2, 20) };
      (s.hub.running = true) ∧ (s.hub.link.tentative = some (q, k)) ∧ (20 ≤ k)) ∧
    (let s : State := wst [(DEV_STRAPS_HOSTSEL, 0)]; (s.hub.running = true) ∧ (s.hub.spiHost = true)) ∧
    (let p : LinkPort := .dn; let s : State := wst [(DEV_MODE_MODE, mNAP)]; (s.hub.running = true) ∧ (s.hub.mode = mNAP)
      ∧ ((p = .up → s.hub.spiHost = false))) :=
  ⟨by decide, by decide, by decide⟩

theorem witness_RequestsExecuteOnArrival :
    (let p : List Word := []; let cyc : Nat := 0; let x : Hdr := ⟨0x10, 1, 0xF, 5, 6, 0, 0x21⟩; let c : Instr := .srd x p;
      let s : State := wst [((pState .up), 3), (STR_STAT_SVER, 2), (pHver .up, 2), (DEV_POS_VALID, 1), (DEV_POS_POS, 1), (STR_STAT_ROLE, 2)];
      (s.hub.running = true) ∧ (s.hub.portUp .up = true) ∧ (s.hub.posValid = true) ∧ (s.hub.pos = x.dest.toNat) ∧ (s.hub.link.inbox = [])
      ∧ (s.hub.link.streams.length < 8) ∧ (s.hub.creditsHeld = false) ∧ (s.hub.spiHost = false) ∧ (s.hub.get STR_STAT_SVER = 2)
      ∧ (64 < p.length ∨ (verByte (s.hub.get (pHver .up))).toNat < x.ver.toNat)
      ∧ (c ∈ [Instr.rd x p cyc, .wr x p cyc, .tbl x p cyc, .srd x p])) ∧
    (let p : List Word := []; let x : Hdr := ⟨0x10, 1, 0xF, 5, 6, 0, 0x20⟩; let cyc : Nat := 38000;
      let s : State := wst [((pState .up), 3), (STR_STAT_SVER, 2), (pHver .up, 2), (DEV_POS_VALID, 1), (DEV_POS_POS, 1), (STR_STAT_ROLE, 2)];
      (s.hub.running = true) ∧ (s.hub.portUp .up = true) ∧ (s.hub.posValid = true) ∧ (s.hub.pos = x.dest.toNat) ∧ (s.hub.link.inbox = [])
      ∧ (s.hub.link.streams.length < 8) ∧ (s.hub.creditsHeld = false) ∧ (s.hub.spiHost = false) ∧ (s.hub.get STR_STAT_SVER = 2)
      ∧ (p.length ≤ 64) ∧ (x.ver.toNat ≤ (verByte (s.hub.get (pHver .up))).toNat) ∧ (cyc ≤ 38000)) ∧
    (let p : List Word := []; let x : Hdr := ⟨0x10, 1, 0xF, 5, 6, 0, 0x20⟩; let cyc : Nat := 38800;
      let s : State := wst [((pState .up), 3), (STR_STAT_SVER, 2), (pHver .up, 2), (DEV_POS_VALID, 1), (DEV_POS_POS, 1), (STR_STAT_ROLE, 2)];
      (s.hub.running = true) ∧ (s.hub.portUp .up = true) ∧ (s.hub.posValid = true) ∧ (s.hub.pos = x.dest.toNat) ∧ (s.hub.link.inbox = [])
      ∧ (s.hub.link.streams.length < 8) ∧ (s.hub.creditsHeld = false) ∧ (s.hub.spiHost = false) ∧ (s.hub.get STR_STAT_SVER = 2)
      ∧ (p.length ≤ 64) ∧ (x.ver.toNat ≤ (verByte (s.hub.get (pHver .up))).toNat) ∧ (cyc ≤ 38800) ∧ (s.hub.frm.p1Due = false)) ∧
    (let p : List Word := []; let x : Hdr := ⟨0x10, 1, 0xF, 5, 6, 0, 0x20⟩;
      let s : State := wst [((pState .up), 3), (STR_STAT_SVER, 2), (pHver .up, 2), (DEV_POS_VALID, 1), (DEV_POS_POS, 1), (STR_STAT_ROLE, 2)];
      (s.hub.running = true) ∧ (s.hub.portUp .up = true) ∧ (s.hub.posValid = true) ∧ (s.hub.pos = x.dest.toNat) ∧ (s.hub.link.inbox = [])
      ∧ (s.hub.link.streams.length < 8) ∧ (s.hub.creditsHeld = false) ∧ (s.hub.spiHost = false) ∧ (s.hub.get STR_STAT_SVER = 2)
      ∧ (p.length ≤ 64) ∧ (x.ver.toNat ≤ (verByte (s.hub.get (pHver .up))).toNat) ∧ (srdFormat p = false)) ∧
    (let x : Hdr := ⟨0x10, 1, 0xF, 5, 6, 0, 0x20⟩; let p : List Word := [0x20, 1087, 5];
      let s : State := wst [((pState .up), 3), (STR_STAT_SVER, 2), (pHver .up, 2), (DEV_POS_VALID, 1), (DEV_POS_POS, 1), (STR_STAT_ROLE, 2)];
      (s.hub.running = true) ∧ (s.hub.portUp .up = true) ∧ (s.hub.posValid = true) ∧ (s.hub.pos = x.dest.toNat) ∧ (s.hub.link.inbox = [])
      ∧ (s.hub.link.streams.length < 8) ∧ (s.hub.creditsHeld = false) ∧ (s.hub.spiHost = false) ∧ (s.hub.get STR_STAT_SVER = 2)
      ∧ (x.ver.toNat ≤ (verByte (s.hub.get (pHver .up))).toNat) ∧ (srdFormat p = true) ∧ (bitsOf (nth p 0 0) 0 8 = 0x20)
      ∧ ((nth p 1 0).toNat < 1088)) :=
  ⟨by decide, by decide, by decide, by decide, by decide⟩

theorem witness_PacketsPassAndStream_1 :
    (let k : Packet := ⟨⟨0x30, 0xF, 1, 0, 0, 0, 0x20⟩, [], false, 0⟩; let bad : Bool := false;
      let s : State := wst [((pState .up), 3), ((pState .dn), 3), (pHver .up, 2), (STR_STAT_SVER, 2), (FRM_TOFS_TOFS, 40), (STR_STAT_ROLE, 2)] fun h => h.atCyc 2000;
      (s.hub.running = true) ∧ (s.hub.portUp .up = true) ∧ (s.hub.portUp .dn = true) ∧ (classOf k.hdr.type.toNat = none) ∧ (k.bad = false)
      ∧ (bad = false) ∧ (s.hub.fmtBad .up k = false) ∧ (s.hub.link.fwd = []) ∧ (s.mayForward k s.hub.dnIdle = true)) ∧
    (let k : Packet := ⟨⟨0x30, 0xF, 1, 0, 0, 0, 0x20⟩, [], false, 0⟩; let bad : Bool := false;
      let s : State := wst [((pState .up), 3), ((pState .dn), 3), (pHver .up, 2), (STR_STAT_SVER, 2), (FRM_TOFS_TOFS, 40), (STR_STAT_ROLE, 2)] fun h => h.link! fun l => { l with fwd := [{ pkt := ⟨⟨0x10, 5, 0xF, 0, 0, 0, 0x20⟩, [], false, 0⟩ }] };
      (s.hub.running = true) ∧ (s.hub.portUp .up = true) ∧ (s.hub.portUp .dn = true) ∧ (classOf k.hdr.type.toNat = none) ∧ (k.bad = false)
      ∧ (bad = false) ∧ (s.hub.fmtBad .up k = false) ∧ (s.hub.link.fwd ≠ [] ∨ s.mayForward k s.hub.dnIdle = false)) ∧
    (let k : Packet := ⟨⟨0x30, 0xF, 1, 0, 0, 0, 0x20⟩, [], false, 0⟩; let bad : Bool := true;
      let s : State := wst [((pState .up), 3), ((pState .dn), 3), (pHver .up, 2), (STR_STAT_SVER, 2), (FRM_TOFS_TOFS, 40), (STR_STAT_ROLE, 2)] fun h => h.atCyc 2000;
      (s.hub.running = true) ∧ (s.hub.portUp .up = true) ∧ (s.hub.portUp .dn = true) ∧ (classOf k.hdr.type.toNat = none)
      ∧ (k.bad = true ∨ bad = true ∨ s.hub.fmtBad .up k = true) ∧ (s.hub.link.fwd = []) ∧ (s.mayForward k s.hub.dnIdle = true)) ∧
    (let k : Packet := ⟨⟨0x30, 0xF, 1, 0, 0, 0, 0x20⟩, [], false, 0⟩; let bad : Bool := true;
      let s : State := wst [((pState .up), 3), ((pState .dn), 3), (pHver .up, 2), (STR_STAT_SVER, 2), (FRM_TOFS_TOFS, 40), (STR_STAT_ROLE, 2)] fun h => h.link! fun l => { l with fwd := [{ pkt := ⟨⟨0x10, 5, 0xF, 0, 0, 0, 0x20⟩, [], false, 0⟩ }] };
      (s.hub.running = true) ∧ (s.hub.portUp .up = true) ∧ (s.hub.portUp .dn = true) ∧ (classOf k.hdr.type.toNat = none)
      ∧ (k.bad = true ∨ bad = true ∨ s.hub.fmtBad .up k = true) ∧ (s.hub.link.fwd ≠ [] ∨ s.mayForward k s.hub.dnIdle = false)) ∧
    (let bad : Bool := true; let k : Packet := ⟨⟨0x11, 0xF, 1, 0, 0, 0, 0x20⟩, [], false, 0⟩;
      let s : State := wst [((pState .dn), 3), ((pState .up), 3), (STR_STAT_ROLE, 2)]; (s.hub.running = true) ∧ (s.hub.portUp .dn = true)
      ∧ (s.hub.portUp .up = true) ∧ (s.hub.get STR_STAT_ROLE = 2) ∧ (s.hub.spiHost = false) ∧ (k.hdr.type ≠ 0x52) ∧ (s.hub.link.fwd = [])
      ∧ (k.bad = true ∨ bad = true ∨ s.hub.fmtBad .dn k = false)) ∧
    (let x : Hdr := ⟨0x10, 0, 0xF, 0, 0, 0, 0x20⟩; let p : List Word := [5];
      let s : State := wst [((pState .up), 3), (STR_STAT_SVER, 2), (pHver .up, 2)]; (s.hub.running = true) ∧ (s.hub.portUp .up = true)
      ∧ (1 ≤ s.hub.get STR_STAT_SVER) ∧ (0 < diff32 (nth p 0 0).toNat s.hub.frmNo) ∧ (diff32 (nth p 0 0).toNat s.hub.frmNo < 2 ^ 20)
      ∧ ((∀ e ∈ s.hub.mea.snapPend, e.1 ≠ (nth p 0 0).toNat)) ∧ (s.hub.mea.snapPend.length < 2)
      ∧ (s.hub.fmtBad .up { hdr := { x with type := 0x30 }, payload := p } = false)) ∧
    (let s : State := wst [((pState .up), 3), (STR_STAT_SVER, 0)]; (s.hub.running = true) ∧ (s.hub.portUp .up = true)
      ∧ (s.hub.get STR_STAT_SVER = 0)) ∧
    (let rest : List Stream := []; let q : Stream := ⟨⟨0x38, 1, 0xF, 5, 6, 0, 0x20⟩, 0x20, 3, 62, 0, false⟩;
      let s : State := wst [] fun h => h.link! fun l => { l with streams := [⟨⟨0x38, 1, 0xF, 5, 6, 0, 0x20⟩, 0x20, 3, 62, 0, false⟩] };
      (s.hub.running = true) ∧ (s.hub.link.streams = q :: rest) ∧ (q.hdr.type = 0x38) ∧ (q.source < 256)) :=
  ⟨by decide, by decide, by decide, by decide, by decide, by decide, by decide, by decide⟩

theorem witness_PacketsPassAndStream_2 :
    (let ks : List Packet := []; let k : Packet := ⟨⟨0x11, 0xF, 1, 0, 0, 0, 0x20⟩, [], false, 0⟩;
      let s : State := wst [] fun h => (h.link! fun l => { l with bulk := [⟨⟨0x11, 0xF, 1, 0, 0, 0, 0x20⟩, [], false, 0⟩] }).atCyc 38000;
      (s.hub.running = true) ∧ (s.hub.spiHost = false) ∧ (s.hub.link.bulk = k :: ks) ∧ (s.hub.bulkStart k = none)) ∧
    (let ks : List Packet := []; let k : Packet := ⟨⟨0x11, 0xF, 1, 0, 0, 0, 0x20⟩, [], false, 0⟩;
      let s : State := wst [((pState .up), 3), (TST_PKT_ACT, 0)] fun h => h.link! fun l => { l with bulk := [⟨⟨0x11, 0xF, 1, 0, 0, 0, 0x20⟩, [], false, 0⟩] };
      (s.hub.running = true) ∧ (s.hub.link.bulk = k :: ks) ∧ (s.hub.spiHost = false) ∧ (s.hub.portUp .up = true)
      ∧ (s.hub.get TST_PKT_ACT = 0) ∧ (s.hub.bulkStart k ≠ none)) ∧
    (let ks : List Packet := []; let k : Packet := ⟨⟨0x39, 0xF, 1, 0, 0, 0, 0x20⟩, [], false, 0⟩;
      let s : State := wst [(DEV_STRAPS_HOSTSEL, 0)] fun h => h.link! fun l => { l with bulk := [⟨⟨0x39, 0xF, 1, 0, 0, 0, 0x20⟩, [], false, 0⟩] };
      (s.hub.running = true) ∧ (s.hub.link.bulk = k :: ks) ∧ (s.hub.spiHost = true) ∧ (k.bad = false)
      ∧ (k.hdr.type.toNat ∈ [0x11, 0x13, 0x21, 0x39])) :=
  ⟨by decide, by decide, by decide⟩

theorem witness_SpiTransactions :
    (let s : State := wst [(DEV_STRAPS_HOSTSEL, 0)]; (s.hub.running = true) ∧ (s.hub.spiHost = true) ∧ (s.spi.selected = false)) ∧
    (let mosi : List Byte := [0, 0]; let clocked : Nat := 2; let b : List Nat := [0, 0];
      let s : State := { wst [(DEV_STRAPS_HOSTSEL, 0)] with spi := { selected := true } }; (s.hub.running = true) ∧ (s.hub.spiHost = true)
      ∧ (b = (mosi.take clocked).map (·.toNat)) ∧ (s.spi.selected = true) ∧ (s.hub.link.inbox = []) ∧ (s.hub.link.fwd = [])
      ∧ (nth b 0 0 = 0)) ∧
    (let mosi : List Byte := [0x10, 0, 0, 0, 0, 0, 0, 9]; let clocked : Nat := 8; let b : List Nat := [0x10, 0, 0, 0, 0, 0, 0, 9];
      let s : State := { wst [(DEV_STRAPS_HOSTSEL, 0)] with spi := { selected := true } }; (s.hub.running = true) ∧ (s.hub.spiHost = true)
      ∧ (b = (mosi.take clocked).map (·.toNat)) ∧ (s.spi.selected = true) ∧ (s.hub.link.inbox = []) ∧ (s.hub.link.fwd = [])
      ∧ (nth b 0 0 ≠ 0) ∧ (8 ≤ b.length) ∧ (crc8 (b.take 7) ≠ nth b 7 0)) ∧
    (let mosi : List Byte := [0x10, 0x1F, 5, 1, 6, 0, 0x10, 43, 8, 0, 1, 0, 140, 2]; let clocked : Nat := 14;
      let b : List Nat := [0x10, 0x1F, 5, 1, 6, 0, 0x10, 43, 8, 0, 1, 0, 140, 2];
      let k : Packet := ⟨⟨0x10, 1, 0xF, 5, 6, 0, 0x10⟩, [0x00010008], false, 0⟩; let c : Nat := 0;
      let s : State := { wst [(DEV_STRAPS_HOSTSEL, 0), (credUp 0, 0)] with spi := { selected := true } }; (s.hub.running = true)
      ∧ (s.hub.spiHost = true) ∧ (b = (mosi.take clocked).map (·.toNat)) ∧ (s.spi.selected = true) ∧ (s.hub.link.inbox = [])
      ∧ (s.hub.link.fwd = []) ∧ (spiRequest (s.hub.get STR_STAT_SVER) b = (0, some k)) ∧ (classOf k.hdr.type.toNat = some c)
      ∧ (s.hub.get (credUp c) = 0)) ∧
    (let mosi : List Byte := [0x10, 0x1F, 5, 1, 6, 0, 0x10, 43, 8, 0, 1, 0, 140, 2]; let clocked : Nat := 14;
      let b : List Nat := [0x10, 0x1F, 5, 1, 6, 0, 0x10, 43, 8, 0, 1, 0, 140, 2];
      let k : Packet := ⟨⟨0x10, 1, 0xF, 5, 6, 0, 0x10⟩, [0x00010008], false, 0⟩; let c : Nat := 0;
      let s : State := { wst [(DEV_STRAPS_HOSTSEL, 0), (credUp 0, 1)] with spi := { selected := true } }; (s.hub.running = true)
      ∧ (s.hub.spiHost = true) ∧ (b = (mosi.take clocked).map (·.toNat)) ∧ (s.spi.selected = true) ∧ (s.hub.link.inbox = [])
      ∧ (s.hub.link.fwd = []) ∧ (spiRequest (s.hub.get STR_STAT_SVER) b = (0, some k)) ∧ (classOf k.hdr.type.toNat = some c)
      ∧ (s.hub.get (credUp c) ≠ 0)) :=
  ⟨by decide, by decide, by decide +kernel, by decide +kernel, by decide +kernel⟩

theorem witness_TwoWireTransactionsAndLine_1 :
    (let idx : BitVec 16 := 0; let pec : Bool := true; let cyc : Nat := 0; let cmd : Byte := 0; let b : List Byte := [];
      let c : Instr := .last true; let s : State := wst []; (s.hub.running = true) ∧ (s.hub.frm.first = true) ∧ (s.hub.windowOver = false)
      ∧ (c ∈ [Instr.twbRead idx pec cyc, .twbWrite cmd b cyc, .attn pec, .last pec, .formatError cmd 1])) ∧
    (let idx : BitVec 16 := 0; let pec : Bool := true; let cyc : Nat := 0; let cmd : Byte := 0; let b : List Byte := [];
      let c : Instr := .last true;
      let s : State := wst [] fun h => ((h.frm! fun x => { x with first := false }).setPage 0x0D { commit := true }).twb! fun t => { t with commit := some 0x0D };
      (s.hub.running = true) ∧ (s.hub.frm.first = false) ∧ (s.hub.twbBusy = true) ∧ (s.hub.windowOver = false)
      ∧ (c ∈ [Instr.twbRead idx pec cyc, .twbWrite cmd b cyc, .attn pec, .last pec, .formatError cmd 1])) ∧
    (let idx : BitVec 16 := 8; let s : State := wst [] fun h => h.frm! fun x => { x with first := false }; (s.hub.running = true)
      ∧ (s.hub.frm.first = false) ∧ (s.hub.twbBusy = false) ∧ (idx.toNat ∉ [IRQ_ACKE_VECTOR.idx, IRQ_ACKW_VECTOR.idx])
      ∧ (s.hub.byteBad .w idx.toNat = false)) ∧
    (let cmd : Byte := 0x3F; let b : List Byte := [8, 0, 1, 2, 3, 4];
      let s : State := wst [] fun h => h.frm! fun x => { x with first := false }; (s.hub.running = true) ∧ (s.hub.frm.first = false)
      ∧ (s.hub.twbBusy = false) ∧ (0x31 ≤ cmd.toNat) ∧ (cmd.toNat ≤ 0x3F) ∧ (b.length = 6) ∧ (s.hub.cfgSafe TWB_CTL_PEC_EN = 0)) ∧
    (let cmd : Byte := 0x31; let b : List Byte := [8, 0, 1, 2, 3, 4, 0];
      let s : State := wst [] fun h => h.frm! fun x => { x with first := false }; (s.hub.running = true) ∧ (s.hub.frm.first = false)
      ∧ (s.hub.twbBusy = false) ∧ (0x31 ≤ cmd.toNat) ∧ (cmd.toNat ≤ 0x3F) ∧ (7 ≤ b.length)
      ∧ ((nth b 6 0).toNat ≠ crc8 (s.hub.twbAddr :: cmd.toNat :: (b.take 6).map (·.toNat)))) ∧
    (let cmd : Byte := 0x31; let b : List Byte := [8, 0, 1, 2, 3];
      let s : State := wst [] fun h => h.frm! fun x => { x with first := false }; (s.hub.running = true) ∧ (s.hub.frm.first = false)
      ∧ (s.hub.twbBusy = false) ∧ (0x31 ≤ cmd.toNat) ∧ (cmd.toNat ≤ 0x3F) ∧ (b.length < 6)) ∧
    (let cmd : Byte := 0x30; let cause : Byte := 2; let s : State := wst [] fun h => h.frm! fun x => { x with first := false };
      (s.hub.running = true) ∧ (s.hub.frm.first = false) ∧ (s.hub.twbBusy = false) ∧ (cause.toNat = fmtCause cmd.toNat) ∧ (cause ≠ 0)) ∧
    (let s : State := wst [(TWB_STAT_ALERT, 1)] fun h => h.frm! fun x => { x with first := false }; (s.hub.running = true)
      ∧ (s.hub.frm.first = false) ∧ (s.twbSettle.hub.flag TWB_STAT_ALERT = true)) :=
  ⟨by decide, by decide, by decide, by decide, by decide +kernel, by decide, by decide, by decide⟩

theorem witness_TwoWireTransactionsAndLine_2 :
    (let s : State := wst [(TWB_STAT_ALERTMODE, 0), (IRQS_SRC_EN.nth 5, 1), (IRQS_SRC_TGT.nth 5, 1), (pendFld 5, 1)]; (s.hub.running = true)
      ∧ (s.pulseDue = true)) ∧
    (let s : State := wst [(TWB_STAT_ALERTMODE, 0)] fun h => h.twb! fun t => { t with pulseVec := some (some 5) }; (s.hub.running = true)
      ∧ (s.hub.collideDue = true)) ∧
    (let s : State := wst [] fun h => h.twb! fun t => { t with commit := some 0x0D }; (s.hub.running = true) ∧ (s.hub.windowOver = true)) ∧
    (let s : State := wst [(TWB_STAT_QUIET, 1)] fun h => h.twb! fun t => { t with quiet := 5 }; (s.hub.running = true)
      ∧ (s.hub.flag TWB_STAT_QUIET = true) ∧ (5 ≤ s.hub.twb.quiet)) ∧
    (let s : State := wst [(TWB_CTL_REMIND, 10), (IRQS_SRC_EN.nth 5, 1), (IRQS_SRC_TGT.nth 5, 1), (pendFld 5, 1)] fun h => h.twb! fun t => { t with seen := some 5, sinceAttn := 100 };
      (s.hub.running = true) ∧ (s.remindDue = true)) :=
  ⟨by decide, by decide, by decide, by decide, by decide⟩

theorem witness_InterruptsAreAcknowledgedAndEnded :
    (let port : Port := .e; let target : Port := .e; let v : Nat := 5; let s : State := wst [(IRQS_SRC_EN.nth 5, 1), (pendFld 5, 1)];
      (s.hub.running = true) ∧ (s.hub.byteBad port (match target with | .e => IRQ_ACKE_VECTOR.idx | .w => IRQ_ACKW_VECTOR.idx) = false)
      ∧ (s.presents target = some v)) ∧
    (let port : Port := .e; let target : Port := .e; let s : State := wst []; (s.hub.running = true)
      ∧ (s.hub.byteBad port (match target with | .e => IRQ_ACKE_VECTOR.idx | .w => IRQ_ACKW_VECTOR.idx) = false)
      ∧ (s.presents target = none)) ∧
    (let target : Port := .e; let s : State := wst []; (s.hub.running = true) ∧ (s.irq.queued target < 8)) ∧
    (let target : Port := .e;
      let s : State := { State.reset with irq := { eoi := [(.e, 1), (.e, 1), (.e, 1), (.e, 1), (.e, 1), (.e, 1), (.e, 1), (.e, 1)] } };
      (s.hub.running = true) ∧ (8 ≤ s.irq.queued target)) ∧
    (let val : Word := 192; let s : State := wst []; (s.hub.running = true) ∧ (192 ≤ bitsOf val 0 8)) ∧
    (let val : Word := 191; let s : State := wst []; (s.hub.running = true) ∧ (bitsOf val 0 8 < 192)) :=
  ⟨by decide, by decide, by decide, by decide, by decide, by decide⟩

theorem witness_WatchdogJudgesAndPhasesEnd_1 :
    (let be : BitVec 4 := 15; let val : Word := 0xC3A5000F; let k : Nat := 15;
      let s : State := wst [(WDT_STAT_STATE, 3)] fun h => h.wd! fun w => { w with tasks := 0x8001 }; (s.hub.running = true)
      ∧ (k = val.toNat % 256) ∧ (s.hub.wdtSt = 3) ∧ (s.hub.wd.failed = false) ∧ (be = 15) ∧ (val.toNat / 256 = 0xC3A500) ∧ (k < 16)
      ∧ (s.hub.wd.tasks.testBit k = true) ∧ ((s.hub.get WDT_DONE_DONE).testBit k = false)) ∧
    (let be : BitVec 4 := 15; let val : Word := 0xC3A5000F; let k : Nat := 15;
      let s : State := wst [(WDT_STAT_STATE, 3), (WDT_DONE_DONE, 0x8000)] fun h => h.wd! fun w => { w with tasks := 0x8001 };
      (s.hub.running = true) ∧ (k = val.toNat % 256) ∧ (s.hub.wdtSt = 3) ∧ (s.hub.wd.failed = false) ∧ (be = 15)
      ∧ (val.toNat / 256 = 0xC3A500) ∧ (k < 16) ∧ (s.hub.wd.tasks.testBit k = true) ∧ ((s.hub.get WDT_DONE_DONE).testBit k = true)) ∧
    (let be : BitVec 4 := 7; let val : Word := 0xC3A50000; let k : Nat := 0;
      let s : State := wst [(WDT_STAT_STATE, 3)] fun h => h.wd! fun w => { w with tasks := 0x8001 }; (s.hub.running = true)
      ∧ (k = val.toNat % 256) ∧ ((s.hub.wdtSt = 3 ∨ s.hub.wdtSt = 2 ∧ s.hub.get WDT_LEFT_FRAMES ≠ 0)) ∧ (s.hub.wd.failed = false)
      ∧ ((be ≠ 15 ∨ val.toNat / 256 ≠ 0xC3A500 ∨ 16 ≤ k ∨ s.hub.wd.tasks.testBit k = false))) ∧
    (let be : BitVec 4 := 15; let val : Word := 0xC3A5000F; let k : Nat := 15;
      let s : State := wst [(WDT_STAT_STATE, 2), (WDT_LEFT_FRAMES, 1)] fun h => h.wd! fun w => { w with tasks := 0x8001 };
      (s.hub.running = true) ∧ (k = val.toNat % 256) ∧ (s.hub.wdtSt = 2) ∧ (s.hub.get WDT_LEFT_FRAMES ≠ 0) ∧ (s.hub.wd.failed = false)
      ∧ (be = 15) ∧ (val.toNat / 256 = 0xC3A500) ∧ (k < 16) ∧ (s.hub.wd.tasks.testBit k = true)) ∧
    (let val : Word := 0xC3A5000F; let k : Nat := 15;
      let s : State := wst [(WDT_STAT_STATE, 2), (WDT_LEFT_FRAMES, 1)] fun h => h.wd! fun w => { w with failed := true };
      (s.hub.running = true) ∧ (k = val.toNat % 256) ∧ ((s.hub.wdtSt = 3 ∨ s.hub.wdtSt = 2 ∧ s.hub.get WDT_LEFT_FRAMES ≠ 0))
      ∧ (s.hub.wd.failed = true)) ∧
    (let val : Word := 0; let k : Nat := 0; let s : State := wst [(WDT_STAT_STATE, 4)]; (s.hub.running = true) ∧ (k = val.toNat % 256)
      ∧ (s.hub.wdtSt = 1 ∨ s.hub.wdtSt = 4)) ∧
    (let s : State := wst [(WDT_STAT_STATE, 2)]; (s.hub.running = true) ∧ (s.hub.wdtOpenDue = true)) ∧
    (let s : State := wst [(WDT_STAT_STATE, 3), (WDT_LEFT_FRAMES, 1)]; (s.hub.running = true) ∧ (s.hub.wdtMissingDue = true)) :=
  ⟨by decide, by decide, by decide, by decide, by decide, by decide, by decide, by decide⟩

theorem witness_WatchdogJudgesAndPhasesEnd_2 :
    (let s : State := wst [] fun h => (h.md! fun m => { m with rstPulse := true }).wd! fun w => { w with rstRun := 100 };
      (s.hub.running = true) ∧ (s.hub.rstOutDue = true)) :=
  by decide

theorem witness_CalendarRunsAndIsTrusted_1 :
    (let s : State := wst [(RTC_STAT_SLAVED, 0), (RTC_EPOCH_SECONDS, calendarEnd - 2), (RTC_CTL_HALT, 0)] fun h => h.rtc! fun r => { r with ran := 9900 };
      (s.hub.rtcSecondDue = true) ∧ (s.hub.get RTC_STAT_SLAVED = 0) ∧ (s.hub.get RTC_EPOCH_SECONDS + 1 < calendarEnd)) ∧
    (let s : State := wst [(RTC_STAT_SLAVED, 0), (RTC_EPOCH_SECONDS, calendarEnd - 1), (RTC_CTL_HALT, 0)] fun h => h.rtc! fun r => { r with ran := 9900 };
      (s.hub.rtcSecondDue = true) ∧ (s.hub.get RTC_STAT_SLAVED = 0) ∧ (calendarEnd ≤ s.hub.get RTC_EPOCH_SECONDS + 1)) ∧
    (let s : State := wst [] fun h => h.rtc! fun r => { r with ran := 9899 }; (s.hub.running = true) ∧ (s.hub.rtc.ran < 9900)) ∧
    (let s : State := wst [(RTC_CTL_HALT, 0)]; (s.hub.rtcTrimDue = true)) ∧
    (let s : State := wst []; (s.hub.rtc.kresStopped = false)) ∧
    (let s : State := wst [(RTC_STAT_ONKEEP, 0)]; (s.hub.get RTC_STAT_ONKEEP = 0)) ∧
    (let s : State := wst [(RTC_STAT_ONKEEP, 1)]; (s.hub.get RTC_STAT_ONKEEP = 1)) ∧
    (let s : State := wst [(RTC_STAT_SLAVED, 1)] fun h => h.rtc! fun r => { r with slaveAge := 20000 }; (s.hub.running = true)
      ∧ (s.hub.slaveLostDue = true)) :=
  ⟨by decide, by decide, by decide, by decide, by decide, by decide, by decide, by decide⟩

theorem witness_CalendarRunsAndIsTrusted_2 :
    (let port : Port := .w; let s : State := wst []; (s.hub.running = true) ∧ (s.hub.byteBad port RTC_TIME_SEC.idx = false)) ∧
    (let s : State := wst [] fun h => h.md! fun m => { m with power := .off }; (s.hub.running = false)) :=
  ⟨by decide, by decide⟩

theorem witness_KeysChallengesAndSessions_1 :
    (let port : Port := .e; let slot : BitVec 2 := 1; let s : State := wst []; (s.hub.running = true) ∧ (s.hub.fenced 0x1F = false)
      ∧ (slot.toNat < 2) ∧ ((s.hub.get KEY_STAT_SLOTSET).testBit slot.toNat = false) ∧ ((∀ e ∈ s.hub.keys.progBusy, e.1 ≠ slot.toNat))
      ∧ (s.hub.quietRefuses port = false)) ∧
    (let slot : BitVec 2 := 1; let s : State := wst [(KEY_STAT_SLOTSET, 2)]; (s.hub.running = true) ∧ (s.hub.fenced 0x1F = false)
      ∧ (slot.toNat < 2) ∧ ((s.hub.get KEY_STAT_SLOTSET).testBit slot.toNat = true ∨ (∃ e ∈ s.hub.keys.progBusy, e.1 = slot.toNat))) ∧
    (let slot : BitVec 2 := 1; let op : Byte := 2; let s : State := wst [(KEY_STAT_LOCKOUT, 0)]; (s.hub.running = true)
      ∧ (s.hub.fenced 0x1F = false) ∧ (slot.toNat < 2) ∧ (op.toNat ≤ 2) ∧ (s.hub.get KEY_STAT_LOCKOUT = 0)) ∧
    (let slot : BitVec 2 := 1; let s : State := wst [(KEY_STAT_LOCKOUT, 1)]; (s.hub.running = true) ∧ (s.hub.fenced 0x1F = false)
      ∧ (slot.toNat < 2) ∧ (s.hub.get KEY_STAT_LOCKOUT = 1)) ∧
    (let port : Port := .e; let slot : BitVec 2 := 1; let c : Instr := .authService .e 1; let n : Nat := 1;
      let s : State := wst [(KEY_STAT_SLOTSET, 2), (KEY_STAT_CHALVALID, 1)]; (s.hub.running = true) ∧ (s.hub.fenced 0x1F = false)
      ∧ (slot.toNat < 2) ∧ ((c = .authService port slot ∧ n = 1 ∨ c = .authClear port slot ∧ n = 2))
      ∧ ((s.hub.authCheck slot.toNat n).1 = 0) ∧ (s.hub.quietRefuses port = false)) ∧
    (let port : Port := .e; let slot : BitVec 2 := 1; let c : Instr := .authClear .e 1; let n : Nat := 2; let s : State := wst [];
      (s.hub.running = true) ∧ (s.hub.fenced 0x1F = false) ∧ (slot.toNat < 2) ∧ ((c = .authService port slot
      ∧ n = 1 ∨ c = .authClear port slot ∧ n = 2)) ∧ ((s.hub.authCheck slot.toNat n).1 ≠ 0)) ∧
    (let s : State := wst [(KEY_STAT_CHALVALID, 1)] fun h => h.key! fun k => { k with chalAge := 600000 }; (s.hub.running = true)
      ∧ (s.hub.get KEY_STAT_CHALVALID = 1) ∧ (600000 ≤ s.hub.keys.chalAge)) ∧
    (let s : State := wst [(KEY_STAT_SESSION, 1)] fun h => h.key! fun k => { k with sessAge := 600000 }; (s.hub.running = true)
      ∧ (s.hub.get KEY_STAT_SESSION = 1) ∧ (s.hub.keys.sessService = false) ∧ (600000 ≤ s.hub.keys.sessAge)) :=
  ⟨by decide, by decide, by decide, by decide, by decide, by decide, by decide, by decide⟩

theorem witness_KeysChallengesAndSessions_2 :
    (let s : State := wst [(KEY_STAT_LOCKOUT, 1), (KEY_LOCKLEFT_LEFT, 0)]; (s.hub.running = true) ∧ (s.hub.get KEY_STAT_LOCKOUT = 1)
      ∧ (s.hub.get KEY_LOCKLEFT_LEFT = 0)) ∧
    (let c : Int := -5; let s : State := wst [] fun h => h.tst! fun t => { t with skew := some (-5) }; (s.hub.running = true)
      ∧ (s.hub.tst.skew = some c)) ∧
    (let us : Nat := 0; let start : Bool := true; let s : State := wst [(TST_SUPCHAT_EN, 1)]; (s.hub.running = true)
      ∧ (s.hub.get TST_SUPCHAT_EN = 1) ∧ (us % s.hub.get TST_SUPCHAT_PERIOD = (if start = true then 0 else s.hub.get TST_SUPCHAT_WIDTH))) :=
  ⟨by decide, by decide, by decide⟩

theorem witness_SuppliesStrapsAndContacts_1 :
    (let src : Supply := .battery; let s : State := wst [] fun h => h.md! fun m => { m with power := .off }; (s.hub.porDue src = true)) ∧
    (let ex : ShipExitSrc := .wake; let s : State := wst [] fun h => h.md! fun m => { m with power := .ship, wakeLow := true };
      (s.hub.shipExitDue ex = true)) ∧
    (let s : State := wst [] fun h => h.md! fun m => { m with wakeLow := true }; (s.hub.longPressDue = true)) ∧
    (let s : State := wst [] fun h => h.md! fun m => { m with power := .booting }; (s.hub.md.power = .booting)
      ∧ (s.hub.md.straps.count < 10)) ∧
    (let s : State := wst [] fun h => h.md! fun m => { m with power := .booting, straps := { count := 10, accepted := 7 } };
      (s.hub.md.power = .booting) ∧ (10 ≤ s.hub.md.straps.count) ∧ (s.hub.md.straps.accepted ≠ 15)) ∧
    (let s : State := wst [] fun h => h.md! fun m => { m with power := .standby }; (s.hub.md.power ≠ .off) ∧ (s.hub.md.wakeLow = false)) ∧
    (let s : State := wst [] fun h => h.md! fun m => { m with wakeLow := true }; (s.hub.md.power ≠ .off) ∧ (s.hub.md.wakeLow = true)) ∧
    (let s : State := wst []; (s.hub.phantomHeeded = true)) :=
  ⟨by decide, by decide, by decide, by decide, by decide, by decide, by decide, by decide⟩

theorem witness_SuppliesStrapsAndContacts_2 :
    (let s : State := wst [] fun h => h.md! fun m => { m with power := .standby, retained := some false }; (s.hub.phantomHeeded = false)) ∧
    (let s : State := wst [] fun h => h.md! fun m => { m with phantom := true }; (s.hub.running = true) ∧ (s.hub.phantomEntryDue = true)) ∧
    (let s : State := wst [(DEV_MODE_MODE, 7)] fun h => h.md! fun m => { m with serviceByPhantom := true }; (s.hub.running = true)
      ∧ (s.hub.phantomExitDue = true)) :=
  ⟨by decide, by decide, by decide⟩

theorem witness_ColdStartLeavesReady :
    (let inp : ColdIn := ⟨.readError, 0, [], true⟩;
      let s : State := wst [] fun h => h.md! fun m => { m with power := .booting, straps := { accepted := 15, value := 0b0101 } };
      let v : BitVec 4 := s.hub.md.straps.value ||| ~~~ s.hub.md.straps.accepted; let only : Bool := false; (s.hub.md.power = .booting)
      ∧ (v = s.hub.md.straps.value ||| ~~~ s.hub.md.straps.accepted) ∧ (only = (inp.phantomOnly && v.getLsbD 3 && !s.hub.anyFeedOn))
      ∧ ((inp.phantomOnly && !v.getLsbD 3 && !s.hub.anyFeedOn) = true)) ∧
    (let inp : ColdIn := ⟨.readError, 0, [], false⟩;
      let s : State := wst [] fun h => h.md! fun m => { m with power := .booting, straps := { accepted := 15, value := 0b1101 } };
      let v : BitVec 4 := s.hub.md.straps.value ||| ~~~ s.hub.md.straps.accepted; let only : Bool := false; (s.hub.md.power = .booting)
      ∧ (v = s.hub.md.straps.value ||| ~~~ s.hub.md.straps.accepted) ∧ (only = (inp.phantomOnly && v.getLsbD 3 && !s.hub.anyFeedOn))
      ∧ ((inp.phantomOnly && !v.getLsbD 3 && !s.hub.anyFeedOn) = false)) :=
  ⟨by decide, by decide⟩

theorem witness_FramesTickAndOverrun :
    (let s : State := wst [] fun h => h.frm! fun x => { x with first := false };
      let no : Nat := (if s.hub.frm.first = true then 0 else if s.hub.frm.hold = true then s.hub.get FRM_NO_NO else if s.hub.frm.skipNow = true then (s.hub.get FRM_NO_NO + 2) % 2 ^ 32 else (s.hub.get FRM_NO_NO + 1) % 2 ^ 32);
      (s.hub.running = true)
      ∧ (no = (if s.hub.frm.first = true then 0 else if s.hub.frm.hold = true then s.hub.get FRM_NO_NO else if s.hub.frm.skipNow = true then (s.hub.get FRM_NO_NO + 2) % 2 ^ 32 else (s.hub.get FRM_NO_NO + 1) % 2 ^ 32))
      ∧ (s.hub.mode ≠ mNAP) ∧ (mapFind s.hub.pend 0x0208 = none) ∧ ((s.hub.page 0x02).commit = false) ∧ ((s.hub.page 0x02).srst = none)) ∧
    (let s : State := wst [(DEV_MODE_MODE, mNAP)] fun h => h.frm! fun x => { x with first := false };
      let no : Nat := (if s.hub.frm.first = true then 0 else if s.hub.frm.hold = true then s.hub.get FRM_NO_NO else if s.hub.frm.skipNow = true then (s.hub.get FRM_NO_NO + 2) % 2 ^ 32 else (s.hub.get FRM_NO_NO + 1) % 2 ^ 32);
      (s.hub.running = true)
      ∧ (no = (if s.hub.frm.first = true then 0 else if s.hub.frm.hold = true then s.hub.get FRM_NO_NO else if s.hub.frm.skipNow = true then (s.hub.get FRM_NO_NO + 2) % 2 ^ 32 else (s.hub.get FRM_NO_NO + 1) % 2 ^ 32))
      ∧ (s.hub.mode = mNAP)) ∧
    (let k : Nat := 1; let s : State := wst [] fun h => (h.tst! fun t => { t with ovr := 2 }).frm! fun x => { x with p2Due := true };
      let no : Nat := (if s.hub.frm.first = true then 0 else if s.hub.frm.hold = true then s.hub.get FRM_NO_NO else if s.hub.frm.skipNow = true then (s.hub.get FRM_NO_NO + 2) % 2 ^ 32 else (s.hub.get FRM_NO_NO + 1) % 2 ^ 32);
      (s.hub.running = true)
      ∧ (no = (if s.hub.frm.first = true then 0 else if s.hub.frm.hold = true then s.hub.get FRM_NO_NO else if s.hub.frm.skipNow = true then (s.hub.get FRM_NO_NO + 2) % 2 ^ 32 else (s.hub.get FRM_NO_NO + 1) % 2 ^ 32))
      ∧ (k < 2) ∧ (s.hub.tst.ovr.testBit k = true) ∧ ((k = 0 → s.hub.frm.p1Due = true)) ∧ ((k = 1 → s.hub.frm.p2Due = true
      ∧ s.hub.frm.p1Due = false))) ∧
    (let s : State := wst [] fun h => h.frm! fun x => { x with stallDue := true };
      let no : Nat := (if s.hub.frm.first = true then 0 else if s.hub.frm.hold = true then s.hub.get FRM_NO_NO else if s.hub.frm.skipNow = true then (s.hub.get FRM_NO_NO + 2) % 2 ^ 32 else (s.hub.get FRM_NO_NO + 1) % 2 ^ 32);
      (s.hub.running = true)
      ∧ (no = (if s.hub.frm.first = true then 0 else if s.hub.frm.hold = true then s.hub.get FRM_NO_NO else if s.hub.frm.skipNow = true then (s.hub.get FRM_NO_NO + 2) % 2 ^ 32 else (s.hub.get FRM_NO_NO + 1) % 2 ^ 32))
      ∧ (s.hub.frm.stallDue = true)) ∧
    (let s : State := wst [] fun h => h.frm! fun x => { x with ophDue := true };
      let no : Nat := (if s.hub.frm.first = true then 0 else if s.hub.frm.hold = true then s.hub.get FRM_NO_NO else if s.hub.frm.skipNow = true then (s.hub.get FRM_NO_NO + 2) % 2 ^ 32 else (s.hub.get FRM_NO_NO + 1) % 2 ^ 32);
      (s.hub.running = true)
      ∧ (no = (if s.hub.frm.first = true then 0 else if s.hub.frm.hold = true then s.hub.get FRM_NO_NO else if s.hub.frm.skipNow = true then (s.hub.get FRM_NO_NO + 2) % 2 ^ 32 else (s.hub.get FRM_NO_NO + 1) % 2 ^ 32))
      ∧ (s.hub.frm.ophDue = true)) :=
  ⟨by decide, by decide, by decide, by decide, by decide⟩

theorem witness_FollowersTakeTicks :
    (let k : TickPkt := ⟨[5, 0, 0, 0, 0, 0, 0, 0, 0, 0, 0, 0]⟩; let a : Int := -20000; let w : Nat → Word := fun i => nth k.words i 0;
      let s : State := wst [(STR_STAT_ROLE, 2), (pState .up, 3), (DEV_POS_VALID, 1), (DEV_POS_POS, 1)]; (s.hub.running = true)
      ∧ (s.hub.isFollower = true) ∧ (s.hub.portUp .up = true) ∧ (s.hub.posValid = true) ∧ (bitsOf (w 11) 9 1 = 0)
      ∧ (s.hub.frm.tofsBad = false) ∧ ((s.hub.frm.skipNow = false ∨ s.hub.link.tickGot = false))
      ∧ ((s.hub.wdtSt = 4 → (w 11).getLsbD 4 = false)) ∧ ((a < 0 ∨ s.hub.frm.p1Due = false ∧ s.hub.frm.p2Due = false
      ∧ s.hub.link.inbox = []))) ∧
    (let k : TickPkt := ⟨[5]⟩; let w : Nat → Word := fun i => nth k.words i 0;
      let s : State := wst [(STR_STAT_ROLE, 2), (pState .up, 3), (DEV_POS_VALID, 1), (DEV_POS_POS, 1)] fun h => (h.link! fun l => { l with tickGot := true }).frm! fun x => { x with skipNow := true };
      (s.hub.running = true) ∧ (s.hub.isFollower = true) ∧ (s.hub.portUp .up = true) ∧ (s.hub.posValid = true) ∧ (bitsOf (w 11) 9 1 = 0)
      ∧ (s.hub.frm.skipNow = true) ∧ (s.hub.link.tickGot = true) ∧ (s.hub.wdtSt ≠ 4)) ∧
    (let k : TickPkt := ⟨[5]⟩;
      let s : State := wst [(STR_STAT_ROLE, 2), (pState .up, 3), (DEV_POS_VALID, 1), (DEV_POS_POS, 1)] fun h => (h.tst! fun t => { t with ovr := 3 }).frm! fun x => { x with p1Due := true, first := false };
      (s.hub.running = true) ∧ (s.hub.isFollower = true) ∧ (s.hub.portUp .up = true) ∧ (s.hub.posValid = true)
      ∧ (s.hub.link.tickGot = false) ∧ (s.hub.link.tickMissed = false) ∧ (s.hub.frm.first = false) ∧ (s.hub.mode ≠ mNAP)) ∧
    (let k : TickPkt := ⟨[5]⟩; let s : State := wst [(STR_STAT_ROLE, 2), (pState .up, 3), (DEV_POS_VALID, 1), (DEV_POS_POS, 1)];
      (s.hub.running = true) ∧ (s.hub.isFollower = true) ∧ (s.hub.portUp .up = true) ∧ (s.hub.posValid = true)
      ∧ ((s.hub.link.tickGot = true ∨ s.hub.link.tickMissed = true ∨ s.hub.frm.first = true ∨ s.hub.mode = mNAP))) ∧
    (let k : TickPkt := ⟨[5]⟩; let f : Word := 9;
      let s : State := wst [(STR_STAT_ROLE, 2), (pState .up, 3), (DEV_POS_VALID, 1), (DEV_POS_POS, 1), (SEC_STAT_GAP, 1)] fun h => h.sec! fun x => { x with haveTravel := true, needFrm := 9 };
      (s.hub.running = true) ∧ (s.hub.isFollower = true) ∧ (s.hub.portUp .up = true) ∧ (s.hub.posValid = true)
      ∧ (s.hub.get SEC_STAT_GAP = 1) ∧ (s.hub.sec.haveTravel = true) ∧ (0 ≤ diff32 f.toNat s.hub.sec.needFrm)
      ∧ ((∀ u ∈ s.hub.sec.queue, u.frm ≠ f.toNat))) :=
  ⟨by decide, by decide, by decide, by decide, by decide⟩

theorem witness_LowPowerModesAndWakes :
    (let s : State := wst [] fun h => h.md! fun m => { m with goingDown := some .ship, downFrames := 10000 }; (s.hub.running = true)
      ∧ (s.hub.shipEnterDue = true)) ∧
    (let s : State := wst [(DEV_IDLET_IDLE_T, 1)] fun h => h.md! fun m => { m with idleRun := 10 }; (s.hub.running = true)
      ∧ (s.hub.idleRunOut = true)) ∧
    (let s : State := wst [(DEV_MODE_MODE, mNAP), (DEV_CTL_AUTO_STBY, 1)] fun h => h.md! fun m => { m with idleExpired := true };
      (s.hub.running = true) ∧ (s.hub.mode = mNAP) ∧ (s.hub.single = true) ∧ (s.hub.md.waking = false) ∧ (s.hub.stbyRule = true)) ∧
    (let kind : LowPower := .standby;
      let s : State := wst [(STR_STAT_ROLE, 1), (STR_STAT_NHUBS, 2)] fun h => h.md! fun m => { m with stbyRun := 10 };
      (s.hub.running = true) ∧ (s.hub.broadcastDue kind = true)) ∧
    (let src : WakeSrc := .wakePin; let c : Instr := .napWake .wakePin; let s : State := wst [(DEV_MODE_MODE, 2)]; ((c = .napWake src
      ∧ s.hub.napWakeDue src = true ∨ c = .napTimedWake ∧ s.hub.timedWakeDue = true)) ∧ (s.hub.running = true) ∧ (s.hub.md.waking = false)
      ∧ (s.hub.md.goingDown = none)) ∧
    (let src : WakeSrc := .wakePin; let c : Instr := .standbyWake .wakePin;
      let s : State := wst [] fun h => h.md! fun m => { m with power := .standby }; ((c = .standbyWake src
      ∧ s.hub.standbyWakeDue src = true ∨ c = .standbyWakeTimer ∧ s.hub.standbyTimerDue = true))) ∧
    (let s : State := wst [(DEV_MODE_MODE, mNAP)] fun h => h.md! fun m => { m with waking := true }; (s.hub.md.waking = true)
      ∧ (s.hub.mode = mNAP)) ∧
    (let s : State := wst [(DEV_MODE_MODE, mSTANDBY)] fun h => h.md! fun m => { m with waking := true, power := .standby };
      (s.hub.md.waking = true) ∧ (s.hub.md.power = .standby) ∧ (s.hub.mode = mSTANDBY)) :=
  ⟨by decide, by decide, by decide, by decide, by decide, by decide, by decide, by decide⟩

theorem witness_ClocksAreMonitored_1 :
    (let m : ClkMon := .clkin; let s : State := wst [(CLK_MONCTL_EN, 3)]; (s.hub.running = true)
      ∧ ((s.hub.cfgSafe CLK_MONCTL_EN).testBit (monNum m) = false)) ∧
    (let m : ClkMon := .mosc; let count : Nat := 1344;
      let s : State := wst [(CLK_MONCTL_EN, 1)] fun h => h.clk! fun c => { c with good := [1, 1, 1, 1, 1] }; (s.hub.running = true)
      ∧ ((s.hub.cfgSafe CLK_MONCTL_EN).testBit (monNum m) = true) ∧ (m ∈ [ClkMon.mosc, .clkin, .kres]) ∧ ((s.hub.monBounds m).1 ≤ count)
      ∧ (count ≤ (s.hub.monBounds m).2) ∧ (1 ≤ nth s.hub.clk.good (monNum m) 0)) ∧
    (let m : ClkMon := .mosc; let count : Nat := 0; let s : State := wst [(CLK_MONCTL_EN, 1), (CLK_STAT_MOSC_RDY, 1)];
      (s.hub.running = true) ∧ ((s.hub.cfgSafe CLK_MONCTL_EN).testBit (monNum m) = true) ∧ (m ∈ [ClkMon.mosc, .clkin])
      ∧ ((count < (s.hub.monBounds m).1 ∨ (s.hub.monBounds m).2 < count)) ∧ (s.hub.ready (monCode m) = true)) ∧
    (let count : Nat := 0; let s : State := wst [((CLK_MONSTAT_FAILNOW), 0), (CLK_MONCTL_EN, 8)]; (s.hub.running = true)
      ∧ ((s.hub.cfgSafe CLK_MONCTL_EN).testBit 3 = true) ∧ (s.hub.get (CLK_MONSTAT_FAILNOW) = 0)
      ∧ ((count < (s.hub.monBounds .pll).1 ∨ (s.hub.monBounds .pll).2 < count))) ∧
    (let count : Nat := 0; let s : State := wst [(CLK_MONCTL_EN, 16), (CLK_STAT_KRES_RDY, 1)]; (s.hub.running = true)
      ∧ ((s.hub.cfgSafe CLK_MONCTL_EN).testBit 4 = true) ∧ (s.hub.ready 5 = true)
      ∧ ((count < (s.hub.monBounds .kres).1 ∨ (s.hub.monBounds .kres).2 < count))) ∧
    (let count : Nat := 0; let s : State := wst [(CLK_MONCTL_EN, 2), (CLK_STAT_LREC_RDY, 1), (CLK_SEL_PLLREF, 2)]; (s.hub.running = true)
      ∧ ((s.hub.cfgSafe CLK_MONCTL_EN).testBit 1 = true) ∧ ((count < (s.hub.monBounds .lrec).1 ∨ (s.hub.monBounds .lrec).2 < count))
      ∧ (s.hub.ready 2 = true) ∧ (s.hub.get CLK_SEL_PLLREF = 2)) ∧
    (let s : State := wst [(CLK_STAT_PLL_RDY, 0)]; (s.hub.running = true) ∧ (s.hub.get CLK_STAT_PLL_RDY = 0)) ∧
    (let s : State := wst [(CLK_STAT_PLL_RDY, 1)]; (s.hub.running = true) ∧ (s.hub.get CLK_STAT_PLL_RDY = 1)) :=
  ⟨by decide, by decide, by decide, by decide, by decide, by decide, by decide, by decide⟩

theorem witness_ClocksAreMonitored_2 :
    (let c : Instr := .fmDone 5; let count : Nat := 5; let s : State := wst [(CLK_FMCTL_BUSY, 1), (CLK_FMCTL_REF, 1), (CLK_FMCTL_SRC, 4)];
      (s.hub.running = true) ∧ ((c = .fmDone count ∨ c = .fmTimeout count)) ∧ (s.hub.get CLK_FMCTL_BUSY = 1)
      ∧ ((s.hub.get CLK_FMCTL_SRC ≠ s.hub.get CLK_FMCTL_REF ∨ c = .fmTimeout count))) :=
  by decide

theorem witness_PowerFailsAndParityFails :
    (let idx : BitVec 16 := 0x0D08; let s : State := wst []; (s.hub.running = true) ∧ ((findReg s.hub.part idx.toNat).isSome = true)
      ∧ (idx.toNat / 256 ∈ [0x04, 0x06, 0x07, 0x08, 0x0B, 0x0C, 0x0D, 0x11, 0x12, 0x13, 0x14, 0x15, 0x16])
      ∧ (s.hub.bad.any (fun b => b.idx == idx.toNat && !b.shadow) = false)) ∧
    (let c : BitVec 10 := 0; let ch : BitVec 6 := 63; let n : BitVec 14 := 0; let e : Entry := ⟨7, 8, false⟩;
      let s : State := wst [] fun h => h.ch! 63 fun c => { c with lane := [⟨7, 8, false⟩] }; (s.hub.running = true)
      ∧ ((s.hub.ch ch.toNat).lane[n.toNat]? = some e)) ∧
    (let c : BitVec 10 := 527; let s : State := wst []; (s.hub.running = true) ∧ (c.toNat < 528)) ∧
    (let w : BitVec 11 := 1087; let s : State := wst []; (s.hub.running = true) ∧ (w.toNat < 1088)) ∧
    (let w : BitVec 11 := 1; let e : BitVec 2 := 2; let s : State := wst [] fun h => h.setEngine 2 { samples := [1, 2] };
      (s.hub.running = true) ∧ (w.toNat < (s.hub.engine e.toNat).samples.length) ∧ (s.hub.get (engF GEY_ENG_STAT_STATE e.toNat) ≠ 1)) ∧
    (let w : BitVec 11 := 1; let e : BitVec 2 := 2;
      let s : State := wst [((engF GEY_ENG_STAT_STATE e.toNat), 1)] fun h => h.setEngine 2 { samples := [1, 2] }; (s.hub.running = true)
      ∧ (w.toNat < (s.hub.engine e.toNat).samples.length) ∧ (s.hub.get (engF GEY_ENG_STAT_STATE e.toNat) = 1)) :=
  ⟨by decide, by decide, by decide, by decide, by decide, by decide⟩

theorem witness_LiveWritesWaitForTheTick_1 :
    (let ch : BitVec 6 := 3; let val : Word := 2; let s : State := wst []; (s.hub.running = true) ∧ (ch.toNat < s.hub.nch)
      ∧ (bitsOf val 0 2 ≤ 2)) ∧
    (let ch : BitVec 6 := 3; let val : Word := 3; let s : State := wst []; (s.hub.running = true) ∧ (ch.toNat < s.hub.nch)
      ∧ (bitsOf val 0 2 = 3)) ∧
    (let s : State := wst []; (s.hub.running = true) ∧ (s.hub.fenced 0x07 = false)) ∧
    (let s : State := wst [] fun h => h.setPage 0x07 { causes := [⟨2, false, 0⟩] }; (s.hub.running = true) ∧ (s.hub.fenced 0x07 = true)) ∧
    (let s : State := wst []; (s.hub.running = true) ∧ (s.hub.fenced 0x0C = false) ∧ (s.hub.md.stringMode = mREADY)) ∧
    (let s : State := wst [] fun h => h.md! fun m => { m with stringMode := mFIELD }; (s.hub.running = true) ∧ (s.hub.fenced 0x0C = false)
      ∧ (s.hub.md.stringMode ≠ mREADY)) ∧
    (let s : State := wst []; (s.hub.running = true) ∧ (bitsOf (s.hub.newWord STR_CTL_REENUM.idx) 0 1 = 0)) ∧
    (let halt : Bool := true; let s : State := wst []; (s.hub.running = true)
      ∧ ((halt = true → s.hub.get RTC_STAT_SLAVED = 0 ∨ s.hub.get RTC_CTL_HALT = 1))
      ∧ ((halt = false → s.hub.get RTC_CTL_HALT = 0 ∨ dateOk (bitsOf (s.hub.newWord 0x0509) 0 5) (bitsOf (s.hub.newWord 0x0509) 8 4) (bitsOf (s.hub.newWord 0x0509) 16 7) = true))) :=
  ⟨by decide, by decide, by decide, by decide, by decide, by decide, by decide, by decide⟩

theorem witness_LiveWritesWaitForTheTick_2 :
    (let val : Word := 1; let s : State := wst []; (s.hub.running = true) ∧ (1 ≤ bitsOf val 0 3) ∧ (bitsOf val 0 3 ≤ 3)
      ∧ (bitsOf val 0 3 = s.hub.get CLK_STAT_PLLREF_ACT ∨ s.hub.refOk (bitsOf val 0 3) = true)) ∧
    (let val : Word := 3; let s : State := wst []; (s.hub.running = true) ∧ (1 ≤ bitsOf val 0 3) ∧ (bitsOf val 0 3 ≤ 3)
      ∧ (bitsOf val 0 3 ≠ s.hub.get CLK_STAT_PLLREF_ACT) ∧ (s.hub.refOk (bitsOf val 0 3) = false)) ∧
    (let val : Word := 0x10801; let s : State := wst [(CLK_FMCTL_BUSY, 0)]; (s.hub.running = true) ∧ (bitsOf val 0 3 ≤ 5)
      ∧ (bitsOf val 4 3 ≤ 5) ∧ (8 ≤ bitsOf val 8 5) ∧ (bitsOf val 8 5 ≤ 24) ∧ (bitsOf val 16 1 = 1) ∧ (s.hub.get CLK_FMCTL_BUSY = 0)
      ∧ (s.hub.flag (PG_LOCK_CFG.pg 0x01) = false)) ∧
    (let val : Word := 2; let s : State := wst []; (s.hub.running = true) ∧ (1 ≤ bitsOf val 0 2) ∧ (bitsOf val 0 2 ≤ 2)
      ∧ (s.hub.judgedMode ∈ [mREADY, mSERVICE]) ∧ (s.hub.flag (PG_LOCK_CFG.pg 0x00) = false) ∧ (DEV_PROFILE_PROFILE.idx ∉ s.hub.once)) ∧
    (let val : Word := 2; let s : State := wst [] fun h => h.once! fun _ => [DEV_PROFILE_PROFILE.idx]; (s.hub.running = true)
      ∧ (1 ≤ bitsOf val 0 2) ∧ (bitsOf val 0 2 ≤ 2) ∧ (s.hub.judgedMode ∈ [mREADY, mSERVICE]) ∧ (s.hub.flag (PG_LOCK_CFG.pg 0x00) = false)
      ∧ (DEV_PROFILE_PROFILE.idx ∈ s.hub.once)) ∧
    (let val : Word := 4; let s : State := wst []; (s.hub.running = true) ∧ (s.hub.modeReqStatus (bitsOf val 0 3) = 0)) ∧
    (let val : Word := 7; let s : State := wst []; (s.hub.running = true) ∧ (s.hub.modeReqStatus (bitsOf val 0 3) ≠ 0)) ∧
    (let s : State := wst []; (s.hub.running = true) ∧ (s.hub.shipStatus = 0)) :=
  ⟨by decide, by decide, by decide, by decide, by decide, by decide, by decide, by decide⟩

theorem witness_LiveWritesWaitForTheTick_3 :
    (let val : Word := 0x5B1D0A7F; let s : State := wst []; (s.hub.running = true) ∧ (val ≠ 0x5B1D0A7E)) :=
  by decide

theorem witness_PageControlWaitsForTheTick_1 :
    (let port : Port := .w; let page : BitVec 8 := 0x0D; let p : Nat := 0x0D; let k : PageKind := .bud;
      let s : State := wst [] fun h => h.setPage 0x0D { dirty := true, src := .w }; (s.hub.running = true) ∧ (p = page.toNat)
      ∧ (pageKind s.hub.part p = some k) ∧ (p ≠ 0x1E) ∧ (p ≠ 0x0A) ∧ ((s.hub.page p).commit = false) ∧ ((s.hub.page p).dirty = true)
      ∧ ((s.hub.page p).src = port) ∧ (s.hub.quietRefuses port = false)) ∧
    (let port : Port := .w; let page : BitVec 8 := 0x0D; let p : Nat := 0x0D; let k : PageKind := .bud;
      let s : State := wst [] fun h => h.setPage 0x0D { dirty := true }; (s.hub.running = true) ∧ (p = page.toNat)
      ∧ (pageKind s.hub.part p = some k) ∧ (p ≠ 0x1E) ∧ (p ≠ 0x0A) ∧ ((s.hub.page p).commit = false) ∧ ((s.hub.page p).dirty = true)
      ∧ ((s.hub.page p).src ≠ port)) ∧
    (let page : BitVec 8 := 0x0D; let p : Nat := 0x0D; let k : PageKind := .bud; let s : State := wst []; (s.hub.running = true)
      ∧ (p = page.toNat) ∧ (pageKind s.hub.part p = some k) ∧ (p ≠ 0x1E) ∧ (p ≠ 0x0A) ∧ ((s.hub.page p).commit = false)
      ∧ ((s.hub.page p).dirty = false)) ∧
    (let page : BitVec 8 := 0x12; let p : Nat := 0x12; let k : PageKind := .h; let key : Byte := 0xFE;
      let s : State := wst [] fun h => h.setPage 0x12 { causes := [⟨2, true, 0⟩] }; (s.hub.running = true) ∧ (p = page.toNat)
      ∧ (pageKind s.hub.part p = some k) ∧ (p ≠ 0x1E) ∧ ((k.enFixed = true ∨ s.hub.seqHolds p = false
      ∧ (p = 0x10 → s.hub.chg.committed = true))) ∧ (key = 0xFE) ∧ ((s.hub.fenced p = true → s.hub.allCleared p = true))) ∧
    (let page : BitVec 8 := 0x12; let p : Nat := 0x12; let k : PageKind := .h; let key : Byte := 0xFE;
      let s : State := wst [] fun h => h.setPage 0x12 { causes := [⟨4, false, 0⟩] }; (s.hub.running = true) ∧ (p = page.toNat)
      ∧ (pageKind s.hub.part p = some k) ∧ (p ≠ 0x1E) ∧ ((k.enFixed = true ∨ s.hub.seqHolds p = false
      ∧ (p = 0x10 → s.hub.chg.committed = true))) ∧ (key = 0xFE) ∧ (s.hub.fenced p = true) ∧ (s.hub.allCleared p = false)) ∧
    (let key : Byte := 0; let page : BitVec 8 := 0x12; let p : Nat := 0x12; let k : PageKind := .h; let s : State := wst [];
      (s.hub.running = true) ∧ (p = page.toNat) ∧ (pageKind s.hub.part p = some k) ∧ (p ≠ 0x1E)
      ∧ ((k.enFixed = true ∨ s.hub.seqHolds p = false ∧ (p = 0x10 → s.hub.chg.committed = true))) ∧ (key ≠ 0xFE)) ∧
    (let page : BitVec 8 := 0x12; let p : Nat := 0x12; let k : PageKind := .h; let s : State := wst []; (s.hub.running = true)
      ∧ (p = page.toNat) ∧ (pageKind s.hub.part p = some k) ∧ (p ≠ 0x1E) ∧ ((k.enFixed = true ∨ s.hub.seqHolds p = false
      ∧ (p = 0x10 → s.hub.chg.committed = true))) ∧ (s.hub.srstStatus p = 0)) ∧
    (let page : BitVec 8 := 0x12; let p : Nat := 0x12; let k : PageKind := .h; let s : State := wst [(PG_LOCK_RST.pg 0x12, 1)];
      (s.hub.running = true) ∧ (p = page.toNat) ∧ (pageKind s.hub.part p = some k) ∧ (p ≠ 0x1E)
      ∧ ((k.enFixed = true ∨ s.hub.seqHolds p = false ∧ (p = 0x10 → s.hub.chg.committed = true))) ∧ (s.hub.srstStatus p ≠ 0)) :=
  ⟨by decide, by decide, by decide, by decide, by decide, by decide, by decide, by decide⟩

theorem witness_PageControlWaitsForTheTick_2 :
    (let page : BitVec 8 := 0x12; let p : Nat := 0x12; let k : PageKind := .h; let on : Bool := true; let s : State := wst [];
      (s.hub.running = true) ∧ (p = page.toNat) ∧ (pageKind s.hub.part p = some k) ∧ (p ≠ 0x1E)
      ∧ ((k.enFixed = true ∨ s.hub.seqHolds p = false ∧ (p = 0x10 → s.hub.chg.committed = true)))
      ∧ (k.enFixed = true ∨ on = false ∨ s.hub.fenced p = false)) ∧
    (let page : BitVec 8 := 0x12; let p : Nat := 0x12; let k : PageKind := .h; let s : State := wst []; (s.hub.running = true)
      ∧ (p = page.toNat) ∧ (pageKind s.hub.part p = some k) ∧ (p ≠ 0x1E) ∧ ((k.enFixed = true ∨ s.hub.seqHolds p = false
      ∧ (p = 0x10 → s.hub.chg.committed = true))) ∧ (k.enFixed = true ∨ s.hub.enShown p = false ∨ s.hub.fenced p = false)) ∧
    (let page : BitVec 8 := 0x12; let p : Nat := 0x12; let k : PageKind := .h;
      let s : State := wst [] fun h => h.setPage 0x12 { causes := [⟨2, false, 0⟩] }; (s.hub.running = true) ∧ (p = page.toNat)
      ∧ (pageKind s.hub.part p = some k) ∧ (p ≠ 0x1E) ∧ (k.enFixed = false) ∧ (s.hub.fenced p = true)) :=
  ⟨by decide, by decide, by decide⟩

theorem witness_RegisterWritesAreClassed_1 :
    (let idx : BitVec 16 := 0x3000; let s : State := wst []; (s.hub.running = true) ∧ (pageKind s.hub.part (idx.toNat / 256) = none)) ∧
    (let idx : BitVec 16 := 0x00F0; let s : State := wst []; (s.hub.running = true)
      ∧ ((pageKind s.hub.part (idx.toNat / 256)).isSome = true) ∧ (findReg s.hub.part idx.toNat = none)) ∧
    (let idx : BitVec 16 := 0x0008; let d : RegDef := (findReg .pqh64 0x0008).getD ⟨0, 0, []⟩; let s : State := wst [];
      (s.hub.running = true) ∧ (findReg s.hub.part idx.toNat = some d) ∧ (idx.toNat / 256 ≠ 0x1E)
      ∧ ((∀ f ∈ d.fields, f.acc = .ro ∨ f.acc = .rc))) ∧
    (let idx : BitVec 16 := BitVec.ofNat 16 STR_CREDTMO_FRAMES.idx; let be : BitVec 4 := 15; let f : Fld := STR_CREDTMO_FRAMES;
      let lo : Nat := 10; let hi : Nat := 10000; let val : Word := 10; let s : State := wst []; (s.hub.running = true)
      ∧ ((f, lo, hi) ∈ [(DEV_IDLET_IDLE_T, 1, 65535), (CLK_MONTOL_TOLF, 1, 1000), (STR_CREDTMO_FRAMES, 10, 10000), (GEY_CUSP_CUSPMIN, 10, 2000)])
      ∧ (idx.toNat = f.idx) ∧ (be = 15) ∧ (lo ≤ bitsOf val f.lo f.w) ∧ (bitsOf val f.lo f.w ≤ hi)) ∧
    (let idx : BitVec 16 := BitVec.ofNat 16 STR_CREDTMO_FRAMES.idx; let be : BitVec 4 := 15; let f : Fld := STR_CREDTMO_FRAMES;
      let lo : Nat := 10; let hi : Nat := 10000; let val : Word := 10001; let s : State := wst []; (s.hub.running = true)
      ∧ ((f, lo, hi) ∈ [(DEV_IDLET_IDLE_T, 1, 65535), (CLK_MONTOL_TOLF, 1, 1000), (STR_CREDTMO_FRAMES, 10, 10000), (GEY_CUSP_CUSPMIN, 10, 2000)])
      ∧ (idx.toNat = f.idx) ∧ (be = 15) ∧ (bitsOf val f.lo f.w < lo ∨ hi < bitsOf val f.lo f.w)) ∧
    (let idx : BitVec 16 := 0x7F0D; let be : BitVec 4 := 15; let val : Word := 5000;
      let d : RegDef := ⟨13, 1, [⟨0, 13, .rw, .staged, 300, .span 10 5000⟩]⟩; let f : FldDef := ⟨0, 13, .rw, .staged, 300, .span 10 5000⟩;
      let s : State := wst [(PG_LOCK_CFG.pg 0x7F, 1)]; (s.hub.running = true) ∧ (findReg s.hub.part idx.toNat = some d) ∧ (d.fields = [f])
      ∧ (f.acc = .rw) ∧ (f.eff = .staged) ∧ (0x40 ≤ idx.toNat / 256) ∧ (idx.toNat % 256 ≠ 0x08) ∧ (idx.toNat % 256 ≠ 0x0B) ∧ (be = 15)
      ∧ (f.lo + f.w ≤ 32) ∧ (0 < f.w) ∧ (f.lim.ok s.hub.part f.w (bitsOf val f.lo f.w) = true)
      ∧ (s.hub.flag (PG_LOCK_CFG.pg (idx.toNat / 256)) = true)) ∧
    (let idx : BitVec 16 := 0x7F0D; let be : BitVec 4 := 15; let val : Word := 5000;
      let d : RegDef := ⟨13, 1, [⟨0, 13, .rw, .staged, 300, .span 10 5000⟩]⟩; let f : FldDef := ⟨0, 13, .rw, .staged, 300, .span 10 5000⟩;
      let s : State := wst [] fun h => h.setPage 0x7F { commit := true }; (s.hub.running = true) ∧ (findReg s.hub.part idx.toNat = some d)
      ∧ (d.fields = [f]) ∧ (f.acc = .rw) ∧ (f.eff = .staged) ∧ (0x40 ≤ idx.toNat / 256) ∧ (idx.toNat % 256 ≠ 0x08)
      ∧ (idx.toNat % 256 ≠ 0x0B) ∧ (be = 15) ∧ (f.lo + f.w ≤ 32) ∧ (0 < f.w) ∧ (f.lim.ok s.hub.part f.w (bitsOf val f.lo f.w) = true)
      ∧ (s.hub.flag (PG_LOCK_CFG.pg (idx.toNat / 256)) = false) ∧ ((s.hub.page (idx.toNat / 256)).commit = true)) ∧
    (let port : Port := .e; let idx : BitVec 16 := 0x7F0D; let be : BitVec 4 := 15; let val : Word := 5000;
      let d : RegDef := ⟨13, 1, [⟨0, 13, .rw, .staged, 300, .span 10 5000⟩]⟩; let f : FldDef := ⟨0, 13, .rw, .staged, 300, .span 10 5000⟩;
      let s : State := wst [] fun h => h.setPage 0x7F { dirty := true, src := .w }; (s.hub.running = true)
      ∧ (findReg s.hub.part idx.toNat = some d) ∧ (d.fields = [f]) ∧ (f.acc = .rw) ∧ (f.eff = .staged) ∧ (0x40 ≤ idx.toNat / 256)
      ∧ (idx.toNat % 256 ≠ 0x08) ∧ (idx.toNat % 256 ≠ 0x0B) ∧ (be = 15) ∧ (f.lo + f.w ≤ 32) ∧ (0 < f.w)
      ∧ (f.lim.ok s.hub.part f.w (bitsOf val f.lo f.w) = true) ∧ (s.hub.flag (PG_LOCK_CFG.pg (idx.toNat / 256)) = false)
      ∧ ((s.hub.page (idx.toNat / 256)).commit = false) ∧ ((s.hub.page (idx.toNat / 256)).dirty = true)
      ∧ ((s.hub.page (idx.toNat / 256)).src ≠ port)) :=
  ⟨by decide, by decide, by decide, by decide, by decide, by decide, by decide, by decide⟩

theorem witness_RegisterWritesAreClassed_2 :
    (let port : Port := .w; let idx : BitVec 16 := 0x7F0D; let be : BitVec 4 := 15; let val : Word := 5000;
      let d : RegDef := ⟨13, 1, [⟨0, 13, .rw, .staged, 300, .span 10 5000⟩]⟩; let f : FldDef := ⟨0, 13, .rw, .staged, 300, .span 10 5000⟩;
      let s : State := wst [] fun h => h.setPage 0x7F { dirty := true, src := .w }; (s.hub.running = true)
      ∧ (findReg s.hub.part idx.toNat = some d) ∧ (d.fields = [f]) ∧ (f.acc = .rw) ∧ (f.eff = .staged) ∧ (0x40 ≤ idx.toNat / 256)
      ∧ (idx.toNat % 256 ≠ 0x08) ∧ (idx.toNat % 256 ≠ 0x0B) ∧ (be = 15) ∧ (f.lo + f.w ≤ 32) ∧ (0 < f.w)
      ∧ (f.lim.ok s.hub.part f.w (bitsOf val f.lo f.w) = true) ∧ (s.hub.flag (PG_LOCK_CFG.pg (idx.toNat / 256)) = false)
      ∧ ((s.hub.page (idx.toNat / 256)).commit = false)
      ∧ (((s.hub.page (idx.toNat / 256)).dirty = true → (s.hub.page (idx.toNat / 256)).src = port))) :=
  by decide

theorem witness_AppendsAndCalibrationsAreTakenAtOnce :
    (let port : Port := .e; let w1 : Word := 0; let e : Entry := ⟨0, 0, false⟩; let o : Nat := 0;
      let s : State := wst [(CH_LANE_LENGTH.pg 0, 8)]; (s.hub.running = true)
      ∧ (e = { w0 := (match port with | .e => s.hub.sec.app0E | .w => s.hub.sec.app0W), w1 := w1 }) ∧ (o = s.hub.judgeEntry e) ∧ (o = 0)) ∧
    (let port : Port := .e; let w1 : Word := 0x100; let e : Entry := ⟨0, 0x100, false⟩; let o : Nat := 1; let s : State := wst [];
      (s.hub.running = true) ∧ (e = { w0 := (match port with | .e => s.hub.sec.app0E | .w => s.hub.sec.app0W), w1 := w1 })
      ∧ (o = s.hub.judgeEntry e) ∧ (o = 1)) ∧
    (let port : Port := .e; let w1 : Word := 0; let e : Entry := ⟨0, 0, false⟩; let o : Nat := 2;
      let s : State := wst [(CH_LANE_LENGTH.pg 0, 0)]; (s.hub.running = true)
      ∧ (e = { w0 := (match port with | .e => s.hub.sec.app0E | .w => s.hub.sec.app0W), w1 := w1 }) ∧ (o = s.hub.judgeEntry e) ∧ (2 ≤ o)) ∧
    (let port : Port := .e; let val : Word := 0x9C3F8405; let s : State := wst []; (s.hub.running = true)
      ∧ ((inputOf s.hub.part (bitsOf val 0 8)).isSome = true) ∧ (bitsOf val 8 3 ≤ 4) ∧ (bitsOf val 16 16 ≤ 39999)
      ∧ ((bitsOf val 15 1 = 1 → (s.hub.host port).busy = false))) ∧
    (let port : Port := .e; let c : Instr := .calGain .e 5 [1]; let kind : Nat := 0; let codes : List Nat := [1]; let input : Byte := 5;
      let s : State := wst [(CAL_FSTAT_BUSY, 0)]; (s.hub.running = true) ∧ ((c = .calGain port input codes
      ∧ kind = 0 ∨ c = .calOffset port input codes ∧ kind = 1 ∨ c = .calRestore port input ∧ kind = 2 ∧ codes = []))
      ∧ ((inputOf s.hub.part input.toNat).isSome = true) ∧ ((s.hub.fcalMode = true ∨ s.hub.judgedMode = mREADY))
      ∧ ((kind = 1 → (inputOf s.hub.part input.toNat).any (·.zeroKey.isSome) = false)) ∧ (s.hub.mea.fcal = none)
      ∧ (s.hub.get CAL_FSTAT_BUSY = 0) ∧ (s.hub.quietRefuses port = false)) ∧
    (let port : Port := .e; let codes : List Nat := []; let c : Instr := .calGain .e 5 []; let input : Byte := 5;
      let s : State := wst [] fun h => h.mea! fun m => { m with fcal := some { input := 5, kind := 0, codes := [] } };
      (s.hub.running = true) ∧ ((c = .calGain port input codes ∨ c = .calOffset port input codes))
      ∧ ((inputOf s.hub.part input.toNat).isSome = true) ∧ ((s.hub.fcalMode = true ∨ s.hub.judgedMode = mREADY))
      ∧ ((c = .calGain port input codes ∨ (inputOf s.hub.part input.toNat).any (·.zeroKey.isSome) = false))
      ∧ (s.hub.mea.fcal.isSome = true)) :=
  ⟨by decide, by decide, by decide, by decide, by decide, by decide⟩

end Sys2Proof.Tests
end

section
/-! SUPPORT. Straps, their samples, and what taking HOSTSEL does (01 R28, R36, R546). -/

namespace Sys2Proof.Machine

/-! ## Lists by position -/

theorem nth_setNth_same {α : Type} (l : List α) (i : Nat) (d v : α) : nth (setNth l i d v) i d = v := by
  induction l, i using setNth.induct with
  | case1 => rfl
  | case2 n ih => simpa [setNth, nth] using ih
  | case3 => rfl
  | case4 x xs n ih => simpa [setNth, nth] using ih

theorem nth_setNth_ne {α : Type} (l : List α) {i j : Nat} (d v : α) (hij : j ≠ i) :
    nth (setNth l i d v) j d = nth l j d := by
  induction l, i using setNth.induct generalizing j with
  | case1 => cases j with
    | zero => exact absurd rfl hij
    | succ j => simp [setNth, nth]
  | case2 n ih => cases j with
    | zero => simp [setNth, nth]
    | succ j => simpa [setNth, nth] using ih (j := j) (by omega)
  | case3 => cases j with
    | zero => exact absurd rfl hij
    | succ j => simp [setNth, nth]
  | case4 x xs n ih => cases j with
    | zero => simp [setNth, nth]
    | succ j => simpa [setNth, nth] using ih (j := j) (by omega)

/-! ## One sample (01 R36) -/

/-- Two states of the sampling agree on strap `i`. -/
structure Straps.agree (i : Nat) (a b : Straps) : Prop where
  last : a.last.getLsbD i = b.last.getLsbD i
  run : nth a.run i 0 = nth b.run i 0
  accepted : a.accepted.getLsbD i = b.accepted.getLsbD i
  value : a.value.getLsbD i = b.value.getLsbD i

theorem Straps.agree.refl (i : Nat) (a : Straps) : Straps.agree i a a := ⟨rfl, rfl, rfl, rfl⟩

theorem Straps.agree.trans {i : Nat} {a b c : Straps} (x : Straps.agree i a b) (y : Straps.agree i b c) :
    Straps.agree i a c :=
  ⟨x.last.trans y.last, x.run.trans y.run, x.accepted.trans y.accepted, x.value.trans y.value⟩

/-- The bit of one strap in a word of four. -/
theorem strapBit {i j : Nat} (hi : i < 4) (hj : j < 4) : (BitVec.ofNat 4 (2 ^ i)).getLsbD j = decide (i = j) := by
  have : ∀ i : Fin 4, ∀ j : Fin 4, (BitVec.ofNat 4 (2 ^ i.val)).getLsbD j.val = decide (i.val = j.val) := by decide
  exact this ⟨i, hi⟩ ⟨j, hj⟩

/-- The samples in a row that agree, with the new one. -/
def Straps.inRow (s : Straps) (lv : BitVec 4) (i : Nat) : Nat :=
  if nth s.run i 0 ≠ 0 ∧ s.last.getLsbD i = lv.getLsbD i then nth s.run i 0 + 1 else 1

/-- A strap that has been accepted takes no further sample. -/
theorem Straps.sampleBit_accepted {s : Straps} (lv : BitVec 4) {i : Nat} (ha : s.accepted.getLsbD i = true) :
    s.sampleBit lv i = s := by simp only [Straps.sampleBit, ha, if_true]

/-- Fewer than four samples in a row are counted. -/
theorem Straps.sampleBit_counts {s : Straps} {lv : BitVec 4} {i : Nat} (ha : s.accepted.getLsbD i = false)
    (hn : s.inRow lv i < 4) : s.sampleBit lv i = { s with run := setNth s.run i 0 (s.inRow lv i) } := by
  unfold Straps.sampleBit
  rw [if_neg (by rw [ha]; decide)]
  exact if_pos hn

/-- The fourth in a row accepts the strap with its level. -/
theorem Straps.sampleBit_takes {s : Straps} {lv : BitVec 4} {i : Nat} (ha : s.accepted.getLsbD i = false)
    (hn : ¬ s.inRow lv i < 4) : s.sampleBit lv i = { s with
      run := setNth s.run i 0 (s.inRow lv i), accepted := s.accepted ||| BitVec.ofNat 4 (2 ^ i),
      value := if lv.getLsbD i then s.value ||| BitVec.ofNat 4 (2 ^ i) else s.value &&& ~~~ BitVec.ofNat 4 (2 ^ i) } := by
  unfold Straps.sampleBit
  rw [if_neg (by rw [ha]; decide)]
  exact if_neg hn

/-- A bit of the value once strap `i` has been accepted. -/
theorem strapValue (v lv : BitVec 4) {i j : Nat} (hi : i < 4) (hj : j < 4) :
    (if lv.getLsbD i then v ||| BitVec.ofNat 4 (2 ^ i) else v &&& ~~~ BitVec.ofNat 4 (2 ^ i)).getLsbD j
      = if i = j then lv.getLsbD i else v.getLsbD j := by
  cases hl : lv.getLsbD i
  · simp only [Bool.false_eq_true, if_false, BitVec.getLsbD_and, BitVec.getLsbD_not, strapBit hi hj, hj]
    by_cases hij : i = j <;> simp [hij]
  · simp only [if_true, BitVec.getLsbD_or, strapBit hi hj]
    by_cases hij : i = j <;> simp [hij]

/-- A sample of one strap leaves the others. -/
theorem Straps.sampleBit_other (s : Straps) (lv : BitVec 4) {i j : Nat} (hi : i < 4) (hj : j < 4) (hij : j ≠ i) :
    Straps.agree j (s.sampleBit lv i) s := by
  by_cases ha : s.accepted.getLsbD i = true
  · rw [sampleBit_accepted lv ha]
    exact .refl j s
  · have ha' : s.accepted.getLsbD i = false := Bool.eq_false_of_not_eq_true ha
    by_cases hn : s.inRow lv i < 4
    · rw [sampleBit_counts ha' hn]
      exact ⟨rfl, nth_setNth_ne _ _ _ hij, rfl, rfl⟩
    · rw [sampleBit_takes ha' hn]
      refine ⟨rfl, nth_setNth_ne _ _ _ hij, ?_, ?_⟩
      · simp only [BitVec.getLsbD_or, strapBit hi hj, hij.symm, decide_false, Bool.or_false]
      · simp only [strapValue _ _ hi hj, hij.symm, if_false]

/-- What a sample makes of a strap follows from that strap alone. -/
theorem Straps.sampleBit_agree {a b : Straps} (lv : BitVec 4) {i : Nat} (hi : i < 4) (x : Straps.agree i a b) :
    Straps.agree i (a.sampleBit lv i) (b.sampleBit lv i) := by
  have row : a.inRow lv i = b.inRow lv i := by simp only [Straps.inRow, x.run, x.last]
  by_cases ha : b.accepted.getLsbD i = true
  · rw [sampleBit_accepted lv ha, sampleBit_accepted lv (x.accepted.trans ha)]
    exact x
  · have hb : b.accepted.getLsbD i = false := Bool.eq_false_of_not_eq_true ha
    have ha' : a.accepted.getLsbD i = false := x.accepted.trans hb
    by_cases hn : b.inRow lv i < 4
    · rw [sampleBit_counts hb hn, sampleBit_counts ha' (row ▸ hn), row]
      exact ⟨x.last, by rw [nth_setNth_same, nth_setNth_same], x.accepted, x.value⟩
    · rw [sampleBit_takes hb hn, sampleBit_takes ha' (row ▸ hn), row]
      refine ⟨x.last, by rw [nth_setNth_same, nth_setNth_same], ?_, ?_⟩
      · simp only [BitVec.getLsbD_or, x.accepted]
      · simp only [strapValue _ _ hi hi, if_true]

/-- The sample of all four does to each strap what its own sample does. -/
theorem Straps.sample_agree (s : Straps) (lv : BitVec 4) {i : Nat} (hi : i < 4) :
    (s.sample lv).accepted.getLsbD i = (s.sampleBit lv i).accepted.getLsbD i
    ∧ (s.sample lv).value.getLsbD i = (s.sampleBit lv i).value.getLsbD i
    ∧ nth (s.sample lv).run i 0 = nth (s.sampleBit lv i).run i 0 := by
  have other {a : Straps} {j : Nat} (hj : j < 4) (hij : i ≠ j) (x : Straps.agree i a (s.sampleBit lv i)) :
      Straps.agree i (a.sampleBit lv j) (s.sampleBit lv i) := (a.sampleBit_other lv hj hi hij).trans x
  have before {a : Straps} {j : Nat} (hj : j < 4) (hij : i ≠ j) (x : Straps.agree i a s) :
      Straps.agree i (a.sampleBit lv j) s := (a.sampleBit_other lv hj hi hij).trans x
  have fold : Straps.agree i ([0, 1, 2, 3].foldl (fun a i => a.sampleBit lv i) s) (s.sampleBit lv i) := by
    simp only [List.foldl]
    have cases4 : i = 0 ∨ i = 1 ∨ i = 2 ∨ i = 3 := by omega
    rcases cases4 with rfl | rfl | rfl | rfl
    · exact other (by omega) (by omega) (other (by omega) (by omega) (other (by omega) (by omega) (.refl _ _)))
    · exact other (by omega) (by omega) (other (by omega) (by omega)
        (sampleBit_agree lv (by omega) (before (by omega) (by omega) (.refl _ s))))
    · exact other (by omega) (by omega) (sampleBit_agree lv (by omega)
        (before (by omega) (by omega) (before (by omega) (by omega) (.refl _ s))))
    · exact sampleBit_agree lv (by omega) (before (by omega) (by omega)
        (before (by omega) (by omega) (before (by omega) (by omega) (.refl _ s))))
  exact ⟨fold.accepted, fold.value, fold.run⟩

/-- A strap that has been accepted stays accepted with its value. -/
theorem Straps.sample_accepted {s : Straps} (lv : BitVec 4) {i : Nat} (hi : i < 4) (ha : s.accepted.getLsbD i = true) :
    (s.sample lv).accepted.getLsbD i = true ∧ (s.sample lv).value.getLsbD i = s.value.getLsbD i := by
  obtain ⟨acc, val, -⟩ := s.sample_agree lv hi
  rw [acc, val, sampleBit_accepted lv ha]
  exact ⟨ha, rfl⟩

/-- A sample accepts a strap only with the level it found. -/
theorem Straps.sample_value {s : Straps} (lv : BitVec 4) {i : Nat} (hi : i < 4) (ha : s.accepted.getLsbD i = false)
    (hb : (s.sample lv).accepted.getLsbD i = true) : (s.sample lv).value.getLsbD i = lv.getLsbD i := by
  obtain ⟨acc, val, -⟩ := s.sample_agree lv hi
  by_cases hn : s.inRow lv i < 4
  · rw [acc, sampleBit_counts ha hn, ha] at hb
    exact absurd hb (by decide)
  · rw [val, sampleBit_takes ha hn]
    simp only [strapValue _ _ hi hi, if_true]

/-- The fourth agreeing sample accepts a strap. -/
theorem Straps.sample_fourth {s : Straps} {lv : BitVec 4} {i : Nat} (hi : i < 4) (ha : s.accepted.getLsbD i = false)
    (hr : nth s.run i 0 = 3) (hl : s.last.getLsbD i = lv.getLsbD i) : (s.sample lv).accepted.getLsbD i = true := by
  obtain ⟨acc, -, -⟩ := s.sample_agree lv hi
  have row : ¬ s.inRow lv i < 4 := by simp [Straps.inRow, hr, hl]
  rw [acc, sampleBit_takes ha row]
  simp only [BitVec.getLsbD_or, strapBit hi hi, decide_true, Bool.or_true]

/-- A sample that differs from the last begins the count anew. -/
theorem Straps.sample_differs {s : Straps} {lv : BitVec 4} {i : Nat} (hi : i < 4) (ha : s.accepted.getLsbD i = false)
    (hl : s.last.getLsbD i ≠ lv.getLsbD i) :
    (s.sample lv).accepted.getLsbD i = false ∧ nth (s.sample lv).run i 0 = 1 := by
  obtain ⟨acc, -, run⟩ := s.sample_agree lv hi
  have row : s.inRow lv i = 1 := by simp [Straps.inRow, hl]
  rw [acc, run, sampleBit_counts ha (by omega), row]
  exact ⟨ha, nth_setNth_same ..⟩

end Sys2Proof.Machine
end

section
/-! SUPPORT. What the events of the always-on domain reach: HOSTSEL, wakes and the power-up sequence they begin (01 R28,
R33, 04 R130). -/

namespace Sys2Proof.Machine

/-! ## HOSTSEL (01 R28, R546) -/

/-- What taking HOSTSEL does: it is retained; 0 gives up the phantom supply, and with it a hub that has no other. -/
theorem Hub.hostselTaken_md (h : Hub) : ∃ m : Modes, h.hostselTaken = h.md! (fun _ => m) ∧ m.straps = h.md.straps
    ∧ m.retained = some (h.md.straps.value.getLsbD 3)
    ∧ (h.md.straps.value.getLsbD 3 = true → m.power = h.md.power)
    ∧ (h.md.straps.value.getLsbD 3 = false → m.phantomLoad = false
        ∧ (h.md.phantomLoad = true → h.anyFeedOn = false → m.power = .off)) := by
  have ne {v : Bool} (ht : v = true) (hf : v = false) : False := Bool.noConfusion (ht.symm.trans hf)
  unfold Hub.hostselTaken
  dsimp only
  split
  · rename_i c
    change (h.md.straps.value.getLsbD 3 || !h.md.phantomLoad) = true at c
    refine ⟨_, rfl, rfl, rfl, fun _ => rfl, fun hv => ?_⟩
    have hp : h.md.phantomLoad = false := by rw [hv] at c; simpa using c
    exact ⟨hp, fun ht => (ne ht hp).elim⟩
  · rename_i c
    have hv : h.md.straps.value.getLsbD 3 = false := by
      change ¬ (h.md.straps.value.getLsbD 3 || !h.md.phantomLoad) = true at c
      cases hv : h.md.straps.value.getLsbD 3
      · rfl
      · rw [hv] at c; exact absurd rfl c
    split
    · rename_i hf
      exact ⟨_, rfl, rfl, rfl, fun ht => (ne ht hv).elim, fun _ => ⟨rfl, fun _ hn => (ne hf hn).elim⟩⟩
    · exact ⟨_, rfl, rfl, rfl, fun ht => (ne ht hv).elim, fun _ => ⟨rfl, fun _ _ => rfl⟩⟩

/-- A strap sample within the ten reaches the hub's modes alone; a newly accepted HOSTSEL is taken. -/
theorem Hub.strapSample_md {h : Hub} (lv : BitVec 4) (hc : h.md.straps.count < 10) :
    ∃ m : Modes, h.strapSample lv = h.md! (fun _ => m) ∧ m.straps = h.md.straps.sample lv
      ∧ (h.md.straps.accepted.getLsbD 3 = false → (h.md.straps.sample lv).accepted.getLsbD 3 = true →
          m.retained = some (lv.getLsbD 3)
          ∧ (lv.getLsbD 3 = false → m.phantomLoad = false
              ∧ (h.md.phantomLoad = true → h.anyFeedOn = false → m.power = .off))) := by
  unfold Hub.strapSample
  rw [if_neg (by simp [Straps.over10]; omega)]
  dsimp only
  split
  · rename_i ht
    simp only [Bool.and_eq_true, Bool.not_eq_true'] at ht
    obtain ⟨m, e, straps, kept, -, zero⟩ :=
      Hub.hostselTaken_md (h.md! fun m => { m with straps := m.straps.sample lv })
    have v := Straps.sample_value lv (by decide) ht.1 ht.2
    refine ⟨m, e, straps, fun _ _ => ⟨kept.trans (congrArg some v), fun hl => ?_⟩⟩
    exact zero (v.trans hl)
  · rename_i ht
    refine ⟨_, rfl, rfl, fun h1 h2 => absurd ?_ ht⟩
    rw [h1]
    exact h2

/-! ## Folds over lists whose members matter -/

theorem Hub.only.foldlMem {α : Type} {fs : List Fld} {ps : List Nat} {a b : Hub} (f : Hub → α → Hub) (l : List α)
    (hf : ∀ c, ∀ y ∈ l, Hub.only fs ps a c → Hub.only fs ps a (f c y)) (x : Hub.only fs ps a b) :
    Hub.only fs ps a (l.foldl f b) := by
  induction l generalizing b with
  | nil => exact x
  | cons y l ih =>
    exact ih (fun c z hz => hf c z (List.mem_cons_of_mem _ hz)) (hf b y (List.mem_cons_self ..) x)

/-- A fold of steps that leave the bare hub leaves it. -/
theorem Hub.bare_foldl {α : Type} (f : Hub → α → Hub) (hf : ∀ c y, (f c y).bare = c.bare) (l : List α) (h : Hub) :
    (l.foldl f h).bare = h.bare := by
  induction l generalizing h with
  | nil => rfl
  | cons y l ih => exact (ih _).trans (hf _ _)

/-! ## The power-up sequence (12 R327) -/

@[simp] theorem Hub.bare_slotTo (h : Hub) (s st : Nat) (good : Bool) : (h.slotTo s st good).bare = h.bare := by
  simp [Hub.slotTo]

theorem Hub.only.slotTo {fs : List Fld} {ps : List Nat} {a b : Hub} {s : Nat} (st : Nat) (good : Bool) (hs : s ∈ slots)
    (hp : 7 ∈ ps) (x : Hub.only fs ps a b) : Hub.only fs ps a (b.slotTo s st good) := by
  have hs' : s < 16 := List.mem_range.mp hs
  have slot : (0x0760 + s) / 256 ∈ ps := by rwa [show (0x0760 + s) / 256 = 7 by omega]
  exact ((((x.put _ (.inr slot)).put _ (.inr slot)).putb _ (.inr slot)).put _ (.inr hp)).put _ (.inr hp)

/-- What an up sequence that begins makes of a slot that the one before it left behind. -/
def Hub.upSlot (h : Hub) (s : Nat) : Hub :=
  if h.slotSt s = 7 then (if h.slotInside s then h.slotTo s 4 true else h.slotTo s 0 false) else h

/-- An up sequence overtakes the one in progress. -/
def Hub.upOver (h : Hub) : Hub :=
  if h.get SEQ_STAT_STATE = 1 then h
  else slots.foldl Hub.upSlot ((h.put SEQ_STAT_RESULT 4).report pgSEQ 17 0x0807 0 sevINFO
    [(0, 1, h.get SEQ_STAT_STATE - 1), (1, 1, 1)])

/-- An up sequence begins unless the page is fenced or one runs. -/
theorem Hub.seqBegin_up (h : Hub) (trigger : Nat) : h.seqBegin true trigger =
    if h.fenced pgSEQ then h else if h.get SEQ_STAT_STATE = 2 then h
    else ((((h.upOver.put SEQ_STAT_STATE 2).put SEQ_STAT_TRIGGER trigger).put SEQ_STAT_FRAMES 0).seq! fun q => { q with
      handled := [], collapsed := [], vtSeen := false, fresh := true,
      builtin := trigger == 1 || trigger == 2 || trigger == 3 }).record 0x0801 0 sevINFO (payload [(0, 1, 1), (1, 1, trigger)]) := by
  unfold Hub.seqBegin
  simp only [if_true, true_or, Bool.true_and]
  rfl

theorem Hub.bare_upSlot (h : Hub) (s : Nat) : (h.upSlot s).bare = h.bare := by
  unfold Hub.upSlot
  split
  · split <;> simp
  · rfl

theorem Hub.bare_upOver (h : Hub) : h.upOver.bare = h.bare := by
  unfold Hub.upOver
  split
  · rfl
  · rw [Hub.bare_foldl _ Hub.bare_upSlot, Hub.bare_report, Hub.bare_put]

theorem Hub.only.seqBegin_up {fs : List Fld} {ps : List Nat} {a b : Hub} (trigger : Nat) (hp : 7 ∈ ps) (ht : traceIn ps)
    (x : Hub.only fs ps a b) : Hub.only fs ps a (b.seqBegin true trigger) := by
  have p7 {f : Fld} (e : f.idx / 256 = 7) : f.mayIn fs ps := .inr (e ▸ hp)
  have overtaken : Hub.only fs ps a b.upOver := by
    unfold Hub.upOver
    refine .ite x (Hub.only.foldlMem _ _ (fun c s hs y => ?_)
      ((x.put _ (p7 rfl)).report _ _ _ _ _ _ (p7 rfl) ht (.inl (by decide))))
    exact .ite (.ite (y.slotTo _ _ hs hp) (y.slotTo _ _ hs hp)) y
  rw [Hub.seqBegin_up]
  exact .ite x (.ite x (((((overtaken.put _ (p7 rfl)).put _ (p7 rfl)).put _ (p7 rfl)).seq! _).record _ _ _ _ ht.rec))

/-- The power-up sequence leaves the modes. -/
theorem Hub.seqBegin_up_md (h : Hub) (trigger : Nat) : (h.seqBegin true trigger).md = h.md := by
  have of_bare {a b : Hub} {f : Sequencer → Sequencer} (e : a.bare = b.bare.seq! f) : a.md = b.md := by
    change a.bare.md = (b.bare.seq! f).md
    rw [e]
  rw [Hub.seqBegin_up]
  split
  · rfl
  · split
    · rfl
    · exact of_bare (by rw [Hub.bare_record, Hub.bare_seq!, Hub.bare_put, Hub.bare_put, Hub.bare_put, Hub.bare_upOver])

/-! ## Wakes (04 R129–R130) -/

/-- A wake reaches the sequencer's page and the traces of its records. -/
theorem Hub.only.wakeStart {fs : List Fld} {ps : List Nat} {a b : Hub} (hp : 7 ∈ ps) (ht : traceIn ps)
    (x : Hub.only fs ps a b) : Hub.only fs ps a b.wakeStart := by
  unfold Hub.wakeStart
  dsimp only
  have undone : Hub.only fs ps a (if b.md.goingDown = some .standby then
      (b.md! fun m => { m with goingDown := none }).seqBegin true 2 else b) := .ite ((x.md! _).seqBegin_up _ hp ht) x
  exact .ite x (.ite undone ((undone.md! _).link! _))

theorem Hub.only.wakeBy {fs : List Fld} {ps : List Nat} {a b : Hub} (hp : 7 ∈ ps) (ht : traceIn ps)
    (x : Hub.only fs ps a b) : Hub.only fs ps a b.wakeBy := .ite (x.md! _) (.ite (x.wakeStart hp ht) x)

/-- Of the modes a wake changes only that it runs and that no power-down does. -/
theorem Hub.wakeStart_md (h : Hub) :
    ∃ (w : Bool) (g : Option GoingDown), h.wakeStart.md = { h.md with waking := w, goingDown := g } := by
  unfold Hub.wakeStart
  dsimp only
  split
  · exact ⟨_, _, rfl⟩
  · by_cases hg : h.md.goingDown = some .standby
    · simp only [hg, if_true]
      split
      · exact ⟨_, _, Hub.seqBegin_up_md _ _⟩
      · exact ⟨true, none, by simp only [Hub.link!_md, Hub.md!_md, Hub.seqBegin_up_md]⟩
    · simp only [hg, if_false]
      split
      · exact ⟨_, _, rfl⟩
      · exact ⟨_, _, rfl⟩

theorem Hub.wakeBy_md (h : Hub) :
    ∃ (w : Bool) (g : Option GoingDown), h.wakeBy.md = { h.md with waking := w, goingDown := g }
      ∧ (h.md.power = .standby → w = true) := by
  unfold Hub.wakeBy
  split
  · exact ⟨true, _, rfl, fun _ => rfl⟩
  · rename_i hs
    have no : ¬ h.md.power = .standby := by simpa using hs
    split
    · obtain ⟨w, g, e⟩ := h.wakeStart_md
      exact ⟨w, g, e, fun hp => absurd hp no⟩
    · exact ⟨_, _, rfl, fun hp => absurd hp no⟩

end Sys2Proof.Machine
end

section
/-! SUPPORT. Unstable straps, the end of the logic's power, and the feeds across it (01 R36, 04 R134–R135, 08 R231,
R243). -/

namespace Sys2Proof.Machine

/-! ## Unstable straps (01 R36) -/

/-- Hubs that differ in registers, waiting writes and records alone agree in every other piece. -/
theorem Hub.of_bare {α : Type} {a b : Hub} (f : Hub → α) (hf : ∀ h, f h.bare = f h) (e : a.bare = b.bare) : f a = f b := by
  rw [← hf a, e, hf b]

theorem Hub.md_of_bare {a b : Hub} (e : a.bare = b.bare) : a.md = b.md := Hub.of_bare Hub.md (fun _ => rfl) e

/-- The straps once those without four agreeing samples are taken as 1. -/
def Straps.asOne (s : Straps) : Straps := { s with accepted := 15, value := s.value ||| ~~~ s.accepted }

/-- Straps without four agreeing samples are taken as 1, shown and recorded; PCC stands as it did. -/
def Hub.strapsAsOne (h : Hub) : Hub :=
  ((((h.md! fun m => { m with straps := m.straps.asOne }).put DEV_STRAPS_UNSTABLE
      (15 - h.md.straps.accepted.toNat)).incSat FRM_PCC_PCC).record 0x0121 0 sevWARN
        (payload [(0, 1, 15 - h.md.straps.accepted.toNat)])).put FRM_PCC_PCC (h.get FRM_PCC_PCC)

theorem Hub.strapUnstable_none {h : Hub} (ha : h.md.straps.accepted = 15) : h.strapUnstable = h := by
  simp [Hub.strapUnstable, ha]

theorem Hub.strapUnstable_some {h : Hub} (ha : h.md.straps.accepted ≠ 15) : h.strapUnstable =
    if h.md.straps.accepted.getLsbD 3 then h.strapsAsOne else h.strapsAsOne.hostselTaken := by
  have mask : ¬ 15 - h.md.straps.accepted.toNat = 0 := fun e => ha (BitVec.eq_of_toNat_eq (by
    have := h.md.straps.accepted.isLt
    change _ = 15
    omega))
  exact if_neg mask

theorem Hub.strapsAsOne_md (h : Hub) : h.strapsAsOne.md = { h.md with straps := h.md.straps.asOne } :=
  Hub.md_of_bare (b := h.md! fun m => { m with straps := m.straps.asOne }) (by
    unfold Hub.strapsAsOne
    rw [Hub.bare_put, Hub.bare_record, Hub.bare_incSat, Hub.bare_put])

/-- The mask of the straps taken as 1 is shown (01 R36). -/
theorem Hub.get_strapsAsOne_unstable (h : Hub) :
    h.strapsAsOne.get DEV_STRAPS_UNSTABLE = 15 - h.md.straps.accepted.toNat := by
  unfold Hub.strapsAsOne
  rw [Hub.get_put_apart _ _ (by decide) (by decide), Hub.get_record _ _ _ _ _ (by decide),
    Hub.get_incSat_apart _ _ (by decide) (by decide), Hub.get_put_same _ _ (by decide)]
  exact Nat.mod_eq_of_lt (show _ < 16 by omega)

/-- PCC has advanced by the time of the record and stands as it did (02 R57). -/
theorem Hub.get_strapsAsOne_pcc (h : Hub) : h.strapsAsOne.get FRM_PCC_PCC = h.get FRM_PCC_PCC := by
  unfold Hub.strapsAsOne
  rw [Hub.get_put_same _ _ (by decide)]
  exact Nat.mod_eq_of_lt (bitsOf_lt _ _ _)

/-- What straps taken as 1 leave of a hub: its power, for HOSTSEL is then 1, and of the straps what was accepted. -/
theorem Hub.strapUnstable_md (h : Hub) :
    h.strapUnstable.md.power = h.md.power ∧ h.strapUnstable.md.straps = h.md.straps.asOne := by
  have md := h.strapsAsOne_md
  by_cases ha : h.md.straps.accepted = 15
  · have e : h.md.straps.asOne = h.md.straps := by
      unfold Straps.asOne
      generalize h.md.straps = s at ha
      cases s
      simp_all
    rw [Hub.strapUnstable_none ha, e]
    exact ⟨rfl, rfl⟩
  · rw [Hub.strapUnstable_some ha]
    split
    · rw [md]
      exact ⟨rfl, rfl⟩
    · rename_i h3
      have hostsel : h.md.straps.asOne.value.getLsbD 3 = true := by
        rw [Bool.not_eq_true] at h3
        unfold Straps.asOne
        rw [BitVec.getLsbD_or, BitVec.getLsbD_not, h3]
        simp
      obtain ⟨m, e, straps, -, one, -⟩ := h.strapsAsOne.hostselTaken_md
      rw [md] at straps one
      rw [e]
      exact ⟨one hostsel, straps⟩

/-- Taking HOSTSEL reaches no register. -/
theorem Hub.get_hostselTaken (h : Hub) (g : Fld) : h.hostselTaken.get g = h.get g := by
  obtain ⟨m, e, -⟩ := h.hostselTaken_md
  rw [e, Hub.get_md!]

theorem Hub.get_strapUnstable {h : Hub} (ha : h.md.straps.accepted ≠ 15) (g : Fld) :
    h.strapUnstable.get g = h.strapsAsOne.get g := by
  rw [Hub.strapUnstable_some ha]
  split
  · rfl
  · exact Hub.get_hostselTaken _ g

/-- The registers that straps taken as 1 reach: the mask shown, the count of power-ons on its way, a record. -/
theorem Hub.only.strapUnstable {fs : List Fld} {ps : List Nat} {a b : Hub} (hs : DEV_STRAPS_UNSTABLE.mayIn fs ps)
    (hc : FRM_PCC_PCC.mayIn fs ps) (hr : 6 ∈ ps) (x : Hub.only fs ps a b) : Hub.only fs ps a b.strapUnstable := by
  have said : Hub.only fs ps a b.strapsAsOne := ((((x.md! _).put _ hs).incSat 1 hc).record _ _ _ _ hr).put _ hc
  have taken : Hub.only fs ps a b.strapsAsOne.hostselTaken := by
    obtain ⟨m, e, -⟩ := b.strapsAsOne.hostselTaken_md
    rw [e]
    exact said.md! _
  exact .ite x (.ite said taken)

end Sys2Proof.Machine
end

section
/-! SUPPORT. The feeds across a start and the end of the logic's power (04 R134–R135, 08 R231, R243). -/

namespace Sys2Proof.Machine

/-! ## States of the feeds -/

/-- The switches of a feed in FEED_STAT (08 R253). -/
def feedOut : List Fld := [FEED_STAT_CONDUCT, FEED_STAT_BLOCKING, FEED_STAT_LIMITING, FEED_STAT_STANDBY_B]

/-- The switches of feed `k`. -/
def feedOutFlds (k : Nat) : List Fld := feedOut.map (·.pg k)

/-- The state and the switches of feed `k`. -/
def feedFlds (k : Nat) : List Fld := FEED_STAT_STATE.pg k :: feedOutFlds k

theorem feedFlds_fits {k : Nat} {g : Fld} (hg : g ∈ feedFlds k) : g.fits := by
  rcases List.mem_cons.mp hg with rfl | hg
  · exact (by decide : FEED_STAT_STATE.fits)
  · obtain ⟨f, hf, rfl⟩ := List.mem_map.mp hg
    exact (by decide : ∀ f ∈ feedOut, f.fits) f hf

/-- A field that may change. -/
theorem Fld.mayIn_self {fs : List Fld} {ps : List Nat} {f : Fld} (hm : f ∈ fs) (hf : f.fits) : f.mayIn fs ps :=
  .inl ⟨f, hm, ⟨rfl, Nat.le_refl _, Nat.le_refl _⟩, hf⟩

theorem Hub.only.feed! {fs : List Fld} {ps : List Nat} {a b : Hub} (k : Nat) (f : Feed → Feed) (x : Hub.only fs ps a b) :
    Hub.only fs ps a (b.feed! k f) := .ite (x.feedA! f) (x.feedB! f)

/-- Entering a state reaches the feed's state and its switches. -/
theorem Hub.only.feedTo {fs : List Fld} {ps : List Nat} {a b : Hub} (k st : Nat)
    (hk : ∀ g ∈ feedFlds k, g.mayIn fs ps) (x : Hub.only fs ps a b) :
    Hub.only fs ps a (b.feedTo k st) := by
  have out (f : Fld) (hf : f ∈ feedOut) : (f.pg k).mayIn fs ps :=
    hk _ (List.mem_cons_of_mem _ (List.mem_map.mpr ⟨f, hf, rfl⟩))
  have shown := (x.put st (hk _ (List.mem_cons_self ..))).putb (st == 5) (out FEED_STAT_CONDUCT (by decide))
  exact ((shown.put 0 (out FEED_STAT_BLOCKING (by decide))).put 0 (out FEED_STAT_LIMITING (by decide))).feed! k _

theorem Hub.get_feed! (h : Hub) (k : Nat) (f : Feed → Feed) (g : Fld) : (h.feed! k f).get g = h.get g := by
  unfold Hub.feed!
  split <;> simp

theorem Hub.feedSt_feedTo_same (h : Hub) (k : Nat) {st : Nat} (hs : st < 16) : (h.feedTo k st).feedSt k = st := by
  unfold Hub.feedTo Hub.feedSt
  dsimp only
  rw [Hub.get_feed!, Hub.get_put_apart _ _ (show 6 + 1 ≤ 32 by decide) (.inr (.inr (show 0 + 4 ≤ 6 by decide))),
    Hub.get_put_apart _ _ (show 5 + 1 ≤ 32 by decide) (.inr (.inr (show 0 + 4 ≤ 5 by decide))),
    Hub.get_putb_apart _ _ (show 4 + 1 ≤ 32 by decide) (.inr (.inr (show 0 + 4 ≤ 4 by decide))),
    Hub.get_put_same _ _ (show 0 + 4 ≤ 32 by decide)]
  exact Nat.mod_eq_of_lt hs

/-- What a feed's entry into a state leaves. -/
theorem Hub.get_feedTo (h : Hub) (k st : Nat) {g : Fld} (hg : g.fits)
    (ha : ∀ f ∈ feedFlds k, f.apart g) : (h.feedTo k st).get g = h.get g :=
  (Hub.only.feedTo k st (fun _ hf => Fld.mayIn_self hf (feedFlds_fits hf)) (.refl _ [] h)).fields g hg ha (by simp)

/-- The settling of PRIMARY and RATIO reaches the switches of the feeds. -/
theorem Hub.only.shareSettle {fs : List Fld} {ps : List Nat} {a b : Hub}
    (hk : ∀ k, k < 2 → ∀ g ∈ feedOutFlds k, g.mayIn fs ps) (x : Hub.only fs ps a b) : Hub.only fs ps a b.shareSettle := by
  have num (f : FeedId) : feedNum f < 2 := by cases f <;> decide
  have cond (k : Nat) (h : k < 2) : (FEED_STAT_CONDUCT.pg k).mayIn fs ps := hk k h _ (by simp [feedOutFlds, feedOut])
  have blk (k : Nat) (h : k < 2) : (FEED_STAT_BLOCKING.pg k).mayIn fs ps := hk k h _ (by simp [feedOutFlds, feedOut])
  have stb : (FEED_STAT_STANDBY_B.pg 1).mayIn fs ps := hk 1 (by decide) _ (by simp [feedOutFlds, feedOut])
  have held : Hub.only fs ps a b.ratioHold := by
    unfold Hub.ratioHold
    dsimp only
    refine .ite x (Hub.only.share! _ ?_)
    have freed : Hub.only fs ps a (match b.share.idle with
        | some f => if b.feedOn (feedNum f) then (b.put (FEED_STAT_CONDUCT.pg (feedNum f)) 1).put
            (FEED_STAT_BLOCKING.pg (feedNum f)) 0 else b
        | none => b) := by
      split
      · exact .ite ((x.put _ (cond _ (num _))).put _ (blk _ (num _))) x
      · exact x
    split
    · exact freed.put _ (cond _ (num _))
    · exact freed
  have c1 := cond 1 (by decide)
  have b1 := blk 1 (by decide)
  exact .ite (.ite (((held.put _ stb).put _ c1).put _ b1) (((Hub.only.ite (held.put _ c1) held).put _ stb).share! _))
    (((Hub.only.ite (held.put _ c1) held).put _ stb).share! _)

/-- The settling leaves the states of the feeds and what was detected at their contacts. -/
theorem Hub.get_shareSettle (h : Hub) {g : Fld} (hg : g.fits) (ha : ∀ k, k < 2 → ∀ f ∈ feedOutFlds k, f.apart g) :
    h.shareSettle.get g = h.get g := by
  refine (Hub.only.shareSettle (fs := feedOutFlds 0 ++ feedOutFlds 1) (fun k hk f hf => ?_) (.refl _ [] h)).fields g hg
    (fun f hf => ?_) (by simp)
  · refine Fld.mayIn_self (List.mem_append.mpr ?_) (feedFlds_fits (List.mem_cons_of_mem _ hf))
    have k01 : k = 0 ∨ k = 1 := by omega
    rcases k01 with rfl | rfl
    · exact .inl hf
    · exact .inr hf
  · rcases List.mem_append.mp hf with hf | hf
    · exact ha 0 (by decide) f hf
    · exact ha 1 (by decide) f hf

theorem feedOut_apart_kept : ∀ f ∈ feedOut, f.apart FEED_STAT_STATE ∧ f.apart FEED_STAT_PRESENT := by decide

/-- The switches of one feed lie apart from the state of either and from what was detected at its contacts. -/
theorem feedOutFlds_apart {j k : Nat} {f : Fld} (hf : f ∈ feedOutFlds j) :
    f.apart (FEED_STAT_STATE.pg k) ∧ f.apart (FEED_STAT_PRESENT.pg k) := by
  obtain ⟨g, hg, rfl⟩ := List.mem_map.mp hf
  have idx : ∀ g ∈ feedOut, g.idx = 0x0E08 := by decide
  have i := idx g hg
  obtain ⟨s, p⟩ := feedOut_apart_kept g hg
  simp only [Fld.apart] at s p ⊢
  omega

theorem Hub.feedSt_shareSettle (h : Hub) (k : Nat) : h.shareSettle.feedSt k = h.feedSt k :=
  h.get_shareSettle (by decide : FEED_STAT_STATE.fits) fun _ _ _ hf => (feedOutFlds_apart hf).1

theorem Hub.present_shareSettle (h : Hub) (k : Nat) :
    h.shareSettle.get (FEED_STAT_PRESENT.pg k) = h.get (FEED_STAT_PRESENT.pg k) :=
  h.get_shareSettle (by decide : FEED_STAT_PRESENT.fits) fun _ _ _ hf => (feedOutFlds_apart hf).2

theorem Hub.feedSt_feedTo_ne (h : Hub) {j k : Nat} (st : Nat) (hjk : j ≠ k) : (h.feedTo k st).feedSt j = h.feedSt j := by
  refine h.get_feedTo k st (by decide : FEED_STAT_STATE.fits) fun f hf => ?_
  rcases List.mem_cons.mp hf with rfl | hf
  · simp only [Fld.apart]
    omega
  · exact (feedOutFlds_apart hf).1

theorem Hub.present_feedTo (h : Hub) (j k st : Nat) :
    (h.feedTo k st).get (FEED_STAT_PRESENT.pg j) = h.get (FEED_STAT_PRESENT.pg j) := by
  refine h.get_feedTo k st (by decide : FEED_STAT_PRESENT.fits) fun f hf => ?_
  rcases List.mem_cons.mp hf with rfl | hf
  · simp only [Fld.apart]
    omega
  · exact (feedOutFlds_apart hf).2

end Sys2Proof.Machine
end

section
/-! SUPPORT. The logic loses its power; the long press (04 R134–R135, 20 R499). -/

namespace Sys2Proof.Machine

/-! ## Records committed at once (20 R496–R500) -/

theorem Hub.only.placeRing {fs : List Fld} {ps : List Nat} {a b : Hub} (r : Rec) (hp : 6 ∈ ps) (x : Hub.only fs ps a b) :
    Hub.only fs ps a (b.placeRing r).1 := by
  have freed : Hub.only fs ps a ((List.range (1 + r.snapSlots.length)).foldl
      (fun a i => a.freeOwner (ringSlot b.ringHead i)) b) := by
    refine Hub.only.foldl _ (fun c i y => ?_) _ x
    unfold Hub.freeOwner
    split
    · exact y
    · exact y.rcd! _ hp
  have stored := (Hub.only.foldl (fun (c : Hub) (p : List Word × Nat) => c.storeSlot (ringSlot b.ringHead (p.2 + 1)) p.1)
    (fun c p y => y.rcd! _ hp) (r.snapSlots.zip (List.range r.snapSlots.length))
    (freed.rcd! _ hp : Hub.only fs ps a (Hub.storeSlot _ b.ringHead
      (r.words (ringSlot b.ringHead 1) r.snapSlots.length)))).put (f := REC_STAT_HEAD)
      (ringSlot b.ringHead (1 + r.snapSlots.length)) (.inr hp)
  exact .ite (stored.put _ (.inr hp)) stored

theorem Hub.only.placeFatal {fs : List Fld} {ps : List Nat} {a b : Hub} (r : Rec) (ht : traceIn ps)
    (x : Hub.only fs ps a b) : Hub.only fs ps a (b.placeFatal r).1 := by
  have hp := ht.rec
  unfold Hub.placeFatal
  dsimp only
  split
  · rename_i s _
    have stored := Hub.only.foldl (fun (c : Hub) (p : List Word × Nat) => c.storeSlot (s + 1 + p.2) p.1)
      (fun c p y => y.rcd! _ hp) (r.snapSlots.zip (List.range r.snapSlots.length))
      (x.rcd! _ hp : Hub.only fs ps a (b.storeSlot s (r.words (s + 1) r.snapSlots.length)))
    have counted := fun n => stored.put (f := REC_FATALN_N) n (.inr hp)
    exact .ite ((counted _).put _ (.inr hp)) (counted _)
  · have full := (x.placeRing r hp).put (f := REC_STAT_FATALFULL) 1 (.inr hp)
    split
    · exact full
    · exact (full.rcd! _ hp).report _ _ _ _ _ _ (.inr hp) ht (.inl (by decide))

theorem Hub.only.commitRec {fs : List Fld} {ps : List Nat} {a b : Hub} (r : Rec) (ht : traceIn ps)
    (x : Hub.only fs ps a b) : Hub.only fs ps a (b.commitRec r) := by
  have hp := ht.rec
  have placed : Hub.only fs ps a (if r.sev = sevFATAL then b.placeFatal r else b.placeRing r).1 := by
    split
    · exact x.placeFatal r ht
    · exact x.placeRing r hp
  have newest := placed.rcd! (fun y => { y with newest := some r }) hp
  exact .ite newest ((newest.put _ (.inr hp)).put _ (.inr hp))

theorem Hub.only.flushQueue {fs : List Fld} {ps : List Nat} {a b : Hub} (q : List Rec) (ht : traceIn ps)
    (x : Hub.only fs ps a b) : Hub.only fs ps a (b.flushQueue q) :=
  Hub.only.foldl _ (fun _ _ y => y.commitRec _ ht) q (x.rcd! _ ht.rec)

/-- The reserve writes the queue (20 R499). -/
theorem Hub.only.reserveFlush {fs : List Fld} {ps : List Nat} {a b : Hub} (ht : traceIn ps) (x : Hub.only fs ps a b) :
    Hub.only fs ps a b.reserveFlush := (x.flushQueue _ ht).flushQueue _ ht

/-! ## The end of the logic's power (20 R499, 13 R366) -/

theorem Hub.only.snapDiscard {fs : List Fld} {ps : List Nat} {a b : Hub} (hp : 0x18 ∈ ps) (ht : traceIn ps)
    (x : Hub.only fs ps a b) : Hub.only fs ps a b.snapDiscard := by
  have p18 {f : Fld} (e : f.idx / 256 = 0x18) : f.mayIn fs ps := .inr (e ▸ hp)
  refine (((Hub.only.foldl _ (fun c e y => ?_) _ (x.mea! _) : Hub.only fs ps a (b.mea.snapPend.foldl
    (fun a e => a.snapMissed e.1 4 e.2.2) (b.mea! fun m => { m with snapPend := [] }))).put _ (p18 rfl)).put _
      (p18 rfl)).put _ (p18 rfl)
  exact ((y.incSat 1 (p18 rfl)).put _ (p18 rfl)).report _ _ _ _ _ _ (p18 rfl) ht (.inl (by decide))

theorem Hub.only.rstOutRelease {fs : List Fld} {ps : List Nat} {a b : Hub} (x : Hub.only fs ps a b) :
    Hub.only fs ps a b.rstOutRelease :=
  Hub.only.foldl _ (fun _ n y => y.clearCause (chPage n) 5) _ ((x.md! _).clearCause 0x16 5)

/-- A feed's timers count no more without the logic's power. -/
def Feed.lost (f : Feed) : Feed := { f with run := 100000, ramp := 10000 }

/-- The hub as the end of the logic's power leaves it, before the control of the feeds goes on alone. -/
def Hub.logicDown (h : Hub) (p : Power) : Hub :=
  let h0 := if h.md.rstPulse then h.rstOutRelease else h
  let h1 := ((((h0.snapDiscard.put KEY_STAT_CHALVALID 0).reserveFlush).feedA! Feed.lost).feedB! Feed.lost).chg! fun c =>
    { c with outside := 100000, sinceHb := c.sinceHb.map fun _ => 100001 }
  let h2 := (h1.put RTC_STAT_SLAVED 0).rtc! fun r => { r with ran := 100000 }
  (h2.link! fun l => { l with inbox := [], fwd := [], bulk := [], streams := [], sentUp := [], sentDn := [] }).md!
    fun m => { m with power := p, goingDown := none, cutoffDue := false, req := none }

theorem Hub.logicOff_eq (h : Hub) (p : Power) : h.logicOff p = if p = .standby then h.logicDown p
    else (((h.logicDown p).feedAlone 0).feedAlone 1).shareSettle := rfl

/-- What the loss of the logic's power reaches: the snapshots, the challenge, the slaved clock and the records. -/
theorem Hub.only.logicDown {fs : List Fld} {ps : List Nat} {a b : Hub} (p : Power) (h5 : 5 ∈ ps) (h18 : 0x18 ∈ ps)
    (h1F : 0x1F ∈ ps) (ht : traceIn ps) (x : Hub.only fs ps a b) : Hub.only fs ps a (b.logicDown p) := by
  have released : Hub.only fs ps a (if b.md.rstPulse then b.rstOutRelease else b) := .ite x.rstOutRelease x
  have stored := ((((released.snapDiscard h18 ht).put (f := KEY_STAT_CHALVALID) 0 (.inr h1F)).reserveFlush ht).feedA!
    Feed.lost).feedB! Feed.lost
  unfold Hub.logicDown
  exact ((((stored.chg! _).put (f := RTC_STAT_SLAVED) 0 (.inr h5)).rtc! _).link! _).md! _

/-! ## The feeds go on alone (08 R231) -/

/-- The state in which the control alone keeps a feed: it heeds no enable. -/
def aloneSt (st present : Nat) : Nat := if st = 0 ∨ st = 1 ∧ present = 1 then (if present = 1 then 3 else 1) else st

/-- The state in which a feed that must open stands: it qualifies again while it is present. -/
def reopenedSt (st present : Nat) : Nat := if st = 0 ∨ st = 1 ∨ st = 7 then st else if present = 1 then 3 else 1

/-- A bit reads 1 where its flag stands. -/
theorem Hub.flag_iff (h : Hub) {f : Fld} (hw : f.w = 1) : h.flag f = true ↔ h.get f = 1 := by
  have lt : h.get f < 2 ^ f.w := bitsOf_lt _ _ _
  rw [hw] at lt
  simp only [Hub.flag, bne_iff_ne]
  omega

theorem Hub.feedSt_feedAlone_same (h : Hub) (k : Nat) :
    (h.feedAlone k).feedSt k = aloneSt (h.feedSt k) (h.get (FEED_STAT_PRESENT.pg k)) := by
  unfold Hub.feedAlone aloneSt
  simp only [h.flag_iff (f := FEED_STAT_PRESENT.pg k) rfl]
  split
  · rw [Hub.feedSt_feedTo_same _ _ (by split <;> decide)]
  · rfl

theorem Hub.feedSt_feedReopen_same (h : Hub) (k : Nat) :
    (h.feedReopen k).feedSt k = reopenedSt (h.feedSt k) (h.get (FEED_STAT_PRESENT.pg k)) := by
  unfold Hub.feedReopen reopenedSt
  simp only [h.flag_iff (f := FEED_STAT_PRESENT.pg k) rfl]
  split
  · rfl
  · rw [Hub.feedSt_feedTo_same _ _ (by split <;> decide)]

theorem Hub.feedSt_feedAlone_ne (h : Hub) {j k : Nat} (hjk : j ≠ k) : (h.feedAlone k).feedSt j = h.feedSt j := by
  unfold Hub.feedAlone
  dsimp only
  split
  · exact Hub.feedSt_feedTo_ne _ _ hjk
  · rfl

theorem Hub.feedSt_feedReopen_ne (h : Hub) {j k : Nat} (hjk : j ≠ k) : (h.feedReopen k).feedSt j = h.feedSt j := by
  unfold Hub.feedReopen
  dsimp only
  split
  · rfl
  · exact Hub.feedSt_feedTo_ne _ _ hjk

theorem Hub.present_feedAlone (h : Hub) (j k : Nat) :
    (h.feedAlone k).get (FEED_STAT_PRESENT.pg j) = h.get (FEED_STAT_PRESENT.pg j) := by
  unfold Hub.feedAlone
  dsimp only
  split
  · exact Hub.present_feedTo _ _ _ _
  · rfl

theorem Hub.present_feedReopen (h : Hub) (j k : Nat) :
    (h.feedReopen k).get (FEED_STAT_PRESENT.pg j) = h.get (FEED_STAT_PRESENT.pg j) := by
  unfold Hub.feedReopen
  dsimp only
  split
  · rfl
  · exact Hub.present_feedTo _ _ _ _

/-- Both feeds open. -/
theorem Hub.feedSt_reopenBoth (h : Hub) {k : Nat} (hk : k < 2) :
    ((h.feedReopen 0).feedReopen 1).feedSt k = reopenedSt (h.feedSt k) (h.get (FEED_STAT_PRESENT.pg k)) := by
  have k01 : k = 0 ∨ k = 1 := by omega
  rcases k01 with rfl | rfl
  · rw [Hub.feedSt_feedReopen_ne _ (by decide), Hub.feedSt_feedReopen_same]
  · rw [Hub.feedSt_feedReopen_same, Hub.feedSt_feedReopen_ne _ (by decide), Hub.present_feedReopen]

/-- The loss of the logic's power leaves the feeds to their own control. -/
theorem Hub.feeds_logicOff (h : Hub) {k : Nat} (hk : k < 2) :
    (h.logicOff .off).feedSt k = aloneSt (h.feedSt k) (h.get (FEED_STAT_PRESENT.pg k))
    ∧ (h.logicOff .off).get (FEED_STAT_PRESENT.pg k) = h.get (FEED_STAT_PRESENT.pg k) := by
  have k01 : k = 0 ∨ k = 1 := by omega
  have down := Hub.only.logicDown (ps := [5, 0x18, 0x1F] ++ tracePages) .off (by decide) (by decide) (by decide)
    (by simp [traceIn, tracePages]) (.refl [] _ h)
  have page : (0x0E08 + 256 * k) / 256 ∉ [5, 0x18, 0x1F] ++ tracePages := by
    rcases k01 with rfl | rfl <;> decide
  have st : (h.logicDown .off).feedSt k = h.feedSt k :=
    down.fields _ (by decide : FEED_STAT_STATE.fits) (by simp) page
  have present : (h.logicDown .off).get (FEED_STAT_PRESENT.pg k) = h.get (FEED_STAT_PRESENT.pg k) :=
    down.fields _ (by decide : FEED_STAT_PRESENT.fits) (by simp) page
  rw [Hub.logicOff_eq, if_neg (by decide), Hub.feedSt_shareSettle, Hub.present_shareSettle, Hub.present_feedAlone,
    Hub.present_feedAlone, present, ← st, ← present]
  refine ⟨?_, rfl⟩
  rcases k01 with rfl | rfl
  · rw [Hub.feedSt_feedAlone_ne _ (by decide), Hub.feedSt_feedAlone_same]
  · rw [Hub.feedSt_feedAlone_same, Hub.feedSt_feedAlone_ne _ (by decide), Hub.present_feedAlone]

/-! ## A start (04 R121) -/

theorem Hub.bootBegin_md (h : Hub) (cause src : Nat) (load : Bool) : (h.bootBegin cause src load).md = { h.md with
    power := .booting, resetCause := cause, shipSrc := src, phantomLoad := load, rstLow := true, straps := {},
    cutoffDue := false, waking := false } := rfl

/-- A start leaves the straps unsampled and the charger's power stage as the start finds it, and no other register. -/
theorem Hub.only.bootBegin {fs : List Fld} {ps : List Nat} {a b : Hub} (cause src : Nat) (load : Bool)
    (hs : DEV_STRAPS_UNSTABLE.mayIn fs ps) (hb : CHG_STAT_BATFET.mayIn fs ps) (x : Hub.only fs ps a b) :
    Hub.only fs ps a (b.bootBegin cause src load) := by
  unfold Hub.bootBegin Hub.chgPower
  exact (((x.put 0 hs).md! _).put _ hb).chg! _

theorem Hub.get_bootBegin_unstable (h : Hub) (cause src : Nat) (load : Bool) :
    (h.bootBegin cause src load).get DEV_STRAPS_UNSTABLE = 0 := by
  unfold Hub.bootBegin Hub.chgPower
  rw [Hub.get_chg!, Hub.get_put_apart _ _ (by decide) (by decide), Hub.get_md!, Hub.get_put_same _ _ (by decide)]
  rfl

end Sys2Proof.Machine
end

section
/-! SUPPORT. What the commands of start-up do: supplies, the reset button, straps and contacts (01 R28, R32–R39, R546,
04 R108, R117, R121, R134–R135). -/

open Sys2Proof Sys2Proof.Machine

namespace Sys2Proof.Machine

/-- What a start writes: the straps' mask, the modes, and the charger's power stage. -/
theorem Hub.bootBegin_eq (h : Hub) (cause src : Nat) (load : Bool) : ∃ v hold,
    h.bootBegin cause src load = (((h.put DEV_STRAPS_UNSTABLE 0).md! fun m => { m with
      power := .booting, resetCause := cause, shipSrc := src, phantomLoad := load, rstLow := true, straps := {},
      cutoffDue := false, waking := false }).put CHG_STAT_BATFET v).chg! fun c => { c with hold := hold } := ⟨_, _, rfl⟩

/-- A hub that a supply or SHIP's end has started: only the straps' mask, the power stage and the modes differ. -/
theorem State.started (s : State) (cause src : Nat) (load : Bool) :
    (s.hub.bootBegin cause src load).get DEV_STRAPS_UNSTABLE = 0
    ∧ (s.hub.bootBegin cause src load).chg = { s.hub.chg with hold := (s.hub.bootBegin cause src load).chg.hold }
    ∧ s.regFrame [DEV_STRAPS_UNSTABLE, CHG_STAT_BATFET] []
        { s with hub := { s.hub.bootBegin cause src load with md := s.hub.md, chg := s.hub.chg } } := by
  have only : s.hub.only [DEV_STRAPS_UNSTABLE, CHG_STAT_BATFET] [] (s.hub.bootBegin cause src load) :=
    Hub.only.bootBegin cause src load (Fld.mayIn_self (by simp) (by decide)) (Fld.mayIn_self (by simp) (by decide))
      (.refl _ _ _)
  have unstable := s.hub.get_bootBegin_unstable cause src load
  obtain ⟨v, hold, e⟩ := s.hub.bootBegin_eq cause src load
  rw [e] at only unstable ⊢
  exact ⟨unstable, by simp only [Hub.chg!_chg, Hub.put_chg, Hub.md!_chg],
    State.regFrame_hub (only.data rfl rfl rfl rfl) (by simp [Hub.bare])⟩

/-- A feed that the control alone keeps, then opened: latched, or qualifying while it is present. -/
theorem reopenedSt_aloneSt (st p : Nat) :
    reopenedSt (aloneSt st p) p = if st = 7 then st else if p = 1 then 3 else 1 := by
  unfold reopenedSt aloneSt
  grind

/-- The long press opens both feeds, whatever power the logic has (04 R135). -/
theorem Hub.feedSt_longPress (h : Hub) {k : Nat} (hk : k < 2) : h.longPress.feedSt k =
    if h.feedSt k = 7 ∨ h.running = false ∧ h.feedSt k ∈ [0, 1] then h.feedSt k
    else if h.get (FEED_STAT_PRESENT.pg k) = 1 then 3 else 1 := by
  have start (a : Hub) (m : Modes → Modes) (load : Bool) : ((a.md! m).bootBegin 3 0 load).feedSt k = a.feedSt k := by
    have x := Hub.only.bootBegin (fs := []) (ps := [0x00, 0x10]) 3 0 load (.inr (by decide)) (.inr (by decide))
      ((Hub.only.refl _ _ a).md! m)
    refine x.fields _ (by decide : FEED_STAT_STATE.fits) (by simp) ?_
    have page : (0x0E08 + 256 * k) / 256 = 0x0E + k := by omega
    simp [page]
    omega
  unfold Hub.longPress
  dsimp only
  rw [start, Hub.feedSt_reopenBoth _ hk]
  cases hr : h.running
  · simp only [Bool.false_eq_true, if_false, reopenedSt, List.mem_cons, List.not_mem_nil, or_false, true_and]
    split_ifs <;> omega
  · obtain ⟨st, present⟩ := h.feeds_logicOff hk
    simp only [if_true, st, present, reopenedSt_aloneSt, Bool.true_eq_false, false_and, or_false]

/-- The long press ends every transaction, and the hub boots (04 R134–R135). -/
theorem Hub.longPress_md (h : Hub) : h.longPress.md.power = .booting ∧ h.longPress.md.resetCause = 3
    ∧ h.longPress.md.rstLow = true ∧ h.longPress.md.straps = {} ∧ h.longPress.md.wakeArmed = false
    ∧ h.longPress.md.phantomLoad = (h.md.phantomLoad || (h.mode == mSERVICE && h.md.serviceByPhantom && !h.anyFeedOn)) := by
  unfold Hub.longPress
  simp only [Hub.bootBegin_md, Hub.md!_md, and_self]

/-- A press that is held changes nothing; a release arms the next (01 R33, 04 R135). -/
theorem Hub.wakeLevel_held {h : Hub} (hw : h.md.wakeLow = true) : h.wakeLevel false = h := by
  simp only [Hub.wakeLevel, hw, Bool.false_eq_true, if_false, if_true]

theorem Hub.wakeLevel_released (h : Hub) : h.wakeLevel true = h.md! fun m => { m with wakeLow := false, wakeArmed := true } :=
  rfl

theorem traceIn_seq : traceIn (0x07 :: tracePages) := fun _ => List.mem_cons_of_mem _

/-- A change of WAKE#'s level reaches the modes, and by a wake the sequencer (01 R33). -/
theorem State.wakePressed {s : State} (hw : s.hub.md.wakeLow = false) :
    (s.hub.wakeLevel false).md.wakeLow = true ∧ (s.hub.wakeLevel false).md.pressMode = s.hub.mode
    ∧ (s.hub.wakeLevel false).md.pressFeed = s.hub.feedAbove12
    ∧ (s.hub.md.power = .standby → (s.hub.wakeLevel false).md.waking = true)
    ∧ s.hub.only [] (0x07 :: tracePages) (s.hub.wakeLevel false) := by
  have e : s.hub.wakeLevel false = Hub.wakeBy (s.hub.md! fun m => { m with
      wakeLow := true, pressMode := s.hub.mode, pressFeed := s.hub.feedAbove12 }) := by
    simp only [Hub.wakeLevel, hw, Bool.false_eq_true, if_false]
  have only : s.hub.only [] (0x07 :: tracePages) (s.hub.wakeLevel false) := by
    rw [e]
    exact ((Hub.only.refl _ _ _).md! _).wakeBy (by simp) traceIn_seq
  obtain ⟨w, g, md, wakes⟩ := Hub.wakeBy_md (s.hub.md! fun m => { m with
    wakeLow := true, pressMode := s.hub.mode, pressFeed := s.hub.feedAbove12 })
  rw [← e] at md
  refine ⟨by rw [md]; rfl, by rw [md]; rfl, by rw [md]; rfl, fun hp => ?_, only⟩
  rw [md]
  exact wakes hp

/-- Phantom voltage that is heeded is shown (01 R28, R546). -/
theorem Hub.phantomDetect_heeded {h : Hub} (hh : h.phantomHeeded = true) :
    h.phantomDetect.md.phantom = true ∧ h.phantomDetect.get STR_PORTUP_PHANTOM = 1
    ∧ h.only [STR_PORTUP_PHANTOM] (0x07 :: tracePages) h.phantomDetect := by
  have e : h.phantomDetect = Hub.wakeBy ((h.md! fun m => { m with phantom := true }).put STR_PORTUP_PHANTOM 1) := by
    simp only [Hub.phantomDetect, hh, Bool.not_true, Bool.false_eq_true, if_false]
  have wake := (Hub.only.refl [] (0x07 :: tracePages)
    ((h.md! fun m => { m with phantom := true }).put STR_PORTUP_PHANTOM 1)).wakeBy (by simp) traceIn_seq
  rw [e]
  refine ⟨?_, ?_, (((Hub.only.refl _ _ h).md! _).put _ (Fld.mayIn_self (by simp) (by decide))).wakeBy (by simp) traceIn_seq⟩
  · obtain ⟨w, g, md, -⟩ := Hub.wakeBy_md ((h.md! fun m => { m with phantom := true }).put STR_PORTUP_PHANTOM 1)
    rw [md]
    rfl
  · rw [wake.fields _ (by decide) (by simp) (by decide), Hub.get_put_same _ _ (by decide)]
    rfl

theorem Hub.phantomDetect_unheeded {h : Hub} (hh : h.phantomHeeded = false) : h.phantomDetect = h := by
  simp only [Hub.phantomDetect, hh, Bool.not_false, if_true]

/-- TRANSPORT# shows its level (01 R39). -/
theorem Hub.transportChange_shows (h : Hub) (level : Bool) :
    (h.transportChange level).get DEV_STRAPS_TRANSPORT = (if level = true then 1 else 0)
    ∧ h.only [DEV_STRAPS_TRANSPORT] (0x07 :: tracePages) (h.transportChange level) := by
  have put : h.only [DEV_STRAPS_TRANSPORT] (0x07 :: tracePages) (h.putb DEV_STRAPS_TRANSPORT level) :=
    (Hub.only.refl _ _ h).putb _ (Fld.mayIn_self (by simp) (by decide))
  have shown : (h.putb DEV_STRAPS_TRANSPORT level).get DEV_STRAPS_TRANSPORT = (if level = true then 1 else 0) := by
    rw [Hub.get_putb_same _ _ (by decide)]
    cases level <;> rfl
  have wake := (Hub.only.refl [] (0x07 :: tracePages) (h.putb DEV_STRAPS_TRANSPORT level)).wakeStart (by simp)
    traceIn_seq
  refine ⟨?_, .ite (put.wakeStart (by simp) traceIn_seq) put⟩
  unfold Hub.transportChange
  dsimp only
  split
  · exact (wake.fields _ (by decide) (by simp) (by decide)).trans shown
  · exact shown

/-- What a strap sample within the ten does (01 R36, R546). -/
theorem State.strapSampled (s : State) (lv : BitVec 4) (hc : s.hub.md.straps.count < 10) :
    ∃ t : State, s.updAny (fun h => h.strapSample lv) = .next t ∧ t.hub.md.straps = s.hub.md.straps.sample lv
      ∧ (s.hub.md.straps.accepted.getLsbD 3 = false → t.hub.md.straps.accepted.getLsbD 3 = true →
          t.hub.md.retained = some (lv.getLsbD 3)
          ∧ (lv.getLsbD 3 = false → t.hub.md.phantomLoad = false
              ∧ (s.hub.md.phantomLoad = true → s.hub.anyFeedOn = false → t.hub.md.power = .off)))
      ∧ s.frame [] [] t := by
  obtain ⟨m, e, straps, hostsel⟩ := s.hub.strapSample_md lv hc
  have md : (s.hub.strapSample lv).md = m := by rw [e]; rfl
  refine ⟨{ s with hub := s.hub.strapSample lv }, rfl, ?_, ?_, State.frame_hub ?_⟩
  · exact (congrArg Modes.straps md).trans straps
  · intro h1 h2
    dsimp only at h2 ⊢
    rw [md] at h2 ⊢
    exact hostsel h1 (straps ▸ h2)
  · rw [e]
    exact (Hub.only.refl _ _ _).md! _

end Sys2Proof.Machine

/-- Settles O50, command by command. -/
theorem suppliesStrapsAndContacts : Obligations.SuppliesStrapsAndContacts := by
  unfold Obligations.SuppliesStrapsAndContacts
  refine ⟨fun s src ex => ⟨fun due => ?_, fun due => ?_, fun due => ?_⟩,
    fun s lv level => ⟨fun boots hc => ?_, fun boots hc ha => ?_, fun hp => ?_, fun hh => ?_, fun hh => ?_, ?_,
      fun hr due => ?_, fun hr due => ?_, fun hr => ?_⟩⟩
  · obtain ⟨unstable, chg, frame⟩ := s.started 1 0 (src == .phantom)
    exact ⟨_, if_pos due, unstable, chg, frame, rfl⟩
  · obtain ⟨unstable, chg, frame⟩ := s.started 2 (shipExitNum ex) false
    exact ⟨_, if_pos due, unstable, chg, frame, rfl⟩
  · obtain ⟨power, cause, low, straps, armed, load⟩ := s.hub.longPress_md
    exact ⟨_, if_pos due, power, cause, low, straps, armed, load, Hub.get_bootBegin_unstable _ _ _ _,
      fun k hk => s.hub.feedSt_longPress hk, rfl, rfl, rfl⟩
  · obtain ⟨t, run, straps, hostsel, frame⟩ := s.strapSampled lv hc
    refine ⟨t, (if_pos boots).trans run, ?_, ?_, hostsel, ?_, ?_, ?_, frame⟩
    · rw [straps]; rfl
    · rw [straps]; rfl
    · intro i hi acc
      rw [straps]
      exact Straps.sample_accepted lv hi acc
    · intro i hi acc row same
      have taken := Straps.sample_fourth hi acc row same
      rw [straps]
      exact ⟨taken, Straps.sample_value lv hi acc taken⟩
    · intro i hi acc differs
      rw [straps]
      exact Straps.sample_differs hi acc differs
  · obtain ⟨-, straps⟩ := s.hub.strapUnstable_md
    have only : s.hub.only [DEV_STRAPS_UNSTABLE, wholeFld FRM_PCC_PCC] tracePages s.hub.strapUnstable :=
      Hub.only.strapUnstable (Fld.mayIn_self (by simp) (by decide))
        (.inl ⟨wholeFld FRM_PCC_PCC, by simp, by decide, by decide⟩) (by decide) (.refl _ _ _)
    refine ⟨{ s with hub := s.hub.strapUnstable }, if_pos ⟨boots, by simpa [Straps.over10] using hc⟩, ?_, ?_, ?_,
      State.frame_hub only, ?_⟩
    · exact congrArg Straps.accepted straps
    · exact (Hub.get_strapUnstable ha _).trans s.hub.get_strapsAsOne_unstable
    · intro i hi
      rw [straps]
      simp only [Straps.asOne, BitVec.getLsbD_or, BitVec.getLsbD_not, hi]
      cases s.hub.md.straps.accepted.getLsbD i <;> simp
    · exact (Hub.get_strapUnstable ha _).trans s.hub.get_strapsAsOne_pcc
  · refine ⟨fun hw => ?_, ?_, fun hw => ?_⟩
    · obtain ⟨low, mode, feed, waking, only⟩ := State.wakePressed hw
      exact ⟨_, if_neg hp, low, mode, feed, waking, State.frame_hub only⟩
    · refine ⟨{ s with hub := s.hub.wakeLevel true }, if_neg hp, rfl, State.frame_hub ?_⟩
      rw [Hub.wakeLevel_released]
      exact (Hub.only.refl _ _ _).md! _
    · have held : s.updAny (fun h => h.wakeLevel false) = .next s := by
        simp only [State.updAny, Hub.wakeLevel_held hw]
      exact (if_neg hp).trans held
  · obtain ⟨phantom, shown, only⟩ := Hub.phantomDetect_heeded hh
    exact ⟨_, rfl, phantom, shown, State.frame_hub only⟩
  · exact ⟨_, rfl, Hub.phantomDetect_unheeded hh, rfl, rfl, rfl⟩
  · exact ⟨_, rfl, rfl, Hub.get_put_same _ _ (by decide),
      State.frame_hub (((Hub.only.refl _ _ _).md! _).put _ (Fld.mayIn_self (by simp) (by decide)))⟩
  · exact ⟨_, State.when_on _ due hr, rfl, State.frame_hub ((Hub.only.refl _ _ _).md! _)⟩
  · exact ⟨_, State.when_on _ due hr, rfl, State.frame_hub ((Hub.only.refl _ _ _).md! _)⟩
  · obtain ⟨shown, only⟩ := s.hub.transportChange_shows level
    exact ⟨_, State.upd_on _ hr, shown, State.frame_hub only⟩
end

section
/-! SUPPORT. What the steps of a cold start reach: `Hub.starting`, one lemma for each operation they are made of
(04 R120–R124). -/

namespace Sys2Proof.Machine

/-! ## Waiting writes (03 R92) -/

theorem Hub.touchSlot_pend (h : Hub) (slot : Nat) (r : Rec) : (h.touchSlot slot r).pend = h.pend := by
  unfold Hub.touchSlot
  split
  · rfl
  · rw [Hub.rcd!_pend]

theorem Hub.record_pend (h : Hub) (code inst sev pay : Nat) : (h.record code inst sev pay).pend = h.pend := by
  unfold Hub.record
  dsimp only
  split
  · split
    · rw [Hub.touchSlot_pend, Hub.put_pend, Hub.rcd!_pend]
    · rw [Hub.rcd!_pend]
  · split
    · rw [Hub.rcd!_pend, Hub.incSat_pend]
    · rw [Hub.rcd!_pend, Hub.put_pend]

theorem Hub.setFlag_pend_nil {h : Hub} (f : Fld) (hp : h.pend = []) : (h.setFlag f).pend = [] := by
  have none : mapFind (h.put f 1).pend f.idx = none := by rw [Hub.put_pend, hp, mapFind]
  unfold Hub.setFlag Hub.keepBits
  rw [none, Hub.put_pend, hp]

theorem Hub.raise_pend_nil {h : Hub} (s : Nat) (hp : h.pend = []) : (h.raise s).pend = [] := by
  unfold Hub.raise
  split
  · exact Hub.setFlag_pend_nil _ hp
  · exact hp

theorem Hub.raiseAll_pend_nil {h : Hub} (l : List Nat) (hp : h.pend = []) : (h.raiseAll l).pend = [] := by
  unfold Hub.raiseAll
  induction l generalizing h with
  | nil => exact hp
  | cons s l ih => exact ih (Hub.raise_pend_nil s hp)

/-- Where no write waits, an event leaves none waiting. -/
theorem Hub.evt_pend_nil {h : Hub} (page bit : Nat) (hp : h.pend = []) : (h.evt page bit).pend = [] := by
  have noted : (if bit = 31 ∧ ¬ h.flag ⟨page * 256 + 3, bit, 1⟩ = true then
      ((h.setFlag ⟨page * 256 + 3, bit, 1⟩).put IRQ_PARSRC_PAGE page).incSat IRQ_PARSRC_COUNT
      else h.setFlag ⟨page * 256 + 3, bit, 1⟩).pend = [] := by
    split
    · rw [Hub.incSat_pend, Hub.put_pend, Hub.setFlag_pend_nil _ hp]
    · exact Hub.setFlag_pend_nil _ hp
  unfold Hub.evt
  dsimp only
  split
  · split
    · exact Hub.raiseAll_pend_nil _ noted
    · exact noted
  · exact noted

/-! ## Page headers -/

theorem Hub.page_setPage_same (h : Hub) (p : Nat) (y : PageHdr) : (h.setPage p y).page p = y := by
  unfold Hub.setPage Hub.page
  rw [Hub.pages!_pages]
  split
  · rename_i e
    rw [mapFind_mapDel_same, e, Option.getD_none]
  · rw [mapFind_mapPut_same, Option.getD_some]

theorem Hub.page_setPage_ne (h : Hub) {p q : Nat} (y : PageHdr) (hq : q ≠ p) : (h.setPage p y).page q = h.page q := by
  unfold Hub.setPage Hub.page
  rw [Hub.pages!_pages]
  split
  · rw [mapFind_mapDel_ne _ hq]
  · rw [mapFind_mapPut_ne _ _ hq]

/-! ## The relation -/

/-- What a step of a cold start does to a hub: of the registers only `fs` and the pages `ps` change, no write comes to
wait, no value is staged, and of the modes only HOSTSEL is retained and the profile read. -/
structure Hub.starting (fs : List Fld) (ps : List Nat) (a b : Hub) : Prop where
  only : Hub.only fs ps a b
  pend : a.pend = [] → b.pend = []
  shadow : b.shadow = a.shadow
  once : b.once = a.once
  md : ∃ r p, b.md = { a.md with retained := r, profile := p }

theorem Hub.starting.refl (fs : List Fld) (ps : List Nat) (h : Hub) : Hub.starting fs ps h h :=
  ⟨.refl fs ps h, id, rfl, rfl, ⟨_, _, rfl⟩⟩

theorem Hub.starting.trans {fs : List Fld} {ps : List Nat} {a b c : Hub} (x : Hub.starting fs ps a b)
    (y : Hub.starting fs ps b c) : Hub.starting fs ps a c := by
  obtain ⟨r, p, m⟩ := x.md
  obtain ⟨r', p', m'⟩ := y.md
  exact ⟨x.only.trans y.only, y.pend ∘ x.pend, y.shadow.trans x.shadow, y.once.trans x.once,
    ⟨r', p', by rw [m', m]⟩⟩

theorem Hub.starting.mono {fs gs : List Fld} {ps qs : List Nat} {a b : Hub} (hf : ∀ g ∈ fs, g ∈ gs)
    (hp : ∀ p ∈ ps, p ∈ qs) (x : Hub.starting fs ps a b) : Hub.starting gs qs a b :=
  { x with only := x.only.mono hf hp }

/-- A step that leaves staged values and modes. -/
theorem Hub.starting.next {fs : List Fld} {ps : List Nat} {a b c : Hub} (x : Hub.starting fs ps a b)
    (o : Hub.only fs ps a c) (hw : b.pend = [] → c.pend = []) (hs : c.shadow = b.shadow) (ho : c.once = b.once)
    (hm : c.md = b.md) : Hub.starting fs ps a c :=
  ⟨o, hw ∘ x.pend, hs.trans x.shadow, ho.trans x.once, by rw [hm]; exact x.md⟩

/-- A step that touches registers and records alone. -/
theorem Hub.starting.ofBare {fs : List Fld} {ps : List Nat} {a b c : Hub} (x : Hub.starting fs ps a b)
    (o : Hub.only fs ps a c) (hw : b.pend = [] → c.pend = []) (hb : c.bare = b.bare) : Hub.starting fs ps a c :=
  x.next o hw (Hub.of_bare Hub.shadow (fun _ => rfl) hb) (Hub.of_bare Hub.once (fun _ => rfl) hb) (Hub.md_of_bare hb)

/-! ## Operations -/

section
variable {fs : List Fld} {ps : List Nat} {a b : Hub}

theorem Hub.starting.ite {c : Hub} {p : Prop} [Decidable p] (x : Hub.starting fs ps a b) (y : Hub.starting fs ps a c) :
    Hub.starting fs ps a (if p then b else c) := by split <;> assumption

theorem Hub.starting.foldl {α : Type} (f : Hub → α → Hub) (l : List α)
    (hf : ∀ c, ∀ y ∈ l, Hub.starting fs ps a c → Hub.starting fs ps a (f c y)) (x : Hub.starting fs ps a b) :
    Hub.starting fs ps a (l.foldl f b) := by
  induction l generalizing b with
  | nil => exact x
  | cons y l ih =>
    exact ih (fun c z hz => hf c z (List.mem_cons_of_mem _ hz)) (hf b y (List.mem_cons_self ..) x)

theorem Hub.starting.put {f : Fld} (v : Nat) (hf : f.mayIn fs ps) (x : Hub.starting fs ps a b) :
    Hub.starting fs ps a (b.put f v) := x.ofBare (x.only.put v hf) (by rw [Hub.put_pend]; exact id) (Hub.bare_put ..)

theorem Hub.starting.setWord {i : Nat} (w : Word) (hi : i / 256 ∈ ps) (x : Hub.starting fs ps a b) :
    Hub.starting fs ps a (b.setWord i w) :=
  x.ofBare (x.only.setWord w hi) (by rw [Hub.setWord_pend]; exact id) (Hub.bare_setWord ..)

theorem Hub.starting.rcd! (f : Recorder → Recorder) (hp : 6 ∈ ps) (x : Hub.starting fs ps a b) :
    Hub.starting fs ps a (b.rcd! f) := x.ofBare (x.only.rcd! f hp) id rfl

theorem Hub.starting.record (code inst sev pay : Nat) (hp : 6 ∈ ps) (x : Hub.starting fs ps a b) :
    Hub.starting fs ps a (b.record code inst sev pay) :=
  x.ofBare (x.only.record code inst sev pay hp) (by rw [Hub.record_pend]; exact id) (Hub.bare_record ..)

theorem Hub.starting.evt (page bit : Nat) (hf : (flagFld page bit).mayIn fs ps) (hp : irqIn ps) (h31 : bit ≠ 31)
    (x : Hub.starting fs ps a b) : Hub.starting fs ps a (b.evt page bit) :=
  x.ofBare (x.only.evt page bit hf hp (.inl h31)) (Hub.evt_pend_nil page bit) (Hub.bare_evt ..)

theorem Hub.starting.report (page bit code inst sev : Nat) (l : List (Nat × Nat × Nat))
    (hf : (flagFld page bit).mayIn fs ps) (ht : traceIn ps) (h31 : bit ≠ 31) (x : Hub.starting fs ps a b) :
    Hub.starting fs ps a (b.report page bit code inst sev l) := (x.evt page bit hf ht.irq h31).record _ _ _ _ ht.rec

theorem Hub.starting.setPage (p : Nat) (y : PageHdr) (x : Hub.starting fs ps a b) :
    Hub.starting fs ps a (b.setPage p y) := x.next (x.only.setPage p y) id rfl rfl rfl

theorem Hub.starting.fence (page code : Nat) (hf : (flagFld page 29).mayIn fs ps) (ht : traceIn ps)
    (x : Hub.starting fs ps a b) : Hub.starting fs ps a (b.fence page code) :=
  .ite x (((x.setPage _ _).evt page 29 hf ht.irq (by decide)).record _ _ _ _ ht.rec)

theorem Hub.starting.feed! (k : Nat) (f : Feed → Feed) (x : Hub.starting fs ps a b) : Hub.starting fs ps a (b.feed! k f) :=
  .ite (x.next (x.only.feedA! f) id rfl rfl rfl) (x.next (x.only.feedB! f) id rfl rfl rfl)

theorem Hub.starting.share! (f : Sharing → Sharing) (x : Hub.starting fs ps a b) : Hub.starting fs ps a (b.share! f) :=
  x.next (x.only.share! f) id rfl rfl rfl

theorem Hub.starting.chg! (f : Charger → Charger) (x : Hub.starting fs ps a b) : Hub.starting fs ps a (b.chg! f) :=
  x.next (x.only.chg! f) id rfl rfl rfl

theorem Hub.starting.mea! (f : Measure → Measure) (x : Hub.starting fs ps a b) : Hub.starting fs ps a (b.mea! f) :=
  x.next (x.only.mea! f) id rfl rfl rfl

theorem Hub.starting.rtc! (f : Rtc → Rtc) (x : Hub.starting fs ps a b) : Hub.starting fs ps a (b.rtc! f) :=
  x.next (x.only.rtc! f) id rfl rfl rfl

theorem Hub.starting.link! (f : Link → Link) (x : Hub.starting fs ps a b) : Hub.starting fs ps a (b.link! f) :=
  x.next (x.only.link! f) id rfl rfl rfl

theorem Hub.starting.engines! (f : List Engine → List Engine) (x : Hub.starting fs ps a b) :
    Hub.starting fs ps a (b.engines! f) := x.next (x.only.engines! f) id rfl rfl rfl

theorem Hub.starting.convs! (f : List Conv → List Conv) (x : Hub.starting fs ps a b) :
    Hub.starting fs ps a (b.convs! f) := x.next (x.only.convs! f) id rfl rfl rfl

theorem Hub.starting.lb! (f : LoadBus → LoadBus) (x : Hub.starting fs ps a b) : Hub.starting fs ps a (b.lb! f) :=
  x.next (x.only.lb! f) id rfl rfl rfl

/-- HOSTSEL is retained. -/
theorem Hub.starting.retain (v : Option Bool) (x : Hub.starting fs ps a b) :
    Hub.starting fs ps a (b.md! fun m => { m with retained := v }) := by
  obtain ⟨r, p, m⟩ := x.md
  exact ⟨x.only.md! _, x.pend, x.shadow, x.once, ⟨v, p, by rw [Hub.md!_md, m]⟩⟩

/-- The profile is read. -/
theorem Hub.starting.profile (l : List (Nat × Word)) (x : Hub.starting fs ps a b) :
    Hub.starting fs ps a (b.md! fun m => { m with profile := l }) := by
  obtain ⟨r, p, m⟩ := x.md
  exact ⟨x.only.md! _, x.pend, x.shadow, x.once, ⟨r, l, by rw [Hub.md!_md, m]⟩⟩

end

/-! ## Fences (21 R517–R518) -/

theorem Hub.hasCause_of_bare {a b : Hub} (e : a.bare = b.bare) (p c : Nat) : a.hasCause p c = b.hasCause p c :=
  Hub.of_bare (fun h => h.hasCause p c) (fun _ => rfl) e

/-- A page that is fenced holds the cause. -/
theorem Hub.hasCause_fence (h : Hub) (page code : Nat) : (h.fence page code).hasCause page code = true := by
  unfold Hub.fence
  split
  · assumption
  · dsimp only
    rw [Hub.hasCause_of_bare ((Hub.bare_record ..).trans (Hub.bare_evt ..))]
    simp only [Hub.hasCause, Hub.page_setPage_same, List.any_append, List.any_cons, beq_self_eq_true, Bool.true_or,
      Bool.or_true]

/-- A fence releases none. -/
theorem Hub.fence_hasCause (h : Hub) (page code : Nat) {p c : Nat} (hc : h.hasCause p c = true) :
    (h.fence page code).hasCause p c = true := by
  unfold Hub.fence
  split
  · exact hc
  · dsimp only
    rw [Hub.hasCause_of_bare ((Hub.bare_record ..).trans (Hub.bare_evt ..))]
    by_cases hp : p = page
    · subst hp
      simp only [Hub.hasCause, Hub.page_setPage_same, List.any_append] at hc ⊢
      rw [hc, Bool.true_or]
    · simp only [Hub.hasCause, Hub.page_setPage_ne _ _ hp] at hc ⊢
      exact hc

/-- Every page of a list that is fenced holds the cause. -/
theorem Hub.hasCause_fenceAll (l : List Nat) (code : Nat) {h : Hub} {p : Nat}
    (hp : p ∈ l ∨ h.hasCause p code = true) : (l.foldl (fun a p => a.fence p code) h).hasCause p code = true := by
  induction l generalizing h with
  | nil => exact hp.resolve_left (by simp)
  | cons q l ih =>
    refine ih ?_
    rcases hp with mem | held
    · rcases List.mem_cons.mp mem with rfl | mem
      · exact .inr (h.hasCause_fence _ code)
      · exact .inl mem
    · exact .inr (h.fence_hasCause q code held)

end Sys2Proof.Machine
end

section
/-! SUPPORT. The registers a cold start begins with: what is stored keeps its value, everything else stands at reset
(04 R120, R124, 20 R499). -/

namespace Sys2Proof.Machine

theorem mapFind_filter {α : Type} (m : List (Nat × α)) (p : Nat → Bool) (i : Nat) :
    mapFind (m.filter fun e => p e.1) i = if p i then mapFind m i else none := by
  induction m with
  | nil => simp [mapFind]
  | cons e m ih =>
    obtain ⟨j, u⟩ := e
    rw [List.filter_cons]
    by_cases hj : j = i
    · subst hj
      cases hp : p j
      · simp only [Bool.false_eq_true, if_false]
        rw [ih, hp]
        simp
      · simp [mapFind]
    · have skip : mapFind ((j, u) :: m) i = mapFind m i := by rw [mapFind, if_neg hj]
      rw [skip, ← ih]
      split
      · rw [mapFind, if_neg hj]
      · rfl

/-- A hub whose registers outside a choice return to reset. -/
theorem Hub.word_filter (h : Hub) (p : Nat → Bool) (i : Nat) :
    (h.regs! fun m => m.filter fun e => p e.1).word i = if p i then h.word i else resetWord h.part i := by
  unfold Hub.word
  rw [Hub.regs!_regs, Hub.regs!_part, mapFind_filter]
  split <;> rfl

/-! ## Fields given one after the other -/

/-- The values of a list of fields, put one after the other. -/
def Hub.putAll (h : Hub) (v : Fld → Nat) (l : List Fld) : Hub := l.foldl (fun a f => a.put f (v f)) h

theorem Hub.get_putAll_apart (h : Hub) (v : Fld → Nat) {l : List Fld} {g : Fld} (hf : ∀ f ∈ l, f.fits)
    (ha : ∀ f ∈ l, f.apart g) : (h.putAll v l).get g = h.get g := by
  unfold Hub.putAll
  induction l generalizing h with
  | nil => rfl
  | cons f l ih =>
    rw [List.foldl_cons, ih _ (fun k hk => hf k (List.mem_cons_of_mem _ hk)) (fun k hk => ha k (List.mem_cons_of_mem _ hk)),
      Hub.get_put_apart _ _ (hf f (List.mem_cons_self ..)) (ha f (List.mem_cons_self ..))]

theorem Hub.get_putAll_mem (h : Hub) (v : Fld → Nat) {l : List Fld} {g : Fld} (hf : ∀ f ∈ l, f.fits)
    (hd : l.Pairwise fun a b => b.apart a) (hg : g ∈ l) : (h.putAll v l).get g = v g % 2 ^ g.w := by
  unfold Hub.putAll
  induction l generalizing h with
  | nil => exact absurd hg (by simp)
  | cons f l ih =>
    obtain ⟨hfl, hd⟩ := List.pairwise_cons.mp hd
    have rest : ∀ k ∈ l, k.fits := fun k hk => hf k (List.mem_cons_of_mem _ hk)
    rw [List.foldl_cons]
    rcases List.mem_cons.mp hg with rfl | hg
    · exact (Hub.get_putAll_apart _ v rest hfl).trans (Hub.get_put_same _ _ (hf g (List.mem_cons_self ..)))
    · exact ih _ rest hd hg

/-! ## The registers of a cold start -/

/-- The hub of which a cold start takes the registers. -/
def Hub.coldKeep (h : Hub) : Hub := (h.regs! fun m => m.filter fun e => coldWhole e.1).putAll h.get coldKept

theorem Hub.putAll_part (h : Hub) (v : Fld → Nat) (l : List Fld) : (h.putAll v l).part = h.part := by
  unfold Hub.putAll
  induction l generalizing h with
  | nil => rfl
  | cons f l ih => rw [List.foldl_cons, ih, Hub.put_part]

theorem Hub.coldBase_regs (h : Hub) : h.coldBase.regs = h.coldKeep.regs := by
  unfold Hub.coldBase Hub.coldKeep Hub.coldRegs Hub.putAll
  dsimp only

theorem Hub.coldBase_part (h : Hub) : h.coldBase.part = h.part := by
  unfold Hub.coldBase
  rfl

theorem Hub.get_coldBase (h : Hub) (g : Fld) : h.coldBase.get g = h.coldKeep.get g := by
  have part : h.coldKeep.part = h.part := Hub.putAll_part ..
  unfold Hub.get Hub.word
  rw [part, Hub.coldBase_part, Hub.coldBase_regs]

theorem coldKept_fits : ∀ f ∈ coldKept, f.fits := by decide
theorem coldKept_apart : coldKept.Pairwise fun a b => b.apart a := by decide

/-- What is marked Stored keeps its value. -/
theorem Hub.get_coldBase_kept (h : Hub) {g : Fld} (hg : g ∈ coldKept) : h.coldBase.get g = h.get g := by
  rw [Hub.get_coldBase, Hub.coldKeep, Hub.get_putAll_mem _ _ coldKept_fits coldKept_apart hg]
  exact Nat.mod_eq_of_lt (bitsOf_lt _ _ _)

/-- So do the registers of the RTC page and the state of the feeds. -/
theorem Hub.get_coldBase_whole (h : Hub) {g : Fld} (ha : ∀ f ∈ coldKept, f.apart g) (hw : coldWhole g.idx = true) :
    h.coldBase.get g = h.get g := by
  rw [Hub.get_coldBase, Hub.coldKeep, Hub.get_putAll_apart _ _ coldKept_fits ha]
  unfold Hub.get
  rw [Hub.word_filter, hw, if_pos rfl]

/-- Every other field returns to its reset value. -/
theorem Hub.get_coldBase_reset (h : Hub) {g : Fld} (ha : ∀ f ∈ coldKept, f.apart g) (hw : coldWhole g.idx = false) :
    h.coldBase.get g = bitsOf (resetWord h.part g.idx) g.lo g.w := by
  rw [Hub.get_coldBase, Hub.coldKeep, Hub.get_putAll_apart _ _ coldKept_fits ha]
  unfold Hub.get
  rw [Hub.word_filter, hw, if_neg (by decide)]

/-! ## The boot profile (04 R122) -/

theorem Hub.word_foldl_setWord (l : List (Nat × Word)) (h : Hub) {i : Nat} (hi : ∀ e ∈ l, e.1 ≠ i) :
    (l.foldl (fun a e => a.setWord e.1 e.2) h).word i = h.word i := by
  induction l generalizing h with
  | nil => rfl
  | cons e l ih =>
    rw [List.foldl_cons, ih _ fun e he => hi e (List.mem_cons_of_mem _ he),
      Hub.word_setWord_ne _ _ (hi e (List.mem_cons_self ..)).symm]

/-- The profile gives no register outside its choice. -/
theorem Hub.word_bootLoad (h : Hub) {ok : Nat → Bool} {i : Nat} (hi : ok i = false) : (h.bootLoad ok).word i = h.word i := by
  unfold Hub.bootLoad
  rw [Hub.word_foldl_setWord, Hub.word_filter h (fun j => !ok j), hi]
  · rfl
  · intro e he eq
    have := (List.mem_filter.mp he).2
    rw [eq, hi] at this
    exact absurd this (by decide)

theorem Hub.bare_bootLoad (h : Hub) (ok : Nat → Bool) : (h.bootLoad ok).bare = h.bare :=
  (Hub.bare_foldl (fun (a : Hub) (e : Nat × Word) => a.setWord e.1 e.2) (fun _ _ => Hub.bare_setWord ..) _ _).trans rfl

/-- A change of whole registers, of those of `fs` and of the pages `ps`. -/
theorem Hub.only.words {fs : List Fld} {ps : List Nat} {a b c : Hub} (x : Hub.only fs ps a b) (hp : c.part = b.part)
    (hw : c.pend = b.pend) (hq : c.rcd = b.rcd)
    (words : ∀ i, wholeFld ⟨i, 0, 0⟩ ∉ fs → i / 256 ∉ ps → c.word i = b.word i) : Hub.only fs ps a c := by
  refine x.trans ⟨hp, fun f fits ha hpage => ?_, fun i _ _ => by rw [hw], fun _ => hq⟩
  unfold Hub.get
  by_cases hm : wholeFld ⟨f.idx, 0, 0⟩ ∈ fs
  · have apart := ha _ hm
    have empty : f.w = 0 := by
      simp only [Fld.apart, Fld.fits] at apart fits
      omega
    simp [bitsOf, empty, Nat.mod_one]
  · rw [words _ hm hpage]

end Sys2Proof.Machine
end

section
/-! SUPPORT. The stages of a cold start before the self-test: the clocks, the boot profile, the feeds and the straps
(04 R120–R122, 01 R37–R38). -/

namespace Sys2Proof.Machine

/-! ## Operations of one stage each -/

section
variable {fs : List Fld} {ps : List Nat} {a b : Hub}

theorem Hub.starting.incSat {f : Fld} (n : Nat) (hf : f.mayIn fs ps) (x : Hub.starting fs ps a b) :
    Hub.starting fs ps a (b.incSat f n) := x.put _ hf

theorem Hub.starting.putb {f : Fld} (v : Bool) (hf : f.mayIn fs ps) (x : Hub.starting fs ps a b) :
    Hub.starting fs ps a (b.putb f v) := x.put _ hf

theorem Hub.starting.puti {f : Fld} (v : Int) (hf : f.mayIn fs ps) (x : Hub.starting fs ps a b) :
    Hub.starting fs ps a (b.puti f v) := x.put _ hf

theorem Hub.starting.host! (p : Port) (f : HostReq → HostReq) (x : Hub.starting fs ps a b) :
    Hub.starting fs ps a (b.host! p f) := x.mea! _

/-- A field outside what a step reaches keeps its value. -/
theorem Hub.starting.get (x : Hub.starting fs ps a b) {g : Fld} (hg : g.fits) (hf : ∀ f ∈ fs, f.apart g)
    (hp : g.idx / 256 ∉ ps) : b.get g = a.get g := x.only.fields g hg hf hp

theorem Hub.starting.feedTo (k st : Nat) (hk : 0x0E + k ∈ ps) (x : Hub.starting fs ps a b) :
    Hub.starting fs ps a (b.feedTo k st) := by
  have pg {f : Fld} (e : f.idx / 256 = 0x0E + k) : f.mayIn fs ps := .inr (e ▸ hk)
  have idx : (FEED_STAT_STATE.pg k).idx / 256 = 0x0E + k := by
    show (0x0E08 + 256 * k) / 256 = _
    omega
  exact ((((x.put (f := FEED_STAT_STATE.pg k) _ (pg idx)).putb (f := FEED_STAT_CONDUCT.pg k) _ (pg idx)).put
    (f := FEED_STAT_BLOCKING.pg k) _ (pg idx)).put (f := FEED_STAT_LIMITING.pg k) _ (pg idx)).feed! k _

end

/-! ## The clocks, and a clearing that is resumed -/

/-- The first stage: PCC is one more, and straps without four agreeing samples show. -/
def Hub.coldCount (h : Hub) : Hub :=
  (h.coldBase.incSat FRM_PCC_PCC).put DEV_STRAPS_UNSTABLE (h.get DEV_STRAPS_UNSTABLE)

/-- The second: a clearing goes on, and the clocks run. -/
def Hub.coldClocks (b : Hub) (c : Option Clearing) : Hub :=
  (((match c with | some c => b.clearRun c.slot c.mark true c.ring c.fatal | none => b) : Hub).put
    CLK_STAT_MOSC_RDY 1).pllOn

theorem Hub.starting.clearRun {fs : List Fld} {ps : List Nat} {a b : Hub} (slot mark : Nat) (resumed : Bool)
    (ring fatal : Nat) (hp : 6 ∈ ps) (x : Hub.starting fs ps a b) :
    Hub.starting fs ps a (b.clearRun slot mark resumed ring fatal) := by
  unfold Hub.clearRun
  exact (((x.put (f := REC_STAT_CLEARING) _ (.inr hp)).rcd! _ hp).put (f := REC_SEQ_NEXT) _ (.inr hp)).rcd! _ hp

theorem Hub.starting_coldClocks (b : Hub) (c : Option Clearing) : Hub.starting [] [1, 6] b (b.coldClocks c) := by
  have resumed : Hub.starting [] [1, 6] b
      (match c with | some c => b.clearRun c.slot c.mark true c.ring c.fatal | none => b) := by
    cases c with
    | none => exact .refl ..
    | some c => exact (Hub.starting.refl [] [1, 6] b).clearRun _ _ _ _ _ (by decide)
  have p1 {f : Fld} (e : f.idx / 256 = 1) : f.mayIn [] [1, 6] := .inr (by rw [e]; decide)
  exact (((resumed.put (f := CLK_STAT_MOSC_RDY) _ (p1 rfl)).put (f := CLK_STAT_CORE_SRC) _ (p1 rfl)).put
    (f := CLK_STAT_PLL_RDY) _ (p1 rfl)).put (f := CLK_PLLSTAT_LOCKTIME) _ (p1 rfl)

/-! ## The boot profile (04 R122) -/

/-- The registers that the boot profile gives beside those of page 0x07, and the one that shows it. -/
def bootFlds : List Fld := wholeFld DEV_BOOT_VER ::
  [DEV_CTL_AUTO_STBY.idx, DEV_IDLET_IDLE_T.idx, 0x1209, 0x1309, 0x1409, 0x1509].map fun i => wholeFld ⟨i, 0, 0⟩

def bootPages : List Nat := [6, 7]

/-- The registers that the profile may give. -/
def bootReg (i : Nat) : Bool := bootIdx i || i == DEV_CTL_AUTO_STBY.idx || i == DEV_IDLET_IDLE_T.idx

theorem bootReg_within {i : Nat} (hi : bootReg i = true) : wholeFld ⟨i, 0, 0⟩ ∈ bootFlds ∨ i / 256 ∈ bootPages := by
  simp only [bootReg, bootIdx, Bool.or_eq_true, Bool.and_eq_true, beq_iff_eq, decide_eq_true_eq] at hi
  rcases hi with (((((rfl | rfl) | rfl) | rfl) | hi) | rfl) | rfl
  · decide
  · decide
  · decide
  · decide
  · have : i / 256 = 7 := by omega
    exact .inr (this ▸ by decide)
  · decide
  · decide

theorem Hub.starting.bootLoad {a b : Hub} (x : Hub.starting bootFlds bootPages a b) :
    Hub.starting bootFlds bootPages a (b.bootLoad bootReg) := by
  have bare := b.bare_bootLoad bootReg
  have kept (i : Nat) (hf : wholeFld ⟨i, 0, 0⟩ ∉ bootFlds) (hp : i / 256 ∉ bootPages) :
      (b.bootLoad bootReg).word i = b.word i :=
    b.word_bootLoad (by
      rw [Bool.eq_false_iff]
      exact fun hi => (bootReg_within hi).elim hf hp)
  have rest : (b.bootLoad bootReg).pend = b.pend ∧ (b.bootLoad bootReg).rcd = b.rcd := by
    unfold Hub.bootLoad
    generalize List.filter _ b.md.profile = l
    suffices ∀ c : Hub, (l.foldl (fun a e => a.setWord e.1 e.2) c).pend = c.pend ∧
        (l.foldl (fun a e => a.setWord e.1 e.2) c).rcd = c.rcd from this _
    induction l with
    | nil => exact fun c => ⟨rfl, rfl⟩
    | cons e l ih => exact fun c => ⟨(ih _).1.trans (Hub.setWord_pend ..), (ih _).2.trans (Hub.setWord_rcd ..)⟩
  exact x.ofBare (x.only.words (Hub.of_bare Hub.part (fun _ => rfl) bare) rest.1 rest.2 kept)
    (fun hp => rest.1.trans hp) bare

/-- What the factory's profile stands in for. -/
def Hub.bootBad (h : Hub) (cause : Nat) : Hub :=
  ((h.put DEV_BOOT_FACTORY 1).put DEV_BOOT_VALID 0).record 0x0106 0 sevFAULT (payload [(0, 1, cause)])

/-- A profile that is sound shows its version. -/
def Hub.bootShown (h : Hub) (ver : Nat) : Hub :=
  ((h.put DEV_BOOT_VER ver).put DEV_BOOT_VALID 1).put DEV_BOOT_FACTORY 0

theorem boot_mayIn {f : Fld} (h : f.idx = DEV_BOOT_VER.idx) (hf : f.fits) : f.mayIn bootFlds bootPages :=
  .inl ⟨wholeFld DEV_BOOT_VER, by decide, ⟨h, by simp, by simpa using hf⟩, hf⟩

theorem Hub.starting_bootBad (h : Hub) (cause : Nat) : Hub.starting bootFlds bootPages h (h.bootBad cause) :=
  (((Hub.starting.refl _ _ h).put (f := DEV_BOOT_FACTORY) _ (boot_mayIn rfl (by decide))).put (f := DEV_BOOT_VALID) _
    (boot_mayIn rfl (by decide))).record _ _ _ _ (by decide)

theorem Hub.starting_bootShown (h : Hub) (ver : Nat) : Hub.starting bootFlds bootPages h (h.bootShown ver) :=
  (((Hub.starting.refl _ _ h).put (f := DEV_BOOT_VER) _ (boot_mayIn rfl (by decide))).put (f := DEV_BOOT_VALID) _
    (boot_mayIn rfl (by decide))).put (f := DEV_BOOT_FACTORY) _ (boot_mayIn rfl (by decide))

theorem Hub.bootRead_ok (h : Hub) (ver : BitVec 8) (rs : List (BitVec 16 × Word)) : ∃ l, h.bootRead (.ok ver rs) =
    ((h.bootShown ver.toNat).md! fun m => { m with profile := l }).bootLoad bootReg := by
  unfold Hub.bootRead
  exact ⟨_, rfl⟩

theorem Hub.starting_bootRead (h : Hub) (b : BootRead) : Hub.starting bootFlds bootPages h (h.bootRead b) := by
  cases b with
  | ok ver rs =>
    obtain ⟨l, eq⟩ := h.bootRead_ok ver rs
    rw [eq]
    exact ((h.starting_bootShown ver.toNat).profile _).bootLoad
  | checkFailed => exact h.starting_bootBad 1
  | unknownVersion => exact h.starting_bootBad 2
  | readError => exact h.starting_bootBad 3

theorem Hub.get_bootBad (h : Hub) (cause : Nat) :
    (h.bootBad cause).get DEV_BOOT_VALID = 0 ∧ (h.bootBad cause).get DEV_BOOT_FACTORY = 1 := by
  have kept {g : Fld} (e : g.idx = DEV_BOOT_VER.idx) (hg : g.fits) : (h.bootBad cause).get g =
      ((h.put DEV_BOOT_FACTORY 1).put DEV_BOOT_VALID 0).get g :=
    ((Hub.starting.refl [] [6] _).record _ _ _ _ (by decide)).get hg (by simp) (by rw [e]; decide)
  refine ⟨(kept (g := DEV_BOOT_VALID) rfl (by decide)).trans ?_, (kept (g := DEV_BOOT_FACTORY) rfl (by decide)).trans ?_⟩
  · exact Hub.get_put_same _ _ (by decide)
  · rw [Hub.get_put_apart _ _ (by decide) (by decide), Hub.get_put_same _ _ (by decide)]
    decide

theorem Hub.get_bootRead_ok (h : Hub) (ver : BitVec 8) (rs : List (BitVec 16 × Word)) :
    (h.bootRead (.ok ver rs)).get DEV_BOOT_VER = ver.toNat ∧ (h.bootRead (.ok ver rs)).get DEV_BOOT_VALID = 1 ∧
      (h.bootRead (.ok ver rs)).get DEV_BOOT_FACTORY = 0 := by
  have kept {g : Fld} (e : g.idx = DEV_BOOT_VER.idx) :
      (h.bootRead (.ok ver rs)).get g = (h.bootShown ver.toNat).get g := by
    obtain ⟨l, eq⟩ := h.bootRead_ok ver rs
    have loaded (c : Hub) : (c.bootLoad bootReg).get g = c.get g := by
      unfold Hub.get
      rw [Hub.word_bootLoad _ (by rw [e]; decide)]
    rw [eq, loaded, Hub.get_md!]
  have small : ver.toNat % 2 ^ DEV_BOOT_VER.w = ver.toNat := Nat.mod_eq_of_lt ver.isLt
  refine ⟨(kept (g := DEV_BOOT_VER) rfl).trans ?_, (kept (g := DEV_BOOT_VALID) rfl).trans ?_,
    (kept (g := DEV_BOOT_FACTORY) rfl).trans ?_⟩
  · rw [Hub.bootShown, Hub.get_put_apart _ _ (by decide) (by decide), Hub.get_put_apart _ _ (by decide) (by decide),
      Hub.get_put_same _ _ (by decide), small]
  · rw [Hub.bootShown, Hub.get_put_apart _ _ (by decide) (by decide), Hub.get_put_same _ _ (by decide)]
    decide
  · rw [Hub.bootShown, Hub.get_put_same _ _ (by decide)]
    decide

end Sys2Proof.Machine
end

section
/-! SUPPORT. The stages of a cold start that settle the feeds and take the straps (08 R231, 01 R37–R38, R546). -/

namespace Sys2Proof.Machine

/-! ## The feeds (08 R231) -/

/-- The pages of the feeds, with the traces of their events. -/
def feedPages : List Nat := 0x0E :: 0x0F :: tracePages

theorem traceIn_feedPages : traceIn feedPages := by decide

theorem feedPage_mem {k : Nat} (hk : k < 2) : 0x0E + k ∈ feedPages := by
  have k01 : k = 0 ∨ k = 1 := by omega
  rcases k01 with rfl | rfl <;> decide

/-- What a feed that is ON at a cold start leaves: it is recorded and counted. -/
def Hub.coldFeedOn (h : Hub) (k : Nat) : Hub :=
  (h.incSat (FEED_CNT2_ONCNT.pg k)).report (feedPage k) 0 0x0F01 k sevINFO
    [(0, 2, (h.feed k).onV), (2, 1, h.get (FEED_STAT_ATTEMPTS.pg k))]

/-- The four ways of a feed. -/
theorem Hub.coldFeed_cases (h : Hub) (k : Nat) :
    (∃ y, h.coldFeed k = h.setPage (feedPage k) y) ∨ h.coldFeed k = h.coldFeedOn k ∨
      (h.feedSt k ≠ 5 ∧ ∃ st, st < 16 ∧ st ≠ 5 ∧ h.coldFeed k = h.feedTo k st) ∨ h.coldFeed k = h := by
  unfold Hub.coldFeed
  split
  · exact .inl ⟨_, rfl⟩
  split
  · exact .inr (.inl rfl)
  rename_i off
  split
  · exact .inr (.inr (.inl ⟨off, 3, by decide, by decide, rfl⟩))
  unfold Hub.feedEnable
  split
  · exact .inr (.inr (.inl ⟨off, _, by split <;> decide, by split <;> decide, rfl⟩))
  · exact .inr (.inr (.inr rfl))

section
variable {fs : List Fld} {ps : List Nat} {a b : Hub}

theorem Hub.starting.coldFeedOn (k : Nat) (hc : (FEED_CNT2_ONCNT.pg k).mayIn fs ps)
    (hf : (flagFld (feedPage k) 0).mayIn fs ps) (ht : traceIn ps) (x : Hub.starting fs ps a b) :
    Hub.starting fs ps a (b.coldFeedOn k) := (x.incSat _ hc).report _ _ _ _ _ _ hf ht (by decide)

theorem Hub.starting.coldFeed {k : Nat} (hk : k < 2) (x : Hub.starting fs feedPages a b) :
    Hub.starting fs feedPages a (b.coldFeed k) := by
  have page := feedPage_mem hk
  have pg {f : Fld} (e : f.idx / 256 = 0x0E + k) : f.mayIn fs feedPages := .inr (e ▸ page)
  have cnt : (FEED_CNT2_ONCNT.pg k).idx / 256 = 0x0E + k := by
    show (0x0E16 + 256 * k) / 256 = _
    omega
  have flag : (flagFld (feedPage k) 0).idx / 256 = 0x0E + k := by
    show ((0x0E + k) * 256 + 3) / 256 = _
    omega
  rcases b.coldFeed_cases k with ⟨y, eq⟩ | eq | ⟨-, st, -, -, eq⟩ | eq
  · exact eq ▸ x.setPage _ _
  · exact eq ▸ x.coldFeedOn k (pg cnt) (pg flag) traceIn_feedPages
  · exact eq ▸ x.feedTo k st page
  · exact eq.symm ▸ x

theorem Hub.ratioHold_kept (h : Hub) : h.ratioHold.pend = h.pend ∧ h.ratioHold.shadow = h.shadow ∧
    h.ratioHold.once = h.once ∧ h.ratioHold.md = h.md := by
  unfold Hub.ratioHold
  dsimp only
  repeat' split
  all_goals simp

theorem Hub.shareSettle_kept (h : Hub) : h.shareSettle.pend = h.pend ∧ h.shareSettle.shadow = h.shadow ∧
    h.shareSettle.once = h.once ∧ h.shareSettle.md = h.md := by
  obtain ⟨pend, shadow, once, md⟩ := h.ratioHold_kept
  rw [← pend, ← shadow, ← once, ← md]
  unfold Hub.shareSettle
  generalize h.ratioHold = c
  dsimp only
  repeat' split
  all_goals simp

theorem Hub.starting.shareSettle (x : Hub.starting fs feedPages a b) : Hub.starting fs feedPages a b.shareSettle := by
  obtain ⟨pend, shadow, once, md⟩ := b.shareSettle_kept
  refine x.next (x.only.shareSettle fun k hk g hg => .inr ?_) pend.trans shadow once md
  have idx : g.idx / 256 = 0x0E + k := by
    obtain ⟨f, hf, rfl⟩ := List.mem_map.mp hg
    have base : ∀ f ∈ feedOut, f.idx = 0x0E08 := by decide
    show (f.idx + 256 * k) / 256 = _
    rw [base f hf]
    omega
  exact idx ▸ feedPage_mem hk

end

/-- The third stage: the feeds stand as the boot profile has them. -/
def Hub.coldFeeds (b : Hub) : Hub := ((b.coldFeed 0).coldFeed 1).shareSettle

theorem Hub.starting_coldFeeds (b : Hub) : Hub.starting [] feedPages b b.coldFeeds :=
  (((Hub.starting.refl [] feedPages b).coldFeed (by decide)).coldFeed (by decide)).shareSettle

/-- A cold start turns no feed on, and none off. -/
theorem Hub.feedOn_coldFeed (h : Hub) {j : Nat} (hj : j < 2) (k : Nat) : (h.coldFeed k).feedOn j = h.feedOn j := by
  have apart : ∀ f ∈ [FEED_CNT2_ONCNT.pg k, flagFld (feedPage k) 0], f.apart (FEED_STAT_STATE.pg j) := by
    intro f hf
    refine .inl ?_
    show f.idx ≠ 0x0E08 + 256 * j
    rcases List.mem_cons.mp hf with rfl | hf
    · show 0x0E16 + 256 * k ≠ _
      omega
    · rw [List.mem_singleton.mp hf]
      show (0x0E + k) * 256 + 3 ≠ _
      omega
  rcases h.coldFeed_cases k with ⟨y, eq⟩ | eq | ⟨off, st, hs, h5, eq⟩ | eq
  · rw [eq]
    rfl
  · have traced : (FEED_STAT_STATE.pg j).idx / 256 ∉ tracePages := by
      have j01 : j = 0 ∨ j = 1 := by omega
      rcases j01 with rfl | rfl <;> decide
    have reach := (Hub.starting.refl _ tracePages h).coldFeedOn (fs := [FEED_CNT2_ONCNT.pg k, flagFld (feedPage k) 0]) k
      (Fld.mayIn_self (List.mem_cons_self ..) (Nat.le_of_ble_eq_true rfl))
      (Fld.mayIn_self (List.mem_cons_of_mem _ (List.mem_singleton_self _)) (Nat.le_of_ble_eq_true rfl)) fun _ hp => hp
    unfold Hub.feedOn
    rw [eq, reach.get (by simp) apart traced]
  · by_cases hjk : j = k
    · subst hjk
      unfold Hub.feedOn
      rw [eq]
      have now := h.feedSt_feedTo_same j hs
      simp only [Hub.feedSt] at now off
      rw [now, beq_eq_false_iff_ne.mpr h5, beq_eq_false_iff_ne.mpr off]
    · unfold Hub.feedOn
      have kept := h.feedSt_feedTo_ne st hjk
      simp only [Hub.feedSt] at kept
      rw [eq, kept]
  · rw [eq]

theorem Hub.anyFeedOn_coldFeeds (b : Hub) : b.coldFeeds.anyFeedOn = b.anyFeedOn := by
  have settle (h : Hub) (j : Nat) : h.shareSettle.feedOn j = h.feedOn j := by
    have kept := h.feedSt_shareSettle j
    simp only [Hub.feedSt] at kept
    unfold Hub.feedOn
    rw [kept]
  unfold Hub.coldFeeds Hub.anyFeedOn
  rw [settle, settle, Hub.feedOn_coldFeed _ (by decide), Hub.feedOn_coldFeed _ (by decide),
    Hub.feedOn_coldFeed _ (by decide), Hub.feedOn_coldFeed _ (by decide)]

/-! ## The straps (01 R37–R38, R546) -/

/-- The registers that a role gives beside the string's page. -/
def roleFlds : List Fld := [wholeFld DEV_POS_POS, FRM_TOFS_TOFS]

/-- Those that the straps show. -/
def strapFlds : List Fld := [DEV_STRAPS_ADDR, DEV_STRAPS_HOSTSEL, TWB_STAT_ADDR]

def strapPages : List Nat := pgSTR :: tracePages

theorem Hub.starting.clearLeadRegs {fs : List Fld} {ps : List Nat} {a b : Hub} (hp : pgSTR ∈ ps)
    (x : Hub.starting fs ps a b) : Hub.starting fs ps a b.clearLeadRegs := by
  unfold Hub.clearLeadRegs
  refine .foldl _ _ (fun c k hk y => y.setWord _ ?_) ((x.setWord _ hp).setWord _ hp)
  have small := List.mem_range.mp hk
  have idx : (STR_POS_TOFS.idx + k) / 256 = pgSTR := by
    show (0x0C20 + k) / 256 = 0x0C
    omega
  exact idx ▸ hp

theorem Hub.starting.roleTo (r : Nat) {a b : Hub} (x : Hub.starting roleFlds strapPages a b) :
    Hub.starting roleFlds strapPages a (b.roleTo r) := by
  have str {f : Fld} (e : f.idx / 256 = pgSTR) : f.mayIn roleFlds strapPages := .inr (by rw [e]; decide)
  have pos {f : Fld} (e : f.idx = DEV_POS_POS.idx) (hf : f.fits) : f.mayIn roleFlds strapPages :=
    .inl ⟨wholeFld DEV_POS_POS, by decide, ⟨e, Nat.zero_le _, by simpa using hf⟩, hf⟩
  have tofs : FRM_TOFS_TOFS.mayIn roleFlds strapPages := Fld.mayIn_self (by decide) (by decide)
  have valid := pos (f := DEV_POS_VALID) rfl (by decide)
  have cleared := ((((x.put (f := STR_STAT_ROLE) r (str rfl)).put (f := DEV_POS_VALID) 0 valid).put
    (f := DEV_POS_LEAD) (if r = 1 then 1 else 0) (pos rfl (by decide))).clearLeadRegs (by decide))
  have lead {c : Hub} (y : Hub.starting roleFlds strapPages a c) := ((((y.put (f := DEV_POS_POS) 0 (pos rfl (by decide))).put
    (f := DEV_POS_VALID) 1 valid).put (f := FRM_TOFS_TOFS) 0 tofs).put (f := STR_STAT_ENUMDONE) 0 (str rfl))
  have alone {c : Hub} (y : Hub.starting roleFlds strapPages a c) : Hub.starting roleFlds strapPages a c.alone :=
    ((y.put (f := STR_STAT_NHUBS) _ (str rfl)).put (f := STR_STAT_LIVE) _ (str rfl)).put (f := STR_STAT_SVER) _ (str rfl)
  unfold Hub.roleTo
  dsimp only
  exact .ite x (.report _ _ _ _ _ _ (str rfl) (by decide) (by decide)
    (.ite (alone (lead (cleared.link! _))) ((cleared.link! _).put (f := STR_STAT_JOINPEND) _ (str rfl))))

/-- The straps show, and TWB_STAT holds the address that they give. -/
def Hub.strapsShown (h : Hub) : Hub :=
  ((h.put DEV_STRAPS_ADDR (h.md.straps.value.toNat % 8)).putb DEV_STRAPS_HOSTSEL (h.md.straps.value.getLsbD 3)).put
    TWB_STAT_ADDR (0x30 + h.md.straps.value.toNat % 8)

/-- Besides, HOSTSEL is retained and gives the supply and the role. -/
theorem Hub.strapsTaken_eq (h : Hub) : ∃ r, ∃ b : Bool, ∃ c, h.strapsTaken =
    (if b then ((h.strapsShown.md! fun m => { m with retained := r }).putb STR_PORTUP_PHANTOM c)
      else ((h.strapsShown.md! fun m => { m with retained := r }).putb STR_PORTUP_PHANTOM c).roleTo 1) := by
  unfold Hub.strapsTaken
  exact ⟨_, _, _, rfl⟩

theorem Hub.starting_strapsShown (h : Hub) : Hub.starting strapFlds [] h h.strapsShown :=
  (((Hub.starting.refl _ _ h).put _ (Fld.mayIn_self (by decide) (by decide))).putb _
    (Fld.mayIn_self (by decide) (by decide))).put _ (Fld.mayIn_self (by decide) (by decide))

/-- What the straps show stays through the rest of their stage. -/
theorem Hub.starting_strapsTaken (h : Hub) : Hub.starting roleFlds strapPages h.strapsShown h.strapsTaken := by
  obtain ⟨r, b, c, eq⟩ := h.strapsTaken_eq
  have taken := ((Hub.starting.refl roleFlds strapPages h.strapsShown).retain r).putb (f := STR_PORTUP_PHANTOM) c
    (.inr (by decide))
  rw [eq]
  exact .ite taken (taken.roleTo 1)

theorem Hub.get_strapsShown (h : Hub) : h.strapsShown.get DEV_STRAPS_ADDR = h.md.straps.value.toNat % 8 ∧
    h.strapsShown.get DEV_STRAPS_HOSTSEL = h.md.straps.value.toNat / 8 ∧
    h.strapsShown.get TWB_STAT_ADDR = 0x30 + h.md.straps.value.toNat % 8 := by
  unfold Hub.strapsShown
  generalize h.md.straps.value = v
  have host : boolNat (v.getLsbD 3) % 2 ^ DEV_STRAPS_HOSTSEL.w = v.toNat / 8 := by
    revert v
    decide
  refine ⟨?_, ?_, ?_⟩
  · rw [Hub.get_put_apart _ _ (by decide) (by decide), Hub.get_putb_apart _ _ (by decide) (by decide),
      Hub.get_put_same _ _ (by decide)]
    exact Nat.mod_mod _ _
  · rw [Hub.get_put_apart _ _ (by decide) (by decide), Hub.putb, Hub.get_put_same _ _ (by decide), host]
  · rw [Hub.get_put_same _ _ (by decide)]
    exact Nat.mod_eq_of_lt (by show _ < 128; omega)

theorem Hub.starting_osfSay (h : Hub) : Hub.starting [] [6] h h.osfSay := by
  unfold Hub.osfSay
  split
  · exact ((Hub.starting.refl _ _ h).rtc! _).record _ _ _ _ (by decide)
  · exact .refl _ _ h

end Sys2Proof.Machine
end

section
/-! SUPPORT. The self-test of a cold start (04 R123): it fences the blocks that fail. -/

namespace Sys2Proof.Machine

/-! ## A converter of the ADC that is fenced (13 R368, 11 R297) -/

/-- The page of the charger, with the traces of its events. -/
def zonePages : List Nat := pgCHG :: tracePages

theorem traceIn_zonePages : traceIn zonePages := by decide

section
variable {fs : List Fld} {a b : Hub}

theorem chg_mayIn {fs : List Fld} {f : Fld} (e : f.idx / 256 = pgCHG) : f.mayIn fs zonePages :=
  .inr (by rw [e]; decide)

theorem Hub.starting.chgPower (x : Hub.starting fs zonePages a b) : Hub.starting fs zonePages a b.chgPower :=
  (x.put (f := CHG_STAT_BATFET) _ (chg_mayIn rfl)).chg! _

theorem Hub.starting.timerClear (x : Hub.starting fs zonePages a b) : Hub.starting fs zonePages a b.timerClear :=
  (((x.put (f := CHG_TIMERSTAT_COUNT) _ (chg_mayIn rfl)).put (f := CHG_HALFSEC_HALFSEC) _ (chg_mayIn rfl)).put
    (f := CHG_STAT_HALFRATE) _ (chg_mayIn rfl)).chg! _

theorem Hub.starting.chgTo (st : Nat) (x : Hub.starting fs zonePages a b) : Hub.starting fs zonePages a (b.chgTo st) :=
  .ite ((x.put (f := CHG_STAT_STATE) _ (chg_mayIn rfl)).chg! _).chgPower.timerClear
    ((x.put (f := CHG_STAT_STATE) _ (chg_mayIn rfl)).chg! _).chgPower

theorem Hub.starting.zoneTo (z : Nat) (tb : Int) (x : Hub.starting fs zonePages a b) :
    Hub.starting fs zonePages a (b.zoneTo z tb) := by
  have shown := (x.puti (f := CHG_MEAS2_TBAT) tb (chg_mayIn rfl)).put (f := CHG_STAT_ZONE) z (chg_mayIn rfl)
  have said := Hub.starting.ite (p := z = b.zone) shown (.ite (p := badZone z = true)
    (shown.report pgCHG 2 0x1003 0 sevINFO [(0, 1, z), (1, 1, wrapTo 8 tb)] (chg_mayIn rfl) traceIn_zonePages (by decide))
    (shown.evt pgCHG 2 (chg_mayIn rfl) traceIn_zonePages.irq (by decide)))
  exact .ite (said.chgTo 6) said

end

/-- No search runs on a measuring engine. -/
def Hub.enginesIdle (h : Hub) : Prop := ∀ k < 4, h.get (engF GEY_ENG_STAT_STATE k) ≠ 1

theorem Hub.starting.enginesIdle {fs : List Fld} {ps : List Nat} {a b : Hub} (x : Hub.starting fs ps a b)
    (hf : ∀ f ∈ fs, ∀ k < 4, f.apart (engF GEY_ENG_STAT_STATE k)) (hp : pgGEY ∉ ps) (idle : a.enginesIdle) :
    b.enginesIdle := by
  intro k hk
  have page : (engF GEY_ENG_STAT_STATE k).idx / 256 = pgGEY := by
    show (0x1719 + 4 * k) / 256 = 0x17
    omega
  rw [x.get (Nat.le_of_ble_eq_true rfl) (fun f hm => hf f hm k hk) (page ▸ hp)]
  exact idle k hk

/-- With no search running, none is aborted. -/
theorem Hub.geyAbortAdc_idle {h : Hub} (adc : Nat) (idle : h.enginesIdle) : h.geyAbortAdc adc = h := by
  have still (k : Nat) (hk : k < 4) : h.engAbort k 4 = h := by
    unfold Hub.engAbort
    exact if_pos (bne_iff_ne.mpr (idle k hk))
  unfold Hub.geyAbortAdc
  show List.foldl _ h [0, 1, 2, 3] = h
  simp only [List.foldl_cons, List.foldl_nil, still 0, still 1, still 2, still 3, Nat.reduceLT, ite_self]

/-- The converter shows the fence and stands. -/
def Hub.adcOff (h : Hub) (k : Nat) : Hub := (h.put (ADC_STAT_FENCED.nth k) 1).put (ADC_STAT_STATE.nth k) 0

/-- A host request that waits for it ends. -/
def Hub.hostDrop (a : Hub) (k : Nat) (p : Port) : Hub :=
  match a.hostInput p with
  | some i => if i.conv = k then a.host! p fun x => { x with res := putBits (putBits x.res 18 1 0) 19 1 1 } else a
  | none => a

theorem Hub.adcFence_eq (h : Hub) (k : Nat) : h.adcFence k =
    if k < 2 then (((h.adcOff k).hostDrop k .e).hostDrop k .w).geyAbortAdc k
    else if k = 3 then
      (((h.adcOff k).hostDrop k .e).hostDrop k .w).zoneTo 5 ((((h.adcOff k).hostDrop k .e).hostDrop k .w).geti CHG_MEAS2_TBAT)
    else ((h.adcOff k).hostDrop k .e).hostDrop k .w := rfl

theorem Hub.starting.hostDrop {fs : List Fld} {ps : List Nat} {a b : Hub} (k : Nat) (p : Port)
    (x : Hub.starting fs ps a b) : Hub.starting fs ps a (b.hostDrop k p) := by
  unfold Hub.hostDrop
  split
  · exact .ite (x.host! _ _) x
  · exact x

theorem adcOff_apart (k j : Nat) : ∀ f ∈ [ADC_STAT_FENCED.nth k, ADC_STAT_STATE.nth k], k < 4 → j < 4 →
    f.apart (engF GEY_ENG_STAT_STATE j) := by
  intro f hf hk hj
  have idx : f.idx = 0x0908 + k := by
    rcases List.mem_cons.mp hf with rfl | hf
    · rfl
    · rw [List.mem_singleton.mp hf]
  refine .inl ?_
  show f.idx ≠ 0x1719 + 4 * j
  omega

theorem Hub.starting_adcOff (h : Hub) (k : Nat) :
    Hub.starting [ADC_STAT_FENCED.nth k, ADC_STAT_STATE.nth k] zonePages h (h.adcOff k) :=
  ((Hub.starting.refl _ _ h).put _ (Fld.mayIn_self (List.mem_cons_self ..) (Nat.le_of_ble_eq_true rfl))).put _
    (Fld.mayIn_self (List.mem_cons_of_mem _ (List.mem_singleton_self _)) (Nat.le_of_ble_eq_true rfl))

theorem Hub.enginesIdle_adcOff {h : Hub} {k : Nat} (hk : k < 4) (idle : h.enginesIdle) : (h.adcOff k).enginesIdle :=
  (h.starting_adcOff k).enginesIdle (fun f hf j hj => adcOff_apart k j f hf hk hj) (by decide) idle

/-- The rest of a fence reaches the charger's zone alone. -/
theorem Hub.starting_adcFence {h : Hub} {k : Nat} (hk : k < 4) (idle : h.enginesIdle) :
    Hub.starting [] zonePages (h.adcOff k) (h.adcFence k) := by
  have dropped := ((Hub.starting.refl [] zonePages (h.adcOff k)).hostDrop k .e).hostDrop k .w
  have idle' := dropped.enginesIdle (by simp) (by decide) (Hub.enginesIdle_adcOff hk idle)
  rw [Hub.adcFence_eq, Hub.geyAbortAdc_idle k idle']
  exact .ite dropped (.ite (dropped.zoneTo 5 _) dropped)

theorem Hub.enginesIdle_adcFence {h : Hub} {k : Nat} (hk : k < 4) (idle : h.enginesIdle) :
    (h.adcFence k).enginesIdle :=
  (Hub.starting_adcFence hk idle).enginesIdle (by simp) (by decide) (Hub.enginesIdle_adcOff hk idle)

theorem Hub.get_adcFence {h : Hub} {j k : Nat} (hj : j < 4) (hk : k < 4) (idle : h.enginesIdle) :
    (h.adcFence k).get (ADC_STAT_FENCED.nth j) = if j = k then 1 else h.get (ADC_STAT_FENCED.nth j) := by
  have page : (ADC_STAT_FENCED.nth j).idx / 256 ∉ zonePages := by
    have : (ADC_STAT_FENCED.nth j).idx / 256 = 9 := by
      show (0x0908 + j) / 256 = 9
      omega
    rw [this]
    decide
  rw [(Hub.starting_adcFence hk idle).get (Nat.le_of_ble_eq_true rfl) (by simp) page, Hub.adcOff,
    Hub.get_put_apart _ _ (Nat.le_of_ble_eq_true rfl) (.inr (.inl (Nat.le_of_ble_eq_true rfl)))]
  split
  · rename_i eq
    subst eq
    exact Hub.get_put_same _ _ (Nat.le_of_ble_eq_true rfl)
  · rename_i ne
    refine Hub.get_put_apart _ _ (Nat.le_of_ble_eq_true rfl) (.inl ?_)
    show 0x0908 + k ≠ 0x0908 + j
    omega

/-- Every converter of the list that is fenced shows it. -/
theorem Hub.get_adcFenceAll {l : List Nat} (hl : ∀ k ∈ l, k < 4) {h : Hub} (idle : h.enginesIdle) {j : Nat} (hj : j < 4)
    (hm : j ∈ l ∨ h.get (ADC_STAT_FENCED.nth j) = 1) : (l.foldl Hub.adcFence h).get (ADC_STAT_FENCED.nth j) = 1 := by
  induction l generalizing h with
  | nil => exact hm.resolve_left (by simp)
  | cons k l ih =>
    have hk := hl k (List.mem_cons_self ..)
    refine ih (fun i hi => hl i (List.mem_cons_of_mem _ hi)) (Hub.enginesIdle_adcFence hk idle) ?_
    rw [Hub.get_adcFence hj hk idle]
    by_cases eq : j = k
    · exact .inr (if_pos eq)
    · rw [if_neg eq]
      exact hm.imp_left fun mem => (List.mem_cons.mp mem).resolve_left eq

theorem Hub.starting_adcFenceAll {l : List Nat} (hl : ∀ k ∈ l, k < 4) {h : Hub} (idle : h.enginesIdle) :
    Hub.starting [] (pgADC :: zonePages) h (l.foldl Hub.adcFence h) := by
  induction l generalizing h with
  | nil => exact .refl _ _ h
  | cons k l ih =>
    have hk := hl k (List.mem_cons_self ..)
    have adc {f : Fld} (e : f.idx = 0x0908 + k) : f.mayIn [] (pgADC :: zonePages) := by
      have : f.idx / 256 = pgADC := by
        show _ = 9
        omega
      exact .inr (this ▸ List.mem_cons_self ..)
    have shown := ((Hub.starting.refl [] (pgADC :: zonePages) h).put (f := ADC_STAT_FENCED.nth k) 1 (adc rfl)).put
      (f := ADC_STAT_STATE.nth k) 0 (adc rfl)
    exact (shown.trans ((Hub.starting_adcFence hk idle).mono (by simp) fun p hp => List.mem_cons_of_mem _ hp)).trans
      (ih (fun i hi => hl i (List.mem_cons_of_mem _ hi)) (Hub.enginesIdle_adcFence hk idle))

end Sys2Proof.Machine
end

section
/-! SUPPORT. What the self-test of a cold start fences, and what it leaves (04 R123). -/

namespace Sys2Proof.Machine

/-! ## The pages that are fenced -/

/-- The pages of the blocks that failed: those of their owners, and those of the hub's own blocks. -/
def selfPages (p : Part) (mask : BitVec 6) (owners : List (BitVec 8)) : List Nat :=
  ((owners.map (·.toNat)).filter fun q =>
    (mask.getLsbD 0 || (mask.getLsbD 3 && decide (0x40 ≤ q))) && q != pgDEV && q != pgRTC && (pageKind p q).isSome) ++
  ([(1, pgADC), (2, pgSUP), (4, pgREC), (5, pgCLK)].filter fun e => mask.getLsbD e.1).map (·.2)

/-- A test that fails: the ADC stands fenced, then each page is fenced, and the failure is recorded. -/
theorem Hub.selfTest_eq (h : Hub) {mask : BitVec 6} (owners : List (BitVec 8)) (hm : mask ≠ 0) : h.selfTest mask owners =
    ((selfPages h.part mask owners).foldl (fun a p => a.fence p 8)
      (if mask.getLsbD 1 then [0, 1, 2, 3].foldl Hub.adcFence h else h)).record 0x0107 0 sevFATAL
        (payload [(0, 4, mask.toNat)]) := by
  unfold Hub.selfTest selfPages
  exact if_neg hm

theorem Hub.selfTest_none (h : Hub) (owners : List (BitVec 8)) : h.selfTest 0 owners = h := if_pos rfl

theorem selfPages_fixed (p : Part) {mask : BitVec 6} (owners : List (BitVec 8)) {e : Nat × Nat}
    (he : e ∈ [(1, pgADC), (2, pgSUP), (4, pgREC), (5, pgCLK)]) (hm : mask.getLsbD e.1 = true) :
    e.2 ∈ selfPages p mask owners :=
  List.mem_append.mpr (.inr (List.mem_map.mpr ⟨e, List.mem_filter.mpr ⟨he, hm⟩, rfl⟩))

theorem selfPages_owner {p : Part} {mask : BitVec 6} {owners : List (BitVec 8)} {q : BitVec 8} (hq : q ∈ owners)
    (hm : mask.getLsbD 0 = true) (h0 : q.toNat ≠ pgDEV) (h5 : q.toNat ≠ pgRTC) (hk : (pageKind p q.toNat).isSome = true) :
    q.toNat ∈ selfPages p mask owners := by
  refine List.mem_append.mpr (.inl (List.mem_filter.mpr ⟨List.mem_map.mpr ⟨q, hq, rfl⟩, ?_⟩))
  rw [hm, bne_iff_ne.mpr h0, bne_iff_ne.mpr h5, hk]
  rfl

theorem selfPages_cases {p : Part} {mask : BitVec 6} {owners : List (BitVec 8)} {q : Nat}
    (hq : q ∈ selfPages p mask owners) :
    q ∈ [pgADC, pgSUP, pgREC, pgCLK] ∨ ((mask.getLsbD 0 = true ∨ mask.getLsbD 3 = true) ∧ q ≠ pgDEV ∧ q ≠ pgRTC) := by
  rcases List.mem_append.mp hq with own | fixed
  · have := (List.mem_filter.mp own).2
    simp only [Bool.and_eq_true, Bool.or_eq_true, bne_iff_ne] at this
    obtain ⟨⟨⟨bit, h0⟩, h5⟩, -⟩ := this
    exact .inr ⟨bit.imp_right And.left, h0, h5⟩
  · obtain ⟨e, he, rfl⟩ := List.mem_map.mp fixed
    exact .inl (List.mem_map.mpr ⟨e, (List.mem_filter.mp he).1, rfl⟩)

/-! ## What it reaches -/

/-- The fence flags of the pages. -/
def selfFlds (l : List Nat) : List Fld := l.map (flagFld · 29)

/-- A field outside the headers of the pages lies apart from their flags. -/
theorem selfFlds_apart {l : List Nat} {g : Fld} (hg : g.idx % 256 ≠ 3) : ∀ f ∈ selfFlds l, f.apart g := by
  intro f hf
  obtain ⟨p, -, rfl⟩ := List.mem_map.mp hf
  refine .inl ?_
  show p * 256 + 3 ≠ g.idx
  omega

/-- So does one of a page that is not fenced. -/
theorem selfFlds_apart_page {l : List Nat} {g : Fld} (hg : g.idx / 256 ∉ l) : ∀ f ∈ selfFlds l, f.apart g := by
  intro f hf
  obtain ⟨p, hp, rfl⟩ := List.mem_map.mp hf
  refine .inl fun eq => hg ?_
  have : g.idx / 256 = p := by
    rw [← eq]
    show (p * 256 + 3) / 256 = p
    omega
  exact this ▸ hp

theorem Hub.starting_fenceAll (l : List Nat) (code : Nat) (h : Hub) :
    Hub.starting (selfFlds l) tracePages h (l.foldl (fun a p => a.fence p code) h) :=
  .foldl _ _ (fun _ p hp y => y.fence p code
    (Fld.mayIn_self (List.mem_map.mpr ⟨p, hp, rfl⟩) (Nat.le_of_ble_eq_true rfl)) fun _ hq => hq) (.refl _ _ h)

/-- The pages that a failure of the ADC reaches. -/
def selfTestPages : List Nat := pgADC :: zonePages

theorem Hub.starting_selfAdc {h : Hub} (idle : h.enginesIdle) (b : Bool) :
    Hub.starting [] selfTestPages h (if b then [0, 1, 2, 3].foldl Hub.adcFence h else h) :=
  .ite (Hub.starting_adcFenceAll (by decide) idle) (.refl _ _ h)

/-- After the ADC, the fences and the record. -/
theorem Hub.starting_selfFenced (l : List Nat) (code inst sev pay : Nat) (h : Hub) :
    Hub.starting (selfFlds l) tracePages h ((l.foldl (fun a p => a.fence p 8) h).record code inst sev pay) :=
  (h.starting_fenceAll l 8).record _ _ _ _ (by decide)

theorem Hub.starting_selfTest {h : Hub} (mask : BitVec 6) (owners : List (BitVec 8)) (idle : h.enginesIdle) :
    Hub.starting (selfFlds (selfPages h.part mask owners)) selfTestPages h (h.selfTest mask owners) := by
  by_cases hm : mask = 0
  · subst hm
    rw [Hub.selfTest_none]
    exact .refl _ _ h
  · rw [Hub.selfTest_eq _ _ hm]
    exact ((Hub.starting_selfAdc idle _).mono (by simp) fun _ hp => hp).trans
      ((Hub.starting_selfFenced _ _ _ _ _ _).mono (fun _ hf => hf)
        fun p hp => List.mem_cons_of_mem _ (List.mem_cons_of_mem _ hp))

/-- Each page of a block that fails is fenced with cause 8. -/
theorem Hub.hasCause_selfTest (h : Hub) {mask : BitVec 6} {owners : List (BitVec 8)} {p : Nat}
    (hp : p ∈ selfPages h.part mask owners) : (h.selfTest mask owners).hasCause p 8 = true := by
  have hm : mask ≠ 0 := by
    rintro rfl
    simp [selfPages] at hp
  rw [Hub.selfTest_eq _ _ hm, Hub.hasCause_of_bare (Hub.bare_record ..)]
  exact Hub.hasCause_fenceAll _ 8 (.inl hp)

/-- A failure of the ADC shows at each converter. -/
theorem Hub.get_selfTest_adc {h : Hub} {mask : BitVec 6} (owners : List (BitVec 8)) (hm : mask.getLsbD 1 = true)
    (idle : h.enginesIdle) {k : Nat} (hk : k < 4) : (h.selfTest mask owners).get (ADC_STAT_FENCED.nth k) = 1 := by
  have ne : mask ≠ 0 := by
    rintro rfl
    exact absurd hm (by decide)
  have idx : (ADC_STAT_FENCED.nth k).idx = 0x0908 + k := rfl
  have page : (ADC_STAT_FENCED.nth k).idx / 256 ∉ tracePages := by
    have : (ADC_STAT_FENCED.nth k).idx / 256 = 9 := by omega
    rw [this]
    decide
  have mem : ∀ k, k < 4 → k ∈ [0, 1, 2, 3] := by decide
  rw [Hub.selfTest_eq _ _ ne, (Hub.starting_selfFenced _ _ _ _ _ _).get (Nat.le_of_ble_eq_true rfl)
    (selfFlds_apart (by omega)) page, if_pos hm]
  exact Hub.get_adcFenceAll (by decide) idle hk (.inl (mem k hk))

end Sys2Proof.Machine
end

section
/-! SUPPORT. The stage of a cold start that enters SERVICE where only phantom power starts the hub (01 R28, 04 R108). -/

namespace Sys2Proof.Machine

/-! ## Entering SERVICE -/

/-- With no search running, none is cut off. -/
theorem Hub.geyShutAll_idle {h : Hub} (idle : h.enginesIdle) : h.geyShutAll = h := by
  unfold Hub.geyShutAll
  show List.foldl _ h [0, 1, 2, 3] = h
  have e0 := idle 0 (by decide)
  have e1 := idle 1 (by decide)
  have e2 := idle 2 (by decide)
  have e3 := idle 3 (by decide)
  simp only [List.foldl_cons, List.foldl_nil, e0, e1, e2, e3, if_false]

/-- The registers that a change of mode reaches. -/
def modeFlds : List Fld := [wholeFld DEV_MODE_MODE, flagFld pgDEV 0]

theorem modeFlds_apart_engines : ∀ f ∈ modeFlds, ∀ k < 4, f.apart (engF GEY_ENG_STAT_STATE k) := by decide

theorem mode_mayIn {f : Fld} (e : f.idx = DEV_MODE_MODE.idx) (hf : f.fits) : f.mayIn modeFlds tracePages :=
  .inl ⟨wholeFld DEV_MODE_MODE, by decide, ⟨e, Nat.zero_le _, by simpa using hf⟩, hf⟩

/-- The mode shows, with the one before it, and is reported. -/
def Hub.modeShown (h : Hub) (m old cause : Nat) : Hub :=
  (((h.put DEV_MODE_MODE m).put DEV_MODE_PREV old).incSat DEV_MODE_CHANGES).report pgDEV 0 0x0102 0 sevINFO
    [(0, 1, old), (1, 1, m), (2, 1, cause)]

theorem Hub.starting_modeShown (h : Hub) (m old cause : Nat) :
    Hub.starting modeFlds tracePages h (h.modeShown m old cause) := by
  have shown := (((Hub.starting.refl modeFlds tracePages h).put (f := DEV_MODE_MODE) m
    (mode_mayIn rfl (by decide))).put (f := DEV_MODE_PREV) old (mode_mayIn rfl (by decide))).incSat
      (f := DEV_MODE_CHANGES) 1 (mode_mayIn rfl (by decide))
  exact shown.report _ _ _ _ _ _ (Fld.mayIn_self (by decide) (by decide)) (fun _ hp => hp) (by decide)

theorem Hub.bare_modeShown (h : Hub) (m old cause : Nat) : (h.modeShown m old cause).bare = h.bare := by
  simp [Hub.modeShown]

theorem Hub.get_modeShown (h : Hub) {m : Nat} (old cause : Nat) (hm : m < 8) : (h.modeShown m old cause).mode = m := by
  have said : Hub.starting [flagFld pgDEV 0] tracePages _ (h.modeShown m old cause) :=
    (Hub.starting.refl _ _ _).report pgDEV 0 0x0102 0 sevINFO [(0, 1, old), (1, 1, m), (2, 1, cause)]
      (Fld.mayIn_self (by decide) (by decide)) (fun _ hp => hp) (by decide)
  unfold Hub.mode
  rw [said.get (by decide) (by decide) (by decide), Hub.get_incSat_apart _ _ (by decide) (by decide),
    Hub.get_put_apart _ _ (by decide) (by decide), Hub.get_put_same _ _ (by decide)]
  exact Nat.mod_eq_of_lt hm

/-- From READY with no search running, SERVICE only shows. -/
theorem Hub.setMode_service {h : Hub} (cause : Nat) (hm : h.mode = mREADY) (idle : h.enginesIdle) :
    h.setMode mSERVICE cause = h.modeShown mSERVICE mREADY cause := by
  have still : (h.modeShown mSERVICE mREADY cause).enginesIdle :=
    (h.starting_modeShown mSERVICE mREADY cause).enginesIdle modeFlds_apart_engines (by decide) idle
  have shut := Hub.geyShutAll_idle still
  unfold Hub.modeShown at shut
  unfold Hub.setMode Hub.modeShown
  simp [hm, shut]

/-! ## The converters on phantom power (11 R319) -/

/-- Every converter is off. -/
def Hub.convsIdle (h : Hub) : Prop := ∀ i < 5, h.convSt i = 0

theorem Hub.starting.convsIdle {fs : List Fld} {ps : List Nat} {a b : Hub} (x : Hub.starting fs ps a b)
    (hf : ∀ f ∈ fs, ∀ i < 5, f.apart (cSTATE i)) (hp : ∀ i < 5, (cSTATE i).idx / 256 ∉ ps) (idle : a.convsIdle) :
    b.convsIdle := by
  intro i hi
  exact (x.get (Nat.le_of_ble_eq_true rfl) (fun f hm => hf f hm i hi) (hp i hi)).trans (idle i hi)

section
variable {fs : List Fld} {ps : List Nat} {a b : Hub}

theorem Hub.starting.conv! (i : Nat) (f : Conv → Conv) (x : Hub.starting fs ps a b) :
    Hub.starting fs ps a (b.conv! i f) := by
  unfold Hub.conv! Hub.setConv
  exact x.convs! _

theorem Hub.starting.sinkClose (i : Nat) (x : Hub.starting fs ps a b) : Hub.starting fs ps a (b.sinkClose i) := x.conv! _ _

theorem Hub.starting.ventOnOff (i : Nat) (x : Hub.starting fs ps a b) : Hub.starting fs ps a (b.ventOnOff i) :=
  .ite x (.ite (x.sinkClose i) (x.conv! _ _))

end

theorem Hub.ventOnOff_pages (h : Hub) (i : Nat) : (h.ventOnOff i).pages = h.pages := by
  unfold Hub.ventOnOff Hub.sinkClose
  repeat' split
  all_goals rfl

/-- The bypass opens, and what vents through it. -/
def Hub.bypassVent (c : Hub) : Hub :=
  if c.convSt 0 ≠ 0 then c else if (c.conv 0).seqVent then c.sinkClose 0 else c.ventOnOff 0

theorem Hub.bypassVent_pages (c : Hub) : c.bypassVent.pages = c.pages := by
  unfold Hub.bypassVent
  split
  · rfl
  split
  · rfl
  · exact c.ventOnOff_pages 0

theorem Hub.openBypass_eq (h : Hub) :
    h.openBypass = if !h.flag CHG_STAT_BYPASS then h else (h.put CHG_STAT_BYPASS 0).bypassVent := rfl

theorem Hub.openBypass_pages (h : Hub) : h.openBypass.pages = h.pages := by
  rw [Hub.openBypass_eq]
  split
  · rfl
  · rw [Hub.bypassVent_pages, Hub.put_pages]

theorem Hub.starting_openBypass (h : Hub) : Hub.starting [CHG_STAT_BYPASS] [] h h.openBypass := by
  have opened := (Hub.starting.refl [CHG_STAT_BYPASS] [] h).put (f := CHG_STAT_BYPASS) 0
    (Fld.mayIn_self (by decide) (by decide))
  rw [Hub.openBypass_eq]
  exact .ite (.refl _ _ h) (.ite opened (.ite (opened.sinkClose 0) (opened.ventOnOff 0)))

/-- What a converter does on phantom power: a rising or ready one waits, one that stops is off. -/
def Hub.phantomConv (a : Hub) (i : Nat) : Hub :=
  if a.convSt i = 2 ∨ a.convSt i = 3 ∨ a.convSt i = 4 ∨ a.convSt i = 6 ∨ a.convSt i = 8 ∨ a.convSt i = 9 then a.convTo i 1
  else if a.convSt i = 5 then a.convOff i else a

theorem Hub.phantomConv_idle {a : Hub} {i : Nat} (idle : a.convsIdle) (hi : i < 5) : a.phantomConv i = a := by
  unfold Hub.phantomConv
  rw [idle i hi]
  rfl

/-- With every converter off, only the bypass opens. -/
theorem Hub.convPhantom_idle {h : Hub} (idle : h.convsIdle) :
    h.convPhantom = h.openBypass.lb! fun l => { l with hbCal := false } := by
  have off := h.starting_openBypass.convsIdle (by decide) (by simp) idle
  have still : [0, 1, 2, 3, 4].foldl Hub.phantomConv h.openBypass = h.openBypass := by
    simp only [List.foldl_cons, List.foldl_nil, Hub.phantomConv_idle off, Nat.reduceLT]
  unfold Hub.convPhantom
  exact congrArg (fun c : Hub => c.lb! fun l => { l with hbCal := false }) still

/-! ## The stage -/

/-- SERVICE on phantom power. -/
def Hub.coldService (h : Hub) : Hub :=
  ((h.setMode mSERVICE 10).md! fun m => { m with serviceByPhantom := true }).convPhantom

/-- What SERVICE on phantom power reaches. -/
def serviceFlds : List Fld := CHG_STAT_BYPASS :: modeFlds

/-- SERVICE lasts as long as phantom power does, and the bypass opens. -/
def Hub.phantomOpen (h : Hub) : Hub :=
  (h.md! fun m => { m with serviceByPhantom := true }).openBypass.lb! fun l => { l with hbCal := false }

theorem Hub.phantomOpen_eq {h : Hub} (idle : h.convsIdle) :
    (h.md! fun m => { m with serviceByPhantom := true }).convPhantom = h.phantomOpen :=
  Hub.convPhantom_idle (h := h.md! fun m => { m with serviceByPhantom := true }) idle

theorem Hub.starting_phantomOpen (h : Hub) : Hub.starting [CHG_STAT_BYPASS] []
    (h.md! fun m => { m with serviceByPhantom := true }) h.phantomOpen := (Hub.starting_openBypass _).lb! _

theorem Hub.phantomOpen_pages (h : Hub) : h.phantomOpen.pages = h.pages :=
  Hub.openBypass_pages (h.md! fun m => { m with serviceByPhantom := true })

theorem Hub.phantomOpen_md (h : Hub) :
    ∃ r p, h.phantomOpen.md = { h.md with retained := r, profile := p, serviceByPhantom := true } := by
  obtain ⟨r, p, eq⟩ := h.starting_phantomOpen.md
  exact ⟨r, p, by rw [eq, Hub.md!_md]⟩

theorem Hub.phantomOpen_rest (h : Hub) : Hub.only [CHG_STAT_BYPASS] [] h h.phantomOpen ∧
    (h.pend = [] → h.phantomOpen.pend = []) ∧ h.phantomOpen.shadow = h.shadow ∧ h.phantomOpen.once = h.once :=
  have opened := h.starting_phantomOpen
  ⟨((Hub.only.refl _ _ h).md! _).trans opened.only, opened.pend, opened.shadow, opened.once⟩

/-- Where nothing runs yet, SERVICE on phantom power only shows. -/
theorem Hub.coldService_eq {h : Hub} (hm : h.mode = mREADY) (engines : h.enginesIdle) (convs : h.convsIdle) :
    h.coldService = (h.modeShown mSERVICE mREADY 10).phantomOpen := by
  have still : (h.modeShown mSERVICE mREADY 10).convsIdle :=
    (h.starting_modeShown mSERVICE mREADY 10).convsIdle (by decide) (by decide) convs
  unfold Hub.coldService
  rw [Hub.setMode_service 10 hm engines, Hub.phantomOpen_eq still]

theorem Hub.coldService_mode {h : Hub} (hm : h.mode = mREADY) (engines : h.enginesIdle) (convs : h.convsIdle) :
    h.coldService.mode = mSERVICE := by
  rw [Hub.coldService_eq hm engines convs]
  obtain ⟨only, -, -, -⟩ := (h.modeShown mSERVICE mREADY 10).phantomOpen_rest
  exact (only.fields DEV_MODE_MODE (by decide) (by decide) (by simp)).trans (h.get_modeShown mREADY 10 (by decide))

theorem Hub.coldService_pages {h : Hub} (hm : h.mode = mREADY) (engines : h.enginesIdle) (convs : h.convsIdle) :
    h.coldService.pages = h.pages := by
  rw [Hub.coldService_eq hm engines convs, Hub.phantomOpen_pages]
  exact Hub.of_bare Hub.pages (fun _ => rfl) (h.bare_modeShown ..)

theorem Hub.coldService_md {h : Hub} (hm : h.mode = mREADY) (engines : h.enginesIdle) (convs : h.convsIdle) :
    ∃ r p, h.coldService.md = { h.md with retained := r, profile := p, serviceByPhantom := true } := by
  rw [Hub.coldService_eq hm engines convs]
  obtain ⟨r, p, eq⟩ := (h.modeShown mSERVICE mREADY 10).phantomOpen_md
  exact ⟨r, p, by rw [eq, Hub.md_of_bare (h.bare_modeShown ..)]⟩

/-- SERVICE on phantom power leaves the rest as it was. -/
theorem Hub.coldService_rest {h : Hub} (hm : h.mode = mREADY) (engines : h.enginesIdle) (convs : h.convsIdle) :
    Hub.only serviceFlds tracePages h h.coldService ∧ (h.pend = [] → h.coldService.pend = []) ∧
      h.coldService.shadow = h.shadow ∧ h.coldService.once = h.once := by
  rw [Hub.coldService_eq hm engines convs]
  obtain ⟨only, pend, shadow, once⟩ := (h.modeShown mSERVICE mREADY 10).phantomOpen_rest
  have shown := h.starting_modeShown mSERVICE mREADY 10
  exact ⟨(shown.only.mono (fun _ hf => List.mem_cons_of_mem _ hf) fun _ hp => hp).trans
    (only.mono (by decide) (by simp)), pend ∘ shown.pend, shadow.trans shown.shadow, once.trans shown.once⟩

end Sys2Proof.Machine
end

section
/-! SUPPORT. A cold start as its stages, and what each later stage keeps of the earlier ones (04 R120–R124). -/

namespace Sys2Proof.Machine

/-! ## The registers it begins with -/

/-- Registers that a cold start resets. -/
theorem Hub.get_coldCount_reset (h : Hub) {g : Fld} (ha : ∀ f ∈ coldKept, f.apart g) (hw : coldWhole g.idx = false)
    (hs : DEV_STRAPS_UNSTABLE.apart g) : h.coldCount.get g = bitsOf (resetWord h.part g.idx) g.lo g.w := by
  rw [Hub.coldCount, Hub.get_put_apart _ _ (by decide) hs,
    Hub.get_incSat_apart _ _ (by decide) (ha _ (by decide)), Hub.get_coldBase_reset _ ha hw]

/-- Those of the RTC page stay. -/
theorem Hub.get_coldCount_rtc (h : Hub) {g : Fld} (hg : g.idx / 256 = 5) : h.coldCount.get g = h.get g := by
  have pages : ∀ f ∈ coldKept, f.idx / 256 ≠ 5 := by decide
  have apart (f : Fld) (hf : f.idx / 256 ≠ 5) : f.apart g := .inl fun e => hf (e ▸ hg)
  rw [Hub.coldCount, Hub.get_put_apart _ _ (by decide) (apart _ (by decide)),
    Hub.get_incSat_apart _ _ (by decide) (apart _ (by decide)),
    Hub.get_coldBase_whole _ (fun f hf => apart f (pages f hf)) (by simp [coldWhole, hg])]

/-- So do the words of OPH. -/
theorem Hub.get_coldCount_kept (h : Hub) {g : Fld} (hg : g ∈ coldKept) (hp : FRM_PCC_PCC.apart g)
    (hs : DEV_STRAPS_UNSTABLE.apart g) : h.coldCount.get g = h.get g := by
  rw [Hub.coldCount, Hub.get_put_apart _ _ (by decide) hs, Hub.get_incSat_apart _ _ (by decide) hp,
    Hub.get_coldBase_kept _ hg]

/-- PCC is one more, and saturates. -/
theorem Hub.get_coldCount_pcc (h : Hub) : h.coldCount.get FRM_PCC_PCC = min (h.get FRM_PCC_PCC + 1) (2 ^ 24 - 1) := by
  have kept : h.coldBase.get FRM_PCC_PCC = h.get FRM_PCC_PCC := h.get_coldBase_kept (by decide)
  rw [Hub.coldCount, Hub.get_put_apart _ _ (by decide) (by decide), Hub.incSat, Hub.putSat, kept,
    Hub.get_put_same _ _ (by decide)]
  exact Nat.mod_eq_of_lt (Nat.lt_of_le_of_lt (Nat.min_le_right _ _) (by decide))

/-- The mask of the straps that were taken as 1 stays. -/
theorem Hub.get_coldCount_unstable (h : Hub) : h.coldCount.get DEV_STRAPS_UNSTABLE = h.get DEV_STRAPS_UNSTABLE := by
  rw [Hub.coldCount, Hub.get_put_same _ _ (by decide)]
  exact Nat.mod_eq_of_lt (bitsOf_lt _ _ _)

/-- The states of the feeds stay. -/
theorem Hub.anyFeedOn_coldCount (h : Hub) : h.coldCount.anyFeedOn = h.anyFeedOn := by
  have kept (k : Nat) (ha : ∀ f ∈ coldKept, f.apart (FEED_STAT_STATE.pg k)) (hw : coldWhole (FEED_STAT_STATE.pg k).idx = true)
      (hs : DEV_STRAPS_UNSTABLE.apart (FEED_STAT_STATE.pg k)) : h.coldCount.feedOn k = h.feedOn k := by
    unfold Hub.feedOn
    rw [Hub.coldCount, Hub.get_put_apart _ _ (by decide) hs, Hub.get_incSat_apart _ _ (by decide) (ha _ (by decide)),
      Hub.get_coldBase_whole _ ha hw]
  unfold Hub.anyFeedOn
  rw [kept 0 (by decide) (by decide) (by decide), kept 1 (by decide) (by decide) (by decide)]

theorem Hub.coldCount_bare (h : Hub) : h.coldCount.bare = h.coldBase.bare := by
  rw [Hub.coldCount, Hub.bare_put, Hub.bare_incSat]

theorem Hub.coldCount_part (h : Hub) : h.coldCount.part = h.part :=
  (Hub.of_bare Hub.part (fun _ => rfl) h.coldCount_bare).trans h.coldBase_part

/-! ## The stages -/

/-- The hub with its profile read. -/
def Hub.coldRead (h : Hub) (inp : ColdIn) : Hub := (h.coldCount.coldClocks h.rcd.clearing).bootRead inp.boot

/-- And with its feeds settled. -/
def Hub.coldFed (h : Hub) (inp : ColdIn) : Hub := (h.coldRead inp).coldFeeds.osfSay

/-- And tested, with its straps taken. -/
def Hub.coldTested (h : Hub) (inp : ColdIn) : Hub := (h.coldFed inp).strapsTaken.selfTest inp.selfTest inp.owners

/-- The records of the start. -/
def Hub.coldSay (b : Hub) (m : Modes) : Hub :=
  let b6 := b.record 0x0108 0 sevINFO (payload [(0, 1, m.resetCause), (1, 1, m.shipSrc)])
  if m.resetCause = 3 then b6.record 0x0105 0 sevWARN (payload [(0, 1, m.pressMode), (1, 1, boolNat m.pressFeed)]) else b6

/-- The hub before it enters READY or SERVICE. -/
def Hub.coldSaid (h : Hub) (inp : ColdIn) : Hub := (h.coldTested inp).coldSay h.md

/-- The last stage: RST_OUT# is released, in SERVICE or READY, and the power-up sequence starts. -/
def Hub.coldUp (b : Hub) (only : Bool) : Hub :=
  let b8 := b.md! fun m => { m with idleRun := 0, phantomOnly := only, phantomLoad := false, rstLow := false }
  (if only then b8.coldService else b8).seq! fun q => { q with start := some (true, 1), builtin := true }

/-- Only phantom power starts the hub: it came so, HOSTSEL heeds it, and no feed is ON. -/
def Hub.coldOnly (h : Hub) (inp : ColdIn) : Bool :=
  inp.phantomOnly && h.md.straps.value.getLsbD 3 && !(h.coldSaid inp).anyFeedOn

/-- A hub that HOSTSEL = 0 has cut off its only supply is off again. -/
theorem Hub.coldStart_off {h : Hub} {inp : ColdIn} (hp : h.md.power = .booting) (hu : h.strapUnstable.md.power = .booting)
    (off : (inp.phantomOnly && !h.strapUnstable.md.straps.value.getLsbD 3 && !h.strapUnstable.anyFeedOn) = true) :
    h.coldStart inp = h.strapUnstable.md! fun m => { m with power := .off } := by
  unfold Hub.coldStart
  rw [if_neg (not_not.mpr hp), if_neg (not_not.mpr hu), if_pos off]

/-- Else it goes through the stages. -/
theorem Hub.coldStart_on {h : Hub} {inp : ColdIn} (hp : h.md.power = .booting) (hu : h.strapUnstable.md.power = .booting)
    (on : (inp.phantomOnly && !h.strapUnstable.md.straps.value.getLsbD 3 && !h.strapUnstable.anyFeedOn) = false) :
    h.coldStart inp = (h.strapUnstable.coldSaid inp).coldUp (h.strapUnstable.coldOnly inp) := by
  unfold Hub.coldStart
  rw [if_neg (not_not.mpr hp), if_neg (not_not.mpr hu), if_neg (Bool.eq_false_iff.mp on)]
  rfl

end Sys2Proof.Machine
end

section
/-! SUPPORT. What a cold start has reached before it enters READY or SERVICE (04 R120–R124). -/

namespace Sys2Proof.Machine

/-! ## The blank hub -/

theorem Hub.coldCount_pend (h : Hub) : h.coldCount.pend = [] := by
  rw [Hub.coldCount, Hub.put_pend, Hub.incSat_pend]
  rfl

theorem Hub.coldCount_md (h : Hub) : h.coldCount.md = h.coldBase.md := Hub.md_of_bare h.coldCount_bare

theorem Hub.coldCount_shadow (h : Hub) : h.coldCount.shadow = [] ∧ h.coldCount.once = [] :=
  ⟨Hub.of_bare Hub.shadow (fun _ => rfl) h.coldCount_bare, Hub.of_bare Hub.once (fun _ => rfl) h.coldCount_bare⟩

theorem Hub.coldCount_mode (h : Hub) : h.coldCount.mode = mREADY := by
  have reset (p : Part) : bitsOf (resetWord p DEV_MODE_MODE.idx) DEV_MODE_MODE.lo DEV_MODE_MODE.w = mREADY := by
    cases p <;> decide
  exact (h.get_coldCount_reset (g := DEV_MODE_MODE) (by decide) (by decide) (by decide)).trans (reset _)

theorem Hub.coldCount_enginesIdle (h : Hub) : h.coldCount.enginesIdle := by
  have reset (p : Part) : ∀ k < 4, bitsOf (resetWord p (engF GEY_ENG_STAT_STATE k).idx) (engF GEY_ENG_STAT_STATE k).lo
      (engF GEY_ENG_STAT_STATE k).w ≠ 1 := by
    cases p <;> decide
  have apart : ∀ k < 4, (∀ f ∈ coldKept, f.apart (engF GEY_ENG_STAT_STATE k)) ∧
      coldWhole (engF GEY_ENG_STAT_STATE k).idx = false ∧ DEV_STRAPS_UNSTABLE.apart (engF GEY_ENG_STAT_STATE k) := by decide
  intro k hk
  obtain ⟨kept, whole, straps⟩ := apart k hk
  rw [h.get_coldCount_reset kept whole straps]
  exact reset _ k hk

theorem Hub.coldCount_convsIdle (h : Hub) : h.coldCount.convsIdle := by
  have reset (p : Part) : ∀ i < 5, bitsOf (resetWord p (cSTATE i).idx) (cSTATE i).lo (cSTATE i).w = 0 := by
    cases p <;> decide
  have apart : ∀ i < 5, (∀ f ∈ coldKept, f.apart (cSTATE i)) ∧ coldWhole (cSTATE i).idx = false ∧
      DEV_STRAPS_UNSTABLE.apart (cSTATE i) := by decide
  intro i hi
  obtain ⟨kept, whole, straps⟩ := apart i hi
  exact (h.get_coldCount_reset kept whole straps).trans (reset _ i hi)

/-! ## The stages one after the other -/

/-- The pages that the stages before the straps reach. -/
def fedPages : List Nat := 1 :: bootPages ++ feedPages

/-- The pages that the straps and the self-test reach. -/
def testedPages : List Nat := strapPages ++ selfTestPages

theorem Hub.starting_coldRead (h : Hub) (inp : ColdIn) :
    Hub.starting bootFlds (1 :: bootPages) h.coldCount (h.coldRead inp) :=
  ((Hub.starting_coldClocks _ _).mono (by simp) (by decide)).trans
    ((Hub.starting_bootRead _ _).mono (fun _ hf => hf) (by decide))

theorem Hub.starting_coldFed (h : Hub) (inp : ColdIn) : Hub.starting [] feedPages (h.coldRead inp) (h.coldFed inp) :=
  (Hub.starting_coldFeeds _).trans ((Hub.starting_osfSay _).mono (by simp) (by decide))

theorem Hub.starting_toStraps (h : Hub) (inp : ColdIn) : Hub.starting (bootFlds ++ strapFlds) fedPages h.coldCount
    (h.coldFed inp).strapsShown :=
  (((h.starting_coldRead inp).mono (by decide) (by decide)).trans
    ((h.starting_coldFed inp).mono (by simp) (by decide))).trans
      ((Hub.starting_strapsShown _).mono (by decide) (by simp))

theorem Hub.starting_toTaken (h : Hub) (inp : ColdIn) : Hub.starting (bootFlds ++ strapFlds ++ roleFlds)
    (fedPages ++ strapPages) h.coldCount (h.coldFed inp).strapsTaken :=
  ((h.starting_toStraps inp).mono (by decide) (by decide)).trans
    ((Hub.starting_strapsTaken _).mono (by decide) (by decide))

theorem Hub.coldTaken_part (h : Hub) (inp : ColdIn) : (h.coldFed inp).strapsTaken.part = h.part :=
  (h.starting_toTaken inp).only.part.trans h.coldCount_part

/-- No search runs by the self-test. -/
theorem Hub.coldTaken_idle (h : Hub) (inp : ColdIn) : (h.coldFed inp).strapsTaken.enginesIdle :=
  (h.starting_toTaken inp).enginesIdle (by decide) (by decide) h.coldCount_enginesIdle

/-- The pages that the self-test of this start fences. -/
def Hub.coldFences (h : Hub) (inp : ColdIn) : List Nat := selfPages h.part inp.selfTest inp.owners

theorem Hub.starting_coldSay (b : Hub) (m : Modes) : Hub.starting [] [6] b (b.coldSay m) := by
  have said := (Hub.starting.refl [] [6] b).record 0x0108 0 sevINFO (payload [(0, 1, m.resetCause), (1, 1, m.shipSrc)])
    (by decide)
  exact .ite (said.record _ _ _ _ (by decide)) said

theorem Hub.starting_fromStraps (h : Hub) (inp : ColdIn) : Hub.starting (roleFlds ++ selfFlds (h.coldFences inp))
    testedPages (h.coldFed inp).strapsShown (h.coldSaid inp) := by
  have tested := Hub.starting_selfTest inp.selfTest inp.owners (h.coldTaken_idle inp)
  rw [h.coldTaken_part inp] at tested
  exact (((Hub.starting_strapsTaken _).mono (fun _ hf => List.mem_append_left _ hf) (by decide)).trans
    (tested.mono (fun _ hf => List.mem_append_right _ hf) (by decide))).trans
      ((Hub.starting_coldSay _ _).mono (by simp) (by decide))

/-- Everything that the stages reach. -/
theorem Hub.starting_coldSaid (h : Hub) (inp : ColdIn) :
    Hub.starting (bootFlds ++ strapFlds ++ (roleFlds ++ selfFlds (h.coldFences inp))) (fedPages ++ testedPages) h.coldCount
      (h.coldSaid inp) :=
  ((h.starting_toStraps inp).mono (fun _ hf => List.mem_append_left _ hf) (by decide)).trans
    ((h.starting_fromStraps inp).mono (fun _ hf => List.mem_append_right _ hf) (by decide))

/-- What stands outside the fields and pages of the stages, and in no header, is as it was at the blank hub. -/
theorem Hub.get_coldSaid (h : Hub) (inp : ColdIn) {g : Fld} (hg : g.fits) (hh : g.idx % 256 ≠ 3 ∨ g.idx / 256 ∉ h.coldFences inp)
    (hf : ∀ f ∈ bootFlds ++ strapFlds ++ roleFlds, f.apart g) (hp : g.idx / 256 ∉ fedPages ++ testedPages) :
    (h.coldSaid inp).get g = h.coldCount.get g := by
  refine (h.starting_coldSaid inp).get hg (fun f hm => ?_) hp
  rw [← List.append_assoc] at hm
  rcases List.mem_append.mp hm with hm | hm
  · exact hf f hm
  · exact hh.elim (fun ne => selfFlds_apart ne f hm) fun page => selfFlds_apart_page page f hm

/-! ## What they leave -/

theorem Hub.coldSaid_mode (h : Hub) (inp : ColdIn) : (h.coldSaid inp).mode = mREADY :=
  (h.get_coldSaid inp (by decide) (.inl (by decide)) (by decide) (by decide)).trans h.coldCount_mode

theorem Hub.coldSaid_enginesIdle (h : Hub) (inp : ColdIn) : (h.coldSaid inp).enginesIdle := by
  intro k hk
  have outside : ∀ k < 4, (engF GEY_ENG_STAT_STATE k).idx % 256 ≠ 3 ∧
      (∀ f ∈ bootFlds ++ strapFlds ++ roleFlds, f.apart (engF GEY_ENG_STAT_STATE k)) ∧
      (engF GEY_ENG_STAT_STATE k).idx / 256 ∉ fedPages ++ testedPages := by decide
  obtain ⟨header, apart, page⟩ := outside k hk
  rw [h.get_coldSaid inp (Nat.le_of_ble_eq_true rfl) (.inl header) apart page]
  exact h.coldCount_enginesIdle k hk

theorem Hub.coldSaid_convsIdle (h : Hub) (inp : ColdIn) : (h.coldSaid inp).convsIdle := by
  intro i hi
  have outside : ∀ i < 5, (cSTATE i).idx % 256 ≠ 3 ∧ (∀ f ∈ bootFlds ++ strapFlds ++ roleFlds, f.apart (cSTATE i)) ∧
      (cSTATE i).idx / 256 ∉ fedPages ++ testedPages := by decide
  obtain ⟨header, apart, page⟩ := outside i hi
  exact (h.get_coldSaid inp (Nat.le_of_ble_eq_true rfl) (.inl header) apart page).trans (h.coldCount_convsIdle i hi)

/-- A cold start has turned no feed on, and none off. -/
theorem Hub.anyFeedOn_coldSaid (h : Hub) (inp : ColdIn) : (h.coldSaid inp).anyFeedOn = h.anyFeedOn := by
  have kept {fs : List Fld} {ps : List Nat} {a b : Hub} (x : Hub.starting fs ps a b)
      (hf : ∀ k < 2, ∀ f ∈ fs, f.apart (FEED_STAT_STATE.pg k)) (hp : ∀ k < 2, (FEED_STAT_STATE.pg k).idx / 256 ∉ ps) :
      b.anyFeedOn = a.anyFeedOn := by
    unfold Hub.anyFeedOn Hub.feedOn
    rw [x.get (Nat.le_of_ble_eq_true rfl) (hf 0 (by decide)) (hp 0 (by decide)),
      x.get (Nat.le_of_ble_eq_true rfl) (hf 1 (by decide)) (hp 1 (by decide))]
  have header : ∀ k < 2, (FEED_STAT_STATE.pg k).idx % 256 ≠ 3 := by decide
  have role : ∀ k < 2, ∀ f ∈ roleFlds, f.apart (FEED_STAT_STATE.pg k) := by decide
  have tail := kept (h.starting_fromStraps inp)
    (fun k hk f hf => (List.mem_append.mp hf).elim (role k hk f) (selfFlds_apart (header k hk) f)) (by decide)
  have shown := kept (Hub.starting_strapsShown (h.coldFed inp)) (by decide) (by decide)
  have said := kept (Hub.starting_osfSay (h.coldRead inp).coldFeeds) (by decide) (by decide)
  have read := kept (h.starting_coldRead inp) (by decide) (by decide)
  rw [tail, shown, Hub.coldFed, said, Hub.anyFeedOn_coldFeeds, read, Hub.anyFeedOn_coldCount]

theorem Hub.coldOnly_eq (h : Hub) (inp : ColdIn) :
    h.coldOnly inp = (inp.phantomOnly && h.md.straps.value.getLsbD 3 && !h.anyFeedOn) := by
  rw [Hub.coldOnly, Hub.anyFeedOn_coldSaid]

/-- The registers of the boot profile's version stay after it is read. -/
theorem Hub.get_coldSaid_boot (h : Hub) (inp : ColdIn) {g : Fld} (e : g.idx = DEV_BOOT_VER.idx) (hg : g.fits) :
    (h.coldSaid inp).get g = (h.coldRead inp).get g := by
  have idx : ∀ f ∈ strapFlds ++ roleFlds, f.idx ≠ DEV_BOOT_VER.idx := by decide
  have apart (f : Fld) (hf : f ∈ strapFlds ++ roleFlds) : f.apart g := .inl fun eq => idx f hf (eq.trans e)
  have header : g.idx % 256 ≠ 3 := by rw [e]; decide
  have page {ps : List Nat} (hp : DEV_BOOT_VER.idx / 256 ∉ ps) : g.idx / 256 ∉ ps := e ▸ hp
  rw [(h.starting_fromStraps inp).get hg (fun f hf => (List.mem_append.mp hf).elim
      (fun hm => apart f (List.mem_append_right _ hm)) (selfFlds_apart header f)) (page (by decide)),
    (Hub.starting_strapsShown _).get hg (fun f hf => apart f (List.mem_append_left _ hf)) (page (by decide)),
    (h.starting_coldFed inp).get hg (by simp) (page (by decide))]

/-- The registers of the straps stay after they are taken. -/
theorem Hub.get_coldSaid_straps (h : Hub) (inp : ColdIn) {g : Fld} (hm : g ∈ strapFlds) :
    (h.coldSaid inp).get g = (h.coldFed inp).strapsShown.get g := by
  have outside : ∀ g ∈ strapFlds, g.fits ∧ g.idx % 256 ≠ 3 ∧ (∀ f ∈ roleFlds, f.apart g) ∧ g.idx / 256 ∉ testedPages := by
    decide
  obtain ⟨fits, header, role, page⟩ := outside g hm
  exact (h.starting_fromStraps inp).get fits
    (fun f hf => (List.mem_append.mp hf).elim (role f) (selfFlds_apart header f)) page

theorem Hub.coldBase_straps (h : Hub) : h.coldBase.md.straps = h.md.straps := by
  unfold Hub.coldBase
  rfl

theorem Hub.coldFed_straps (h : Hub) (inp : ColdIn) : (h.coldFed inp).md.straps = h.md.straps := by
  obtain ⟨r, p, eq⟩ := ((h.starting_coldRead inp).mono (gs := bootFlds) (qs := fedPages) (fun _ hf => hf)
    (by decide)).trans ((h.starting_coldFed inp).mono (by simp) (by decide)) |>.md
  rw [eq, h.coldCount_md]
  exact h.coldBase_straps

/-- A page that the self-test fences still holds the cause. -/
theorem Hub.hasCause_coldSaid (h : Hub) (inp : ColdIn) {p : Nat} (hp : p ∈ h.coldFences inp) :
    (h.coldSaid inp).hasCause p 8 = true := by
  have bare (b : Hub) (m : Modes) : (b.coldSay m).bare = b.bare := by
    unfold Hub.coldSay
    dsimp only
    split
    · rw [Hub.bare_record, Hub.bare_record]
    · rw [Hub.bare_record]
  rw [Hub.coldSaid, Hub.hasCause_of_bare (bare _ _)]
  refine Hub.hasCause_selfTest _ ?_
  rw [h.coldTaken_part inp]
  exact hp

theorem Hub.get_coldSaid_adc (h : Hub) {inp : ColdIn} (hm : inp.selfTest.getLsbD 1 = true) {k : Nat} (hk : k < 4) :
    (h.coldSaid inp).get (ADC_STAT_FENCED.nth k) = 1 := by
  have page : ∀ k < 4, (ADC_STAT_FENCED.nth k).idx / 256 ∉ [6] := by decide
  exact ((Hub.starting_coldSay _ _).get (Nat.le_of_ble_eq_true rfl) (by simp) (page k hk)).trans
    (Hub.get_selfTest_adc _ hm (h.coldTaken_idle inp) hk)

end Sys2Proof.Machine
end

section
/-! SUPPORT. The last stage of a cold start, and what the whole of it leaves (01 R28, 04 R120–R124). -/

open Sys2Proof Sys2Proof.Machine

namespace Sys2Proof.Machine

/-! ## READY or SERVICE -/

/-- What the last stage leaves of a hub: READY, or SERVICE on phantom power `only`. -/
structure Hub.settled (only : Bool) (b t : Hub) : Prop where
  power : t.md.power = b.md.power
  rstLow : t.md.rstLow = false
  mode : t.mode = if only = true then mSERVICE else mREADY
  byPhantom : t.md.serviceByPhantom = only
  pend : b.pend = [] → t.pend = []
  shadow : t.shadow = b.shadow
  once : t.once = b.once
  pages : t.pages = b.pages
  only : Hub.only serviceFlds tracePages b t

/-- RST_OUT# is released. -/
def Hub.rstFree (b : Hub) (only : Bool) : Hub :=
  b.md! fun m => { m with idleRun := 0, phantomOnly := only, phantomLoad := false, rstLow := false }

theorem Hub.settled_rstFree {b : Hub} (only : Bool) (hm : b.mode = mREADY) (hs : b.md.serviceByPhantom = false) :
    Hub.settled false b (b.rstFree only) :=
  ⟨rfl, rfl, hm, hs, id, rfl, rfl, rfl, (Hub.only.refl _ _ b).md! _⟩

theorem Hub.settled.service {b c : Hub} (x : Hub.settled false b c) (engines : b.enginesIdle) (convs : b.convsIdle) :
    Hub.settled true b c.coldService := by
  have mode : c.mode = mREADY := x.mode
  have apart : ∀ k < 4, (∀ f ∈ serviceFlds, f.apart (engF GEY_ENG_STAT_STATE k)) ∧
      (engF GEY_ENG_STAT_STATE k).idx / 256 ∉ tracePages := by decide
  have apart' : ∀ i < 5, (∀ f ∈ serviceFlds, f.apart (cSTATE i)) ∧ (cSTATE i).idx / 256 ∉ tracePages := by decide
  have idle : c.enginesIdle := fun k hk => by
    rw [x.only.fields _ (Nat.le_of_ble_eq_true rfl) (apart k hk).1 (apart k hk).2]
    exact engines k hk
  have off : c.convsIdle := fun i hi =>
    (x.only.fields _ (Nat.le_of_ble_eq_true rfl) (apart' i hi).1 (apart' i hi).2).trans (convs i hi)
  obtain ⟨only, pend, shadow, once⟩ := Hub.coldService_rest mode idle off
  obtain ⟨r, p, md⟩ := Hub.coldService_md mode idle off
  exact ⟨by rw [md]; exact x.power, by rw [md]; exact x.rstLow, Hub.coldService_mode mode idle off, by rw [md],
    pend ∘ x.pend, shadow.trans x.shadow, once.trans x.once, (Hub.coldService_pages mode idle off).trans x.pages,
    x.only.trans only⟩

theorem Hub.settled.seq! {only : Bool} {b c : Hub} (f : Sequencer → Sequencer) (x : Hub.settled only b c) :
    Hub.settled only b (c.seq! f) :=
  ⟨x.power, x.rstLow, x.mode, x.byPhantom, x.pend, x.shadow, x.once, x.pages, x.only.seq! f⟩

theorem Hub.settled_coldUp {b : Hub} (only : Bool) (hm : b.mode = mREADY) (engines : b.enginesIdle) (convs : b.convsIdle)
    (hs : b.md.serviceByPhantom = false) : Hub.settled only b (b.coldUp only) := by
  unfold Hub.coldUp
  refine Hub.settled.seq! _ ?_
  cases only with
  | false => exact Hub.settled_rstFree false hm hs
  | true => exact (Hub.settled_rstFree true hm hs).service engines convs

/-! ## The whole start -/

theorem Hub.coldSaid_md (h : Hub) (inp : ColdIn) :
    (h.coldSaid inp).md.power = .on ∧ (h.coldSaid inp).md.serviceByPhantom = false := by
  have base : h.coldBase.md.power = .on ∧ h.coldBase.md.serviceByPhantom = false := by
    unfold Hub.coldBase
    exact ⟨rfl, rfl⟩
  obtain ⟨r, p, eq⟩ := (h.starting_coldSaid inp).md
  rw [eq, h.coldCount_md]
  exact base

/-- A cold start that is not off again. -/
def Hub.coldDone (h : Hub) (inp : ColdIn) : Hub := (h.coldSaid inp).coldUp (h.coldOnly inp)

theorem Hub.settled_coldDone (h : Hub) (inp : ColdIn) : Hub.settled (h.coldOnly inp) (h.coldSaid inp) (h.coldDone inp) :=
  Hub.settled_coldUp _ (h.coldSaid_mode inp) (h.coldSaid_enginesIdle inp) (h.coldSaid_convsIdle inp) (h.coldSaid_md inp).2

/-- Nothing waits, and nothing is staged. -/
theorem Hub.coldDone_empty (h : Hub) (inp : ColdIn) :
    (h.coldDone inp).pend = [] ∧ (h.coldDone inp).shadow = [] ∧ (h.coldDone inp).once = [] := by
  have up := h.settled_coldDone inp
  have said := h.starting_coldSaid inp
  obtain ⟨shadow, once⟩ := h.coldCount_shadow
  exact ⟨up.pend (said.pend h.coldCount_pend), up.shadow.trans (said.shadow.trans shadow),
    up.once.trans (said.once.trans once)⟩

/-- What a step to SERVICE does not reach is as the stages before left it. -/
theorem Hub.get_coldDone (h : Hub) (inp : ColdIn) {g : Fld} (hg : g.fits) (hf : ∀ f ∈ serviceFlds, f.apart g)
    (hp : g.idx / 256 ∉ tracePages) : (h.coldDone inp).get g = (h.coldSaid inp).get g :=
  (h.settled_coldDone inp).only.fields g hg hf hp

theorem Hub.hasCause_coldDone (h : Hub) (inp : ColdIn) {p : Nat} (hp : p ∈ h.coldFences inp) :
    (h.coldDone inp).hasCause p 8 = true := by
  have said := h.hasCause_coldSaid inp hp
  unfold Hub.hasCause Hub.page at said ⊢
  rw [(h.settled_coldDone inp).pages]
  exact said

/-- The fields that a start changes beside those of the fences. -/
def coldFlds : List Fld := bootFlds ++ strapFlds ++ roleFlds ++ serviceFlds

/-- What no stage reaches is as it was at the blank hub. -/
theorem Hub.get_coldDone_blank (h : Hub) (inp : ColdIn) {g : Fld} (hg : g.fits)
    (hh : g.idx % 256 ≠ 3 ∨ g.idx / 256 ∉ h.coldFences inp) (hf : ∀ f ∈ coldFlds, f.apart g)
    (hp : g.idx / 256 ∉ fedPages ++ testedPages) : (h.coldDone inp).get g = h.coldCount.get g := by
  have traced : ∀ p ∈ tracePages, p ∈ fedPages ++ testedPages := by decide
  rw [h.get_coldDone inp hg (fun f hm => hf f (List.mem_append_right _ hm)) fun hm => hp (traced _ hm),
    h.get_coldSaid inp hg hh (fun f hm => hf f (List.mem_append_left _ hm)) hp]

/-- The pages of the fields that a start changes beside the stages' pages. -/
theorem coldFlds_apart_page {g : Fld} (hg : g.idx / 256 ∉ coldFlds.map fun f => f.idx / 256) : ∀ f ∈ coldFlds, f.apart g :=
  fun f hf => .inl fun e => hg (e ▸ List.mem_map.mpr ⟨f, hf, rfl⟩)

/-- The registers of the RTC page keep their values: it is never fenced. -/
theorem Hub.get_coldDone_rtc (h : Hub) (inp : ColdIn) {g : Fld} (hg : g.fits) (h5 : g.idx / 256 = 5) :
    (h.coldDone inp).get g = h.get g := by
  have fenced : 5 ∉ h.coldFences inp := fun hm => by
    rcases selfPages_cases hm with fixed | ⟨-, -, rtc⟩
    · exact absurd fixed (by decide)
    · exact rtc rfl
  rw [h.get_coldDone_blank inp hg (.inr (h5 ▸ fenced)) (coldFlds_apart_page (h5 ▸ by decide)) (h5 ▸ by decide),
    h.get_coldCount_rtc h5]

/-- The pages of the channels stand at reset where neither their test nor all of them fail. -/
theorem Hub.get_coldDone_channel (h : Hub) {inp : ColdIn} (h0 : inp.selfTest.getLsbD 0 = false)
    (h3 : inp.selfTest.getLsbD 3 = false) {g : Fld} (hg : g.fits) (lo : 0x40 ≤ g.idx / 256) (hi : g.idx / 256 < 0x80) :
    (h.coldDone inp).get g = bitsOf (resetWord h.part g.idx) g.lo g.w := by
  have apart {l : List Nat} (below : ∀ p ∈ l, p < 0x40) : g.idx / 256 ∉ l := fun hm =>
    absurd (below _ hm) (Nat.not_lt.mpr lo)
  have fenced : ∀ p ∈ h.coldFences inp, p < 0x40 := fun p hm => by
    rcases selfPages_cases hm with fixed | ⟨bits, -⟩
    · have small : ∀ p ∈ [pgADC, pgSUP, pgREC, pgCLK], p < 0x40 := by decide
      exact small p fixed
    · rw [h0, h3] at bits
      exact absurd bits (by decide)
  have kept : ∀ f ∈ coldKept, f.idx / 256 ∉ [g.idx / 256] := by
    have small : ∀ f ∈ coldKept, f.idx / 256 < 0x40 := by decide
    intro f hf hm
    have := small f hf
    rw [List.mem_singleton.mp hm] at this
    omega
  have whole : coldWhole g.idx = false := by
    have rtc : ¬ g.idx / 256 = 5 := by omega
    have feedA : ¬ g.idx = 0x0E08 := by omega
    have feedB : ¬ g.idx = 0x0E08 + 256 := by omega
    have events : ¬ g.idx < 0x0650 := by omega
    simp [coldWhole, rtc, feedA, feedB, events]
  rw [h.get_coldDone_blank inp hg (.inr (apart fenced)) (coldFlds_apart_page (apart (by decide))) (apart (by decide)),
    h.get_coldCount_reset (fun f hf => .inl fun e => kept f hf (e ▸ List.mem_singleton_self _)) whole
      (.inl (by show 0x17 ≠ g.idx; omega))]

/-- OPH keeps its value. -/
theorem Hub.oph_coldDone (h : Hub) (inp : ColdIn) : (h.coldDone inp).oph = h.oph := by
  unfold Hub.oph Hub.getPair
  rw [h.get_coldDone_blank inp (by decide) (.inl (by decide)) (by decide) (by decide),
    h.get_coldDone_blank inp (by decide) (.inl (by decide)) (by decide) (by decide),
    h.get_coldCount_kept (by decide) (by decide) (by decide), h.get_coldCount_kept (by decide) (by decide) (by decide)]

theorem Hub.pcc_coldDone (h : Hub) (inp : ColdIn) :
    (h.coldDone inp).get FRM_PCC_PCC = min (h.get FRM_PCC_PCC + 1) (2 ^ 24 - 1) := by
  rw [h.get_coldDone_blank inp (by decide) (.inl (by decide)) (by decide) (by decide), h.get_coldCount_pcc]

theorem Hub.unstable_coldDone (h : Hub) (inp : ColdIn) :
    (h.coldDone inp).get DEV_STRAPS_UNSTABLE = h.get DEV_STRAPS_UNSTABLE := by
  rw [h.get_coldDone_blank inp (by decide) (.inl (by decide)) (by decide) (by decide), h.get_coldCount_unstable]

/-- The straps show (01 R37–R38). -/
theorem Hub.straps_coldDone (h : Hub) (inp : ColdIn) :
    (h.coldDone inp).get DEV_STRAPS_ADDR = h.md.straps.value.toNat % 8 ∧
      (h.coldDone inp).get DEV_STRAPS_HOSTSEL = h.md.straps.value.toNat / 8 ∧
      (h.coldDone inp).get TWB_STAT_ADDR = 0x30 + h.md.straps.value.toNat % 8 := by
  have shown := (h.coldFed inp).get_strapsShown
  rw [h.coldFed_straps inp] at shown
  have kept {g : Fld} (hm : g ∈ strapFlds) : (h.coldDone inp).get g = (h.coldFed inp).strapsShown.get g := by
    have outside : ∀ g ∈ strapFlds, g.fits ∧ (∀ f ∈ serviceFlds, f.apart g) ∧ g.idx / 256 ∉ tracePages := by decide
    obtain ⟨fits, apart, page⟩ := outside g hm
    rw [h.get_coldDone inp fits apart page, h.get_coldSaid_straps inp hm]
  rw [kept (g := DEV_STRAPS_ADDR) (by decide), kept (g := DEV_STRAPS_HOSTSEL) (by decide),
    kept (g := TWB_STAT_ADDR) (by decide)]
  exact shown

/-- The boot profile shows (04 R122). -/
theorem Hub.boot_coldDone (h : Hub) (inp : ColdIn) {g : Fld} (hm : g ∈ [DEV_BOOT_VER, DEV_BOOT_VALID, DEV_BOOT_FACTORY]) :
    (h.coldDone inp).get g = ((h.coldCount.coldClocks h.rcd.clearing).bootRead inp.boot).get g := by
  have outside : ∀ g ∈ [DEV_BOOT_VER, DEV_BOOT_VALID, DEV_BOOT_FACTORY], g.idx = DEV_BOOT_VER.idx ∧ g.fits ∧
      (∀ f ∈ serviceFlds, f.apart g) ∧ g.idx / 256 ∉ tracePages := by decide
  obtain ⟨idx, fits, apart, page⟩ := outside g hm
  rw [h.get_coldDone inp fits apart page, h.get_coldSaid_boot inp idx fits]
  rfl

theorem Hub.adc_coldDone (h : Hub) {inp : ColdIn} (hm : inp.selfTest.getLsbD 1 = true) {k : Nat} (hk : k < 4) :
    (h.coldDone inp).get (ADC_STAT_FENCED.nth k) = 1 := by
  have outside : ∀ k < 4, (∀ f ∈ serviceFlds, f.apart (ADC_STAT_FENCED.nth k)) ∧
      (ADC_STAT_FENCED.nth k).idx / 256 ∉ tracePages := by decide
  obtain ⟨apart, page⟩ := outside k hk
  rw [h.get_coldDone inp (Nat.le_of_ble_eq_true rfl) apart page, h.get_coldSaid_adc hm hk]

end Sys2Proof.Machine
end

section
/-! SUPPORT. COLD_START from a booting hub (01 R28, R36, R546, 04 R120–R124). -/

open Sys2Proof Sys2Proof.Machine

namespace Sys2Proof.Machine

/-! ## Straps taken as 1 (01 R36) -/

theorem Hub.strapUnstable_booting {h : Hub} (hp : h.md.power = .booting) :
    h.strapUnstable.md.power = .booting ∧
      h.strapUnstable.md.straps.value = h.md.straps.value ||| ~~~ h.md.straps.accepted := by
  obtain ⟨power, straps⟩ := h.strapUnstable_md
  exact ⟨power.trans hp, by rw [straps]; rfl⟩

/-- What they reach beside the mask that shows and the count of power-ons. -/
theorem Hub.only_strapUnstable (h : Hub) : Hub.only [DEV_STRAPS_UNSTABLE, FRM_PCC_PCC] [6] h h.strapUnstable :=
  .strapUnstable (Fld.mayIn_self (by decide) (by decide)) (Fld.mayIn_self (by decide) (by decide)) (by decide) (.refl _ _ h)

theorem Hub.get_strapUnstable_pcc (h : Hub) : h.strapUnstable.get FRM_PCC_PCC = h.get FRM_PCC_PCC := by
  by_cases ha : h.md.straps.accepted = 15
  · rw [Hub.strapUnstable_none ha]
  · rw [Hub.get_strapUnstable ha, Hub.get_strapsAsOne_pcc]

theorem Hub.oph_strapUnstable (h : Hub) : h.strapUnstable.oph = h.oph := by
  unfold Hub.oph Hub.getPair
  rw [h.only_strapUnstable.fields _ (by decide) (by decide) (by decide),
    h.only_strapUnstable.fields _ (by decide) (by decide) (by decide)]

theorem Hub.anyFeedOn_strapUnstable (h : Hub) : h.strapUnstable.anyFeedOn = h.anyFeedOn := by
  unfold Hub.anyFeedOn Hub.feedOn
  rw [h.only_strapUnstable.fields _ (by decide) (by decide) (by decide),
    h.only_strapUnstable.fields _ (by decide) (by decide) (by decide)]

theorem Hub.get_strapUnstable_rtc (h : Hub) {g : Fld} (hg : g.fits) (h5 : g.idx / 256 = 5) :
    h.strapUnstable.get g = h.get g := by
  have pages : ∀ f ∈ [DEV_STRAPS_UNSTABLE, FRM_PCC_PCC], f.idx / 256 ≠ 5 := by decide
  exact h.only_strapUnstable.fields g hg (fun f hf => .inl fun e => pages f hf (e ▸ h5)) (h5 ▸ by decide)

/-! ## The start -/

/-- A page is fenced by this start. -/
theorem Hub.mem_coldFences (h : Hub) {inp : ColdIn} {e : Nat × Nat}
    (he : e ∈ [(1, pgADC), (2, pgSUP), (4, pgREC), (5, pgCLK)]) (hm : inp.selfTest.getLsbD e.1 = true) :
    e.2 ∈ h.coldFences inp := selfPages_fixed _ _ he hm

/-- The profile that the factory's stands in for. -/
theorem Hub.boot_coldDone_bad (h : Hub) {inp : ColdIn}
    (hb : inp.boot = .checkFailed ∨ inp.boot = .unknownVersion ∨ inp.boot = .readError) :
    (h.coldDone inp).get DEV_BOOT_VALID = 0 ∧ (h.coldDone inp).get DEV_BOOT_FACTORY = 1 := by
  rw [h.boot_coldDone inp (g := DEV_BOOT_VALID) (by decide), h.boot_coldDone inp (g := DEV_BOOT_FACTORY) (by decide)]
  rcases hb with eq | eq | eq
  · exact eq ▸ Hub.get_bootBad _ 1
  · exact eq ▸ Hub.get_bootBad _ 2
  · exact eq ▸ Hub.get_bootBad _ 3

/-- The profile that is sound. -/
theorem Hub.boot_coldDone_ok (h : Hub) {inp : ColdIn} {ver : BitVec 8} {rs : List (BitVec 16 × Word)}
    (hb : inp.boot = .ok ver rs) : (h.coldDone inp).get DEV_BOOT_VER = ver.toNat ∧
      (h.coldDone inp).get DEV_BOOT_VALID = 1 ∧ (h.coldDone inp).get DEV_BOOT_FACTORY = 0 := by
  rw [h.boot_coldDone inp (g := DEV_BOOT_VER) (by decide), h.boot_coldDone inp (g := DEV_BOOT_VALID) (by decide),
    h.boot_coldDone inp (g := DEV_BOOT_FACTORY) (by decide), hb]
  exact Hub.get_bootRead_ok _ ver rs

theorem execColdStart_booting {s : State} (inp : ColdIn) (hp : s.hub.md.power = .booting) :
    exec (.coldStart inp) s = .next { s with hub := s.hub.coldStart inp, spi := {}, irq := {} } := if_pos hp

end Sys2Proof.Machine

/-- Settles O51: the straps taken as 1 first, then either the hub is off again or it goes through the stages, each of
which reaches fields and pages of its own; SERVICE is entered where nothing runs yet. -/
theorem coldStartLeavesReady : Obligations.ColdStartLeavesReady := by
  unfold Obligations.ColdStartLeavesReady
  intro s inp v only hp hv honly
  obtain ⟨hu, straps⟩ := Hub.strapUnstable_booting hp
  rw [← hv] at straps
  have feeds := s.hub.anyFeedOn_strapUnstable
  have run := execColdStart_booting inp hp
  refine ⟨fun off => ?_, fun on => ?_⟩
  · rw [Hub.coldStart_off hp hu (by rw [straps, feeds]; exact off)] at run
    exact ⟨_, run, rfl, s.hub.oph_strapUnstable, rfl, rfl, rfl⟩
  · rw [Hub.coldStart_on hp hu (by rw [straps, feeds]; exact on)] at run
    generalize hub : s.hub.strapUnstable = h at *
    have phantom : h.coldOnly inp = only := by rw [h.coldOnly_eq, straps, feeds, honly]
    have part : h.part = s.hub.part := by rw [← hub, s.hub.only_strapUnstable.part]
    have ready := h.settled_coldDone inp
    rw [phantom] at ready
    obtain ⟨pend, shadow, once⟩ := h.coldDone_empty inp
    obtain ⟨addr, host, twb⟩ := h.straps_coldDone inp
    rw [straps] at addr host twb
    have fenced {p : Nat} (hm : p ∈ h.coldFences inp) := h.hasCause_coldDone inp hm
    refine ⟨_, run, ready.power.trans (h.coldSaid_md inp).1, ready.rstLow, ready.mode, ready.byPhantom, rfl, rfl, rfl,
      pend, shadow, once, ?_, ?_, ?_, ?_, ?_, ?_, addr, host, ?_, twb, ?_, ?_, ?_, ?_, ?_, rfl⟩
    · exact (h.pcc_coldDone inp).trans (by rw [← hub, s.hub.get_strapUnstable_pcc])
    · exact (h.oph_coldDone inp).trans (by rw [← hub, s.hub.oph_strapUnstable])
    · exact fun f hf h5 => (h.get_coldDone_rtc inp hf h5).trans (by rw [← hub, s.hub.get_strapUnstable_rtc hf h5])
    · exact fun h0 h3 f hf lo hi => (h.get_coldDone_channel h0 h3 hf lo hi).trans (by rw [part])
    · exact fun ver rs boot => h.boot_coldDone_ok boot
    · exact fun boot => h.boot_coldDone_bad boot
    · exact fun ha => (h.unstable_coldDone inp).trans
        (by rw [← hub, Hub.get_strapUnstable ha, Hub.get_strapsAsOne_unstable])
    · exact fun bit => fenced (h.mem_coldFences (e := (2, pgSUP)) (by decide) bit)
    · exact fun bit => fenced (h.mem_coldFences (e := (4, pgREC)) (by decide) bit)
    · exact fun bit => fenced (h.mem_coldFences (e := (5, pgCLK)) (by decide) bit)
    · exact fun bit => ⟨fenced (h.mem_coldFences (e := (1, pgADC)) (by decide) bit), fun k hk => h.adc_coldDone bit hk⟩
    · exact fun p hm bit h0 h5 kind => fenced (selfPages_owner hm bit h0 h5 (part.symm ▸ kind))

end

section
/-! SUPPORT. The two-wire port after a start (01 R37, 16 R436). -/

open Sys2Proof Sys2Proof.Machine

/-- Refutes O12: a hub that only phantom power starts, strapped HOSTSEL = 0 and with no feed ON, goes off again before
its straps are taken (01 R28), so TWB_STAT.ADDR keeps the 0x37 it held although the straps say 0x35. -/
theorem not_twoWireAddressAndLast : ¬ Obligations.TwoWireAddressAndLast := by
  unfold Obligations.TwoWireAddressAndLast
  intro h
  let s : State := { State.reset with hub := State.reset.hub.md! fun m =>
    { m with power := .booting, straps := { accepted := 15, value := 0b0101 } } }
  obtain ⟨coldStartAddr, -, -⟩ := h s 0 [] 0
  obtain ⟨t, ht, ha⟩ := coldStartAddr ⟨.readError, 0, [], true⟩ 0b0101 (by decide) (by decide)
  have kept : t.hub.twbAddr = 2 * 0x37 := by
    rw [(Host.Outcome.next.inj ht).symm]
    decide
  exact absurd (kept.symm.trans ha) (by decide)

end

section
/-! SUPPORT. Live writes (03 R92, 19 R481). -/

open Sys2Proof Sys2Proof.Machine

/-- Refutes O57: a halted calendar that is slaved refuses the write that would let it run (status 0x05), although its
date exists; the statement guards only the write that halts it against SLAVED. -/
theorem not_liveWritesWaitForTheTick : ¬ Obligations.LiveWritesWaitForTheTick := by
  unfold Obligations.LiveWritesWaitForTheTick
  intro h
  let s : State := { State.reset with hub := (State.reset.hub.put RTC_CTL_HALT 1).put RTC_STAT_SLAVED 1 }
  obtain ⟨-, -, -, -, -, -, -, -, -, -, rtcHalt, -⟩ := h s .e 0 0 0 false false (by decide)
  obtain ⟨t, ht, ⟨answered, -⟩, -⟩ := rtcHalt (by decide) (by decide)
  have refused : t.hub.acc = ⟨0x05, 0⟩ := by
    rw [(Host.Outcome.next.inj ht).symm]
    decide
  exact absurd (refused.symm.trans answered) (by decide)

end

section
/-! SUPPORT. The frame (02 R52–R55). -/

open Sys2Proof Sys2Proof.Machine

namespace Sys2Proof.Machine

theorem exec_frameTick_on {s : State} {inp : TickIn} (on : s.hub.running = true) :
    exec (.frameTick inp) s = .next (s.frameTick inp) := by
  change execFrameTick inp s = _
  exact if_pos on

/-- A WR that writes the COMMIT bit of page 0x02. -/
def commitFramePage : Packet :=
  { hdr := { type := 0x12, dest := 0, src := 0xF, seq := 0, tag := 0, cred := 0, ver := 0 }
    payload := [1, 0xF0205, 1] }

/-- A follower with FRM_NO = 0x1234 staged and that WR waiting in its inbox. -/
def stagedFollower : State where
  hub := { State.reset.hub with
    part := .pqh32
    cyc := 3000
    regs := [(DEV_POS_VALID.idx, 0x20), (STR_STAT_ROLE.idx, 2)]
    shadow := [(FRM_NO_NO.idx, ⟨0xFFFFFFFF, 0x1234⟩)]
    pages := [(0x02, { dirty := true })]
    frm := { first := false, p1Due := false, p2Due := false }
    link := { inbox := [commitFramePage] } }

/-- A tick at which every input reads 0. -/
def quietTick : TickIn := ⟨[], 0, 0, false, 0, 0, [0, 0, 0, 0], 0, 0, 0, 0, 0, 0⟩

/-- The missing TICK lets the inbox be served within the tick, so the commit is made in the same tick. -/
theorem frmNo_frameTick_stagedFollower : (stagedFollower.frameTick quietTick).hub.get FRM_NO_NO = 0x1234 := by
  decide +kernel

end Sys2Proof.Machine

/-- Refutes O52: a commit request that waits in a follower's inbox is served within the tick that misses its TICK, so a
staged FRM_NO numbers the frame, although no commit is pending before the tick. -/
theorem not_framesTickAndOverrun : ¬ Obligations.FramesTickAndOverrun := by
  unfold Obligations.FramesTickAndOverrun
  intro h
  obtain ⟨counts, -⟩ := h stagedFollower quietTick 1 (by decide) (by decide)
  obtain ⟨t, ht, number, -⟩ := counts (by decide) (by decide) (by decide) (by decide)
  have run : exec (.frameTick quietTick) stagedFollower = .next (stagedFollower.frameTick quietTick) :=
    exec_frameTick_on (by decide)
  rw [← Host.Outcome.next.inj (run.symm.trans ht), frmNo_frameTick_stagedFollower] at number
  exact absurd number (by decide)

end

section
/-! SUPPORT. Monitors of the clock sources, the PLL and the frequency meter (02 R59–R69). -/

open Sys2Proof Sys2Proof.Machine

namespace Sys2Proof.Machine

/-! ## Gates -/

/-- The hub that has noted the count of a gate: what LREC and CLKIN last counted. -/
def Hub.gateNoted (h : Hub) (m : ClkMon) (count : Nat) : Hub :=
  match m with
  | .lrec => h.clk! fun c => { c with lrecCount := count }
  | .clkin => h.clk! fun c => { c with clkin := (count, 2 ^ h.cfgSafe CLK_MONCTL_GATE) }
  | _ => h

/-- The hub that has judged a gate's count. -/
def Hub.gateJudged (h : Hub) (m : ClkMon) (count : Nat) : Hub :=
  if (h.monBounds m).1 ≤ count ∧ count ≤ (h.monBounds m).2 then (h.gateNoted m count).monGood m count
  else (h.gateNoted m count).monBad m count

theorem Hub.monGate_eq (h : Hub) (m : ClkMon) (count : Nat) : h.monGate m count =
    if m = .clkin ∧ (h.gateJudged m count).get LB_SYNC_SRC = 2 ∧ !(h.gateJudged m count).lbClkOk then
      (h.gateJudged m count).lbSyncLost
    else h.gateJudged m count := by
  cases m <;> rfl

theorem Hub.gateJudged_good {h : Hub} {m : ClkMon} {count : Nat} (lo : (h.monBounds m).1 ≤ count)
    (hi : count ≤ (h.monBounds m).2) : h.gateJudged m count = (h.gateNoted m count).monGood m count := if_pos ⟨lo, hi⟩

theorem Hub.gateJudged_bad {h : Hub} {m : ClkMon} {count : Nat}
    (out : count < (h.monBounds m).1 ∨ (h.monBounds m).2 < count) :
    h.gateJudged m count = (h.gateNoted m count).monBad m count := if_neg (by omega)

theorem exec_clockMonitorGate_on {s : State} {m : ClkMon} (count : Nat) (on : s.hub.running = true)
    (en : (s.hub.cfgSafe CLK_MONCTL_EN).testBit (monNum m) = true) :
    exec (.clockMonitorGate m count) s = .next { s with hub := s.hub.monGate m count } := State.when_on _ en on

/-! ## What a count noted and a lost load bus clock leave -/

theorem Hub.gateNoted_clk (h : Hub) (m : ClkMon) (count : Nat) :
    ∃ c : Clocks, h.gateNoted m count = (h.clk! fun _ => c) ∧ c.good = h.clk.good := by
  cases m
  case lrec | clkin => exact ⟨_, rfl, rfl⟩
  case mosc | pll | kres => exact ⟨h.clk, rfl, rfl⟩

@[simp] theorem Hub.get_gateNoted (h : Hub) (m : ClkMon) (count : Nat) (g : Fld) :
    (h.gateNoted m count).get g = h.get g := by
  obtain ⟨c, e, -⟩ := h.gateNoted_clk m count
  rw [e, Hub.get_clk!]

theorem Hub.only_gateNoted (fs : List Fld) (ps : List Nat) (h : Hub) (m : ClkMon) (count : Nat) :
    Hub.only fs ps h (h.gateNoted m count) := by
  obtain ⟨c, e, -⟩ := h.gateNoted_clk m count
  rw [e]
  exact (Hub.only.refl fs ps h).clk! _

theorem Hub.only.lbSyncLost {fs : List Fld} {ps : List Nat} {a b : Hub} (hp : 0x11 ∈ ps) (ht : traceIn ps)
    (x : Hub.only fs ps a b) : Hub.only fs ps a b.lbSyncLost :=
  .ite (((x.put _ (.inr hp)).incSat _ (.inr hp)).report 0x11 5 _ _ _ _ (.inr hp) ht (.inl (by decide))) x

@[simp] theorem Hub.bare_lbSyncLost (h : Hub) : h.lbSyncLost.bare = h.bare := by
  unfold Hub.lbSyncLost
  split <;> simp

theorem Hub.get_lbSyncLost (h : Hub) {g : Fld} (hg : g.fits) (hp : g.idx / 256 ∉ 0x11 :: tracePages) :
    h.lbSyncLost.get g = h.get g :=
  ((Hub.only.refl [] (0x11 :: tracePages) h).lbSyncLost (by decide) (by decide)).fields g hg (by simp) hp

/-- The loss of the load bus clock reaches nothing of the clock page. -/
theorem Hub.get_monGate (h : Hub) (m : ClkMon) (count : Nat) {g : Fld} (hg : g.fits)
    (hp : g.idx / 256 ∉ 0x11 :: tracePages) : (h.monGate m count).get g = (h.gateJudged m count).get g := by
  rw [Hub.monGate_eq]
  split
  · exact Hub.get_lbSyncLost _ hg hp
  · rfl

theorem Hub.hasCause_monGate (h : Hub) (m : ClkMon) (count p c : Nat) :
    (h.monGate m count).hasCause p c = (h.gateJudged m count).hasCause p c := by
  rw [Hub.monGate_eq]
  split
  · exact Hub.hasCause_of_bare (Hub.bare_lbSyncLost _) p c
  · rfl

theorem Hub.fenced_of_bare {a b : Hub} (e : a.bare = b.bare) (p : Nat) : a.fenced p = b.fenced p :=
  Hub.of_bare (fun h => h.fenced p) (fun _ => rfl) e

theorem Hub.fenced_monGate (h : Hub) (m : ClkMon) (count p : Nat) :
    (h.monGate m count).fenced p = (h.gateJudged m count).fenced p := by
  rw [Hub.monGate_eq]
  split
  · exact Hub.fenced_of_bare (Hub.bare_lbSyncLost _) p
  · rfl

theorem Hub.monGate_judged {h : Hub} {m : ClkMon} {count : Nat}
    (src : m = .clkin → (h.gateJudged m count).get LB_SYNC_SRC ≠ 2) : h.monGate m count = h.gateJudged m count := by
  rw [Hub.monGate_eq, if_neg fun ⟨clkin, two, _⟩ => src clkin two]

theorem Hub.ready_iff (h : Hub) (code : Nat) : h.ready code = true ↔ h.get (rdyFld code) = 1 :=
  h.flag_iff (by unfold rdyFld; split <;> rfl)

theorem Hub.not_ready_iff (h : Hub) (code : Nat) : h.ready code = false ↔ h.get (rdyFld code) = 0 := by
  simp [Hub.ready, Hub.flag]

/-! ## FAILNOW -/

/-- The new value of FAILNOW holds the bit as given, and below 32 it fits its field. -/
theorem failNow_testBit : ∀ m < 32, ∀ n < 5, ∀ b : Bool,
    ((m - (if m.testBit n then 2 ^ n else 0) + boolNat b * 2 ^ n) % 32).testBit n = b := by decide

theorem Hub.testBit_setFailNow (h : Hub) {n : Nat} (b : Bool) (hn : n < 5) :
    ((h.setFailNow n b).get CLK_MONSTAT_FAILNOW).testBit n = b := by
  unfold Hub.setFailNow
  rw [Hub.get_put_same _ _ (by decide)]
  exact failNow_testBit _ (bitsOf_lt _ _ _) n hn b

theorem Hub.get_setFailNow (h : Hub) (n : Nat) (b : Bool) {g : Fld} (ha : CLK_MONSTAT_FAILNOW.apart g) :
    (h.setFailNow n b).get g = h.get g := Hub.get_put_apart h _ (by decide) ha

theorem Hub.only.setFailNow {fs : List Fld} {ps : List Nat} {a b : Hub} (n : Nat) (v : Bool)
    (hf : CLK_MONSTAT_FAILNOW.mayIn fs ps) (x : Hub.only fs ps a b) : Hub.only fs ps a (b.setFailNow n v) := x.put _ hf

/-- A gate of monitor `m` is marked in bounds or out of bounds, `k` in a row. -/
def Hub.gateMarked (h : Hub) (m : ClkMon) (fail : Bool) (k : Nat) : Hub :=
  (h.setFailNow (monNum m) fail).clk! fun c => { c with good := setNth c.good (monNum m) 0 k }

theorem Hub.only.gateMarked {fs : List Fld} {ps : List Nat} {a b : Hub} (m : ClkMon) (v : Bool) (k : Nat)
    (hf : CLK_MONSTAT_FAILNOW.mayIn fs ps) (x : Hub.only fs ps a b) : Hub.only fs ps a (b.gateMarked m v k) :=
  (x.setFailNow _ _ hf).clk! _

theorem Hub.get_gateMarked (h : Hub) (m : ClkMon) (v : Bool) (k : Nat) {g : Fld} (ha : CLK_MONSTAT_FAILNOW.apart g) :
    (h.gateMarked m v k).get g = h.get g := h.get_setFailNow _ _ ha

theorem Hub.testBit_gateMarked (h : Hub) (m : ClkMon) (v : Bool) (k : Nat) :
    ((h.gateMarked m v k).get CLK_MONSTAT_FAILNOW).testBit (monNum m) = v :=
  h.testBit_setFailNow v (by cases m <;> decide)

/-! ## A gate in bounds -/

/-- The source is READY; where it is the reference, holdover ends. -/
def Hub.madeReady (h : Hub) (m : ClkMon) : Hub :=
  let x := (h.gateMarked m false 2).put (rdyFld (monCode m)) 1
  if x.get CLK_STAT_PLLREF_ACT == monCode m then x.put CLK_STAT_HOLDOVER 0 else x

theorem Hub.monGood_second {h : Hub} {m : ClkMon} (count : Nat) (hm : m ∈ [ClkMon.mosc, .clkin, .kres])
    (good : 1 ≤ nth h.clk.good (monNum m) 0) :
    h.monGood m count = h.madeReady m ∨ ∃ b, h.monGood m count = (h.madeReady m).putb CLK_STAT_CLKIN_REFOK b := by
  have two : min 2 (nth h.clk.good (monNum m) 0 + 1) = 2 := by omega
  simp only [List.mem_cons, List.not_mem_nil, or_false] at hm
  unfold Hub.monGood
  obtain rfl | rfl | rfl := hm <;> dsimp only <;> rw [two]
  · exact .inl rfl
  · exact .inr ⟨_, rfl⟩
  · exact .inl rfl

/-- What the second gate in bounds does to the clock page. -/
structure Hub.NowReady (h h' : Hub) (m : ClkMon) : Prop where
  ready : h'.ready (monCode m) = true
  failNow : (h'.get CLK_MONSTAT_FAILNOW).testBit (monNum m) = false
  only : h.only [rdyFld (monCode m), CLK_MONSTAT_FAILNOW, CLK_STAT_HOLDOVER, CLK_STAT_CLKIN_REFOK] [] h'

theorem rdyFld_apart (m : ClkMon) : (rdyFld (monCode m)).fits ∧ CLK_STAT_HOLDOVER.apart (rdyFld (monCode m)) ∧
    CLK_STAT_CLKIN_REFOK.apart (rdyFld (monCode m)) ∧ (rdyFld (monCode m)).apart CLK_MONSTAT_FAILNOW ∧
    (rdyFld (monCode m)).w = 1 := by cases m <;> decide

theorem Hub.nowReady_madeReady (h : Hub) (m : ClkMon) : h.NowReady (h.madeReady m) m := by
  obtain ⟨fits, holdover, -, failNow, one⟩ := rdyFld_apart m
  unfold Hub.madeReady
  dsimp only
  refine ⟨(Hub.ready_iff _ _).2 ?_, ?_, .ite (.put _ (Fld.mayIn_self (by simp) (by decide)) ?only) ?only⟩
  case only =>
    exact ((Hub.only.refl _ _ h).gateMarked m _ _ (Fld.mayIn_self (by simp) (by decide))).put _
      (Fld.mayIn_self (by simp) fits)
  · split
    · rw [Hub.get_put_apart _ _ (by decide) holdover, Hub.get_put_same _ _ fits, one]; rfl
    · rw [Hub.get_put_same _ _ fits, one]; rfl
  · split
    · rw [Hub.get_put_apart _ _ (by decide) (by decide), Hub.get_put_apart _ _ fits failNow, Hub.testBit_gateMarked]
    · rw [Hub.get_put_apart _ _ fits failNow, Hub.testBit_gateMarked]

theorem Hub.NowReady.refOk {h h' : Hub} {m : ClkMon} (x : h.NowReady h' m) (b : Bool) :
    h.NowReady (h'.putb CLK_STAT_CLKIN_REFOK b) m where
  ready := by
    rw [Hub.ready_iff, Hub.get_putb_apart _ _ (by decide) (rdyFld_apart m).2.2.1, ← Hub.ready_iff]
    exact x.ready
  failNow := by
    rw [Hub.get_putb_apart _ _ (by decide) (by decide)]
    exact x.failNow
  only := x.only.putb _ (Fld.mayIn_self (by simp) (by decide))

theorem Hub.nowReady_monGood {h : Hub} {m : ClkMon} (count : Nat) (hm : m ∈ [ClkMon.mosc, .clkin, .kres])
    (good : 1 ≤ nth h.clk.good (monNum m) 0) : h.NowReady (h.monGood m count) m := by
  obtain e | ⟨b, e⟩ := Hub.monGood_second count hm good <;> rw [e]
  · exact h.nowReady_madeReady m
  · exact (h.nowReady_madeReady m).refOk b

/-! ## A gate out of bounds -/

/-- A gate out of bounds is the failure that MONSTAT shows. -/
def Hub.gateFailed (h : Hub) (m : ClkMon) : Hub :=
  ((h.gateMarked m true 0).incSat CLK_MONSTAT_FAILCNT).put CLK_MONSTAT_LASTFAIL (monCode m)

/-- What CLK_MONSTAT shows of a failure. -/
structure Hub.FailShown (h h' : Hub) (m : ClkMon) : Prop where
  failNow : (h'.get CLK_MONSTAT_FAILNOW).testBit (monNum m) = true
  count : h'.get CLK_MONSTAT_FAILCNT = min (h.get CLK_MONSTAT_FAILCNT + 1) 65535
  last : h'.get CLK_MONSTAT_LASTFAIL = monCode m

theorem Hub.failShown_gateFailed (h : Hub) (m : ClkMon) : h.FailShown (h.gateFailed m) m where
  failNow := by
    unfold Hub.gateFailed
    rw [Hub.get_put_apart _ _ (by decide) (by decide), Hub.get_incSat_apart _ _ (by decide) (by decide),
      Hub.testBit_gateMarked]
  count := by
    unfold Hub.gateFailed
    rw [Hub.get_put_apart _ _ (by decide) (by decide), Hub.get_incSat_same _ _ (by decide),
      Hub.get_gateMarked _ _ _ _ (by decide)]
    rfl
  last := by
    unfold Hub.gateFailed
    rw [Hub.get_put_same _ _ (by decide)]
    cases m <;> rfl

/-- What happens elsewhere than in CLK_MONSTAT leaves what it shows. -/
theorem Hub.FailShown.keep {h a b : Hub} {m : ClkMon} {fs : List Fld} {ps : List Nat} (x : h.FailShown a m)
    (y : Hub.only fs ps a b) (hf : ∀ f ∈ fs, f.idx ≠ CLK_MONSTAT_FAILNOW.idx) (hp : 1 ∉ ps) : h.FailShown b m := by
  have kept {g : Fld} (e : g.idx = CLK_MONSTAT_FAILNOW.idx) (fits : g.fits) : b.get g = a.get g :=
    y.fields g fits (fun f hm => .inl fun i => hf f hm (i.trans e)) (by rw [e]; exact hp)
  exact ⟨by rw [kept rfl (by decide)]; exact x.failNow, (kept (g := CLK_MONSTAT_FAILCNT) rfl (by decide)).trans x.count,
    (kept (g := CLK_MONSTAT_LASTFAIL) rfl (by decide)).trans x.last⟩

theorem monStat_mayIn {fs : List Fld} {ps : List Nat} {f : Fld} (hm : wholeFld CLK_MONSTAT_FAILNOW ∈ fs)
    (e : f.idx = CLK_MONSTAT_FAILNOW.idx) (hf : f.fits) : f.mayIn fs ps :=
  .inl ⟨_, hm, ⟨e, Nat.zero_le _, by simpa using hf⟩, hf⟩

theorem Hub.only_gateFailed {fs : List Fld} {ps : List Nat} (hm : wholeFld CLK_MONSTAT_FAILNOW ∈ fs) (h : Hub)
    (m : ClkMon) : Hub.only fs ps h (h.gateFailed m) :=
  (((Hub.only.refl fs ps h).gateMarked m true 0 (monStat_mayIn hm rfl (by decide))).incSat 1
    (monStat_mayIn (f := CLK_MONSTAT_FAILCNT) hm rfl (by decide))).put _
    (monStat_mayIn (f := CLK_MONSTAT_LASTFAIL) hm rfl (by decide))

theorem Hub.get_gateFailed (h : Hub) (m : ClkMon) {g : Fld} (hg : g.fits) (hi : g.idx ≠ CLK_MONSTAT_FAILNOW.idx) :
    (h.gateFailed m).get g = h.get g :=
  (h.only_gateFailed (fs := [wholeFld CLK_MONSTAT_FAILNOW]) (ps := []) (by simp) m).fields g hg
    (by simpa using .inl hi.symm) (by simp)

theorem Hub.pages_gateFailed (h : Hub) (m : ClkMon) : (h.gateFailed m).pages = h.pages := by
  unfold Hub.gateFailed Hub.gateMarked Hub.setFailNow
  rw [Hub.put_pages, Hub.incSat_pages, Hub.clk!_pages, Hub.put_pages]

/-! ## MOSC and CLKIN -/

theorem Hub.md_gateFailed (h : Hub) (m : ClkMon) : (h.gateFailed m).md = h.md := by
  unfold Hub.gateFailed Hub.gateMarked Hub.setFailNow
  rw [Hub.put_md, Hub.incSat_md, Hub.clk!_md, Hub.put_md]

/-- CLKIN is no reference any more, and the load bus that it clocked has lost its clock. -/
def Hub.clkinLost (h : Hub) : Hub :=
  let a := h.put CLK_STAT_CLKIN_REFOK 0
  if a.get LB_SYNC_SRC = 2 then a.lbSyncLost else a

/-- A source that was READY has failed: it is READY no more. -/
def Hub.sourceLost (h : Hub) (m : ClkMon) : Hub :=
  let a := (h.gateFailed m).put (rdyFld (monCode m)) 0
  if m = .clkin then a.clkinLost else a

theorem Hub.monBad_source {h : Hub} {m : ClkMon} (count : Nat) (hm : m = .mosc ∨ m = .clkin)
    (rdy : h.ready (monCode m) = true) : h.monBad m count =
    if (h.sourceLost m).get CLK_STAT_PLLREF_ACT = monCode m then (h.sourceLost m).refLost (monCode m)
    else (h.sourceLost m).monFail (monCode m) count := by
  unfold Hub.monBad Hub.sourceLost Hub.clkinLost Hub.gateFailed Hub.gateMarked
  obtain rfl | rfl := hm <;> dsimp only <;> rw [rdy, if_neg (by decide)]

/-- What the loss of a source reaches before its consequence; `ps` hold the load bus where CLKIN clocks it. -/
theorem Hub.only.clkinLost {fs : List Fld} {ps : List Nat} {a b : Hub} (hf : CLK_STAT_CLKIN_REFOK ∈ fs)
    (bus : b.get LB_SYNC_SRC = 2 → 0x11 ∈ ps ∧ traceIn ps) (x : Hub.only fs ps a b) : Hub.only fs ps a b.clkinLost := by
  have y := x.put 0 (Fld.mayIn_self hf (by decide))
  unfold Hub.clkinLost
  dsimp only
  rw [Hub.get_put_apart _ _ (by decide) (by decide)]
  split
  next two => exact y.lbSyncLost (bus two).1 (bus two).2
  next => exact y

theorem Hub.only.sourceLost {fs : List Fld} {ps : List Nat} (h : Hub) {m : ClkMon}
    (hm : wholeFld CLK_MONSTAT_FAILNOW ∈ fs) (hr : rdyFld (monCode m) ∈ fs) (hf : CLK_STAT_CLKIN_REFOK ∈ fs)
    (bus : m = .clkin → h.get LB_SYNC_SRC = 2 → 0x11 ∈ ps ∧ traceIn ps) : Hub.only fs ps h (h.sourceLost m) := by
  have fits := (rdyFld_apart m).1
  have y := (h.only_gateFailed hm m).put 0 (ps := ps) (Fld.mayIn_self hr fits)
  unfold Hub.sourceLost
  dsimp only
  split
  next clkin =>
    refine y.clkinLost hf fun two => bus clkin ?_
    rwa [Hub.get_put_apart _ _ fits (.inl (by subst clkin; decide)),
      Hub.get_gateFailed _ _ (by decide) (by decide)] at two
  next => exact y

theorem Hub.pages_sourceLost (h : Hub) (m : ClkMon) : (h.sourceLost m).pages = h.pages := by
  unfold Hub.sourceLost Hub.clkinLost
  dsimp only
  split
  · split
    · rw [Hub.of_bare Hub.pages (fun _ => rfl) (Hub.bare_lbSyncLost _), Hub.put_pages, Hub.put_pages,
        Hub.pages_gateFailed]
    · rw [Hub.put_pages, Hub.put_pages, Hub.pages_gateFailed]
  · rw [Hub.put_pages, Hub.pages_gateFailed]

theorem Hub.get_sourceLost (h : Hub) (m : ClkMon) {g : Fld} (hg : g.fits) (hm : (wholeFld CLK_MONSTAT_FAILNOW).apart g)
    (hr : (rdyFld (monCode m)).apart g) (hf : CLK_STAT_CLKIN_REFOK.apart g) (hp : g.idx / 256 ∉ 0x11 :: tracePages) :
    (h.sourceLost m).get g = h.get g :=
  (Hub.only.sourceLost h (fs := [wholeFld CLK_MONSTAT_FAILNOW, rdyFld (monCode m), CLK_STAT_CLKIN_REFOK])
    (by simp) (by simp) (by simp) fun _ _ => by decide).fields g hg (by simp [hm, hr, hf]) hp

/-- The loss of the load bus clock comes after what the loss of CLKIN shows. -/
theorem Hub.only_clkinLost (h : Hub) : Hub.only [CLK_STAT_CLKIN_REFOK] (0x11 :: tracePages) h h.clkinLost :=
  (Hub.only.refl _ _ h).clkinLost (by simp) fun _ => by decide

theorem Hub.get_sourceLost_ready (h : Hub) (m : ClkMon) : (h.sourceLost m).get (rdyFld (monCode m)) = 0 := by
  obtain ⟨fits, -, refOk, -, -⟩ := rdyFld_apart m
  have page : (rdyFld (monCode m)).idx / 256 ∉ 0x11 :: tracePages := by cases m <;> decide
  unfold Hub.sourceLost
  dsimp only
  split
  · rw [(Hub.only_clkinLost _).fields _ fits (by simpa using refOk) page, Hub.get_put_same _ _ fits, Nat.zero_mod]
  · rw [Hub.get_put_same _ _ fits, Nat.zero_mod]

theorem Hub.failShown_sourceLost (h : Hub) (m : ClkMon) : h.FailShown (h.sourceLost m) m := by
  have idx : (rdyFld (monCode m)).idx ≠ CLK_MONSTAT_FAILNOW.idx := by cases m <;> decide
  have lost : h.FailShown ((h.gateFailed m).put (rdyFld (monCode m)) 0) m :=
    (h.failShown_gateFailed m).keep
      ((Hub.only.refl [rdyFld (monCode m)] [] _).put 0 (Fld.mayIn_self (by simp) (rdyFld_apart m).1))
      (by simpa using idx) (by simp)
  unfold Hub.sourceLost
  dsimp only
  split
  · exact lost.keep (Hub.only_clkinLost _) (by decide) (by decide)
  · exact lost

/-! ## The loss of the reference and of another source -/

/-- The flags of the clock page that the loss of a source sets, and holdover. -/
def lossFlds : List Fld := [CLK_STAT_HOLDOVER, flagFld 0x01 2, flagFld 0x01 3, flagFld 0x01 29]

theorem Hub.only.refLost {fs : List Fld} {ps : List Nat} {a b : Hub} (code : Nat) (hf : ∀ f ∈ lossFlds, f ∈ fs)
    (ht : traceIn ps) (x : Hub.only fs ps a b) : Hub.only fs ps a (b.refLost code) :=
  ((x.put 1 (Fld.mayIn_self (hf CLK_STAT_HOLDOVER (by decide)) (by decide))).report pgCLK 3 _ _ _ _
    (Fld.mayIn_self (hf (flagFld 0x01 3) (by decide)) (by decide)) ht (.inl (by decide))).fence pgCLK 6
    (Fld.mayIn_self (hf (flagFld 0x01 29) (by decide)) (by decide)) ht

theorem Hub.only.monFail {fs : List Fld} {ps : List Nat} {a b : Hub} (code count : Nat) (hf : flagFld 0x01 2 ∈ fs)
    (ht : traceIn ps) (x : Hub.only fs ps a b) : Hub.only fs ps a (b.monFail code count) :=
  x.report pgCLK 2 _ _ _ _ (Fld.mayIn_self hf (by decide)) ht (.inl (by decide))

theorem Hub.get_refLost (h : Hub) (code : Nat) : (h.refLost code).get CLK_STAT_HOLDOVER = 1 ∧
    (h.refLost code).hasCause 0x01 6 = true ∧ (h.refLost code).get (flagFld 0x01 3) = 1 := by
  unfold Hub.refLost
  refine ⟨?_, Hub.hasCause_fence _ _ _, ?_⟩
  · rw [Hub.get_fence _ _ _ (by decide) (by decide),
      Hub.get_report _ _ _ _ _ _ _ (by decide) (by decide) (by decide), Hub.get_put_same _ _ (by decide)]
    rfl
  · rw [Hub.get_fence _ _ _ (by decide) (by decide),
      Hub.get_report_flag _ _ _ _ _ _ _ (by decide) (by decide) (by decide)]

theorem Hub.get_monFail (h : Hub) (code count : Nat) : (h.monFail code count).get (flagFld 0x01 2) = 1 :=
  h.get_report_flag _ _ _ _ _ _ (by decide) (by decide) (by decide)

theorem Hub.fenced_monFail (h : Hub) (code count p : Nat) : (h.monFail code count).fenced p = h.fenced p :=
  Hub.fenced_of_bare (Hub.bare_report ..) p

theorem Hub.fenced_of_pages {a b : Hub} (e : a.pages = b.pages) (p : Nat) : a.fenced p = b.fenced p := by
  unfold Hub.fenced Hub.page
  rw [e]

/-- What the loss of MOSC or CLKIN shows. -/
structure Hub.SourceLost (h h' : Hub) (m : ClkMon) : Prop where
  shown : h.FailShown h' m
  ready : h'.get (rdyFld (monCode m)) = 0
  reference : h.get CLK_STAT_PLLREF_ACT = monCode m →
    h'.get CLK_STAT_HOLDOVER = 1 ∧ h'.hasCause 0x01 6 = true ∧ h'.get (flagFld 0x01 3) = 1
  other : h.get CLK_STAT_PLLREF_ACT ≠ monCode m → h'.get (flagFld 0x01 2) = 1 ∧ h'.fenced 0x01 = h.fenced 0x01

theorem Hub.sourceLost_monBad {h : Hub} {m : ClkMon} (count : Nat) (hm : m = .mosc ∨ m = .clkin)
    (rdy : h.ready (monCode m) = true) : h.SourceLost (h.monBad m count) m := by
  obtain ⟨fits, holdover, -, -, -⟩ := rdyFld_apart m
  have flags : ∀ f ∈ lossFlds, f.apart (rdyFld (monCode m)) := by cases m <;> decide
  have page : (rdyFld (monCode m)).idx / 256 ∉ tracePages := by cases m <;> decide
  have refAct : (h.sourceLost m).get CLK_STAT_PLLREF_ACT = h.get CLK_STAT_PLLREF_ACT :=
    h.get_sourceLost m (by decide) (by decide) (by cases m <;> decide) (by decide) (by decide)
  have consequence {x : Hub} (only : Hub.only lossFlds tracePages (h.sourceLost m) x) :
      h.FailShown x m ∧ x.get (rdyFld (monCode m)) = 0 :=
    ⟨(h.failShown_sourceLost m).keep only (by decide) (by decide),
      (only.fields _ fits flags page).trans (h.get_sourceLost_ready m)⟩
  rw [Hub.monBad_source count hm rdy, refAct]
  split
  next act =>
    obtain ⟨shown, ready⟩ := consequence ((Hub.only.refl _ _ _).refLost (monCode m) (fun _ hf => hf) fun _ hp => hp)
    exact ⟨shown, ready, fun _ => Hub.get_refLost _ _, fun other => absurd act other⟩
  next act =>
    obtain ⟨shown, ready⟩ := consequence ((Hub.only.refl _ _ _).monFail (monCode m) count (by decide) fun _ hp => hp)
    exact ⟨shown, ready, fun reference => absurd reference act, fun _ => ⟨Hub.get_monFail _ _ _, by
      rw [Hub.fenced_monFail, Hub.fenced_of_pages (h.pages_sourceLost m)]⟩⟩

theorem Hub.only_monBad_source {h : Hub} {m : ClkMon} (count : Nat) (hm : m = .mosc ∨ m = .clkin)
    (rdy : h.ready (monCode m) = true) (bus : m = .clkin → h.get LB_SYNC_SRC ≠ 2) :
    h.only (rdyFld (monCode m) :: wholeFld CLK_MONSTAT_FAILNOW :: CLK_STAT_CLKIN_REFOK :: lossFlds) tracePages
      (h.monBad m count) := by
  have lost := Hub.only.sourceLost h (m := m) (ps := tracePages)
    (fs := rdyFld (monCode m) :: wholeFld CLK_MONSTAT_FAILNOW :: CLK_STAT_CLKIN_REFOK :: lossFlds) (by simp) (by simp)
    (by simp) fun clkin two => absurd two (bus clkin)
  rw [Hub.monBad_source count hm rdy]
  exact .ite (lost.refLost _ (fun f hf => by simp [hf]) fun _ hp => hp)
    (lost.monFail _ _ (by simp [lossFlds]) fun _ hp => hp)

/-! ## The gates of MOSC, CLKIN and KRES -/

@[simp] theorem Hub.ready_gateNoted (h : Hub) (m : ClkMon) (count code : Nat) :
    (h.gateNoted m count).ready code = h.ready code := by
  unfold Hub.ready Hub.flag
  rw [Hub.get_gateNoted]

theorem Hub.pages_gateNoted (h : Hub) (m : ClkMon) (count : Nat) : (h.gateNoted m count).pages = h.pages := by
  obtain ⟨c, e, -⟩ := h.gateNoted_clk m count
  rw [e, Hub.clk!_pages]

theorem rdyFld_page (m : ClkMon) : (rdyFld (monCode m)).idx / 256 ∉ 0x11 :: tracePages := by cases m <;> decide

/-- What a second gate in bounds of MOSC, CLKIN or KRES does. -/
theorem Hub.nowReady_monGate {h : Hub} {m : ClkMon} {count : Nat} (hm : m ∈ [ClkMon.mosc, .clkin, .kres])
    (lo : (h.monBounds m).1 ≤ count) (hi : count ≤ (h.monBounds m).2) (good : 1 ≤ nth h.clk.good (monNum m) 0) :
    (h.monGate m count).ready (monCode m) = true
      ∧ ((h.monGate m count).get CLK_MONSTAT_FAILNOW).testBit (monNum m) = false
      ∧ ((m = .clkin → h.get LB_SYNC_SRC ≠ 2) →
          h.only [rdyFld (monCode m), CLK_MONSTAT_FAILNOW, CLK_STAT_HOLDOVER, CLK_STAT_CLKIN_REFOK] []
            (h.monGate m count)) := by
  obtain ⟨c, e, goodNoted⟩ := h.gateNoted_clk m count
  have noted : 1 ≤ nth (h.gateNoted m count).clk.good (monNum m) 0 := by rwa [e, Hub.clk!_clk, goodNoted]
  obtain ⟨ready, failNow, only⟩ := Hub.nowReady_monGood count hm noted
  have judged := Hub.gateJudged_good lo hi
  have fits := (rdyFld_apart m).1
  rw [← judged] at ready failNow only
  refine ⟨?_, ?_, fun bus => ?_⟩
  · rw [Hub.ready_iff, Hub.get_monGate _ _ _ fits (rdyFld_page m), ← Hub.ready_iff]
    exact ready
  · rw [Hub.get_monGate _ _ _ (by decide) (by decide)]
    exact failNow
  · have all := (h.only_gateNoted _ _ m count).trans only
    rw [Hub.monGate_judged fun clkin => ?_]
    · exact all
    · rw [all.fields _ (by decide) (by subst clkin; decide) (by decide)]
      exact bus clkin

/-- What a gate out of bounds of MOSC or CLKIN does. -/
theorem Hub.sourceLost_monGate {h : Hub} {m : ClkMon} {count : Nat} (hm : m = .mosc ∨ m = .clkin)
    (out : count < (h.monBounds m).1 ∨ (h.monBounds m).2 < count) (rdy : h.ready (monCode m) = true) :
    h.SourceLost (h.monGate m count) m := by
  have lost := Hub.sourceLost_monBad (h := h.gateNoted m count) count hm (by rwa [Hub.ready_gateNoted])
  rw [← Hub.gateJudged_bad out] at lost
  obtain ⟨⟨failNow, counted, last⟩, ready, reference, other⟩ := lost
  rw [Hub.get_gateNoted] at counted reference other
  refine ⟨⟨?_, ?_, ?_⟩, ?_, fun act => ?_, fun act => ?_⟩
  · rwa [Hub.get_monGate _ _ _ (by decide) (by decide)]
  · rwa [Hub.get_monGate _ _ _ (by decide) (by decide)]
  · rwa [Hub.get_monGate _ _ _ (by decide) (by decide)]
  · rwa [Hub.get_monGate _ _ _ (rdyFld_apart m).1 (rdyFld_page m)]
  · rw [Hub.get_monGate _ _ _ (by decide) (by decide), Hub.get_monGate _ _ _ (by decide) (by decide),
      Hub.hasCause_monGate]
    exact reference act
  · rw [Hub.get_monGate _ _ _ (by decide) (by decide), Hub.fenced_monGate,
      ← Hub.fenced_of_pages (h.pages_gateNoted m count)]
    exact other act

theorem Hub.only_monGate_source {h : Hub} {m : ClkMon} {count : Nat} (hm : m = .mosc ∨ m = .clkin)
    (out : count < (h.monBounds m).1 ∨ (h.monBounds m).2 < count) (rdy : h.ready (monCode m) = true)
    (bus : m = .clkin → h.get LB_SYNC_SRC ≠ 2) :
    h.only (rdyFld (monCode m) :: wholeFld CLK_MONSTAT_FAILNOW :: CLK_STAT_CLKIN_REFOK :: lossFlds) tracePages
      (h.monGate m count) := by
  have bad := Hub.only_monBad_source (h := h.gateNoted m count) count hm (by rwa [Hub.ready_gateNoted])
    (by rwa [Hub.get_gateNoted])
  rw [← Hub.gateJudged_bad out] at bad
  have all := (h.only_gateNoted _ _ m count).trans bad
  rw [Hub.monGate_judged fun clkin => ?_]
  · exact all
  · rw [all.fields _ (by decide) (by subst clkin; decide) (by decide)]
    exact bus clkin

/-! ## The gates of the PLL, KRES and LREC -/

theorem Hub.monGate_bad {h : Hub} {m : ClkMon} {count : Nat} (hm : m ≠ .clkin)
    (out : count < (h.monBounds m).1 ∨ (h.monBounds m).2 < count) :
    h.monGate m count = (h.gateNoted m count).monBad m count := by
  rw [Hub.monGate_judged fun clkin => absurd clkin hm, Hub.gateJudged_bad out]

theorem Hub.monBad_pll {h : Hub} (count : Nat) (clear : h.get CLK_MONSTAT_FAILNOW = 0) :
    h.monBad .pll count = (h.gateFailed .pll).monFail (monCode .pll) count := by
  unfold Hub.monBad Hub.gateFailed Hub.gateMarked
  dsimp only
  rw [clear, if_neg (by decide)]

theorem Hub.get_gateFailed_pll {h : Hub} (clear : h.get CLK_MONSTAT_FAILNOW = 0) :
    (h.gateFailed .pll).get CLK_MONSTAT_FAILNOW = 8 := by
  unfold Hub.gateFailed Hub.gateMarked Hub.setFailNow
  rw [Hub.get_put_apart _ _ (by decide) (by decide), Hub.get_incSat_apart _ _ (by decide) (by decide), Hub.get_clk!,
    Hub.get_put_same _ _ (by decide), clear]
  rfl

theorem Hub.monBad_kres {h : Hub} (count : Nat) (rdy : h.ready 5 = true) :
    h.monBad .kres count = (((h.gateFailed .kres).put CLK_STAT_KRES_RDY 0).monFail (monCode .kres) count).osfSet 2 := by
  unfold Hub.monBad Hub.gateFailed Hub.gateMarked
  dsimp only
  rw [show h.ready (monCode .kres) = true from rdy, if_neg (by decide)]

theorem Hub.monBad_lrec {h : Hub} (count : Nat) (rdy : h.ready 2 = true) (sel : h.get CLK_SEL_PLLREF = 2) :
    h.monBad .lrec count = (h.gateFailed .lrec).lrecLost := by
  have kept : (h.gateFailed .lrec).get CLK_SEL_PLLREF = 2 := by rwa [Hub.get_gateFailed _ _ (by decide) (by decide)]
  unfold Hub.gateFailed Hub.gateMarked at *
  unfold Hub.monBad
  dsimp only
  rw [show h.ready (monCode .lrec) = true from rdy, if_neg (by decide), if_pos kept]

/-! ## OSF and the fallback from LREC -/

/-- OSF on a hub whose logic runs: its page and its record. -/
theorem Hub.osfSet_on {h : Hub} (cause : Nat) (on : h.running = true) : h.osfSet cause =
    ((h.put RTC_STAT_OSF 1).put RTC_STAT_OSFCAUSE cause).report pgRTC 2 0x0601 0 sevWARN [(0, 1, cause)] := by
  unfold Hub.osfSet
  dsimp only
  exact if_pos on

theorem Hub.only.osfSet {fs : List Fld} {ps : List Nat} {a b : Hub} (cause : Nat) (on : b.running = true) (hp : 5 ∈ ps)
    (ht : traceIn ps) (x : Hub.only fs ps a b) : Hub.only fs ps a (b.osfSet cause) := by
  rw [Hub.osfSet_on cause on]
  exact ((x.put _ (.inr hp)).put _ (.inr hp)).report pgRTC 2 _ _ _ _ (.inr hp) ht (.inl (by decide))

theorem Hub.get_osfSet {h : Hub} (cause : Nat) (on : h.running = true) : (h.osfSet cause).get RTC_STAT_OSF = 1 := by
  rw [Hub.osfSet_on cause on, Hub.get_report _ _ _ _ _ _ _ (by decide) (by decide) (by decide),
    Hub.get_put_apart _ _ (by decide) (by decide), Hub.get_put_same _ _ (by decide)]
  rfl

/-- LREC falls back to MOSC. -/
def Hub.fallback (h : Hub) : Hub :=
  ((((h.put CLK_STAT_LREC_RDY 0).put CLK_SEL_PLLREF 1).switchRef 1).setFlag CLK_STAT_FALLBACK).incSat CLK_ERRCNT_FALLCNT

theorem Hub.lrecLost_fallback {h : Hub} (rdy : h.get CLK_STAT_LREC_RDY = 1) (sel : h.get CLK_SEL_PLLREF = 2) :
    h.lrecLost = h.fallback.report pgCLK 1 0x0202 0 sevWARN [(0, 4, h.clk.lrecCount)] := by
  unfold Hub.lrecLost Hub.fallback
  dsimp only
  rw [(h.flag_iff rfl).2 rdy, if_neg (by decide), if_neg (by
    rw [Hub.get_put_apart _ _ (by decide) (by decide), sel]
    exact fun ne => ne rfl)]

theorem Hub.only.switchRef {fs : List Fld} {ps : List Nat} {a b : Hub} (code : Nat)
    (ha : CLK_STAT_PLLREF_ACT.mayIn fs ps) (hh : CLK_STAT_HOLDOVER.mayIn fs ps) (x : Hub.only fs ps a b) : Hub.only fs ps a (b.switchRef code) :=
  .ite ((x.put _ ha).put _ hh) (x.put _ ha)

theorem Hub.get_switchRef_act (h : Hub) (code : Nat) : (h.switchRef code).get CLK_STAT_PLLREF_ACT = code % 2 ^ 3 := by
  unfold Hub.switchRef
  dsimp only
  split
  · rw [Hub.get_put_apart _ _ (by decide) (by decide), Hub.get_put_same _ _ (by decide)]
  · rw [Hub.get_put_same _ _ (by decide)]

theorem Hub.get_switchRef (h : Hub) (code : Nat) {g : Fld} (hg : g.fits) (ha : CLK_STAT_PLLREF_ACT.apart g)
    (hh : CLK_STAT_HOLDOVER.apart g) : (h.switchRef code).get g = h.get g :=
  ((Hub.only.refl [CLK_STAT_PLLREF_ACT, CLK_STAT_HOLDOVER] [] h).switchRef code (Fld.mayIn_self (by simp) (by decide))
    (Fld.mayIn_self (by simp) (by decide))).fields g hg (by simp [ha, hh]) (by simp)

/-- What the fallback reaches. -/
def fallbackFlds : List Fld := [wholeFld CLK_STAT_RCO_RDY, CLK_SEL_PLLREF, CLK_ERRCNT_FALLCNT]

theorem clkStat_mayIn {f : Fld} (e : f.idx = CLK_STAT_RCO_RDY.idx) (hf : f.fits) : f.mayIn fallbackFlds [] :=
  .inl ⟨wholeFld CLK_STAT_RCO_RDY, by simp [fallbackFlds], ⟨e, Nat.zero_le _, by simpa using hf⟩, hf⟩

theorem Hub.only_fallback (h : Hub) : h.only fallbackFlds [] h.fallback := by
  have x := (Hub.only.refl fallbackFlds [] h).put (f := CLK_STAT_LREC_RDY) 0 (clkStat_mayIn rfl (by decide))
  have y := (x.put (f := CLK_SEL_PLLREF) 1 (by decide)).switchRef 1 (clkStat_mayIn rfl (by decide))
    (clkStat_mayIn rfl (by decide))
  have z := y.setFlag (f := CLK_STAT_FALLBACK) (clkStat_mayIn rfl (by decide))
  exact z.incSat (f := CLK_ERRCNT_FALLCNT) 1 (by decide)

/-- What the clock page shows of a fallback. -/
theorem Hub.get_fallback (h : Hub) : h.fallback.get CLK_STAT_LREC_RDY = 0 ∧ h.fallback.get CLK_SEL_PLLREF = 1
    ∧ h.fallback.get CLK_STAT_PLLREF_ACT = 1 ∧ h.fallback.get CLK_STAT_FALLBACK = 1
    ∧ h.fallback.get CLK_ERRCNT_FALLCNT = min (h.get CLK_ERRCNT_FALLCNT + 1) 65535 := by
  unfold Hub.fallback
  refine ⟨?_, ?_, ?_, ?_, ?_⟩
  · rw [Hub.get_incSat_apart _ _ (by decide) (by decide), Hub.get_setFlag_apart _ (by decide) (by decide),
      Hub.get_switchRef _ _ (by decide) (by decide) (by decide), Hub.get_put_apart _ _ (by decide) (by decide),
      Hub.get_put_same _ _ (by decide), Nat.zero_mod]
  · rw [Hub.get_incSat_apart _ _ (by decide) (by decide), Hub.get_setFlag_apart _ (by decide) (by decide),
      Hub.get_switchRef _ _ (by decide) (by decide) (by decide), Hub.get_put_same _ _ (by decide)]
    rfl
  · rw [Hub.get_incSat_apart _ _ (by decide) (by decide), Hub.get_setFlag_apart _ (by decide) (by decide),
      Hub.get_switchRef_act]
    rfl
  · rw [Hub.get_incSat_apart _ _ (by decide) (by decide), Hub.get_setFlag_same _ (by decide) rfl]
  · rw [Hub.get_incSat_same _ _ (by decide), Hub.get_setFlag_apart _ (by decide) (by decide),
      Hub.get_switchRef _ _ (by decide) (by decide) (by decide), Hub.get_put_apart _ _ (by decide) (by decide),
      Hub.get_put_apart _ _ (by decide) (by decide)]
    rfl

theorem Hub.pllFails {h : Hub} {count : Nat} (clear : h.get CLK_MONSTAT_FAILNOW = 0)
    (out : count < (h.monBounds .pll).1 ∨ (h.monBounds .pll).2 < count) :
    (h.monGate .pll count).get CLK_MONSTAT_FAILNOW = 8 ∧ h.FailShown (h.monGate .pll count) .pll
      ∧ (h.monGate .pll count).get (flagFld 0x01 2) = 1
      ∧ h.only [wholeFld CLK_MONSTAT_FAILNOW, flagFld 0x01 2] tracePages (h.monGate .pll count) := by
  have only := Hub.only.monFail (monCode .pll) count (fs := [wholeFld CLK_MONSTAT_FAILNOW, flagFld 0x01 2])
    (ps := tracePages) (by decide) (fun _ hp => hp) (h.only_gateFailed (by decide) .pll)
  have said := (Hub.only.refl [flagFld 0x01 2] tracePages (h.gateFailed .pll)).monFail (monCode .pll) count
    (by decide) fun _ hp => hp
  have e : h.monGate .pll count = (h.gateFailed .pll).monFail (monCode .pll) count := by
    rw [Hub.monGate_bad (by decide) out]
    exact Hub.monBad_pll count clear
  rw [e]
  refine ⟨?_, (h.failShown_gateFailed .pll).keep said (by decide) (by decide), Hub.get_monFail _ _ _, only⟩
  rw [said.fields _ (by decide) (by decide) (by decide), Hub.get_gateFailed_pll clear]

/-- KRES is READY no more, and its monitor has said so. -/
def Hub.kresFailed (h : Hub) (count : Nat) : Hub :=
  ((h.gateFailed .kres).put CLK_STAT_KRES_RDY 0).monFail (monCode .kres) count

theorem Hub.md_monFail (h : Hub) (code count : Nat) : (h.monFail code count).md = h.md :=
  Hub.md_of_bare (Hub.bare_report ..)

theorem Hub.running_kresFailed (h : Hub) (count : Nat) : (h.kresFailed count).running = h.running := by
  unfold Hub.running Hub.kresFailed
  rw [Hub.md_monFail, Hub.put_md, Hub.md_gateFailed]

theorem Hub.get_kresFailed (h : Hub) (count : Nat) : (h.kresFailed count).get CLK_STAT_KRES_RDY = 0
    ∧ (h.kresFailed count).get (flagFld 0x01 2) = 1 := by
  have said := (Hub.only.refl [flagFld 0x01 2] tracePages ((h.gateFailed .kres).put CLK_STAT_KRES_RDY 0)).monFail
    (monCode .kres) count (by decide) fun _ hp => hp
  refine ⟨?_, Hub.get_monFail _ _ _⟩
  unfold Hub.kresFailed
  rw [said.fields _ (by decide) (by decide) (by decide), Hub.get_put_same _ _ (by decide), Nat.zero_mod]

theorem Hub.only_kresFailed (h : Hub) (count : Nat) :
    h.only [CLK_STAT_KRES_RDY, wholeFld CLK_MONSTAT_FAILNOW, flagFld 0x01 2] (0x05 :: tracePages) (h.kresFailed count) :=
  ((h.only_gateFailed (by decide) .kres).put 0 (by decide)).monFail _ _ (by decide) (by decide)

theorem Hub.kresFails {h : Hub} {count : Nat} (on : h.running = true) (rdy : h.ready 5 = true)
    (out : count < (h.monBounds .kres).1 ∨ (h.monBounds .kres).2 < count) :
    (h.monGate .kres count).ready 5 = false ∧ (h.monGate .kres count).get RTC_STAT_OSF = 1
      ∧ (h.monGate .kres count).get (flagFld 0x01 2) = 1
      ∧ h.only [CLK_STAT_KRES_RDY, wholeFld CLK_MONSTAT_FAILNOW, flagFld 0x01 2] (0x05 :: tracePages)
          (h.monGate .kres count) := by
  have runs : (h.kresFailed count).running = true := (h.running_kresFailed count).trans on
  have osf := (Hub.only.refl [] (0x05 :: tracePages) (h.kresFailed count)).osfSet 2 runs (by decide) (by decide)
  obtain ⟨ready, flag⟩ := h.get_kresFailed count
  have e : h.monGate .kres count = (h.kresFailed count).osfSet 2 := by
    rw [Hub.monGate_bad (by decide) out]
    exact Hub.monBad_kres count rdy
  rw [e]
  refine ⟨(Hub.not_ready_iff _ _).2 ?_, Hub.get_osfSet 2 runs, ?_,
    (h.only_kresFailed count).osfSet 2 runs (by decide) (by decide)⟩
  · exact (osf.fields _ (by decide) (by decide) (by decide)).trans ready
  · exact (osf.fields _ (by decide) (by decide) (by decide)).trans flag

theorem Hub.lrecFallsBack {h : Hub} {count : Nat} (rdy : h.ready 2 = true) (sel : h.get CLK_SEL_PLLREF = 2)
    (out : count < (h.monBounds .lrec).1 ∨ (h.monBounds .lrec).2 < count) :
    (h.monGate .lrec count).ready 2 = false ∧ (h.monGate .lrec count).get CLK_SEL_PLLREF = 1
      ∧ (h.monGate .lrec count).get CLK_STAT_PLLREF_ACT = 1 ∧ (h.monGate .lrec count).get CLK_STAT_FALLBACK = 1
      ∧ (h.monGate .lrec count).get (flagFld 0x01 1) = 1
      ∧ (h.monGate .lrec count).get CLK_ERRCNT_FALLCNT = min (h.get CLK_ERRCNT_FALLCNT + 1) 65535
      ∧ h.only [wholeFld CLK_STAT_RCO_RDY, CLK_SEL_PLLREF, wholeFld CLK_MONSTAT_FAILNOW, CLK_ERRCNT_FALLCNT,
          flagFld 0x01 1] tracePages (h.monGate .lrec count) := by
  let x := (h.gateNoted .lrec count).gateFailed .lrec
  have get {g : Fld} (hg : g.fits) (hi : g.idx ≠ CLK_MONSTAT_FAILNOW.idx) : x.get g = h.get g := by
    rw [Hub.get_gateFailed _ _ hg hi, Hub.get_gateNoted]
  have e : h.monGate .lrec count = x.fallback.report pgCLK 1 0x0202 0 sevWARN [(0, 4, x.clk.lrecCount)] := by
    rw [Hub.monGate_bad (by decide) out,
      Hub.monBad_lrec count (by rwa [Hub.ready_gateNoted]) (by rwa [Hub.get_gateNoted]),
      Hub.lrecLost_fallback (by rw [get (by decide) (by decide)]; exact (h.ready_iff 2).1 rdy)
        (by rw [get (by decide) (by decide)]; exact sel)]
  have said {g : Fld} (ha : (flagFld 0x01 1).apart g) (hp : g.idx / 256 ∉ tracePages) :
      (h.monGate .lrec count).get g = x.fallback.get g := by
    rw [e, Hub.get_report _ _ _ _ _ _ _ (by decide) ha hp]
  obtain ⟨ready, selected, act, fallback, counted⟩ := x.get_fallback
  rw [get (by decide) (by decide)] at counted
  refine ⟨(Hub.not_ready_iff _ _).2 ((said (by decide) (by decide)).trans ready), ?_, ?_, ?_, ?_, ?_, ?_⟩
  · rw [said (by decide) (by decide), selected]
  · rw [said (by decide) (by decide), act]
  · rw [said (by decide) (by decide), fallback]
  · rw [e, Hub.get_report_flag _ _ _ _ _ _ _ (by decide) (by decide) (by decide)]
  · rw [said (by decide) (by decide), counted]
  · rw [e]
    exact ((((h.only_gateNoted _ _ .lrec count).trans (Hub.only_gateFailed (by decide) _ .lrec)).trans
      (x.only_fallback.mono (by decide) (by decide))).report pgCLK 1 _ _ _ _ (by decide) (fun _ hp => hp)
      (.inl (by decide)))

/-! ## The PLL and the frequency meter -/

theorem Hub.get_pllLock (h : Hub) (us : Nat) : (h.pllLock us).get CLK_STAT_PLL_RDY = 1
    ∧ (h.pllLock us).get CLK_PLLSTAT_LOCKTIME = min us 255 := by
  unfold Hub.pllLock
  dsimp only
  split
  · rw [Hub.get_putSat_apart _ _ (by decide) (by decide), Hub.get_put_same _ _ (by decide),
      Hub.get_putSat_same _ _ (by decide)]
    exact ⟨rfl, rfl⟩
  · rw [Hub.get_put_apart _ _ (by decide) (by decide), Hub.get_putSat_apart _ _ (by decide) (by decide),
      Hub.get_put_same _ _ (by decide), Hub.get_put_apart _ _ (by decide) (by decide),
      Hub.get_putSat_same _ _ (by decide)]
    exact ⟨rfl, rfl⟩

theorem Hub.only_pllLock (h : Hub) (us : Nat) :
    h.only [CLK_STAT_PLL_RDY, CLK_PLLSTAT_LOCKTIME, CLK_STAT_CORE_SRC] [] (h.pllLock us) := by
  have x := ((Hub.only.refl [CLK_STAT_PLL_RDY, CLK_PLLSTAT_LOCKTIME, CLK_STAT_CORE_SRC] [] h).put
    (f := CLK_STAT_PLL_RDY) 1 (by decide)).putSat (f := CLK_PLLSTAT_LOCKTIME) us (by decide)
  exact .ite x (x.put 4 (by decide))

theorem Hub.bare_pllLock (h : Hub) (us : Nat) : (h.pllLock us).bare = h.bare := by
  unfold Hub.pllLock
  dsimp only
  split
  · rw [Hub.bare_putSat, Hub.bare_put]
  · rw [Hub.bare_put, Hub.bare_putSat, Hub.bare_put]

/-- The PLL has lost lock. -/
def Hub.pllLost (h : Hub) : Hub := (h.put CLK_STAT_PLL_RDY 0).incSat CLK_PLLSTAT_UNLOCKCNT

/-- The flags that the loss of lock sets while its reference is READY. -/
def unlockFlds : List Fld := [flagFld 0x01 4, flagFld 0x01 29]

/-- The block is fenced for a PLL that has no lock although its reference is READY. -/
def Hub.unlockFenced (h : Hub) : Hub :=
  (h.report pgCLK 4 0x0205 0 sevFATAL [(0, 2, h.get CLK_PLLSTAT_UNLOCKCNT)]).fence pgCLK 6

theorem Hub.pllUnlock_eq (h : Hub) : h.pllUnlock =
    if h.ready (h.get CLK_STAT_PLLREF_ACT) = true then h.pllLost.unlockFenced else h.pllLost := rfl

theorem Hub.only.unlockFenced {fs : List Fld} {ps : List Nat} {a b : Hub} (hf : ∀ f ∈ unlockFlds, f ∈ fs)
    (ht : traceIn ps) (x : Hub.only fs ps a b) : Hub.only fs ps a b.unlockFenced :=
  (x.report pgCLK 4 _ _ _ _ (Fld.mayIn_self (hf (flagFld 0x01 4) (by decide)) (by decide)) ht
    (.inl (by decide))).fence pgCLK 6 (Fld.mayIn_self (hf (flagFld 0x01 29) (by decide)) (by decide)) ht

theorem Hub.get_pllLost (h : Hub) : h.pllLost.get CLK_STAT_PLL_RDY = 0
    ∧ h.pllLost.get CLK_PLLSTAT_UNLOCKCNT = min (h.get CLK_PLLSTAT_UNLOCKCNT + 1) 65535 := by
  unfold Hub.pllLost
  rw [Hub.get_incSat_apart _ _ (by decide) (by decide), Hub.get_put_same _ _ (by decide),
    Hub.get_incSat_same _ _ (by decide), Hub.get_put_apart _ _ (by decide) (by decide)]
  exact ⟨rfl, rfl⟩

theorem Hub.get_pllUnlock (h : Hub) {g : Fld} (hg : g.fits) (ha : ∀ f ∈ unlockFlds, f.apart g)
    (hp : g.idx / 256 ∉ tracePages) : h.pllUnlock.get g = h.pllLost.get g := by
  rw [Hub.pllUnlock_eq]
  split
  · exact ((Hub.only.refl unlockFlds tracePages _).unlockFenced (fun _ hf => hf) fun _ hp => hp).fields g hg ha hp
  · rfl

theorem Hub.pllUnlock_fenced {h : Hub} (rdy : h.ready (h.get CLK_STAT_PLLREF_ACT) = true) :
    h.pllUnlock.hasCause 0x01 6 = true ∧ h.pllUnlock.get (flagFld 0x01 4) = 1 := by
  rw [Hub.pllUnlock_eq, if_pos rdy]
  refine ⟨Hub.hasCause_fence _ _ _, ?_⟩
  unfold Hub.unlockFenced
  rw [Hub.get_fence _ _ _ (by decide) (by decide),
    Hub.get_report_flag _ _ _ _ _ _ _ (by decide) (by decide) (by decide)]

theorem Hub.only_pllUnlock (h : Hub) :
    h.only (CLK_STAT_PLL_RDY :: CLK_PLLSTAT_UNLOCKCNT :: unlockFlds) tracePages h.pllUnlock := by
  have x := ((Hub.only.refl (CLK_STAT_PLL_RDY :: CLK_PLLSTAT_UNLOCKCNT :: unlockFlds) tracePages h).put
    (f := CLK_STAT_PLL_RDY) 0 (by decide)).incSat (f := CLK_PLLSTAT_UNLOCKCNT) 1 (by decide)
  rw [Hub.pllUnlock_eq]
  exact .ite (Hub.only.unlockFenced (by decide) (fun _ hp => hp) x) x

/-- The result that the meter shows. -/
def Hub.meterShown (h : Hub) (n : Nat) (timeout : Bool) : Hub :=
  ((((h.putSat CLK_FMCOUNT_COUNT n).putb CLK_FMCTL_OVF (decide (2 ^ 32 ≤ n))).put CLK_FMCTL_BUSY 0).setFlag
    CLK_FMCTL_DONE).putb CLK_FMCTL_TIMEOUT timeout

theorem Hub.fmEnd_counted {h : Hub} {timeout : Bool} (count : Nat)
    (counted : h.get CLK_FMCTL_SRC ≠ h.get CLK_FMCTL_REF ∨ timeout = true) :
    h.fmEnd count timeout = (h.meterShown count timeout).evt pgCLK 5 := by
  unfold Hub.fmEnd Hub.meterShown
  dsimp only
  rw [if_neg (by
    rintro ⟨same, ended⟩
    rcases counted with differ | ran
    · exact differ same
    · rw [ran] at ended; exact absurd ended (by decide))]

/-- What the meter's end reaches. -/
def meterFlds : List Fld :=
  [CLK_FMCOUNT_COUNT, CLK_FMCTL_OVF, CLK_FMCTL_BUSY, CLK_FMCTL_DONE, CLK_FMCTL_TIMEOUT, flagFld 0x01 5]

theorem Hub.only_meterShown (h : Hub) (n : Nat) (timeout : Bool) : h.only meterFlds irqPages (h.meterShown n timeout) :=
  (((((Hub.only.refl meterFlds irqPages h).putSat n (by decide)).putb _ (by decide)).put 0 (by decide)).setFlag
    (by decide)).putb _ (by decide)

theorem Hub.bare_meterShown (h : Hub) (n : Nat) (timeout : Bool) : (h.meterShown n timeout).bare = h.bare := by
  unfold Hub.meterShown
  rw [Hub.bare_putb, Hub.bare_setFlag, Hub.bare_put, Hub.bare_putb, Hub.bare_putSat]

/-- What the meter shows at its end. -/
structure Hub.MeterEnds (h' : Hub) (n : Nat) (late : Bool) : Prop where
  count : h'.get CLK_FMCOUNT_COUNT = min n (2 ^ 32 - 1)
  ovf : h'.get CLK_FMCTL_OVF = if 2 ^ 32 ≤ n then 1 else 0
  busy : h'.get CLK_FMCTL_BUSY = 0
  done : h'.get CLK_FMCTL_DONE = 1
  timeout : h'.get CLK_FMCTL_TIMEOUT = if late = true then 1 else 0

theorem boolNat_mod_two (b : Bool) : boolNat b % 2 ^ 1 = if b = true then 1 else 0 := by cases b <;> rfl

theorem Hub.meterEnds_meterShown (h : Hub) (count : Nat) (timeout : Bool) :
    (h.meterShown count timeout).MeterEnds count timeout := by
  unfold Hub.meterShown
  constructor
  · rw [Hub.get_putb_apart _ _ (by decide) (by decide), Hub.get_setFlag_apart _ (by decide) (by decide),
      Hub.get_put_apart _ _ (by decide) (by decide), Hub.get_putb_apart _ _ (by decide) (by decide),
      Hub.get_putSat_same _ _ (by decide)]
  · rw [Hub.get_putb_apart _ _ (by decide) (by decide), Hub.get_setFlag_apart _ (by decide) (by decide),
      Hub.get_put_apart _ _ (by decide) (by decide), Hub.get_putb_same _ _ (by decide), boolNat_mod_two]
    simp only [decide_eq_true_eq]
  · rw [Hub.get_putb_apart _ _ (by decide) (by decide), Hub.get_setFlag_apart _ (by decide) (by decide),
      Hub.get_put_same _ _ (by decide), Nat.zero_mod]
  · rw [Hub.get_putb_apart _ _ (by decide) (by decide), Hub.get_setFlag_same _ (by decide) rfl]
  · rw [Hub.get_putb_same _ _ (by decide), boolNat_mod_two]

theorem Hub.MeterEnds.evt {b : Hub} {count : Nat} {timeout : Bool} (x : b.MeterEnds count timeout) :
    (b.evt pgCLK 5).MeterEnds count timeout := by
  have kept {g : Fld} (ha : (flagFld pgCLK 5).apart g) (hp : g.idx / 256 ∉ irqPages) :
      (b.evt pgCLK 5).get g = b.get g :=
    b.get_evt pgCLK 5 (by decide) ha hp
  obtain ⟨counted, ovf, busy, done, ran⟩ := x
  constructor
  · rw [kept (by decide) (by decide), counted]
  · rw [kept (by decide) (by decide), ovf]
  · rw [kept (by decide) (by decide), busy]
  · rw [kept (by decide) (by decide), done]
  · rw [kept (by decide) (by decide), ran]

/-- The meter has ended: what it shows, its flag, and what it leaves. -/
theorem Hub.meterEnds_fmEnd {h : Hub} {count : Nat} {timeout : Bool}
    (counted : h.get CLK_FMCTL_SRC ≠ h.get CLK_FMCTL_REF ∨ timeout = true) :
    (h.fmEnd count timeout).MeterEnds count timeout ∧ (h.fmEnd count timeout).get (flagFld 0x01 5) = 1
      ∧ h.only meterFlds irqPages (h.fmEnd count timeout) ∧ (h.fmEnd count timeout).bare = h.bare := by
  rw [Hub.fmEnd_counted count counted]
  exact ⟨(h.meterEnds_meterShown count timeout).evt, Hub.get_evt_flag _ _ _ (by decide) (by decide),
    (h.only_meterShown count timeout).evt pgCLK 5 (by decide) (fun _ hp => hp) (.inl (by decide)),
    (Hub.bare_evt ..).trans (h.bare_meterShown count timeout)⟩

/-- Both commands that end a measurement. -/
theorem exec_fmEnds {s : State} {count : Nat} {c : Instr} (on : s.hub.running = true)
    (hc : c = .fmDone count ∨ c = .fmTimeout count) (busy : s.hub.get CLK_FMCTL_BUSY = 1) :
    exec c s = .next { s with hub := s.hub.fmEnd count (decide (c = .fmTimeout count)) } := by
  have flag : s.hub.flag CLK_FMCTL_BUSY = true := (s.hub.flag_iff rfl).2 busy
  obtain rfl | rfl := hc
  · rw [decide_eq_false (by simp)]
    exact State.when_on _ flag on
  · rw [decide_eq_true rfl]
    exact State.when_on _ flag on

end Sys2Proof.Machine

/-- Settles O55: a gate that ends is judged by its bounds, and each source's loss, each end of lock and of a measurement
reaches fields of its own; what CLKIN clocks beside the clock page lies on the load bus's page. -/
theorem clocksAreMonitored : Obligations.ClocksAreMonitored := by
  unfold Obligations.ClocksAreMonitored
  intro s m count us on
  refine ⟨fun off => State.when_not _ off, fun en hm lo hi good => ?good, fun en hm out rdy => ?source,
    fun en clear out => ?pll, fun en rdy out => ?kres, fun en out rdy sel => ?lrec, fun free => ?lock,
    fun locked => ?unlock, fun c hc busy counted => ?meter⟩
  case good =>
    obtain ⟨ready, failNow, only⟩ := Hub.nowReady_monGate hm lo hi good
    exact ⟨_, exec_clockMonitorGate_on count on en, ready, failNow, fun bus => State.frame_hub (only bus)⟩
  case source =>
    have hm : m = .mosc ∨ m = .clkin := by simpa using hm
    obtain ⟨⟨failNow, counted, last⟩, ready, reference, other⟩ := Hub.sourceLost_monGate hm out rdy
    refine ⟨_, exec_clockMonitorGate_on count on en, (Hub.not_ready_iff _ _).2 ready, failNow, counted, last, reference,
      other, fun bus => State.frame_hub ((Hub.only_monGate_source hm out rdy bus).mono ?_ fun _ hp => hp)⟩
    simp [lossFlds]
  case pll =>
    obtain ⟨failNow, ⟨-, counted, last⟩, flag, only⟩ := Hub.pllFails clear out
    exact ⟨_, exec_clockMonitorGate_on count on en, failNow, counted, last, flag, State.frame_hub only⟩
  case kres =>
    obtain ⟨ready, osf, flag, only⟩ := Hub.kresFails on rdy out
    exact ⟨_, exec_clockMonitorGate_on count on en, ready, osf, flag, State.frame_hub only⟩
  case lrec =>
    obtain ⟨ready, selected, act, fallback, flag, counted, only⟩ := Hub.lrecFallsBack rdy sel out
    exact ⟨_, exec_clockMonitorGate_on count on en, ready, selected, act, fallback, flag, counted, State.frame_hub only⟩
  case lock =>
    have free : (!s.hub.flag CLK_STAT_PLL_RDY) = true := by simp [Hub.flag, free]
    obtain ⟨rdy, time⟩ := s.hub.get_pllLock us
    exact ⟨_, State.when_on _ free on, rdy, time, State.regFrame_hub (s.hub.only_pllLock us) (s.hub.bare_pllLock us)⟩
  case unlock =>
    obtain ⟨rdy, counted⟩ := s.hub.get_pllLost
    refine ⟨_, State.when_on _ ((s.hub.flag_iff rfl).2 locked) on, ?_, ?_, fun _ ready => Hub.pllUnlock_fenced ready,
      State.frame_hub s.hub.only_pllUnlock⟩
    · exact (s.hub.get_pllUnlock (by decide) (by decide) (by decide)).trans rdy
    · exact (s.hub.get_pllUnlock (by decide) (by decide) (by decide)).trans counted
  case meter =>
    have ran : s.hub.get CLK_FMCTL_SRC ≠ s.hub.get CLK_FMCTL_REF ∨ decide (c = .fmTimeout count) = true := by
      simpa using counted
    obtain ⟨⟨shown, ovf, idle, done, timeout⟩, flag, only, bare⟩ := Hub.meterEnds_fmEnd (count := count) ran
    refine ⟨_, exec_fmEnds on hc busy, shown, ovf, idle, done, ?_, flag, State.regFrame_hub only bare⟩
    simpa only [decide_eq_true_eq] using timeout

end

section
/-! SUPPORT. What a TICK leaves in a hub, and the phases of a frame that leave it: updates, writes, events, P1 and P2. -/

open Sys2Proof Sys2Proof.Machine

namespace Sys2Proof.Machine

/-! ## What a TICK leaves in a hub for the rest of the frame -/

/-- What a frame's TICK, or its absence, has left in a hub and what neither the phases of the frame nor the requests
that are served between them reach. -/
structure TickView where
  frmNo : Word
  err : Word
  /-- The frame's data, but for the phases that are still to run. -/
  frm : Frame
  stringMode : Nat
  lastTick : Nat
  goodTicks : Nat
  early : Bool
  got : Bool
  missed : Bool

def Hub.tickView (h : Hub) : TickView where
  frmNo := h.word FRM_NO_NO.idx
  err := h.word FRM_TERR_ERR.idx
  frm := { h.frm with p1Due := false, p2Due := false }
  stringMode := h.md.stringMode
  lastTick := h.link.lastTick
  goodTicks := h.link.goodTicks
  early := h.link.tickEarly
  got := h.link.tickGot
  missed := h.link.tickMissed

/-- A register that holds nothing of a TICK. -/
abbrev besideTick (i : Nat) : Prop := i ≠ FRM_NO_NO.idx ∧ i ≠ FRM_TERR_ERR.idx

/-! ### Updates of the hub's data -/

@[simp] theorem Hub.tickView_pend! (h : Hub) (f : List (Nat × PendW) → List (Nat × PendW)) :
    (h.pend! f).tickView = h.tickView := id rfl
@[simp] theorem Hub.tickView_shadow! (h : Hub) (f : List (Nat × Shadow) → List (Nat × Shadow)) :
    (h.shadow! f).tickView = h.tickView := id rfl
@[simp] theorem Hub.tickView_once! (h : Hub) (f : List Nat → List Nat) : (h.once! f).tickView = h.tickView := id rfl
@[simp] theorem Hub.tickView_bad! (h : Hub) (f : List BadByte → List BadByte) : (h.bad! f).tickView = h.tickView := id rfl
@[simp] theorem Hub.tickView_views! (h : Hub) (f : PortViews → PortViews) : (h.views! f).tickView = h.tickView := id rfl
@[simp] theorem Hub.tickView_rcd! (h : Hub) (f : Recorder → Recorder) : (h.rcd! f).tickView = h.tickView := id rfl
@[simp] theorem Hub.tickView_bud! (h : Hub) (f : Budget → Budget) : (h.bud! f).tickView = h.tickView := id rfl
@[simp] theorem Hub.tickView_lb! (h : Hub) (f : LoadBus → LoadBus) : (h.lb! f).tickView = h.tickView := id rfl
@[simp] theorem Hub.tickView_chg! (h : Hub) (f : Charger → Charger) : (h.chg! f).tickView = h.tickView := id rfl
@[simp] theorem Hub.tickView_share! (h : Hub) (f : Sharing → Sharing) : (h.share! f).tickView = h.tickView := id rfl
@[simp] theorem Hub.tickView_key! (h : Hub) (f : Keys → Keys) : (h.key! f).tickView = h.tickView := id rfl
@[simp] theorem Hub.tickView_mea! (h : Hub) (f : Measure → Measure) : (h.mea! f).tickView = h.tickView := id rfl
@[simp] theorem Hub.tickView_rtc! (h : Hub) (f : Rtc → Rtc) : (h.rtc! f).tickView = h.tickView := id rfl
@[simp] theorem Hub.tickView_sec! (h : Hub) (f : Section → Section) : (h.sec! f).tickView = h.tickView := id rfl
@[simp] theorem Hub.tickView_seq! (h : Hub) (f : Sequencer → Sequencer) : (h.seq! f).tickView = h.tickView := id rfl
@[simp] theorem Hub.tickView_twb! (h : Hub) (f : TwoWire → TwoWire) : (h.twb! f).tickView = h.tickView := id rfl
@[simp] theorem Hub.tickView_wd! (h : Hub) (f : Watchdog → Watchdog) : (h.wd! f).tickView = h.tickView := id rfl
@[simp] theorem Hub.tickView_answered (h : Hub) (r : AccRes) : (h.answered r).tickView = h.tickView := id rfl
@[simp] theorem Hub.tickView_setPage (h : Hub) (p : Nat) (x : PageHdr) : (h.setPage p x).tickView = h.tickView := id rfl
@[simp] theorem Hub.tickView_setCh (h : Hub) (n : Nat) (c : Chan) : (h.setCh n c).tickView = h.tickView := id rfl
@[simp] theorem Hub.tickView_ch! (h : Hub) (n : Nat) (f : Chan → Chan) : (h.ch! n f).tickView = h.tickView := id rfl
@[simp] theorem Hub.tickView_clearCause (h : Hub) (page code : Nat) :
    (h.clearCause page code).tickView = h.tickView := h.tickView_setPage _ _
@[simp] theorem Hub.tickView_host! (h : Hub) (p : Port) (f : HostReq → HostReq) :
    (h.host! p f).tickView = h.tickView := h.tickView_mea! _

/-- A change of the modes that leaves the string mode. -/
theorem Hub.tickView_md! (h : Hub) {f : Modes → Modes} (hf : (f h.md).stringMode = h.md.stringMode) :
    (h.md! f).tickView = h.tickView := by
  unfold Hub.tickView
  rw [Hub.md!_md, hf]
  exact id rfl

/-- What the links hold of a TICK. -/
def Link.ofTick (l : Link) : Nat × Nat × Bool × Bool × Bool := (l.lastTick, l.goodTicks, l.tickEarly, l.tickGot, l.tickMissed)

theorem Hub.tickView_link! (h : Hub) {f : Link → Link} (hf : (f h.link).ofTick = h.link.ofTick) :
    (h.link! f).tickView = h.tickView := by
  simp only [Link.ofTick, Prod.mk.injEq] at hf
  obtain ⟨last, good, early, got, missed⟩ := hf
  unfold Hub.tickView
  rw [Hub.link!_link, last, good, early, got, missed]
  exact id rfl

/-- A change of the phases that are still to run. -/
theorem Hub.tickView_frm! (h : Hub) {f : Frame → Frame}
    (hf : { f h.frm with p1Due := false, p2Due := false } = { h.frm with p1Due := false, p2Due := false }) :
    (h.frm! f).tickView = h.tickView := by
  unfold Hub.tickView
  rw [Hub.frm!_frm, hf]
  exact id rfl

/-! ### Writes of registers -/

theorem Hub.tickView_setWord (h : Hub) {i : Nat} (w : Word) (hi : besideTick i) : (h.setWord i w).tickView = h.tickView := by
  unfold Hub.tickView
  rw [Hub.word_setWord_ne h w hi.1.symm, Hub.word_setWord_ne h w hi.2.symm, Hub.setWord_frm, Hub.setWord_md,
    Hub.setWord_link]

theorem Hub.tickView_put (h : Hub) {f : Fld} (v : Nat) (hi : besideTick f.idx) : (h.put f v).tickView = h.tickView :=
  h.tickView_setWord _ hi
theorem Hub.tickView_putb (h : Hub) {f : Fld} (b : Bool) (hi : besideTick f.idx) : (h.putb f b).tickView = h.tickView :=
  h.tickView_put _ hi
theorem Hub.tickView_puti (h : Hub) {f : Fld} (v : Int) (hi : besideTick f.idx) : (h.puti f v).tickView = h.tickView :=
  h.tickView_put _ hi
theorem Hub.tickView_putSat (h : Hub) {f : Fld} (v : Nat) (hi : besideTick f.idx) : (h.putSat f v).tickView = h.tickView :=
  h.tickView_put _ hi
theorem Hub.tickView_incSat (h : Hub) {f : Fld} (n : Nat) (hi : besideTick f.idx) : (h.incSat f n).tickView = h.tickView :=
  h.tickView_put _ hi
theorem Hub.tickView_incWrap (h : Hub) {f : Fld} (n : Nat) (hi : besideTick f.idx) :
    (h.incWrap f n).tickView = h.tickView := h.tickView_put _ hi
theorem Hub.tickView_putPair (h : Hub) {f g : Fld} (v : Nat) (hf : besideTick f.idx) (hg : besideTick g.idx) :
    (h.putPair f g v).tickView = h.tickView := (Hub.tickView_put _ _ hg).trans (h.tickView_put _ hf)

/-- A register at or above one that lies above those of a TICK. -/
theorem besideTick_add {i : Nat} (k : Nat) (hi : FRM_TERR_ERR.idx < i) : besideTick (i + k) := by
  have lt : 0x0212 < i := hi
  exact ⟨by change i + k ≠ 0x0208; omega, by change i + k ≠ 0x0212; omega⟩

theorem Hub.tickView_put_pg (h : Hub) {f : Fld} (n v : Nat) (hi : FRM_TERR_ERR.idx < f.idx) :
    (h.put (f.pg n) v).tickView = h.tickView := h.tickView_put _ (besideTick_add _ hi)
theorem Hub.tickView_put_nth (h : Hub) {f : Fld} (n v : Nat) (hi : FRM_TERR_ERR.idx < f.idx) :
    (h.put (f.nth n) v).tickView = h.tickView := h.tickView_put _ (besideTick_add _ hi)
theorem Hub.tickView_putb_nth (h : Hub) {f : Fld} (n : Nat) (b : Bool) (hi : FRM_TERR_ERR.idx < f.idx) :
    (h.putb (f.nth n) b).tickView = h.tickView := h.tickView_put_nth _ _ hi
theorem Hub.tickView_puti_pg (h : Hub) {f : Fld} (n : Nat) (v : Int) (hi : FRM_TERR_ERR.idx < f.idx) :
    (h.puti (f.pg n) v).tickView = h.tickView := h.tickView_put_pg _ _ hi
theorem Hub.tickView_incSat_pg (h : Hub) {f : Fld} (n k : Nat) (hi : FRM_TERR_ERR.idx < f.idx) :
    (h.incSat (f.pg n) k).tickView = h.tickView := h.tickView_put_pg _ _ hi
theorem Hub.tickView_incSat_nth (h : Hub) {f : Fld} (n k : Nat) (hi : FRM_TERR_ERR.idx < f.idx) :
    (h.incSat (f.nth n) k).tickView = h.tickView := h.tickView_put_nth _ _ hi
theorem Hub.tickView_putPair_pg (h : Hub) {f g : Fld} (n v : Nat) (hf : FRM_TERR_ERR.idx < f.idx)
    (hg : FRM_TERR_ERR.idx < g.idx) : (h.putPair (f.pg n) (g.pg n) v).tickView = h.tickView :=
  h.tickView_putPair v (besideTick_add _ hf) (besideTick_add _ hg)

/-! ### Branches and folds -/

theorem Hub.tickView_ite {c : Prop} [Decidable c] (a b : Hub) :
    (if c then a else b).tickView = if c then a.tickView else b.tickView := apply_ite ..

theorem Hub.tickView_foldl {α : Type} {f : Hub → α → Hub} (hf : ∀ a x, (f a x).tickView = a.tickView) (l : List α)
    (h : Hub) : (l.foldl f h).tickView = h.tickView := by
  induction l generalizing h with
  | nil => rfl
  | cons x l ih => rw [List.foldl_cons, ih, hf]

/-! ### Events, records and fences -/

@[simp] theorem Hub.tickView_keepBits (h : Hub) (i : Nat) (w : Word) : (h.keepBits i w).tickView = h.tickView := by
  unfold Hub.keepBits
  split
  · rfl
  · exact h.tickView_pend! _

theorem Hub.tickView_setFlag (h : Hub) {f : Fld} (hi : besideTick f.idx) : (h.setFlag f).tickView = h.tickView :=
  (Hub.tickView_keepBits ..).trans (h.tickView_put _ hi)

@[simp] theorem Hub.tickView_raise (h : Hub) (s : Nat) : (h.raise s).tickView = h.tickView := by
  unfold Hub.raise
  split
  · refine h.tickView_setFlag ?_
    change besideTick (0x2008 + 256 * (s / 64) + s % 64)
    rw [Nat.add_assoc]
    exact besideTick_add _ (by decide)
  · rfl

@[simp] theorem Hub.tickView_raiseAll (h : Hub) (l : List Nat) : (h.raiseAll l).tickView = h.tickView :=
  Hub.tickView_foldl (fun a s => a.tickView_raise s) l h

theorem besideTick_evt (page : Nat) : besideTick (page * 256 + 3) :=
  ⟨by change _ ≠ 0x0208; omega, by change _ ≠ 0x0212; omega⟩

@[simp] theorem Hub.tickView_evt (h : Hub) (page bit : Nat) : (h.evt page bit).tickView = h.tickView := by
  have flag : (h.setFlag ⟨page * 256 + 3, bit, 1⟩).tickView = h.tickView := h.tickView_setFlag (besideTick_evt page)
  have noted : (((h.setFlag ⟨page * 256 + 3, bit, 1⟩).put IRQ_PARSRC_PAGE page).incSat IRQ_PARSRC_COUNT).tickView =
      h.tickView := by
    rw [Hub.tickView_incSat _ _ (by decide), Hub.tickView_put _ _ (by decide), flag]
  unfold Hub.evt
  dsimp only
  split <;> simp only [Hub.tickView_ite, Hub.tickView_raiseAll, flag, noted, ite_self]

@[simp] theorem Hub.tickView_touchSlot (h : Hub) (slot : Nat) (r : Rec) : (h.touchSlot slot r).tickView = h.tickView := by
  unfold Hub.touchSlot
  split
  · rfl
  · exact h.tickView_rcd! _

@[simp] theorem Hub.tickView_record (h : Hub) (code inst sev pay : Nat) :
    (h.record code inst sev pay).tickView = h.tickView := by
  unfold Hub.record
  dsimp only
  split
  · simp (disch := decide) only [Hub.tickView_ite, Hub.tickView_touchSlot, Hub.tickView_put, Hub.tickView_rcd!, ite_self]
  · simp (disch := decide) only [Hub.tickView_ite, Hub.tickView_put, Hub.tickView_incSat, Hub.tickView_rcd!, ite_self]

@[simp] theorem Hub.tickView_report (h : Hub) (page bit code inst sev : Nat) (l : List (Nat × Nat × Nat)) :
    (h.report page bit code inst sev l).tickView = h.tickView :=
  (Hub.tickView_record ..).trans (h.tickView_evt page bit)

@[simp] theorem Hub.tickView_fence (h : Hub) (page code : Nat) : (h.fence page code).tickView = h.tickView := by
  unfold Hub.fence
  dsimp only
  split
  · rfl
  · rw [Hub.tickView_record, Hub.tickView_evt, Hub.tickView_setPage]

/-! ### P1 (06 R180–R210) -/

theorem besideTick_recState (n dir : Nat) : besideTick (recState n dir).idx := by
  unfold recState
  split <;> exact besideTick_add _ (by decide)

theorem Hub.tickView_classRecord (h : Hub) (n dir : Nat) : (h.classRecord n dir).1.tickView = h.tickView := by
  unfold Hub.classRecord
  dsimp only
  simp only [Hub.tickView_ite, Hub.tickView_report, Hub.tickView_evt, Hub.tickView_put _ _ (besideTick_recState n dir),
    ite_self]

theorem Hub.tickView_latchLeads (h : Hub) (n : Nat) : (h.latchLeads n).tickView = h.tickView := by
  unfold Hub.latchLeads
  dsimp only
  rw [Hub.tickView_put_pg _ _ _ (by decide), Hub.tickView_put_pg _ _ _ (by decide), Hub.tickView_classRecord,
    Hub.tickView_classRecord]

theorem Hub.tickView_zeroAll (h : Hub) : h.zeroAll.tickView = h.tickView := by
  unfold Hub.zeroAll
  dsimp only
  refine (Hub.tickView_foldl (fun a n => ?_) _ _).trans (h.tickView_putPair _ (by decide) (by decide))
  rw [Hub.tickView_ch!, Hub.tickView_putPair_pg _ _ _ (by decide) (by decide)]

theorem Hub.tickView_zeroAct (h : Hub) (n : Nat) : (h.zeroAct n).tickView = h.tickView := by
  unfold Hub.zeroAct
  dsimp only
  split
  · rw [Hub.tickView_report, Hub.tickView_zeroAll, Hub.tickView_sec!, Hub.tickView_put _ _ (by decide)]
  · rw [Hub.tickView_report, Hub.tickView_sec!, Hub.tickView_put _ _ (by decide)]

theorem Hub.tickView_odoStep (h : Hub) (n : Nat) (d : Int) : (h.odoStep n d).tickView = h.tickView := by
  unfold Hub.odoStep
  dsimp only
  simp (disch := decide) only [Hub.tickView_ite, Hub.tickView_evt, Hub.tickView_put_pg, Hub.tickView_puti_pg,
    Hub.tickView_setCh, Hub.tickView_putPair_pg, ite_self]

theorem Hub.tickView_applyTravel (h : Hub) (t : Travel) (cur : Nat) : (h.applyTravel t cur).tickView = h.tickView := by
  have start (x : Section → Section) :
      (((h.puti SEC_DREF_DREF t.dref).puti SEC_KAPUSED_KAPPA h.sec.kappaPrev).sec! x).tickView = h.tickView := by
    rw [Hub.tickView_sec!, Hub.tickView_puti _ _ (by decide), Hub.tickView_puti _ _ (by decide)]
  unfold Hub.applyTravel
  dsimp only
  split
  · split
    · rw [Hub.tickView_foldl (fun a n => a.tickView_ch! n _), Hub.tickView_sec!, start]
    · rw [Hub.tickView_zeroAct, start]
  · rw [Hub.tickView_foldl (fun a n => a.tickView_odoStep n _), Hub.tickView_putPair _ _ (by decide) (by decide), start]

theorem Hub.tickView_applyQueue (fuel : Nat) (h : Hub) (cur : Nat) : (Hub.applyQueue fuel h cur).tickView = h.tickView := by
  induction fuel generalizing h with
  | zero => rfl
  | succ k ih =>
    unfold Hub.applyQueue
    split
    · rfl
    · dsimp only
      rw [ih, Hub.tickView_applyTravel, Hub.tickView_sec!]

theorem Hub.tickView_flushLane (h : Hub) (n cause : Nat) : (h.flushLane n cause).tickView = h.tickView := by
  unfold Hub.flushLane
  dsimp only
  rw [Hub.tickView_record, Hub.tickView_setCh]

theorem Hub.tickView_geyLeave (h : Hub) (k : Nat) : (h.geyLeave k).tickView = h.tickView := by
  unfold Hub.geyLeave
  dsimp only
  rw [Hub.tickView_put_pg _ _ _ (by decide), Hub.tickView_put_nth _ _ _ (by decide)]

theorem Hub.tickView_engAbort (h : Hub) (k cause : Nat) : (h.engAbort k cause).tickView = h.tickView := by
  unfold Hub.engAbort
  split
  · rfl
  · dsimp only
    rw [Hub.tickView_report, Hub.tickView_evt, Hub.tickView_put_pg _ _ _ (by decide),
      Hub.tickView_put_pg _ _ _ (by decide), Hub.tickView_put_nth _ _ _ (by decide), Hub.tickView_geyLeave]

theorem Hub.tickView_geyAbort (h : Hub) (c cause : Nat) : (h.geyAbort c cause).tickView = h.tickView := by
  unfold Hub.geyAbort
  split
  · exact h.tickView_engAbort _ _
  · rfl

theorem Hub.tickView_popHead (h : Hub) (n k : Nat) : (h.popHead n k).tickView = h.tickView := h.tickView_ch! _ _

theorem Hub.tickView_evalHead (h : Hub) (n frm : Nat) (dist : Bool) : (h.evalHead n frm dist).1.tickView = h.tickView := by
  have late (code inst sev : Nat) (l : List (Nat × Nat × Nat)) :
      ((h.incSat (CH_SECCNT0_LATE.pg n)).report (chPage n) 10 code inst sev l).tickView = h.tickView := by
    rw [Hub.tickView_report, Hub.tickView_incSat_pg _ _ _ (by decide)]
  unfold Hub.evalHead
  dsimp only
  split
  · rfl
  · split
    · rw [Hub.tickView_report, Hub.tickView_geyAbort, Hub.tickView_clearCause, Hub.tickView_fence, Hub.tickView_flushLane]
    · cases h.exam n _ frm dist <;> dsimp only
      case late r =>
        split
        · rw [Hub.tickView_popHead, late]
        · split
          · rw [Hub.tickView_report, Hub.tickView_incSat_pg _ _ _ (by decide), Hub.tickView_popHead, late]
          · rw [Hub.tickView_ch!, Hub.tickView_popHead, late]
      case arm cy r =>
        split
        · rw [Hub.tickView_popHead]
        · split
          · rw [Hub.tickView_report, Hub.tickView_incSat_pg _ _ _ (by decide), Hub.tickView_popHead]
          · rw [Hub.tickView_ch!, Hub.tickView_popHead]

theorem Hub.tickView_evalChan (fuel : Nat) (h : Hub) (n frm : Nat) (dist : Bool) (taken : Nat) :
    (Hub.evalChan fuel h n frm dist taken).tickView = h.tickView := by
  induction fuel generalizing h taken with
  | zero => rfl
  | succ k ih =>
    unfold Hub.evalChan
    dsimp only
    split
    · rfl
    · split
      · exact h.tickView_evalHead n frm dist
      · rw [ih, Hub.tickView_evalHead]

theorem Hub.tickView_starveChan (h : Hub) (n : Nat) : (h.starveChan n).tickView = h.tickView := by
  unfold Hub.starveChan
  dsimp only
  split
  · exact h.tickView_setCh _ _
  · rfl

/-- P1 reaches nothing of a TICK. -/
theorem Hub.tickView_sectionP1 (h : Hub) : h.sectionP1.tickView = h.tickView := by
  unfold Hub.sectionP1
  extract_lets n h1 wasGap h2 inStep h3 h3' f h4
  have leads : h1.tickView = h.tickView := Hub.tickView_foldl (fun a k => a.tickView_latchLeads k) _ _
  have travel : h2.tickView = h.tickView :=
    (Hub.tickView_applyQueue ..).trans ((Hub.tickView_foldl (fun a k => a.tickView_ch! k _) _ _).trans leads)
  have gap : h3.tickView = h.tickView := by
    simp (disch := decide) only [h3, Hub.tickView_ite, Hub.tickView_report, Hub.tickView_sec!, Hub.tickView_incSat,
      Hub.tickView_put, ite_self, travel]
  have zero : h4.tickView = h.tickView := by
    simp (disch := decide) only [h4, h3', Hub.tickView_ite, Hub.tickView_sec!, Hub.tickView_putSat, ite_self, gap]
  split
  next go h5 _ =>
    have lanes : h5.tickView = h.tickView :=
      (Hub.tickView_foldl (fun a k => a.tickView_evalChan 5 k n inStep 0) _ _).trans zero
    split
    · exact (Hub.tickView_foldl (fun a k => a.tickView_starveChan k) _ _).trans lanes
    · exact lanes
  next => exact zero

/-! ### P2 (08 R246, 10 R276–R290, 12 R328–R337) -/

theorem Hub.tickView_deferArmed (h : Hub) (n : Nat) (a : Armed) : (h.deferArmed n a).tickView = h.tickView := by
  unfold Hub.deferArmed
  rw [Hub.tickView_bud!, Hub.tickView_ch!]

theorem tickView_judgeEdge (k : Nat) (gate short : Bool) (defermax : Nat) (pend : List Nat) (p : Pass) (e : EdgeItem) :
    (judgeEdge k gate short defermax pend p e).hub.tickView = p.hub.tickView := by
  unfold judgeEdge
  extract_lets h n next pe age expired go waits h1 p1 a held
  have expires : h1.tickView = p.hub.tickView := by
    simp (disch := decide) only [h1, h, Hub.tickView_ite, Hub.tickView_report, Hub.tickView_incSat, ite_self]
  split
  · rfl
  · split
    · split
      · exact expires
      · rw [Hub.tickView_ch!, Hub.tickView_bud!, expires]
      · rw [Hub.tickView_ch!, expires]
    · change held.tickView = _
      simp only [held]
      split
      · rw [Hub.tickView_put_pg _ _ _ (by decide), Hub.tickView_incWrap _ _ (by decide), Hub.tickView_deferArmed]
      · split
        · exact h.tickView_incWrap _ (by decide)
        · rfl
      · rfl

theorem tickView_judgeEdges (k : Nat) (gate short : Bool) (defermax : Nat) (pend : List Nat) (l : List EdgeItem) (p : Pass) :
    (l.foldl (judgeEdge k gate short defermax pend) p).hub.tickView = p.hub.tickView := by
  induction l generalizing p with
  | nil => rfl
  | cons e l ih => rw [List.foldl_cons, ih, tickView_judgeEdge]

theorem Hub.tickView_budState (h : Hub) (short : Bool) (mMw a gB bMw gC cMw gChg pReq : Nat) :
    (h.budState short mMw a gB bMw gC cMw gChg pReq).tickView = h.tickView := by
  unfold Hub.budState
  extract_lets st st0 wants quiet a0 k h1 h2
  have state : h1.tickView = h.tickView := by
    simp (disch := decide) only [h1, a0, k, Hub.tickView_ite, Hub.tickView_report, Hub.tickView_bud!, Hub.tickView_put,
      ite_self]
  have counted : h2.tickView = h.tickView := by
    simp (disch := decide) only [h2, Hub.tickView_ite, Hub.tickView_incSat, ite_self, state]
  simp (disch := decide) only [Hub.tickView_ite, Hub.tickView_report, Hub.tickView_bud!, Hub.tickView_put, ite_self,
    counted]

theorem Hub.tickView_budgetP2 (h : Hub) : h.budgetP2.tickView = h.tickView := by
  unfold Hub.budgetP2
  extract_lets on pt armed h0 c k all pend items s mMw bMw cMw req m src a room gB room1 gC gChg short defermax gate onMw
    p h1 rel onPass tB tC sB sC h2 s' mRep d w rep h3 h4 h5 h6
  have derate : h0.tickView = h.tickView := by
    simp only [h0, armed, Hub.tickView_ite, Hub.tickView_report, Hub.tickView_bud!, ite_self]
  have judged : h1.tickView = h.tickView := (tickView_judgeEdges ..).trans derate
  have decided : h3.tickView = h.tickView := by
    simp only [h3, h2, Hub.tickView_bud!, Hub.tickView_ite, Hub.tickView_evt, ite_self, judged]
  have state : h4.tickView = h.tickView := (Hub.tickView_budState ..).trans decided
  simp (disch := decide) only [h6, h5, Hub.tickView_put, Hub.tickView_putSat, Hub.tickView_putb, state]

theorem Hub.tickView_preview (h : Hub) : h.preview.tickView = h.tickView := by
  unfold Hub.preview
  extract_lets x f all kept drop h1 h2 ups need
  have steps : h1.tickView = h.tickView :=
    (Hub.tickView_foldl (fun a y => a.tickView_puti_pg _ _ (by decide)) _ _).trans
      ((Hub.tickView_sec! ..).trans (h.tickView_sec! _))
  have dropped : h2.tickView = h.tickView := by
    simp (disch := decide) only [h2, Hub.tickView_ite, Hub.tickView_evt, Hub.tickView_incSat, ite_self, steps]
  simp only [Hub.tickView_ite, Hub.tickView_lb!, ite_self, dropped, x, Hub.tickView_sec!]

theorem Hub.tickView_slotTo (h : Hub) (s st : Nat) (good : Bool) : (h.slotTo s st good).tickView = h.tickView := by
  unfold Hub.slotTo
  dsimp only
  rw [Hub.tickView_put _ _ (by decide), Hub.tickView_put _ _ (by decide), Hub.tickView_putb_nth _ _ _ (by decide),
    Hub.tickView_put_nth _ _ _ (by decide), Hub.tickView_put_nth _ _ _ (by decide)]

theorem Hub.tickView_slotFail (h : Hub) (s code : Nat) : (h.slotFail s code).tickView = h.tickView := by
  unfold Hub.slotFail Hub.handle
  dsimp only
  simp (disch := decide) only [Hub.tickView_ite, Hub.tickView_seq!, Hub.tickView_report, Hub.tickView_incSat,
    Hub.tickView_put_nth, Hub.tickView_slotTo, ite_self]

theorem Hub.tickView_slotOutside (h : Hub) (s : Nat) : (h.slotOutside s).tickView = h.tickView := by
  unfold Hub.slotOutside
  dsimp only
  simp (disch := decide) only [Hub.tickView_ite, Hub.tickView_seq!, Hub.tickView_slotFail, Hub.tickView_incSat_nth,
    ite_self]

theorem Hub.tickView_seqEnd (h : Hub) (result : Nat) : (h.seqEnd result).tickView = h.tickView := by
  unfold Hub.seqEnd
  dsimp only
  rw [Hub.tickView_report, Hub.tickView_seq!, Hub.tickView_put _ _ (by decide), Hub.tickView_put _ _ (by decide)]

theorem Hub.tickView_seqP2 (h : Hub) : h.seqP2.tickView = h.tickView := by
  unfold Hub.seqP2
  extract_lets h1 ups settledUp dns settledDn
  have judged : h1.tickView = h.tickView := by
    refine Hub.tickView_foldl (fun a s => ?_) _ _
    simp only [Hub.tickView_ite, Hub.tickView_seq!, Hub.tickView_slotOutside, ite_self]
  split
  · exact judged
  · split <;> simp only [Hub.tickView_ite, Hub.tickView_seqEnd, ite_self, judged]

theorem Hub.tickView_holdupP2 (h : Hub) : h.holdupP2.tickView = h.tickView := by
  unfold Hub.holdupP2
  split
  · exact h.tickView_chg! _
  · rfl

theorem Hub.tickView_ratioHold (h : Hub) : h.ratioHold.tickView = h.tickView := by
  unfold Hub.ratioHold
  extract_lets now old h1 h2
  clear_value now old
  have conducts : h1.tickView = h.tickView := by
    simp only [h1]
    split
    · simp (disch := decide) only [Hub.tickView_ite, Hub.tickView_put_pg, ite_self]
    · rfl
  have opens : h2.tickView = h.tickView := by
    simp only [h2]
    split
    · rw [Hub.tickView_put_pg _ _ _ (by decide), conducts]
    · exact conducts
  split
  · rfl
  · rw [Hub.tickView_share!, opens]

theorem Hub.tickView_shareP2 (h : Hub) : h.shareP2.tickView = h.tickView := by
  unfold Hub.shareP2
  dsimp only
  simp (disch := decide) only [Hub.tickView_ite, Hub.tickView_share!, Hub.tickView_report, Hub.tickView_put,
    Hub.tickView_ratioHold, ite_self]

/-- No head value stands in a register of a TICK. -/
theorem besideTick_headFlds : ∀ f ∈ headFlds, besideTick f.idx := by decide

theorem Hub.tickView_putHead (h : Hub) (vs : List Nat) : (h.putHead vs).tickView = h.tickView := by
  have beside : ∀ e ∈ headFlds.zip vs, besideTick e.1.idx := fun e he => besideTick_headFlds _ (List.of_mem_zip he).1
  unfold Hub.putHead
  generalize headFlds.zip vs = l at beside
  induction l generalizing h with
  | nil => rfl
  | cons e l ih =>
    rw [List.foldl_cons, ih _ fun x hx => beside x (List.mem_cons_of_mem _ hx),
      Hub.tickView_put _ _ (beside e (List.mem_cons_self ..))]

end Sys2Proof.Machine
end

section
/-! SUPPORT. What a TICK leaves in a hub is reached neither by reads and writes nor by the requests that are served in a frame. -/

open Sys2Proof Sys2Proof.Machine

namespace Sys2Proof.Machine

/-! ### Reads (03 R75–R82) -/

/-- A register of a page's header holds nothing of a TICK. -/
theorem besideTick_header {o : Nat} (page : Nat) (ho : o < 8) : besideTick (o + 256 * page) :=
  ⟨by change _ ≠ 0x0208; omega, by change _ ≠ 0x0212; omega⟩

theorem Hub.tickView_put_header (h : Hub) {f : Fld} (page v : Nat) (hf : f.idx < 8) :
    (h.put (f.pg page) v).tickView = h.tickView := h.tickView_put _ (besideTick_header page hf)

theorem Hub.tickView_refuse (h : Hub) (idx code : Nat) : (h.refuse idx code).1.tickView = h.tickView := by
  have shown (page off : Nat) : (h.pgErr page code off).tickView = h.tickView :=
    ((Hub.tickView_put_header _ page _ (by decide)).trans (Hub.tickView_put_header _ page _ (by decide))).trans
      (h.tickView_put_header page _ (by decide))
  unfold Hub.refuse
  split <;> exact shown _ _

theorem Hub.tickView_paritySaid (h : Hub) (idx : Nat) (shadow first : Bool) :
    (h.paritySaid idx shadow first).tickView = h.tickView := by
  unfold Hub.paritySaid
  extract_lets page code h1 again
  have flagged : h1.tickView = h.tickView := h.tickView_evt _ _
  simp only [Hub.tickView_ite, Hub.tickView_record, ite_self, flagged]

/-- No field of the registers of a TICK clears as it is read. -/
theorem besideTick_of_readClears {p : Part} {idx : Nat} {d : RegDef} (hd : findReg p idx = some d)
    (clears : d.mask (·.acc == .rc) ≠ 0) : besideTick idx := by
  have keeps : ∀ i ∈ [FRM_NO_NO.idx, FRM_TERR_ERR.idx], (findReg p i).all (fun d => d.mask (·.acc == .rc) == 0) = true := by
    cases p <;> decide
  have absurdAt {i : Nat} (hi : i ∈ [FRM_NO_NO.idx, FRM_TERR_ERR.idx]) : idx ≠ i := by
    rintro rfl
    have := keeps idx hi
    rw [hd, Option.all_some, beq_iff_eq] at this
    exact clears this
  exact ⟨absurdAt (by simp), absurdAt (by simp)⟩

theorem Hub.tickView_readClears {h : Hub} {idx : Nat} {d : RegDef} (hd : findReg h.part idx = some d) (a : Hub) :
    (a.readClears idx d).tickView = a.tickView := by
  unfold Hub.readClears
  dsimp only
  split
  · rfl
  next clears => exact a.tickView_setWord _ (besideTick_of_readClears hd clears)

theorem Hub.tickView_read (h : Hub) (p : Port) (idx : Nat) : (h.read p idx).1.tickView = h.tickView := by
  unfold Hub.read
  split
  · rfl
  · split
    · rfl
    next d hd =>
      split
      · exact (Hub.tickView_refuse ..).trans (h.tickView_paritySaid _ _ _)
      · dsimp only
        rw [Hub.tickView_readClears hd, Hub.tickView_ite]
        unfold Hub.rtcCapture
        simp only [Hub.tickView_rtc!, ite_self]

/-- What a TICK left, and the commands that wait. -/
def State.tickView (s : State) : TickView × List Instr := (s.hub.tickView, s.pending)

theorem State.tickView_hub {s t : State} (hh : t.hub.tickView = s.hub.tickView) (hp : t.pending = s.pending) :
    t.tickView = s.tickView := Prod.ext hh hp

theorem State.tickView_ackRead (s : State) (t : Port) : (s.ackRead t).1.tickView = s.tickView := by
  unfold State.ackRead
  split
  · rfl
  next v _ =>
    refine State.tickView_hub (s.hub.tickView_put _ ?_) rfl
    change besideTick (0x2008 + 256 * (v / 64) + v % 64)
    rw [Nat.add_assoc]
    exact besideTick_add _ (by decide)

theorem State.tickView_twbSettle (s : State) : s.twbSettle.tickView = s.tickView := by
  unfold State.twbSettle
  dsimp only
  refine State.tickView_hub ?_ rfl
  simp (disch := decide) only [Hub.tickView_twb!, Hub.tickView_ite, Hub.tickView_put, Hub.tickView_putb, ite_self]

theorem State.tickView_read (s : State) (p : Port) (idx : Nat) : (s.read p idx).1.tickView = s.tickView := by
  have plain : ({ s with hub := (s.hub.read p idx).1 } : State).tickView = s.tickView :=
    State.tickView_hub (s.hub.tickView_read p idx) rfl
  have ack (t : Port) : ((State.twbSettle { s with hub := (s.hub.read p idx).1 }).ackRead t).1.twbSettle.tickView =
      s.tickView := by
    rw [State.tickView_twbSettle, State.tickView_ackRead, State.tickView_twbSettle, plain]
  unfold State.read
  dsimp only
  split
  · exact ack .e
  · split
    · exact ack .w
    · split
      · exact plain
      · split
        · exact plain
        · split <;> exact plain

theorem Hub.tickView_traffic (h : Hub) : h.traffic.tickView = h.tickView := by
  have idle : (h.md! fun m => { m with idleRun := 0, idleExpired := false }).tickView = h.tickView := h.tickView_md! rfl
  unfold Hub.traffic
  dsimp only
  split
  · rw [Hub.tickView_link! _ rfl, Hub.tickView_md! _ rfl, idle]
  · exact idle

theorem State.tickView_portRead (s : State) (p : Port) (idx : Nat) : (s.portRead p idx).1.tickView = s.tickView := by
  have read := State.tickView_read { s with hub := s.hub.traffic } p idx
  refine Eq.trans ?_ (read.trans (State.tickView_hub s.hub.tickView_traffic rfl))
  exact State.tickView_hub (Hub.tickView_answered ..) rfl

/-! ### Writes (03 R82–R99) -/

/-- A branch on either side of an operation that answers with a status. -/
theorem Hub.tickView_fst_ite {c : Prop} [Decidable c] {a b : Hub × Nat} {v : TickView} (ha : a.1.tickView = v)
    (hb : b.1.tickView = v) : (if c then a else b).1.tickView = v := by
  split
  · exact ha
  · exact hb

theorem Hub.tickView_heal (h : Hub) (idx : Nat) (m : Word) (shadow : Bool) :
    (h.heal idx m shadow).tickView = h.tickView := by
  unfold Hub.heal
  simp only [Hub.tickView_ite, Hub.tickView_bad!, ite_self]

theorem Hub.tickView_pendPut (h : Hub) (p : Port) (idx : Nat) (mask val clr : Word) :
    (h.pendPut p idx mask val clr).tickView = h.tickView := by
  unfold Hub.pendPut
  simp only [Hub.tickView_ite, Hub.tickView_pend!, ite_self]

theorem Hub.tickView_stage (h : Hub) (p : Port) (idx : Nat) (mask val : Word) :
    (h.stage p idx mask val).tickView = h.tickView := by
  unfold Hub.stage
  dsimp only
  simp only [Hub.tickView_ite, Hub.tickView_mea!, Hub.tickView_rcd!, Hub.tickView_setPage, Hub.tickView_shadow!, ite_self]

theorem Hub.tickView_accept (h : Hub) (p : Port) (idx be : Nat) (val : Word) (d : RegDef) :
    (h.accept p idx be val d).tickView = h.tickView := by
  unfold Hub.accept
  dsimp only
  simp only [Hub.tickView_ite, Hub.tickView_once!, Hub.tickView_pendPut, Hub.tickView_stage, Hub.tickView_heal, ite_self]

theorem Hub.tickView_writePgCtl (h : Hub) (p : Port) (page be : Nat) (val : Word) :
    (h.writePgCtl p page be val).1.tickView = h.tickView := by
  unfold Hub.writePgCtl
  extract_lets fixed st x view srst
  split
  · exact h.tickView_refuse _ _
  · split
    · rfl
    · rw [Hub.tickView_setPage, Hub.tickView_views!]

theorem Hub.tickView_writeCommit (h : Hub) (p : Port) (page be : Nat) (val : Word) :
    (h.writeCommit p page be val).1.tickView = h.tickView := by
  unfold Hub.writeCommit
  dsimp only
  split
  · exact h.tickView_refuse _ _
  · split
    · rfl
    · split
      · simp only [Hub.tickView_ite, Hub.tickView_twb!, ite_self]
        rw [Hub.tickView_put_header _ _ _ (by decide), Hub.tickView_setPage]
      · exact h.tickView_put_header _ _ (by decide)

theorem Hub.tickView_authWrite (h : Hub) (slot op : Nat) (port : Port) :
    (h.authWrite slot op port).1.tickView = h.tickView := by
  unfold Hub.authWrite
  extract_lets c h1 ok
  have result : h1.tickView = h.tickView := by
    simp only [h1]
    split
    · exact h.tickView_put _ (by decide)
    · rfl
  split
  · exact result
  · rw [Hub.tickView_key!, Hub.tickView_put _ _ (by decide), result]

/-- Dropping register words from one above those of a TICK leaves them. -/
theorem Hub.tickView_dropRegs (h : Hub) {drop : Nat → Bool} (hd : ∀ i, drop i = true → besideTick i) :
    (h.regs! fun m => m.filter fun e => !drop e.1).tickView = h.tickView := by
  have kept {i : Nat} (hi : drop i = false) : (h.regs! fun m => m.filter fun e => !drop e.1).word i = h.word i := by
    unfold Hub.word
    rw [Hub.regs!_regs, Hub.regs!_part, mapFind_filter h.regs (fun i => !drop i), hi]
    rfl
  unfold Hub.tickView
  rw [kept (Bool.eq_false_iff.2 fun e => (hd _ e).1 rfl), kept (Bool.eq_false_iff.2 fun e => (hd _ e).2 rfl)]
  exact id rfl

theorem Hub.tickView_progWrite (h : Hub) (slot : Nat) (port : Port) : (h.progWrite slot port).1.tickView = h.tickView := by
  unfold Hub.progWrite
  split
  · rfl
  · dsimp only
    rw [Hub.tickView_mea!, Hub.tickView_key!, Hub.tickView_pend!]
    refine h.tickView_dropRegs (drop := fun i => decide (0x1F12 ≤ i) && decide (i < 0x1F1A)) fun i hi => ?_
    simp only [Bool.and_eq_true, decide_eq_true_eq] at hi
    exact ⟨by change i ≠ 0x0208; omega, by change i ≠ 0x0212; omega⟩

theorem Hub.tickView_writeKeyCtl (h : Hub) (p : Port) (be : Nat) (w : Word) :
    (h.writeKeyCtl p be w).1.tickView = h.tickView := by
  unfold Hub.writeKeyCtl
  extract_lets new slot op first no a b
  have auth : a.1.tickView = h.tickView := by
    simp only [a]
    split
    · exact h.tickView_authWrite _ _ _
    · rfl
  have prog : b.1.tickView = h.tickView := by
    simp only [b]
    split
    · exact (Hub.tickView_progWrite ..).trans auth
    · exact auth
  have refused (x : Hub) (st : Nat) : (no x st).1.tickView = x.tickView := x.tickView_refuse _ _
  exact Hub.tickView_fst_ite (refused _ _) <| Hub.tickView_fst_ite ((refused _ _).trans auth) <|
    Hub.tickView_fst_ite (refused _ _) <| Hub.tickView_fst_ite (refused _ _) <|
    Hub.tickView_fst_ite (refused _ _) ((Hub.tickView_pendPut ..).trans prog)

theorem Hub.tickView_wdtOpen (h : Hub) : h.wdtOpen.tickView = h.tickView := by
  unfold Hub.wdtOpen
  rw [Hub.tickView_evt, Hub.tickView_put _ _ (by decide), Hub.tickView_put _ _ (by decide)]

theorem Hub.tickView_wdtFail (h : Hub) (cause task mask : Nat) : (h.wdtFail cause task mask).tickView = h.tickView := by
  unfold Hub.wdtFail
  dsimp only
  rw [Hub.tickView_report, Hub.tickView_wd!, Hub.tickView_put _ _ (by decide), Hub.tickView_put _ _ (by decide),
    Hub.tickView_incSat _ _ (by decide)]

theorem Hub.tickView_checkin (h : Hub) (be val : Nat) : (h.checkin be val).1.tickView = h.tickView := by
  unfold Hub.checkin
  extract_lets g st t done h1
  have opened : g.tickView = h.tickView := by
    simp only [g, Hub.tickView_ite, Hub.tickView_wdtOpen, ite_self]
  have noted : h1.tickView = h.tickView := (g.tickView_put _ (by decide)).trans opened
  have fails (cause task mask : Nat) : (g.wdtFail cause task mask).tickView = h.tickView :=
    (g.tickView_wdtFail _ _ _).trans opened
  exact Hub.tickView_fst_ite opened <| Hub.tickView_fst_ite opened <|
    Hub.tickView_fst_ite ((g.tickView_incSat _ (by decide)).trans opened) <| Hub.tickView_fst_ite (fails _ _ _) <|
    Hub.tickView_fst_ite (fails _ _ _) <| Hub.tickView_fst_ite (fails _ _ _) <|
    Hub.tickView_fst_ite ((Hub.tickView_wd! ..).trans ((h1.tickView_put _ (by decide)).trans noted)) noted

theorem Hub.tickView_writeCheckin (h : Hub) (be : Nat) (val : Word) : (h.writeCheckin be val).1.tickView = h.tickView := by
  unfold Hub.writeCheckin
  dsimp only
  split
  · exact h.tickView_checkin _ _
  · exact (Hub.tickView_refuse ..).trans (h.tickView_checkin _ _)

theorem Hub.tickView_appendEntry (h : Hub) (e : Entry) : (h.appendEntry e).1.tickView = h.tickView := by
  unfold Hub.appendEntry
  dsimp only
  split
  · rw [Hub.tickView_put_pg _ _ _ (by decide), Hub.tickView_setCh]
  · exact h.tickView_incSat _ (by decide)
  · rw [Hub.tickView_report, Hub.tickView_incSat_pg _ _ _ (by decide)]

theorem Hub.tickView_writeApp1 (h : Hub) (p : Port) (w : Word) : (h.writeApp1 p w).tickView = h.tickView := by
  unfold Hub.writeApp1
  dsimp only
  rw [Hub.tickView_sec!, Hub.tickView_appendEntry]

theorem Hub.tickView_writeEn (h : Hub) (page off : Nat) (on : Bool) : (h.writeEn page off on).tickView = h.tickView :=
  h.tickView_setPage _ _

theorem Hub.tickView_acts (h : Hub) (p : Port) (idx be : Nat) (val : Word) (d : RegDef) :
    (h.acts p idx be val d).1.tickView = h.tickView := by
  unfold Hub.acts
  extract_lets w en new cal f
  have enable : en.tickView = h.tickView := h.tickView_accept _ _ _ _ _
  have calibrate : cal.tickView = h.tickView := h.tickView_accept _ _ _ _ _
  refine Hub.tickView_fst_ite (h.tickView_sec! _) <| Hub.tickView_fst_ite (h.tickView_writeApp1 _ _) <|
    Hub.tickView_fst_ite ((Hub.tickView_md! _ rfl).trans (h.tickView_accept _ _ _ _ _)) <|
    Hub.tickView_fst_ite (h.tickView_md! rfl) <| Hub.tickView_fst_ite (h.tickView_host! _ _) <|
    Hub.tickView_fst_ite ?clear <| Hub.tickView_fst_ite ?enable <| Hub.tickView_fst_ite ?calibrate <|
    h.tickView_accept _ _ _ _ _
  case clear => simp only [Hub.tickView_ite, Hub.tickView_host!, ite_self]
  case enable => simp only [Hub.tickView_ite, Hub.tickView_writeEn, ite_self, enable]
  case calibrate => simp only [Hub.tickView_ite, Hub.tickView_mea!, ite_self, calibrate]

theorem Hub.tickView_switchRefused (h : Hub) (code : Nat) : (h.switchRefused code).tickView = h.tickView := by
  unfold Hub.switchRefused
  rw [Hub.tickView_report, Hub.tickView_incSat _ _ (by decide), Hub.tickView_put _ _ (by decide)]

theorem Hub.tickView_writeReg (h : Hub) (p : Port) (idx be : Nat) (val : Word) (d : RegDef) :
    (h.writeReg p idx be val d).1.tickView = h.tickView := by
  unfold Hub.writeReg
  extract_lets page w en pre st r
  exact Hub.tickView_fst_ite (h.tickView_refuse _ _) <| Hub.tickView_fst_ite (h.tickView_writePgCtl _ _ _ _) <|
    Hub.tickView_fst_ite (h.tickView_writeCommit _ _ _ _) <| Hub.tickView_fst_ite (h.tickView_writeKeyCtl _ _ _) <|
    Hub.tickView_fst_ite (h.tickView_writeCheckin _ _) <|
    Hub.tickView_fst_ite ((Hub.tickView_switchRefused ..).trans (h.tickView_refuse _ _)) <|
    Hub.tickView_fst_ite (h.tickView_refuse _ _) (h.tickView_acts _ _ _ _ _)

theorem Hub.tickView_write (h : Hub) (p : Port) (idx be : Nat) (val : Word) :
    (h.write p idx be val).1.tickView = h.tickView := by
  unfold Hub.write
  split
  · exact h.tickView_refuse _ _
  · split
    · exact h.tickView_refuse _ _
    · split
      · exact h.tickView_refuse _ _
      · dsimp only
        split
        · exact (Hub.tickView_heal ..).trans (h.tickView_writeReg _ _ _ _ _)
        · exact h.tickView_writeReg _ _ _ _ _

theorem State.tickView_writeEoi (s : State) (t : Port) (idx be : Nat) (val : Word) :
    (s.writeEoi t idx be val).1.tickView = s.tickView := by
  unfold State.writeEoi
  split
  · exact State.tickView_hub (s.hub.tickView_heal _ _ _) rfl
  · split
    · exact State.tickView_hub (s.hub.tickView_refuse _ _) rfl
    · exact State.tickView_hub (s.hub.tickView_heal _ _ _) rfl

theorem State.tickView_write (s : State) (p : Port) (idx be : Nat) (val : Word) :
    (s.write p idx be val).1.tickView = s.tickView := by
  unfold State.write
  split
  · exact s.tickView_writeEoi _ _ _ _
  · split
    · exact s.tickView_writeEoi _ _ _ _
    · split
      · exact State.tickView_hub (s.hub.tickView_refuse _ _) rfl
      · split
        · exact State.tickView_hub (s.hub.tickView_heal _ _ _) rfl
        · exact State.tickView_hub (s.hub.tickView_write _ _ _ _) rfl

theorem State.tickView_portWrite (s : State) (p : Port) (idx be : Nat) (val : Word) :
    (s.portWrite p idx be val).1.tickView = s.tickView := by
  have write := State.tickView_write { s with hub := s.hub.traffic } p idx be val
  refine Eq.trans ?_ (write.trans (State.tickView_hub s.hub.tickView_traffic rfl))
  exact State.tickView_hub (Hub.tickView_answered ..) rfl

/-! ### Requests and phases (15 R410–R420) -/

theorem State.tickView_foldl {α β : Type} {f : State × β → α → State × β}
    (hf : ∀ a x, (f a x).1.tickView = a.1.tickView) (l : List α) (a : State × β) :
    (l.foldl f a).1.tickView = a.1.tickView := by
  induction l generalizing a with
  | nil => rfl
  | cons x l ih => rw [List.foldl_cons, ih, hf]

theorem State.tickView_readAll (s : State) (l : List Nat) : (s.readAll l).1.tickView = s.tickView :=
  State.tickView_foldl (β := List Nat × List Word) (fun a i => a.1.tickView_portRead .e i) l (s, [], [])

theorem State.tickView_writeAll (s : State) (halt : Bool) (l : List (Word × Word)) :
    (s.writeAll halt l).1.tickView = s.tickView := by
  refine State.tickView_foldl (β := List Nat × Bool) (fun a e => ?_) l (s, [], false)
  dsimp only
  split
  · rfl
  · exact a.1.tickView_portWrite ..

/-- A branch on either side. -/
theorem State.tickView_ite {c : Prop} [Decidable c] {a b : State} {v : TickView × List Instr} (ha : a.tickView = v)
    (hb : b.tickView = v) : (if c then a else b).tickView = v := by
  split
  · exact ha
  · exact hb

theorem Hub.tickView_bulk (h : Hub) (k : Packet) : (h.bulk k).tickView = h.tickView := h.tickView_link! rfl

theorem Hub.tickView_respond1 (h : Hub) (x : Hdr) (pst : Nat) (origin : Bool) :
    (h.respond1 x pst origin).tickView = h.tickView := h.tickView_bulk _

theorem State.tickView_bulk (s : State) (k : Packet) : (s.bulk k).tickView = s.tickView :=
  State.tickView_hub (s.hub.tickView_bulk k) rfl

theorem State.tickView_respond1 (s : State) (x : Hdr) (pst : Nat) (origin : Bool) :
    ({ s with hub := s.hub.respond1 x pst origin } : State).tickView = s.tickView :=
  State.tickView_hub (s.hub.tickView_respond1 x pst origin) rfl

theorem Hub.tickView_freeUp (h : Hub) (c : Nat) : (h.freeUp c).tickView = h.tickView := by
  unfold Hub.freeUp
  rw [Hub.tickView_link! _ rfl]
  exact h.tickView_put _ ⟨by change STR_CRED_DN_REG.idx ≠ _; decide, by change STR_CRED_DN_REG.idx ≠ _; decide⟩

theorem Hub.tickView_appendAll (h : Hub) (es : List Entry) (acc lastFree lastCh : Nat) :
    (h.appendAll es acc lastFree lastCh).1.tickView = h.tickView := by
  induction es generalizing h acc lastFree lastCh with
  | nil => rfl
  | cons e rest ih =>
    unfold Hub.appendAll
    dsimp only
    split
    · rw [ih, Hub.tickView_appendEntry]
    · exact h.tickView_appendEntry e

theorem State.tickView_execRd (s : State) (x : Hdr) (p : List Word) : (s.execRd x p).tickView = s.tickView := by
  unfold State.execRd
  dsimp only
  split
  · exact s.tickView_respond1 ..
  · exact (State.tickView_bulk ..).trans (s.tickView_readAll _)

theorem State.tickView_execWr (s : State) (x : Hdr) (p : List Word) : (s.execWr x p).tickView = s.tickView := by
  unfold State.execWr
  dsimp only
  split
  · exact s.tickView_respond1 ..
  · exact (State.tickView_bulk ..).trans (s.tickView_writeAll ..)

theorem State.tickView_execTbl (s : State) (x : Hdr) (p : List Word) : (s.execTbl x p).tickView = s.tickView := by
  unfold State.execTbl
  dsimp only
  split
  · exact s.tickView_respond1 ..
  · exact (State.tickView_bulk ..).trans (State.tickView_hub (s.hub.tickView_appendAll ..) rfl)

theorem State.tickView_execSrd (s : State) (x : Hdr) (p : List Word) : (s.execSrd x p).tickView = s.tickView := by
  have no (pst : Nat) := s.tickView_respond1 x pst false
  unfold State.execSrd
  extract_lets h src off cnt refused
  refine State.tickView_ite (no _) ?_
  split
  · exact no _
  · exact State.tickView_ite (no _) <| State.tickView_ite (no _) <| State.tickView_hub (s.hub.tickView_link! rfl) rfl

theorem State.tickView_execute (s : State) (k : Packet) : (s.execute k).tickView = s.tickView := by
  unfold State.execute
  extract_lets ty s1
  have freed : s1.tickView = s.tickView := State.tickView_hub (s.hub.tickView_freeUp _) rfl
  split
  · exact (s1.tickView_respond1 ..).trans freed
  · clear_value ty
    split
    · exact (s1.tickView_execRd ..).trans freed
    · exact (s1.tickView_execWr ..).trans freed
    · exact (s1.tickView_execTbl ..).trans freed
    · exact (s1.tickView_execSrd ..).trans freed

/-- The requests that wait reach nothing of a TICK. -/
theorem State.tickView_drain (fuel : Nat) (s : State) : (s.drain fuel).tickView = s.tickView := by
  induction fuel generalizing s with
  | zero => rfl
  | succ n ih =>
    unfold State.drain
    split
    · rfl
    · split
      · exact (ih _).trans ((State.tickView_execute ..).trans (State.tickView_hub (s.hub.tickView_link! rfl) rfl))
      · rfl

theorem Hub.tickView_loadPeak (h : Hub) {f : Fld} (phase most : Nat) (hi : besideTick f.idx) :
    (h.loadPeak f phase most).tickView = h.tickView := h.tickView_put _ hi

theorem Hub.tickView_runP1 (h : Hub) : h.runP1.tickView = h.tickView := by
  unfold Hub.runP1
  split
  · rfl
  · rw [Hub.tickView_frm! _ rfl, Hub.tickView_loadPeak _ _ _ (by decide), Hub.tickView_sectionP1]

theorem State.tickView_hub! (s : State) {f : Hub → Hub} (hf : (f s.hub).tickView = s.hub.tickView) :
    (s.hub! f).tickView = s.tickView := State.tickView_hub hf rfl

theorem State.tickView_judged (s : State) :
    (s.hub! fun h => h.budgetP2.preview.seqP2.holdupP2.shareP2).tickView = s.tickView := by
  refine s.tickView_hub! ?_
  rw [Hub.tickView_shareP2, Hub.tickView_holdupP2, Hub.tickView_seqP2, Hub.tickView_preview, Hub.tickView_budgetP2]

theorem State.tickView_pollLatch (s : State) (ws : List Word) :
    (s.hub! fun h => h.link! fun l => { l with pollLatch := ws }).tickView = s.tickView :=
  s.tickView_hub! (s.hub.tickView_link! rfl)

theorem State.tickView_judgeP2 (s : State) : s.judgeP2.tickView = s.tickView :=
  (State.tickView_pollLatch _ _).trans s.tickView_judged

theorem State.tickView_workP2 (s : State) : s.workP2.tickView = s.tickView := by
  unfold State.workP2
  split
  · rw [State.tickView_hub! _ (Hub.tickView_putHead ..), State.tickView_judgeP2,
      State.tickView_hub! _ (Hub.tickView_putHead ..)]
  · exact s.tickView_judgeP2

/-- P2 reaches nothing of a TICK. -/
theorem State.tickView_runP2 (s : State) : s.runP2.tickView = s.tickView := by
  unfold State.runP2
  split
  · rfl
  · rw [State.tickView_hub! _ ?_, State.tickView_workP2]
    exact (Hub.tickView_frm! _ rfl).trans (Hub.tickView_loadPeak _ _ _ (by decide))

/-- Requests and P2 after a TICK, or after it has been missed. -/
theorem State.tickView_served (s : State) : ((State.drain 32 s).runP2).tickView = s.tickView :=
  (State.tickView_runP2 _).trans (s.tickView_drain 32)

end Sys2Proof.Machine
end

section
/-! SUPPORT. TICK on a follower: it goes on down, is measured, numbers the frame, and brings the string's data and travel
(02 R55, R71, 06 R180, 14 R382–R383, R392). -/

open Sys2Proof Sys2Proof.Machine

namespace Sys2Proof.Machine

/-! ### The TICK that goes on down (14 R382) -/

/-- The links once a packet has gone on down. -/
def Hub.passedLink (h : Hub) (k : Packet) : Link :=
  if h.portUp .dn then { h.link with
    sentDn := h.link.sentDn ++ [downPkt k], dnFree := max h.cyc h.link.dnFree + wireCycles k.payload.length + 32 }
  else h.link

theorem Hub.passDn_tickPkt (h : Hub) (ws : List Word) :
    h.passDn (tickPkt h ws) = h.link! fun _ => h.passedLink (tickPkt h ws) := by
  unfold Hub.passDn Hub.passedLink
  split
  · exact id rfl
  · exact id rfl

theorem Hub.passedLink_up {h : Hub} (k : Packet) (up : h.portUp .dn = true) :
    (h.passedLink k).sentDn = h.link.sentDn ++ [downPkt k] := by
  unfold Hub.passedLink
  rw [if_pos up]

theorem Hub.passedLink_tickGot (h : Hub) (k : Packet) : (h.passedLink k).tickGot = h.link.tickGot := by
  unfold Hub.passedLink
  split <;> rfl

theorem Hub.passedLink_inbox (h : Hub) (k : Packet) : (h.passedLink k).inbox = h.link.inbox := by
  unfold Hub.passedLink
  split <;> rfl

/-! ### What only registers and records reach -/

theorem Hub.link_of_bare {a b : Hub} (e : a.bare = b.bare) : a.link = b.link := Hub.of_bare Hub.link (fun _ => rfl) e
theorem Hub.sec_of_bare {a b : Hub} (e : a.bare = b.bare) : a.sec = b.sec := Hub.of_bare Hub.sec (fun _ => rfl) e
theorem Hub.bud_of_bare {a b : Hub} (e : a.bare = b.bare) : a.bud = b.bud := Hub.of_bare Hub.bud (fun _ => rfl) e
theorem Hub.frm_of_bare {a b : Hub} (e : a.bare = b.bare) : a.frm = b.frm := Hub.of_bare Hub.frm (fun _ => rfl) e

/-- The pieces of the hub's own data that a TICK brings something to. -/
def Hub.tickData (h : Hub) : Modes × Link × Section × Budget := (h.md, h.link, h.sec, h.bud)

theorem Hub.tickData_of_bare {a b : Hub} (e : a.bare = b.bare) : a.tickData = b.tickData :=
  Hub.of_bare Hub.tickData (fun _ => rfl) e

/-! ### The measurement of a TICK (02 R71) -/

/-- The frame's data once a TICK has been measured `err` cycles off. -/
def Frame.measured (f : Frame) (err : Int) : Frame := { f with
  nextLen := (40000 - (alignOf err).1).toNat
  skipNext := (alignOf err).2.2
  alignRun := if 20 < err.natAbs then min 4 (f.alignRun + 1) else 0
  quietTicks := if (alignOf err).2.1 then 0 else min 4 (f.quietTicks + 1) }

/-- What a TICK measured off says: steps and unlocked runs on record, and a load bus clock lost with them. -/
def Hub.measureSaid (h : Hub) (run : Nat) (step : Bool) (e16 : Nat) : Hub :=
  let h3 := if run = 4 then h.report pgFRM 3 0x0304 0 sevWARN [(0, 2, e16)] else h
  let h4 := if step then h3.report pgFRM 4 0x0305 0 sevWARN [(0, 2, e16)] else h3
  if (run = 4 ∨ step) ∧ h.get LB_SYNC_SRC = 1 then h4.lbSyncLost else h4

theorem Hub.tickAlign_eq {h : Hub} (a : Int) (good : h.frm.tofsBad = false) :
    h.tickAlign a =
      ((h.puti FRM_TERR_ERR ((h.get FRM_TOFS_TOFS : Int) - a)).frm! fun f =>
        f.measured ((h.get FRM_TOFS_TOFS : Int) - a)).measureSaid
        (if 20 < ((h.get FRM_TOFS_TOFS : Int) - a).natAbs then min 4 (h.frm.alignRun + 1) else 0)
        (alignOf ((h.get FRM_TOFS_TOFS : Int) - a)).2.1 (wrapTo 16 ((h.get FRM_TOFS_TOFS : Int) - a)) := by
  unfold Hub.tickAlign
  extract_lets err al h1 run h2 e16 h3 h4
  have apart : h.get LB_SYNC_SRC = h2.get LB_SYNC_SRC :=
    ((Hub.get_frm! ..).trans (Hub.get_put_apart _ _ (by decide) (by decide))).symm
  rw [good, if_neg Bool.false_ne_true, apart]
  exact id rfl

theorem Hub.bare_measureSaid (h : Hub) (run : Nat) (step : Bool) (e16 : Nat) : (h.measureSaid run step e16).bare = h.bare := by
  unfold Hub.measureSaid
  extract_lets h3 h4
  have b3 : h3.bare = h.bare := by
    unfold h3
    split
    · exact Hub.bare_report ..
    · rfl
  have b4 : h4.bare = h.bare := by
    unfold h4
    split
    · exact (Hub.bare_report ..).trans b3
    · exact b3
  split
  · exact (Hub.bare_lbSyncLost _).trans b4
  · exact b4

theorem Hub.only.measureSaid {ps : List Nat} {a b : Hub} (run : Nat) (step : Bool) (e16 : Nat) (h2 : 2 ∈ ps) (h11 : 0x11 ∈ ps)
    (ht : traceIn ps) (x : Hub.only [] ps a b) : Hub.only [] ps a (b.measureSaid run step e16) := by
  have b3 : Hub.only [] ps a (if run = 4 then b.report pgFRM 3 0x0304 0 sevWARN [(0, 2, e16)] else b) :=
    .ite (x.report pgFRM 3 _ _ _ _ (.inr h2) ht (.inl (by decide))) x
  have b4 := Hub.only.ite (p := step = true) (b3.report pgFRM 4 0x0305 0 sevWARN [(0, 2, e16)] (.inr h2) ht (.inl (by decide))) b3
  exact .ite (b4.lbSyncLost h11 ht) b4

/-- The pages of a measured TICK: of the frame, of the load bus, and of records and pending bits. -/
abbrev alignPages : List Nat := 0x02 :: 0x11 :: tracePages

theorem Hub.tickAlign_only {h : Hub} (a : Int) (good : h.frm.tofsBad = false) :
    Hub.only [] alignPages h (h.tickAlign a) := by
  rw [Hub.tickAlign_eq a good]
  exact (((Hub.only.refl _ _ h).puti _ (.inr (by decide))).frm! _).measureSaid _ _ _ (by decide) (by decide) (by decide)

theorem Hub.tickAlign_bare {h : Hub} (a : Int) (good : h.frm.tofsBad = false) :
    (h.tickAlign a).bare = (h.frm! fun f => f.measured ((h.get FRM_TOFS_TOFS : Int) - a)).bare := by
  rw [Hub.tickAlign_eq a good, Hub.bare_measureSaid, Hub.bare_frm!, Hub.bare_puti, Hub.bare_frm!]

theorem Hub.tickAlign_data {h : Hub} (a : Int) (good : h.frm.tofsBad = false) : (h.tickAlign a).tickData = h.tickData :=
  (Hub.tickData_of_bare (h.tickAlign_bare a good)).trans (id rfl)

theorem Hub.tickAlign_frm {h : Hub} (a : Int) (good : h.frm.tofsBad = false) :
    (h.tickAlign a).frm = h.frm.measured ((h.get FRM_TOFS_TOFS : Int) - a) :=
  Hub.frm_of_bare (h.tickAlign_bare a good)

theorem Hub.tickView_lbSyncLost (h : Hub) : h.lbSyncLost.tickView = h.tickView := by
  unfold Hub.lbSyncLost
  split
  · rw [Hub.tickView_report, Hub.tickView_incSat _ _ (by decide), Hub.tickView_put _ _ (by decide)]
  · rfl

theorem Hub.tickView_measureSaid (h : Hub) (run : Nat) (step : Bool) (e16 : Nat) :
    (h.measureSaid run step e16).tickView = h.tickView := by
  unfold Hub.measureSaid
  dsimp only
  simp only [Hub.tickView_ite, Hub.tickView_lbSyncLost, Hub.tickView_report, ite_self]

theorem Hub.get_frmNo (h : Hub) : h.get FRM_NO_NO = bitsOf h.tickView.frmNo 0 32 := rfl
theorem Hub.get_terr (h : Hub) : h.get FRM_TERR_ERR = bitsOf h.tickView.err 0 16 := rfl

theorem wrapTo_lt (w : Nat) (v : Int) : wrapTo w v < 2 ^ w := by
  have pos : (0 : Int) < (2 ^ w : Nat) := by exact_mod_cast Nat.two_pow_pos w
  have lt := Int.emod_lt_of_pos v pos
  have nonneg := Int.emod_nonneg v pos.ne'
  unfold wrapTo
  omega

theorem Hub.tickAlign_terr {h : Hub} (a : Int) (good : h.frm.tofsBad = false) :
    (h.tickAlign a).get FRM_TERR_ERR = wrapTo 16 ((h.get FRM_TOFS_TOFS : Int) - a) := by
  rw [Hub.get_terr, Hub.tickAlign_eq a good, Hub.tickView_measureSaid, ← Hub.get_terr, Hub.get_frm!,
    Hub.get_puti_same _ _ (by decide)]
  exact Nat.mod_eq_of_lt (wrapTo_lt 16 _)

theorem Hub.tickAlign_frmNo {h : Hub} (a : Int) (good : h.frm.tofsBad = false) : (h.tickAlign a).frmNo = h.frmNo := by
  unfold Hub.frmNo
  rw [Hub.get_frmNo, Hub.tickAlign_eq a good, Hub.tickView_measureSaid, ← Hub.get_frmNo, Hub.get_frm!,
    Hub.get_puti_apart _ _ (by decide) (by decide)]

/-! ### The number of a TICK (02 R55) -/

theorem Hub.tickAdopt_same {h : Hub} {no : Nat} {early : Bool}
    (mine : no = if early then wrapTo 32 (h.frmNo + 1) else h.frmNo) : h.tickAdopt no early = h := if_pos mine

/-- The hub under the number of a TICK. -/
def Hub.numbered (h : Hub) (no : Nat) (early : Bool) : Hub :=
  ((h.put FRM_NO_NO no).rebase (((no : Int) - h.frmNo) * 40000)).frm! fun f => { f with hold := early }

theorem Hub.tickAdopt_other {h : Hub} {no : Nat} {early : Bool}
    (other : no ≠ if early then wrapTo 32 (h.frmNo + 1) else h.frmNo) :
    h.tickAdopt no early =
      ((h.numbered no early).evt pgFRM 2).record 0x0303 0 sevINFO (payload [(0, 4, h.frmNo), (4, 4, no)]) := if_neg other

theorem Hub.only.rebase {fs : List Fld} {ps : List Nat} {a b : Hub} (d : Int) (x : Hub.only fs ps a b) :
    Hub.only fs ps a (b.rebase d) := .ite x (x.chans! _)

theorem Hub.rebase_data (h : Hub) (d : Int) : (h.rebase d).tickData = h.tickData := by
  unfold Hub.rebase
  split
  · rfl
  · exact id rfl

theorem Hub.rebase_frm (h : Hub) (d : Int) : (h.rebase d).frm = h.frm := by
  unfold Hub.rebase
  split
  · rfl
  · exact id rfl

theorem Hub.rebase_get (h : Hub) (d : Int) (g : Fld) : (h.rebase d).get g = h.get g := by
  unfold Hub.rebase
  split
  · rfl
  · exact id rfl

theorem Hub.tickAdopt_only (h : Hub) (no : Nat) (early : Bool) : Hub.only [] alignPages h (h.tickAdopt no early) := by
  refine .ite (.refl ..) ?_
  exact ((((((Hub.only.refl _ _ h).put no (.inr (by decide))).rebase _).frm! _).evt pgFRM 2 (.inr (by decide)) (by decide)
    (.inl (by decide))).record _ _ _ _ (by decide))

theorem Hub.tickAdopt_data (h : Hub) (no : Nat) (early : Bool) : (h.tickAdopt no early).tickData = h.tickData := by
  by_cases mine : no = if early then wrapTo 32 (h.frmNo + 1) else h.frmNo
  · rw [Hub.tickAdopt_same mine]
  · rw [Hub.tickAdopt_other mine]
    refine (Hub.tickData_of_bare ((Hub.bare_record ..).trans (Hub.bare_evt ..))).trans ?_
    exact (Hub.rebase_data ..).trans (id rfl)

/-- A new number leaves the lengths that the measurement has set. -/
theorem Hub.tickAdopt_frm (h : Hub) (no : Nat) (early : Bool) :
    ∃ hold, (h.tickAdopt no early).frm = { h.frm with hold := hold } := by
  by_cases mine : no = if early then wrapTo 32 (h.frmNo + 1) else h.frmNo
  · exact ⟨h.frm.hold, by rw [Hub.tickAdopt_same mine]⟩
  · refine ⟨early, ?_⟩
    rw [Hub.tickAdopt_other mine, Hub.frm_of_bare ((Hub.bare_record ..).trans (Hub.bare_evt ..))]
    unfold Hub.numbered
    rw [Hub.frm!_frm, Hub.rebase_frm, Hub.put_frm]

theorem Hub.tickAdopt_terr (h : Hub) (no : Nat) (early : Bool) :
    (h.tickAdopt no early).get FRM_TERR_ERR = h.get FRM_TERR_ERR := by
  by_cases mine : no = if early then wrapTo 32 (h.frmNo + 1) else h.frmNo
  · rw [Hub.tickAdopt_same mine]
  · rw [Hub.tickAdopt_other mine, Hub.get_terr, Hub.tickView_record, Hub.tickView_evt, ← Hub.get_terr]
    unfold Hub.numbered
    rw [Hub.get_frm!, Hub.rebase_get, Hub.get_put_apart _ _ (by decide) (by decide)]

theorem Hub.tickAdopt_frmNo (h : Hub) {no : Nat} (lt : no < 2 ^ 32) (early : Bool) :
    (h.tickAdopt no early).frmNo = if no = (if early then wrapTo 32 (h.frmNo + 1) else h.frmNo) then h.frmNo else no := by
  by_cases mine : no = if early then wrapTo 32 (h.frmNo + 1) else h.frmNo
  · rw [Hub.tickAdopt_same mine, if_pos mine]
  · rw [if_neg mine]
    unfold Hub.frmNo
    rw [Hub.tickAdopt_other mine, Hub.get_frmNo, Hub.tickView_record, Hub.tickView_evt, ← Hub.get_frmNo]
    unfold Hub.numbered
    rw [Hub.get_frm!, Hub.rebase_get, Hub.get_put_same _ _ (by decide)]
    exact Nat.mod_eq_of_lt lt

/-! ### The string's data of a TICK (14 R383) -/

/-- What a TICK says of the string. -/
def Hub.stringShown (h : Hub) (w : Nat → Word) : Hub :=
  (((h.put STR_STAT_NHUBS (bitsOf (w 3) 4 4 + 1)).put STR_STAT_LIVE (bitsOf (w 3) 8 5)).put STR_STAT_SVER
    (bitsOf (w 3) 13 2)).put STR_STAT_EPOCH (bitsOf (w 3) 16 8)

/-- A lost hub takes the string mode from this TICK (04 R114). -/
def Hub.takesBack (h : Hub) : Bool := h.md.retake && !h.md.loseArmed

/-- The string mode of a TICK, where it is another or the hub had lost every TICK. -/
def Hub.stringTaken (h : Hub) (w : Nat → Word) : Hub :=
  if bitsOf (w 3) 0 3 = h.md.stringMode ∧ !h.takesBack then h
  else h.md! fun x => { x with
    stringMode := bitsOf (w 3) 0 3, fromTick := some (bitsOf (w 3) 0 3, if bitsOf (w 11) 4 1 = 1 then 8 else 2)
    retake := x.retake && !h.takesBack, stringLost := x.stringLost && !h.takesBack }

/-- The allocation that a TICK brings the hub at position `pos`. -/
def tickShare (w : Nat → Word) (pos : Nat) : Nat :=
  (List.range 6).foldl (fun a i => a + (w (4 + i)).toNat * 2 ^ (32 * i)) 0 / 2 ^ (12 * pos) % 2 ^ 12

def Hub.shareTaken (h : Hub) (a : Nat) : Hub :=
  h.bud! fun b => { b with
    tickA := some a, lastA := a, heldSaid := false, loss := false, polled := b.polled || b.replied,
    afterHoldup := b.afterHoldup && !b.hbReplied }

def Hub.secondsTaken (h : Hub) (w : Nat → Word) : Hub :=
  if bitsOf (w 11) 8 1 = 1 then h.slaveTick (w 10).toNat else h

/-- A frame that has had its TICK ends the count of those without, where the lead counts this hub. -/
def Hub.liveNoted (h : Hub) (last : Nat) (lost : Bool) : Hub :=
  (h.md! fun x => { x with
    silentRun := 0
    loseCount := if lost then (if h.link.startWait.isSome ∨ h.mode = mNAP then 0 else min 65535 (x.loseCount + 1)) else 0 }).link!
    fun l => { l with lastTick := last, liveLost := lost, goodTicks := if lost then 0 else min 65535 (l.goodTicks + 1) }

theorem Hub.tickTake_eq (h : Hub) (w : Nat → Word) :
    h.tickTake w = (((((h.stringShown w).stringTaken w).shareTaken (tickShare w h.pos)).secondsTaken w).liveNoted
      (w 0).toNat (decide (bitsOf (w 3) 8 5 ≤ h.pos))).tickWdt (bitsOf (w 11) 0 8) := id rfl

/-! #### The RTC of a follower (18 R484) -/

theorem Hub.only.setEpoch {fs : List Fld} {ps : List Nat} {a b : Hub} (e : Nat) (h5 : 5 ∈ ps) (x : Hub.only fs ps a b) :
    Hub.only fs ps a (b.setEpoch e) :=
  ((((((((x.put _ (.inr h5)).put _ (.inr h5)).put _ (.inr h5)).put _ (.inr h5)).put _ (.inr h5)).put _ (.inr h5)).put _
    (.inr h5)).put _ (.inr h5))

theorem Hub.only.secondOpens {fs : List Fld} {ps : List Nat} {a b : Hub} (x : Hub.only fs ps a b) :
    Hub.only fs ps a b.secondOpens := x.rtc! _

theorem Hub.only.almBoundary {fs : List Fld} {ps : List Nat} {a b : Hub} (h5 : 5 ∈ ps) (ht : traceIn ps)
    (x : Hub.only fs ps a b) : Hub.only fs ps a b.almBoundary := by
  unfold Hub.almBoundary
  refine Hub.only.foldlMem _ _ (fun c k mem y => ?_) x
  have small : k ≠ 31 := by
    simp only [List.mem_cons, List.not_mem_nil, or_false] at mem
    omega
  have five : (flagFld pgRTC k).idx / 256 = 5 := by simp [pgRTC]
  exact (Hub.only.ite (y.evt pgRTC k (.inr (five.symm ▸ h5)) ht.irq (.inl small)) y).rtc! _

theorem Hub.only.slaveTick {fs : List Fld} {ps : List Nat} {a b : Hub} (s : Nat) (h5 : 5 ∈ ps) (ht : traceIn ps)
    (x : Hub.only fs ps a b) : Hub.only fs ps a (b.slaveTick s) := by
  unfold Hub.slaveTick
  extract_lets old h1 h2 h3 h4
  have k1 : Hub.only fs ps a h1 := (x.put _ (.inr h5)).rtc! _
  have k3 : Hub.only fs ps a h3 := (((k1.setEpoch s h5).put _ (.inr h5)).secondOpens).put _ (.inr h5)
  have k4 : Hub.only fs ps a h4 := .ite k3 (k3.record _ _ _ _ ht.rec)
  exact .ite x (.ite k1 (.ite k4 (k4.almBoundary h5 ht)))

/-- Hubs that agree but in registers, records and the RTC. -/
def Hub.butRtc (h : Hub) : Hub := h.bare.rtc! fun _ => {}

theorem Hub.butRtc_of_bare {a b : Hub} (e : a.bare = b.bare) : a.butRtc = b.butRtc := congrArg (fun x => x.rtc! fun _ => {}) e

theorem Hub.butRtc_rtc! (h : Hub) (f : Rtc → Rtc) : (h.rtc! f).butRtc = h.butRtc := id rfl

theorem Hub.butRtc_foldl {α : Type} {f : Hub → α → Hub} (hf : ∀ a x, (f a x).butRtc = a.butRtc) (l : List α) (h : Hub) :
    (l.foldl f h).butRtc = h.butRtc := by
  induction l generalizing h with
  | nil => rfl
  | cons x l ih => rw [List.foldl_cons, ih, hf]

theorem Hub.butRtc_almBoundary (h : Hub) : h.almBoundary.butRtc = h.butRtc := by
  have step (a : Hub) (k : Nat) (c : Bool) (f : Rtc → Rtc) : ((if c then a.evt pgRTC k else a).rtc! f).butRtc = a.butRtc := by
    rw [Hub.butRtc_rtc!]
    split
    · exact Hub.butRtc_of_bare (Hub.bare_evt ..)
    · rfl
  exact Hub.butRtc_foldl (fun a k => step a k _ _) _ _

theorem Hub.butRtc_slaveTick (h : Hub) (s : Nat) : (h.slaveTick s).butRtc = h.butRtc := by
  unfold Hub.slaveTick
  extract_lets old h1 h2 h3 h4
  have k1 : h1.butRtc = h.butRtc := (Hub.butRtc_rtc! ..).trans (Hub.butRtc_of_bare (Hub.bare_put ..))
  have k3 : h3.butRtc = h.butRtc := by
    refine (Hub.butRtc_of_bare (Hub.bare_put ..)).trans ((Hub.butRtc_rtc! ..).trans (.trans (Hub.butRtc_of_bare ?_) k1))
    unfold Hub.setEpoch
    simp only [Hub.bare_put]
  have k4 : h4.butRtc = h.butRtc := by
    unfold h4
    split
    · exact k3
    · exact (Hub.butRtc_of_bare (Hub.bare_record ..)).trans k3
  split
  · rfl
  · split
    · exact k1
    · split
      · exact k4
      · exact (Hub.butRtc_almBoundary _).trans k4

theorem Hub.of_butRtc {α : Type} {a b : Hub} (f : Hub → α) (hf : ∀ h, f h.butRtc = f h) (e : a.butRtc = b.butRtc) :
    f a = f b := by rw [← hf a, e, hf b]

theorem Hub.slaveTick_data (h : Hub) (s : Nat) : (h.slaveTick s).tickData = h.tickData :=
  Hub.of_butRtc Hub.tickData (fun _ => rfl) (h.butRtc_slaveTick s)

theorem Hub.slaveTick_frm (h : Hub) (s : Nat) : (h.slaveTick s).frm = h.frm :=
  Hub.of_butRtc Hub.frm (fun _ => rfl) (h.butRtc_slaveTick s)

theorem Hub.secondsTaken_data (h : Hub) (w : Nat → Word) : (h.secondsTaken w).tickData = h.tickData := by
  unfold Hub.secondsTaken
  split
  · exact h.slaveTick_data _
  · rfl

theorem Hub.secondsTaken_frm (h : Hub) (w : Nat → Word) : (h.secondsTaken w).frm = h.frm := by
  unfold Hub.secondsTaken
  split
  · exact h.slaveTick_frm _
  · rfl

/-! #### The lead's watchdog (18 R473) -/

theorem testBit_byte (w : Word) : (bitsOf w 0 8).testBit 4 = w.getLsbD 4 := by
  unfold bitsOf
  rw [Nat.testBit_mod_two_pow]
  simp [BitVec.getLsbD]

theorem bitsOf_failRun (w : Word) : bitsOf w 0 8 / 4 % 4 = bitsOf w 2 2 := by
  unfold bitsOf
  omega

/-- Without the SAFE of the lead's watchdog a mirroring follower shows its failed runs, and nothing else happens. -/
theorem Hub.tickWdt_eq {h : Hub} {w : Word} (safe : h.wdtSt = 4 → w.getLsbD 4 = false) :
    h.tickWdt (bitsOf w 0 8) = if h.wdtSt = 4 then h.put WDT_STAT_FAILRUN (bitsOf w 2 2) else h := by
  unfold Hub.tickWdt
  by_cases mirror : h.wdtSt = 4
  · rw [if_neg (not_not_intro mirror), if_pos mirror, testBit_byte, safe mirror, bitsOf_failRun]
    exact if_neg Bool.false_ne_true
  · rw [if_pos mirror, if_neg mirror]

/-! #### All of it -/

/-- The hub when a TICK's data, but for the lead's watchdog, have reached it. -/
def Hub.tickTold (h : Hub) (w : Nat → Word) : Hub :=
  ((((h.stringShown w).stringTaken w).shareTaken (tickShare w h.pos)).secondsTaken w).liveNoted
    (w 0).toNat (decide (bitsOf (w 3) 8 5 ≤ h.pos))

theorem Hub.stringTaken_only {fs : List Fld} {ps : List Nat} {a b : Hub} (w : Nat → Word) (x : Hub.only fs ps a b) :
    Hub.only fs ps a (b.stringTaken w) := .ite x (x.md! _)

theorem Hub.stringTaken_get (h : Hub) (w : Nat → Word) (g : Fld) : (h.stringTaken w).get g = h.get g := by
  unfold Hub.stringTaken
  split
  · rfl
  · exact Hub.get_md! ..

theorem Hub.only.secondsTaken {fs : List Fld} {ps : List Nat} {a b : Hub} (w : Nat → Word) (h5 : 5 ∈ ps) (ht : traceIn ps)
    (x : Hub.only fs ps a b) : Hub.only fs ps a (b.secondsTaken w) := .ite (x.slaveTick _ h5 ht) x

theorem Hub.only.liveNoted {fs : List Fld} {ps : List Nat} {a b : Hub} (last : Nat) (lost : Bool) (x : Hub.only fs ps a b) :
    Hub.only fs ps a (b.liveNoted last lost) := (x.md! _).link! _

/-- The pages of what a TICK tells a follower: of the RTC, of the string, and of records and pending bits. -/
abbrev tickPages : List Nat := 0x05 :: 0x0C :: 0x11 :: tracePages

theorem Hub.tickTold_only (h : Hub) (w : Nat → Word) : Hub.only [] tickPages h (h.tickTold w) := by
  have shown : Hub.only [] tickPages h (h.stringShown w) :=
    ((((Hub.only.refl [] tickPages h).put (f := STR_STAT_NHUBS) _ (.inr (by decide))).put (f := STR_STAT_LIVE) _
      (.inr (by decide))).put (f := STR_STAT_SVER) _ (.inr (by decide))).put (f := STR_STAT_EPOCH) _ (.inr (by decide))
  have share : Hub.only [] tickPages h (((h.stringShown w).stringTaken w).shareTaken (tickShare w h.pos)) :=
    (Hub.stringTaken_only w shown).bud! _
  exact (share.secondsTaken w (by decide) (by decide)).liveNoted _ _

theorem Hub.secondsTaken_get (h : Hub) (w : Nat → Word) {g : Fld} (hg : g.fits) (hp : g.idx / 256 ∉ 5 :: tracePages) :
    (h.secondsTaken w).get g = h.get g :=
  ((Hub.only.refl [] (5 :: tracePages) h).secondsTaken w (by decide) (by decide)).fields g hg (by simp) hp

theorem Hub.tickTold_get (h : Hub) (w : Nat → Word) {g : Fld} (hg : g.fits) (hp : g.idx / 256 ∉ 5 :: tracePages) :
    (h.tickTold w).get g = (h.stringShown w).get g := by
  unfold Hub.tickTold Hub.liveNoted
  rw [Hub.get_link!, Hub.get_md!, Hub.secondsTaken_get _ _ hg hp]
  exact (Hub.get_bud! ..).trans (Hub.stringTaken_get ..)

theorem Hub.stringShown_get (h : Hub) (w : Nat → Word) {g : Fld} (a : STR_STAT_NHUBS.apart g) (b : STR_STAT_LIVE.apart g)
    (c : STR_STAT_SVER.apart g) (d : STR_STAT_EPOCH.apart g) : (h.stringShown w).get g = h.get g := by
  unfold Hub.stringShown
  rw [Hub.get_put_apart _ _ (by decide) d, Hub.get_put_apart _ _ (by decide) c, Hub.get_put_apart _ _ (by decide) b,
    Hub.get_put_apart _ _ (by decide) a]

theorem Hub.tickTold_wdtSt (h : Hub) (w : Nat → Word) : (h.tickTold w).wdtSt = h.wdtSt :=
  (h.tickTold_get w (by decide) (by decide)).trans (h.stringShown_get w (by decide) (by decide) (by decide) (by decide))

theorem Hub.tickTake_told {h : Hub} {w : Nat → Word} (safe : h.wdtSt = 4 → (w 11).getLsbD 4 = false) :
    h.tickTake w = if h.wdtSt = 4 then (h.tickTold w).put WDT_STAT_FAILRUN (bitsOf (w 11) 2 2) else h.tickTold w := by
  rw [Hub.tickTake_eq]
  change (h.tickTold w).tickWdt _ = _
  rw [Hub.tickWdt_eq (by rwa [Hub.tickTold_wdtSt]), Hub.tickTold_wdtSt]

theorem Hub.tickTake_bare {h : Hub} {w : Nat → Word} (safe : h.wdtSt = 4 → (w 11).getLsbD 4 = false) :
    (h.tickTake w).bare = (h.tickTold w).bare := by
  rw [Hub.tickTake_told safe]
  split
  · exact Hub.bare_put ..
  · rfl

theorem Hub.stringShown_bare (h : Hub) (w : Nat → Word) : (h.stringShown w).bare = h.bare := by
  unfold Hub.stringShown
  rw [Hub.bare_put, Hub.bare_put, Hub.bare_put, Hub.bare_put]

/-- What the modes and the links hold before the share and the seconds of a TICK, they hold after them. -/
theorem Hub.secondsTaken_shareTaken (h : Hub) (a : Nat) (w : Nat → Word) :
    ((h.shareTaken a).secondsTaken w).tickData = (h.md, h.link, h.sec, (h.shareTaken a).bud) :=
  Hub.secondsTaken_data ..

theorem Hub.stringTaken_rest (h : Hub) (w : Nat → Word) :
    (h.stringTaken w).link = h.link ∧ (h.stringTaken w).sec = h.sec ∧ (h.stringTaken w).frm = h.frm := by
  unfold Hub.stringTaken
  split
  · exact ⟨rfl, rfl, rfl⟩
  · exact ⟨rfl, rfl, rfl⟩

theorem Hub.stringTaken_shown (h : Hub) (w : Nat → Word) : ((h.stringShown w).stringTaken w).md = (h.stringTaken w).md := by
  have modes : (h.stringShown w).md = h.md := Hub.md_of_bare (h.stringShown_bare w)
  unfold Hub.stringTaken Hub.takesBack
  rw [modes]
  split
  · exact modes
  · rw [Hub.md!_md, Hub.md!_md, modes]

/-- The links once a TICK has come. -/
def Link.ticked (l : Link) (last : Nat) (lost : Bool) : Link :=
  { l with lastTick := last, liveLost := lost, goodTicks := if lost then 0 else min 65535 (l.goodTicks + 1) }

theorem Hub.tickTold_data (h : Hub) (w : Nat → Word) :
    ∃ count, (h.tickTold w).tickData =
      ({ (h.stringTaken w).md with silentRun := 0, loseCount := count },
        h.link.ticked (w 0).toNat (decide (bitsOf (w 3) 8 5 ≤ h.pos)), h.sec,
        (((h.stringShown w).stringTaken w).shareTaken (tickShare w h.pos)).bud) := by
  have data := Hub.secondsTaken_shareTaken ((h.stringShown w).stringTaken w) (tickShare w h.pos) w
  obtain ⟨slink, ssec, -⟩ := (h.stringShown w).stringTaken_rest w
  rw [slink, ssec, Hub.stringTaken_shown, Hub.link_of_bare (h.stringShown_bare w), Hub.sec_of_bare (h.stringShown_bare w)] at data
  simp only [Hub.tickData, Prod.mk.injEq] at data
  obtain ⟨md, link, sec, bud⟩ := data
  unfold Hub.tickTold Hub.liveNoted Hub.tickData
  rw [Hub.link!_md, Hub.md!_md, Hub.link!_link, Hub.md!_link, Hub.link!_sec, Hub.md!_sec, Hub.link!_bud, Hub.md!_bud,
    md, link, sec, bud]
  exact ⟨_, rfl⟩

theorem Hub.tickTold_frm (h : Hub) (w : Nat → Word) : (h.tickTold w).frm = h.frm := by
  unfold Hub.tickTold Hub.liveNoted
  rw [Hub.link!_frm, Hub.md!_frm, Hub.secondsTaken_frm]
  exact ((h.stringShown w).stringTaken_rest w).2.2.trans (Hub.frm_of_bare (h.stringShown_bare w))

section
variable {h : Hub} {w : Nat → Word} (safe : h.wdtSt = 4 → (w 11).getLsbD 4 = false)
include safe

theorem Hub.tickTake_frm : (h.tickTake w).frm = h.frm := (Hub.frm_of_bare (Hub.tickTake_bare safe)).trans (h.tickTold_frm w)

theorem Hub.tickTake_md : ∃ count, (h.tickTake w).md = { (h.stringTaken w).md with silentRun := 0, loseCount := count } := by
  obtain ⟨count, data⟩ := h.tickTold_data w
  exact ⟨count, (Hub.md_of_bare (Hub.tickTake_bare safe)).trans (congrArg Prod.fst data)⟩

theorem Hub.tickTake_link :
    (h.tickTake w).link = h.link.ticked (w 0).toNat (decide (bitsOf (w 3) 8 5 ≤ h.pos)) := by
  obtain ⟨_, data⟩ := h.tickTold_data w
  exact (Hub.link_of_bare (Hub.tickTake_bare safe)).trans (congrArg (·.2.1) data)

theorem Hub.tickTake_sec : (h.tickTake w).sec = h.sec := by
  obtain ⟨_, data⟩ := h.tickTold_data w
  exact (Hub.sec_of_bare (Hub.tickTake_bare safe)).trans (congrArg (·.2.2.1) data)

theorem Hub.tickTake_share : (h.tickTake w).bud.tickA = some (tickShare w h.pos) := by
  obtain ⟨_, data⟩ := h.tickTold_data w
  have bud : (h.tickTake w).bud = (((h.stringShown w).stringTaken w).shareTaken (tickShare w h.pos)).bud :=
    (Hub.bud_of_bare (Hub.tickTake_bare safe)).trans (congrArg (·.2.2.2) data)
  rw [bud]
  exact congrArg Budget.tickA (Hub.bud!_bud ..)

theorem Hub.tickTake_get {g : Fld} (hg : g.fits) (hp : g.idx / 256 ∉ 4 :: 5 :: tracePages) :
    (h.tickTake w).get g = (h.stringShown w).get g := by
  have told : (h.tickTold w).get g = (h.stringShown w).get g :=
    h.tickTold_get w hg fun mem => hp (List.mem_cons_of_mem _ mem)
  rw [Hub.tickTake_told safe]
  split
  · exact (((Hub.only.refl [] [4] (h.tickTold w)).put _ (.inr (by decide))).fields g hg (by simp)
      fun mem => hp (by rw [List.mem_singleton.1 mem]; exact List.mem_cons_self)).trans told
  · exact told

theorem Hub.tickTake_only : Hub.only [] (4 :: tickPages) h (h.tickTake w) := by
  have told : Hub.only [] (4 :: tickPages) h (h.tickTold w) :=
    (h.tickTold_only w).mono (fun _ x => x) fun _ x => List.mem_cons_of_mem _ x
  rw [Hub.tickTake_told safe]
  exact .ite (told.put _ (.inr (by decide))) told

theorem Hub.tickTake_failRun (mirror : h.wdtSt = 4) : (h.tickTake w).get WDT_STAT_FAILRUN = bitsOf (w 11) 2 2 := by
  rw [Hub.tickTake_told safe, if_pos mirror, Hub.get_put_same _ _ (by decide)]
  exact Nat.mod_eq_of_lt (bitsOf_lt ..)

end

/-- A follower without the lead's watchdog takes a TICK within its pages alone. -/
theorem Hub.tickTake_only_unwatched {h : Hub} (w : Nat → Word) (other : h.wdtSt ≠ 4) : Hub.only [] tickPages h (h.tickTake w) := by
  rw [Hub.tickTake_told fun mirror => absurd mirror other, if_neg other]
  exact h.tickTold_only w

/-! #### The string's mode -/

theorem Hub.stringTaken_mode (h : Hub) (w : Nat → Word) : (h.stringTaken w).md.stringMode = bitsOf (w 3) 0 3 := by
  unfold Hub.stringTaken
  split
  next same => exact same.1.symm
  next => exact congrArg Modes.stringMode (Hub.md!_md ..)

theorem Hub.stringTaken_new {h : Hub} {w : Nat → Word}
    (new : h.md.stringMode ≠ bitsOf (w 3) 0 3 ∨ h.md.retake = true ∧ h.md.loseArmed = false) :
    (h.stringTaken w).md = { h.md with
      stringMode := bitsOf (w 3) 0 3, fromTick := some (bitsOf (w 3) 0 3, if bitsOf (w 11) 4 1 = 1 then 8 else 2)
      retake := h.md.retake && !h.takesBack, stringLost := h.md.stringLost && !h.takesBack } := by
  have taken : ¬(bitsOf (w 3) 0 3 = h.md.stringMode ∧ (!h.takesBack) = true) := by
    rintro ⟨same, kept⟩
    rcases new with other | ⟨retake, armed⟩
    · exact other same.symm
    · simp [Hub.takesBack, retake, armed] at kept
  unfold Hub.stringTaken
  rw [if_neg taken, Hub.md!_md]

/-! #### The share of a hub (10 R283) -/

theorem tickShare_lt (w : Nat → Word) (pos : Nat) : tickShare w pos < 2 ^ 12 := Nat.mod_lt _ (by decide)

/-- Words one above the other, the first the lowest. -/
def stacked (w : Nat → Word) (n : Nat) : Nat := (List.range n).foldl (fun a i => a + (w i).toNat * 2 ^ (32 * i)) 0

theorem stacked_succ (w : Nat → Word) (n : Nat) : stacked w (n + 1) = stacked w n + (w n).toNat * 2 ^ (32 * n) := by
  unfold stacked
  rw [List.range_succ, List.foldl_append]
  rfl

theorem stacked_lt (w : Nat → Word) (n : Nat) : stacked w n < 2 ^ (32 * n) := by
  induction n with
  | zero => exact Nat.one_pos
  | succ k ih =>
    have top : (w k).toNat + 1 ≤ 2 ^ 32 := (w k).isLt
    have room := Nat.mul_le_mul_right (2 ^ (32 * k)) top
    rw [Nat.succ_mul] at room
    rw [stacked_succ, Nat.mul_succ, Nat.pow_add, Nat.mul_comm (2 ^ (32 * k))]
    omega

theorem stacked_testBit (w : Nat → Word) {n i : Nat} (lt : i < 32 * n) :
    (stacked w n).testBit i = (w (i / 32)).getLsbD (i % 32) := by
  induction n with
  | zero => omega
  | succ k ih =>
    rw [stacked_succ, Nat.add_comm, Nat.mul_comm, Nat.testBit_two_pow_mul_add _ (stacked_lt w k)]
    split
    next below => exact ih below
    next above =>
      have word : i / 32 = k := by omega
      rw [word]
      unfold BitVec.getLsbD
      congr 1
      omega

theorem tickShare_testBit (w : Nat → Word) {pos b : Nat} (hb : b < 12) (hp : pos < 16) :
    (tickShare w pos).testBit b = (w (4 + (12 * pos + b) / 32)).getLsbD ((12 * pos + b) % 32) := by
  change (stacked (fun i => w (4 + i)) 6 / 2 ^ (12 * pos) % 2 ^ 12).testBit b = _
  rw [Nat.testBit_mod_two_pow, Nat.testBit_div_two_pow, decide_eq_true hb, Bool.true_and, Nat.add_comm b,
    stacked_testBit _ (by omega)]

/-! ### The travel of a TICK (06 R180–R184) -/

/-- The section engine when it has noted the κ of a frame. -/
def Section.heard (x : Section) (t : Travel) : Section :=
  if decide (diff32 t.frm x.kapFrm ≤ 0) && x.haveTravel then x else { x with kapFrm := t.frm, kapLast := t.kappa }

theorem Section.heard_queue (x : Section) (t : Travel) : (x.heard t).queue = x.queue := by
  unfold Section.heard
  split <;> rfl
theorem Section.heard_needFrm (x : Section) (t : Travel) : (x.heard t).needFrm = x.needFrm := by
  unfold Section.heard
  split <;> rfl
theorem Section.heard_haveTravel (x : Section) (t : Travel) : (x.heard t).haveTravel = x.haveTravel := by
  unfold Section.heard
  split <;> rfl

/-- The section engine when it has taken a frame's travel. -/
def Section.taken (x : Section) (t : Travel) : Section :=
  if !(x.heard t).haveTravel then { x.heard t with
    haveTravel := true, needFrm := t.frm, queue := [t]
    kappaPrev := if wrapTo 32 (x.kapFrm + 1) = t.frm then x.kapLast else x.kappaPrev }
  else if diff32 t.frm (x.heard t).needFrm < 0 ∨ (x.heard t).queue.any (fun u => u.frm == t.frm) then x.heard t
  else { x.heard t with queue := (x.heard t).queue ++ [t] }

/-- A frame's travel reaches the section engine alone. -/
theorem Hub.takeTravel_eq (h : Hub) (t : Travel) : h.takeTravel t = h.sec! fun _ => h.sec.taken t := by
  unfold Hub.takeTravel Section.taken
  extract_lets h1 kap
  have sec : h1.sec = h.sec.heard t := Hub.sec!_sec ..
  have again (f : Section → Section) : h1.sec! f = h.sec! fun _ => f (h.sec.heard t) := id rfl
  rw [sec, again, again]
  split
  · exact id rfl
  · split
    · exact id rfl
    · exact id rfl

theorem Hub.takeTravel_sec (h : Hub) (t : Travel) : (h.takeTravel t).sec = h.sec.taken t := by
  rw [Hub.takeTravel_eq, Hub.sec!_sec]

theorem Hub.takeTravel_get (h : Hub) (t : Travel) (g : Fld) : (h.takeTravel t).get g = h.get g := by
  rw [Hub.takeTravel_eq, Hub.get_sec!]

theorem Hub.only.takeTravel {fs : List Fld} {ps : List Nat} {a b : Hub} (t : Travel) (x : Hub.only fs ps a b) :
    Hub.only fs ps a (b.takeTravel t) := by
  rw [Hub.takeTravel_eq]
  exact x.sec! _

theorem Hub.tickView_takeTravel (h : Hub) (t : Travel) : (h.takeTravel t).tickView = h.tickView := by
  rw [Hub.takeTravel_eq, Hub.tickView_sec!]

theorem Hub.takeTravel_md (h : Hub) (t : Travel) : (h.takeTravel t).md = h.md := by rw [Hub.takeTravel_eq, Hub.sec!_md]
theorem Hub.takeTravel_link (h : Hub) (t : Travel) : (h.takeTravel t).link = h.link := by rw [Hub.takeTravel_eq, Hub.sec!_link]
theorem Hub.takeTravel_bud (h : Hub) (t : Travel) : (h.takeTravel t).bud = h.bud := by rw [Hub.takeTravel_eq, Hub.sec!_bud]
theorem Hub.takeTravel_frm (h : Hub) (t : Travel) : (h.takeTravel t).frm = h.frm := by rw [Hub.takeTravel_eq, Hub.sec!_frm]

theorem Section.taken_first {x : Section} (t : Travel) (first : x.haveTravel = false) :
    (x.taken t).haveTravel = true ∧ (x.taken t).needFrm = t.frm ∧ (x.taken t).queue = [t] := by
  unfold Section.taken
  rw [Section.heard_haveTravel, first, if_pos Bool.not_false]
  exact ⟨rfl, rfl, rfl⟩

theorem Section.taken_next {x : Section} {t : Travel} (later : x.haveTravel = true) (ahead : 0 ≤ diff32 t.frm x.needFrm)
    (new : ∀ u ∈ x.queue, u.frm ≠ t.frm) : (x.taken t).queue = x.queue ++ [t] := by
  have taken : ¬(diff32 t.frm x.needFrm < 0 ∨ (x.queue.any fun u => u.frm == t.frm) = true) := by
    simp only [List.any_eq_true, beq_iff_eq, not_or, not_exists, not_and]
    exact ⟨by omega, new⟩
  unfold Section.taken
  rw [Section.heard_haveTravel, Section.heard_needFrm, Section.heard_queue, later, if_neg (by decide), if_neg taken]

/-! ### A follower's TICK (02 R71, 14 R383, R391) -/

/-- The hub once a TICK of its own has been passed on, measured, adopted and told. -/
def Hub.tickMeasured (h : Hub) (k : TickPkt) (a : Int) : Hub :=
  (((h.passDn (tickPkt h k.words)).tickAlign a).tickAdopt (nth k.words 0 0).toNat (decide (a < 0))).tickTake
    fun i => nth k.words i 0

/-- The travel that a TICK brings. -/
def travelIn (k : TickPkt) : Travel := travelOf fun i => nth k.words i 0

/-- P1 after a TICK that was complete in time for it, or that was not. -/
def Hub.tickPhased (h : Hub) (k : TickPkt) (late : Bool) : Hub :=
  if late then h.runP1.takeTravel (travelIn k) else (h.takeTravel (travelIn k)).runP1

section
variable {s : State} {k : TickPkt} {a : Int} (follower : s.hub.isFollower = true) (up : s.hub.portUp .up = true)
  (pos : s.hub.posValid = true) (own : bitsOf (nth k.words 11 0) 9 1 = 0)
include follower up pos own

theorem State.tick_skipped (skip : s.hub.frm.skipNow = true) (got : s.hub.link.tickGot = true) :
    s.tick k a = s.hub! fun _ =>
      ((s.hub.passDn (tickPkt s.hub k.words)).tickTake fun i => nth k.words i 0).takeTravel (travelIn k) := by
  unfold State.tick
  extract_lets w h h1 early
  have pass : h1 = h.link! fun _ => h.passedLink (tickPkt h k.words) := h.passDn_tickPkt _
  have pos1 : h1.posValid = true := by rw [pass]; exact pos
  have skip1 : (h1.frm.skipNow && h1.link.tickGot) = true := by
    rw [pass, Hub.link!_frm, Hub.link!_link, Hub.passedLink_tickGot, skip, got]
    rfl
  rw [follower, up, pos1, if_neg (by decide), if_neg (by decide), if_neg (by rw [own]; decide), if_pos skip1]
  rfl

theorem State.tick_measured (whole : s.hub.frm.skipNow = false ∨ s.hub.link.tickGot = false) :
    s.tick k a =
      if a < 0 then
        s.hub! fun _ => ((s.hub.tickMeasured k a).takeTravel (travelIn k)).link! fun l => { l with tickEarly := true }
      else (State.drain 32 (s.hub! fun _ =>
        ((s.hub.tickMeasured k a).tickPhased k (decide (4000 < a + 960))).link! fun l => { l with tickGot := true })).runP2 := by
  unfold State.tick
  extract_lets w h h1 early h2 late h3 s1
  have pass : h1 = h.link! fun _ => h.passedLink (tickPkt h k.words) := h.passDn_tickPkt _
  have pos1 : h1.posValid = true := by rw [pass]; exact pos
  have whole1 : ¬(h1.frm.skipNow && h1.link.tickGot) = true := by
    rw [pass, Hub.link!_frm, Hub.link!_link, Hub.passedLink_tickGot, Bool.and_eq_true]
    rintro ⟨skip, got⟩
    rcases whole with e | e
    · exact Bool.false_ne_true (e.symm.trans skip)
    · exact Bool.false_ne_true (e.symm.trans got)
  rw [follower, up, pos1, if_neg (by decide), if_neg (by decide), if_neg (by rw [own]; decide), if_neg whole1]
  by_cases ahead : a < 0
  · rw [if_pos ahead, if_pos (decide_eq_true ahead)]
    rfl
  · rw [if_neg ahead, if_neg (by simpa [early] using ahead)]
    rfl

end

end Sys2Proof.Machine
end

section
/-! SUPPORT. TICK on a follower as a whole, a TICK that is missing, and a replay (02 R71, 06 R183, 10 R283, 14 R391–R393). -/

open Sys2Proof Sys2Proof.Machine

namespace Sys2Proof.Machine

/-! ### What is measured and adopted (02 R55, R71) -/

/-- The hub once a TICK of its own has been passed on, measured and adopted. -/
def Hub.tickNumbered (h : Hub) (k : TickPkt) (a : Int) : Hub :=
  ((h.passDn (tickPkt h k.words)).tickAlign a).tickAdopt (nth k.words 0 0).toNat (decide (a < 0))

theorem Hub.tickMeasured_eq (h : Hub) (k : TickPkt) (a : Int) :
    h.tickMeasured k a = (h.tickNumbered k a).tickTake fun i => nth k.words i 0 := id rfl

theorem Hub.passDn_get (h : Hub) (ws : List Word) (g : Fld) : (h.passDn (tickPkt h ws)).get g = h.get g := by
  rw [Hub.passDn_tickPkt, Hub.get_link!]

theorem Hub.passDn_frm (h : Hub) (ws : List Word) : (h.passDn (tickPkt h ws)).frm = h.frm := by
  rw [Hub.passDn_tickPkt, Hub.link!_frm]

theorem Hub.passDn_data (h : Hub) (ws : List Word) :
    (h.passDn (tickPkt h ws)).tickData = (h.md, h.passedLink (tickPkt h ws), h.sec, h.bud) := by
  rw [Hub.passDn_tickPkt]
  exact id rfl

theorem Hub.only.passDn {fs : List Fld} {ps : List Nat} (h : Hub) (ws : List Word) :
    Hub.only fs ps h (h.passDn (tickPkt h ws)) := by
  rw [Hub.passDn_tickPkt]
  exact (Hub.only.refl ..).link! _

section
variable {h : Hub} (k : TickPkt) (a : Int) (good : h.frm.tofsBad = false)
include good

theorem Hub.tickNumbered_only : Hub.only [] alignPages h (h.tickNumbered k a) :=
  ((Hub.only.passDn h k.words).trans (Hub.tickAlign_only a ((congrArg Frame.tofsBad (h.passDn_frm _)).trans good))).trans
    (Hub.tickAdopt_only ..)

theorem Hub.tickNumbered_data :
    (h.tickNumbered k a).tickData = (h.md, h.passedLink (tickPkt h k.words), h.sec, h.bud) :=
  (Hub.tickAdopt_data ..).trans ((Hub.tickAlign_data a ((congrArg Frame.tofsBad (h.passDn_frm _)).trans good)).trans
    (h.passDn_data _))

theorem Hub.tickNumbered_frm :
    ∃ hold, (h.tickNumbered k a).frm = { h.frm.measured ((h.get FRM_TOFS_TOFS : Int) - a) with hold := hold } := by
  obtain ⟨hold, numbered⟩ := Hub.tickAdopt_frm ((h.passDn (tickPkt h k.words)).tickAlign a) (nth k.words 0 0).toNat
    (decide (a < 0))
  rw [Hub.tickAlign_frm a ((congrArg Frame.tofsBad (h.passDn_frm _)).trans good), h.passDn_get, h.passDn_frm] at numbered
  exact ⟨hold, numbered⟩

theorem Hub.tickNumbered_terr :
    (h.tickNumbered k a).get FRM_TERR_ERR = wrapTo 16 ((h.get FRM_TOFS_TOFS : Int) - a) := by
  unfold Hub.tickNumbered
  rw [Hub.tickAdopt_terr, Hub.tickAlign_terr a ((congrArg Frame.tofsBad (h.passDn_frm _)).trans good), h.passDn_get]

theorem Hub.tickNumbered_frmNo :
    (h.tickNumbered k a).get FRM_NO_NO =
      if (nth k.words 0 0).toNat = (h.frmNo + (if a < 0 then 1 else 0)) % 2 ^ 32 then h.frmNo else (nth k.words 0 0).toNat := by
  have passed : (h.passDn (tickPkt h k.words)).frmNo = h.frmNo := h.passDn_get _ _
  have own : (if decide (a < 0) = true then wrapTo 32 (h.frmNo + 1) else h.frmNo) =
      (h.frmNo + (if a < 0 then 1 else 0)) % 2 ^ 32 := by
    have lt : h.frmNo < 2 ^ 32 := bitsOf_lt ..
    simp only [decide_eq_true_eq]
    split
    · unfold wrapTo
      omega
    · omega
  unfold Hub.tickNumbered
  refine (Hub.tickAdopt_frmNo _ (BitVec.isLt _) _).trans ?_
  rw [Hub.tickAlign_frmNo a ((congrArg Frame.tofsBad (h.passDn_frm _)).trans good), passed, own]

theorem Hub.tickNumbered_get {g : Fld} (hg : g.fits) (hp : g.idx / 256 ∉ alignPages) :
    (h.tickNumbered k a).get g = h.get g := (Hub.tickNumbered_only k a good).fields g hg (by simp) hp

theorem Hub.tickNumbered_wdtSt : (h.tickNumbered k a).wdtSt = h.wdtSt :=
  Hub.tickNumbered_get k a good (by decide) (by decide)

theorem Hub.tickNumbered_pos : (h.tickNumbered k a).pos = h.pos := Hub.tickNumbered_get k a good (by decide) (by decide)

end

/-! ### What a TICK says of the string -/

theorem Hub.stringShown_nhubs (h : Hub) (w : Nat → Word) : (h.stringShown w).get STR_STAT_NHUBS = bitsOf (w 3) 4 4 + 1 := by
  have lt := bitsOf_lt (w 3) 4 4
  unfold Hub.stringShown
  rw [Hub.get_put_apart _ _ (by decide) (by decide), Hub.get_put_apart _ _ (by decide) (by decide),
    Hub.get_put_apart _ _ (by decide) (by decide), Hub.get_put_same _ _ (by decide)]
  exact Nat.mod_eq_of_lt (by change _ < 32; omega)

theorem Hub.stringShown_live (h : Hub) (w : Nat → Word) : (h.stringShown w).get STR_STAT_LIVE = bitsOf (w 3) 8 5 := by
  unfold Hub.stringShown
  rw [Hub.get_put_apart _ _ (by decide) (by decide), Hub.get_put_apart _ _ (by decide) (by decide),
    Hub.get_put_same _ _ (by decide)]
  exact Nat.mod_eq_of_lt (bitsOf_lt ..)

theorem Hub.stringShown_sver (h : Hub) (w : Nat → Word) : (h.stringShown w).get STR_STAT_SVER = bitsOf (w 3) 13 2 := by
  unfold Hub.stringShown
  rw [Hub.get_put_apart _ _ (by decide) (by decide), Hub.get_put_same _ _ (by decide)]
  exact Nat.mod_eq_of_lt (bitsOf_lt ..)

theorem Hub.stringShown_epoch (h : Hub) (w : Nat → Word) : (h.stringShown w).get STR_STAT_EPOCH = bitsOf (w 3) 16 8 := by
  unfold Hub.stringShown
  rw [Hub.get_put_same _ _ (by decide)]
  exact Nat.mod_eq_of_lt (bitsOf_lt ..)

/-! ### All that a TICK leaves for the frame -/

theorem exec_tick_on {s : State} (k : TickPkt) (a : Int) (on : s.hub.running = true) :
    exec (.tick k a) s = .next (s.tick k a) := by
  change execTick k a s = _
  exact if_pos on

theorem Hub.tickView_got (h : Hub) : (h.link! fun l => { l with tickGot := true }).tickView = { h.tickView with got := true } :=
  id rfl
theorem Hub.tickView_early (h : Hub) :
    (h.link! fun l => { l with tickEarly := true }).tickView = { h.tickView with early := true } := id rfl

theorem Hub.tickView_tickPhased (h : Hub) (k : TickPkt) (late : Bool) : (h.tickPhased k late).tickView = h.tickView := by
  unfold Hub.tickPhased
  split
  · exact (Hub.tickView_takeTravel ..).trans h.tickView_runP1
  · exact (Hub.tickView_runP1 _).trans (h.tickView_takeTravel _)

section
variable {s : State} {k : TickPkt} {a : Int} (follower : s.hub.isFollower = true) (up : s.hub.portUp .up = true)
  (pos : s.hub.posValid = true) (own : bitsOf (nth k.words 11 0) 9 1 = 0)
  (whole : s.hub.frm.skipNow = false ∨ s.hub.link.tickGot = false)
include follower up pos own whole

/-- The phases that follow a TICK leave what it has brought. -/
theorem State.tickView_tick :
    (s.tick k a).tickView =
      (if a < 0 then { (s.hub.tickMeasured k a).tickView with early := true }
        else { (s.hub.tickMeasured k a).tickView with got := true }, s.pending) := by
  rw [State.tick_measured follower up pos own whole]
  split
  · exact Prod.ext ((Hub.tickView_early _).trans (by rw [Hub.tickView_takeTravel])) rfl
  · rw [State.tickView_served]
    exact Prod.ext ((Hub.tickView_got _).trans (by rw [Hub.tickView_tickPhased])) rfl

theorem State.tick_view :
    ∃ early got, (s.tick k a).hub.tickView = { (s.hub.tickMeasured k a).tickView with early := early, got := got } ∧
      (a < 0 → early = true) ∧ (0 ≤ a → got = true) := by
  have view := congrArg Prod.fst (State.tickView_tick (a := a) follower up pos own whole)
  by_cases ahead : a < 0
  · exact ⟨true, _, view.trans (if_pos ahead), fun _ => rfl, fun past => absurd ahead (by omega)⟩
  · exact ⟨_, true, view.trans (if_neg ahead), fun past => absurd past ahead, fun _ => rfl⟩

end

/-- The SAFE of the lead's watchdog as it stands when a TICK has been measured and adopted. -/
theorem Hub.tickNumbered_safe {h : Hub} (k : TickPkt) (a : Int) (good : h.frm.tofsBad = false)
    (safe : h.wdtSt = 4 → (nth k.words 11 0).getLsbD 4 = false) :
    (h.tickNumbered k a).wdtSt = 4 → (nth k.words 11 0).getLsbD 4 = false := by rwa [Hub.tickNumbered_wdtSt k a good]

/-- A TICK's measure and number reach the registers of the frame, and what follows leaves them. -/
theorem Hub.tickMeasured_get {h : Hub} (k : TickPkt) (a : Int) (good : h.frm.tofsBad = false)
    (safe : h.wdtSt = 4 → (nth k.words 11 0).getLsbD 4 = false) {g : Fld} (hg : g.fits)
    (hp : g.idx / 256 ∉ 4 :: 5 :: tracePages) :
    (h.tickMeasured k a).get g = ((h.tickNumbered k a).stringShown fun i => nth k.words i 0).get g :=
  Hub.tickTake_get (w := fun i => nth k.words i 0) (Hub.tickNumbered_safe k a good safe) hg hp

section
variable {s : State} {k : TickPkt} {a : Int} (follower : s.hub.isFollower = true) (up : s.hub.portUp .up = true)
  (pos : s.hub.posValid = true) (own : bitsOf (nth k.words 11 0) 9 1 = 0) (good : s.hub.frm.tofsBad = false)
  (whole : s.hub.frm.skipNow = false ∨ s.hub.link.tickGot = false)
  (safe : s.hub.wdtSt = 4 → (nth k.words 11 0).getLsbD 4 = false)

include follower up pos own good whole safe

/-- A measured TICK (02 R55, R71, 14 R383, R391). -/
theorem State.tick_taken :
    (s.tick k a).pending = s.pending
      ∧ (s.tick k a).hub.get FRM_TERR_ERR = wrapTo 16 ((s.hub.get FRM_TOFS_TOFS : Int) - a)
      ∧ (s.tick k a).hub.frm.nextLen = (40000 - (alignOf ((s.hub.get FRM_TOFS_TOFS : Int) - a)).1).toNat
      ∧ (s.tick k a).hub.frm.skipNext = (alignOf ((s.hub.get FRM_TOFS_TOFS : Int) - a)).2.2
      ∧ (s.tick k a).hub.get FRM_NO_NO =
        (if (nth k.words 0 0).toNat = (s.hub.frmNo + (if a < 0 then 1 else 0)) % 2 ^ 32 then s.hub.frmNo
          else (nth k.words 0 0).toNat)
      ∧ (s.tick k a).hub.md.stringMode = bitsOf (nth k.words 3 0) 0 3
      ∧ (s.tick k a).hub.link.lastTick = (nth k.words 0 0).toNat
      ∧ (a < 0 → (s.tick k a).hub.link.tickEarly = true) ∧ (0 ≤ a → (s.tick k a).hub.link.tickGot = true) := by
  obtain ⟨early, got, view, before, after⟩ := State.tick_view (a := a) follower up pos own whole
  have told := Hub.tickNumbered_safe k a good safe
  have frm : { (s.tick k a).hub.frm with p1Due := false, p2Due := false } =
      { (s.hub.tickMeasured k a).frm with p1Due := false, p2Due := false } := congrArg TickView.frm view
  obtain ⟨hold, numbered⟩ := Hub.tickNumbered_frm k a good
  rw [Hub.tickMeasured_eq, Hub.tickTake_frm (w := fun i => nth k.words i 0) told, numbered] at frm
  refine ⟨congrArg Prod.snd (State.tickView_tick (a := a) follower up pos own whole), ?_, ?_, ?_, ?_, ?_, ?_, ?_, ?_⟩
  · have err : (s.tick k a).hub.get FRM_TERR_ERR = (s.hub.tickMeasured k a).get FRM_TERR_ERR :=
      congrArg (fun v : TickView => bitsOf v.err 0 16) view
    rw [err, Hub.tickMeasured_get k a good safe (by decide) (by decide),
      Hub.stringShown_get _ _ (by decide) (by decide) (by decide) (by decide), Hub.tickNumbered_terr k a good]
  · exact congrArg Frame.nextLen frm
  · exact congrArg Frame.skipNext frm
  · have no : (s.tick k a).hub.get FRM_NO_NO = (s.hub.tickMeasured k a).get FRM_NO_NO :=
      congrArg (fun v : TickView => bitsOf v.frmNo 0 32) view
    rw [no, Hub.tickMeasured_get k a good safe (by decide) (by decide),
      Hub.stringShown_get _ _ (by decide) (by decide) (by decide) (by decide), Hub.tickNumbered_frmNo k a good]
  · obtain ⟨count, md⟩ := Hub.tickTake_md (w := fun i => nth k.words i 0) told
    exact (congrArg TickView.stringMode view).trans ((congrArg Modes.stringMode md).trans (Hub.stringTaken_mode ..))
  · exact (congrArg TickView.lastTick view).trans
      (congrArg Link.lastTick (Hub.tickTake_link (w := fun i => nth k.words i 0) told))
  · exact fun past => (congrArg TickView.early view).trans (before past)
  · exact fun past => (congrArg TickView.got view).trans (after past)

end

/-! ### A TICK that no phase waits for -/

theorem Hub.runP1_done {h : Hub} (done : h.frm.p1Due = false ∨ h.tst.ovr.testBit 0 = true) : h.runP1 = h :=
  if_pos (by rcases done with e | e <;> simp [e])

theorem State.runP2_done {s : State} (done : s.hub.frm.p2Due = false ∨ s.hub.tst.ovr.testBit 1 = true) : s.runP2 = s :=
  if_pos (by rcases done with e | e <;> simp [Hub.p2Open, e])

theorem State.drain_empty {s : State} (empty : s.hub.link.inbox = []) : State.drain 32 s = s := by
  unfold State.drain
  rw [empty]

/-- The hub once a TICK has reached it and its section engine. -/
def Hub.tickUsed (h : Hub) (k : TickPkt) (a : Int) : Hub := (h.tickMeasured k a).takeTravel (travelIn k)

/-- A note on the links that a TICK has come. -/
structure TickNote (f : Link → Link) : Prop where
  sentDn : ∀ l, (f l).sentDn = l.sentDn
  liveLost : ∀ l, (f l).liveLost = l.liveLost

theorem Hub.tickMeasured_frm_due {h : Hub} (k : TickPkt) (a : Int) (good : h.frm.tofsBad = false)
    (safe : h.wdtSt = 4 → (nth k.words 11 0).getLsbD 4 = false) :
    (h.tickMeasured k a).frm.p1Due = h.frm.p1Due ∧ (h.tickMeasured k a).frm.p2Due = h.frm.p2Due := by
  obtain ⟨hold, numbered⟩ := Hub.tickNumbered_frm k a good
  rw [Hub.tickMeasured_eq, Hub.tickTake_frm (w := fun i => nth k.words i 0) (Hub.tickNumbered_safe k a good safe), numbered]
  exact ⟨rfl, rfl⟩

theorem Hub.tickMeasured_link {h : Hub} (k : TickPkt) (a : Int) (good : h.frm.tofsBad = false)
    (safe : h.wdtSt = 4 → (nth k.words 11 0).getLsbD 4 = false) :
    (h.tickMeasured k a).link = (h.passedLink (tickPkt h k.words)).ticked (nth k.words 0 0).toNat
      (decide (bitsOf (nth k.words 3 0) 8 5 ≤ h.pos)) := by
  have link : (h.tickNumbered k a).link = h.passedLink (tickPkt h k.words) :=
    congrArg (·.2.1) (Hub.tickNumbered_data k a good)
  rw [Hub.tickMeasured_eq, Hub.tickTake_link (w := fun i => nth k.words i 0) (Hub.tickNumbered_safe k a good safe), link,
    Hub.tickNumbered_pos k a good]

section
variable {s : State} {k : TickPkt} {a : Int} (follower : s.hub.isFollower = true) (up : s.hub.portUp .up = true)
  (pos : s.hub.posValid = true) (own : bitsOf (nth k.words 11 0) 9 1 = 0) (good : s.hub.frm.tofsBad = false)
  (whole : s.hub.frm.skipNow = false ∨ s.hub.link.tickGot = false)
  (safe : s.hub.wdtSt = 4 → (nth k.words 11 0).getLsbD 4 = false)

include follower up pos own good whole safe

theorem State.tick_quiet
    (quiet : a < 0 ∨ s.hub.frm.p1Due = false ∧ s.hub.frm.p2Due = false ∧ s.hub.link.inbox = []) :
    ∃ f, TickNote f ∧ s.tick k a = { s with hub := (s.hub.tickUsed k a).link! f } := by
  rw [State.tick_measured follower up pos own whole]
  by_cases ahead : a < 0
  · exact ⟨fun l => { l with tickEarly := true }, ⟨fun _ => rfl, fun _ => rfl⟩, if_pos ahead⟩
  · obtain ⟨p1, p2, empty⟩ := quiet.resolve_left ahead
    obtain ⟨due1, due2⟩ := Hub.tickMeasured_frm_due k a good safe
    have phased : (s.hub.tickMeasured k a).tickPhased k (decide (4000 < a + 960)) = s.hub.tickUsed k a := by
      unfold Hub.tickPhased Hub.tickUsed
      rw [Hub.runP1_done (.inl (due1.trans p1)), Hub.runP1_done (.inl (by rw [Hub.takeTravel_frm, due1, p1])), ite_self]
    refine ⟨fun l => { l with tickGot := true }, ⟨fun _ => rfl, fun _ => rfl⟩, ?_⟩
    rw [if_neg ahead, phased]
    have inbox : ((s.hub.tickUsed k a).link! fun l => { l with tickGot := true }).link.inbox = [] := by
      rw [Hub.link!_link]
      unfold Hub.tickUsed
      rw [Hub.takeTravel_link, Hub.tickMeasured_link k a good safe]
      exact (Hub.passedLink_inbox ..).trans empty
    have frm : ((s.hub.tickUsed k a).link! fun l => { l with tickGot := true }).frm.p2Due = false := by
      rw [Hub.link!_frm]
      unfold Hub.tickUsed
      rw [Hub.takeTravel_frm, due2, p2]
    rw [State.drain_empty inbox, State.runP2_done (.inl frm)]
    rfl

end

/-! ### What a TICK has brought, piece by piece -/

section
variable {h : Hub} (k : TickPkt) (a : Int) (good : h.frm.tofsBad = false)
  (safe : h.wdtSt = 4 → (nth k.words 11 0).getLsbD 4 = false)
include good safe

theorem Hub.tickUsed_link :
    (h.tickUsed k a).link = (h.passedLink (tickPkt h k.words)).ticked (nth k.words 0 0).toNat
      (decide (bitsOf (nth k.words 3 0) 8 5 ≤ h.pos)) :=
  (Hub.takeTravel_link ..).trans (Hub.tickMeasured_link k a good safe)

theorem Hub.tickUsed_sentDn (up : h.portUp .dn = true) :
    (h.tickUsed k a).link.sentDn = h.link.sentDn ++ [tickPkt h k.words] :=
  (congrArg Link.sentDn (Hub.tickUsed_link k a good safe)).trans (Hub.passedLink_up _ up)

theorem Hub.tickUsed_liveLost :
    (h.tickUsed k a).link.liveLost = true ↔ bitsOf (nth k.words 3 0) 8 5 ≤ h.pos := by
  rw [Hub.tickUsed_link k a good safe]
  exact decide_eq_true_iff

theorem Hub.tickUsed_string {g : Fld} (hg : g.fits) (hp : g.idx / 256 ∉ 4 :: 5 :: tracePages) :
    (h.tickUsed k a).get g = ((h.tickNumbered k a).stringShown fun i => nth k.words i 0).get g :=
  (Hub.takeTravel_get ..).trans (Hub.tickMeasured_get k a good safe hg hp)

theorem Hub.tickUsed_md :
    ∃ count, (h.tickUsed k a).md =
      { ((h.tickNumbered k a).stringTaken fun i => nth k.words i 0).md with silentRun := 0, loseCount := count } := by
  obtain ⟨count, md⟩ := Hub.tickTake_md (w := fun i => nth k.words i 0) (Hub.tickNumbered_safe k a good safe)
  exact ⟨count, (Hub.takeTravel_md ..).trans md⟩

theorem Hub.tickUsed_fromTick
    (new : h.md.stringMode ≠ bitsOf (nth k.words 3 0) 0 3 ∨ h.md.retake = true ∧ h.md.loseArmed = false) :
    (h.tickUsed k a).md.fromTick =
      some (bitsOf (nth k.words 3 0) 0 3, if bitsOf (nth k.words 11 0) 4 1 = 1 then 8 else 2) := by
  obtain ⟨count, md⟩ := Hub.tickUsed_md k a good safe
  have numbered : (h.tickNumbered k a).md = h.md := congrArg Prod.fst (Hub.tickNumbered_data k a good)
  rw [← numbered] at new
  rw [md, Hub.stringTaken_new new]

theorem Hub.tickUsed_back (retake : h.md.retake = true) (armed : h.md.loseArmed = false) :
    (h.tickUsed k a).md.retake = false ∧ (h.tickUsed k a).md.stringLost = false := by
  obtain ⟨count, md⟩ := Hub.tickUsed_md k a good safe
  have numbered : (h.tickNumbered k a).md = h.md := congrArg Prod.fst (Hub.tickNumbered_data k a good)
  have back : (h.tickNumbered k a).takesBack = true := by
    unfold Hub.takesBack
    rw [numbered, retake, armed]
    rfl
  rw [md, Hub.stringTaken_new (.inr (numbered.symm ▸ ⟨retake, armed⟩)), back]
  exact ⟨Bool.and_false _, Bool.and_false _⟩

theorem Hub.tickUsed_share :
    (h.tickUsed k a).bud.tickA = some (tickShare (fun i => nth k.words i 0) h.pos) := by
  have share := Hub.tickTake_share (w := fun i => nth k.words i 0) (Hub.tickNumbered_safe k a good safe)
  rw [Hub.tickNumbered_pos k a good] at share
  exact (congrArg Budget.tickA (Hub.takeTravel_bud ..)).trans share

theorem Hub.tickUsed_failRun (mirror : h.wdtSt = 4) :
    (h.tickUsed k a).get WDT_STAT_FAILRUN = bitsOf (nth k.words 11 0) 2 2 :=
  (Hub.takeTravel_get ..).trans (Hub.tickTake_failRun (w := fun i => nth k.words i 0) (Hub.tickNumbered_safe k a good safe)
    ((Hub.tickNumbered_wdtSt k a good).trans mirror))

theorem Hub.tickUsed_sec : (h.tickUsed k a).sec = h.sec.taken (travelIn k) := by
  have numbered : (h.tickNumbered k a).sec = h.sec := congrArg (·.2.2.1) (Hub.tickNumbered_data k a good)
  unfold Hub.tickUsed
  rw [Hub.takeTravel_sec, Hub.tickMeasured_eq,
    Hub.tickTake_sec (w := fun i => nth k.words i 0) (Hub.tickNumbered_safe k a good safe), numbered]

theorem Hub.tickUsed_only :
    Hub.only [] (0x02 :: 0x04 :: 0x05 :: 0x0C :: 0x11 :: tracePages) h (h.tickUsed k a) := by
  have measured : Hub.only [] (0x02 :: 0x04 :: tickPages) h (h.tickNumbered k a) :=
    (Hub.tickNumbered_only k a good).mono (fun _ x => x) (by decide)
  have told : Hub.only [] (0x02 :: 0x04 :: tickPages) (h.tickNumbered k a) (h.tickMeasured k a) :=
    (Hub.tickTake_only (w := fun i => nth k.words i 0) (Hub.tickNumbered_safe k a good safe)).mono (fun _ x => x) (by decide)
  exact (measured.trans told).takeTravel _

end

/-! ### The TICK of a skipped frame (02 R71) -/

/-- The hub once a TICK of the frame it skips has been passed on, told and used. -/
def Hub.tickSkipped (h : Hub) (k : TickPkt) : Hub :=
  ((h.passDn (tickPkt h k.words)).tickTake fun i => nth k.words i 0).takeTravel (travelIn k)

section
variable {h : Hub} (k : TickPkt) (other : h.wdtSt ≠ 4)
include other

/-- A follower without the lead's watchdog takes no SAFE. -/
theorem Hub.passDn_safe : (h.passDn (tickPkt h k.words)).wdtSt = 4 → (nth k.words 11 0).getLsbD 4 = false :=
  fun mirror => absurd ((h.passDn_get k.words _).symm.trans mirror) other

theorem Hub.tickSkipped_frm : (h.tickSkipped k).frm = h.frm := by
  unfold Hub.tickSkipped
  rw [Hub.takeTravel_frm, Hub.tickTake_frm (w := fun i => nth k.words i 0) (Hub.passDn_safe k other), Hub.passDn_frm]

theorem Hub.tickSkipped_mode : (h.tickSkipped k).md.stringMode = bitsOf (nth k.words 3 0) 0 3 := by
  obtain ⟨count, md⟩ := Hub.tickTake_md (w := fun i => nth k.words i 0) (Hub.passDn_safe k other)
  unfold Hub.tickSkipped
  rw [Hub.takeTravel_md, md]
  exact Hub.stringTaken_mode ..

theorem Hub.tickSkipped_sentDn (up : h.portUp .dn = true) :
    (h.tickSkipped k).link.sentDn = h.link.sentDn ++ [tickPkt h k.words] := by
  have passed : (h.passDn (tickPkt h k.words)).link = h.passedLink (tickPkt h k.words) :=
    congrArg (·.2.1) (h.passDn_data k.words)
  unfold Hub.tickSkipped
  rw [Hub.takeTravel_link, Hub.tickTake_link (w := fun i => nth k.words i 0) (Hub.passDn_safe k other), passed]
  exact Hub.passedLink_up _ up

theorem Hub.tickSkipped_only : Hub.only [] tickPages h (h.tickSkipped k) :=
  ((Hub.only.passDn h k.words).trans (Hub.tickTake_only_unwatched _ fun mirror =>
    other ((h.passDn_get k.words _).symm.trans mirror))).takeTravel _

end

/-! ## A TICK that is missing (02 R71, 06 R183, 10 R283, 14 R391–R392) -/

/-- A follower that does not wait for its string after a wake. -/
abbrev Hub.counts (h : Hub) : Bool := h.link.startWait.isNone

/-- A frame without TICK is counted and marked on the links. -/
def Hub.missMarked (h : Hub) : Hub :=
  (if h.counts then h.incSat FRM_TERR_MISS else h).link! fun l => { l with goodTicks := 0, tickMissed := true }

/-- The frames lost, and among them those silent, go up where they count. -/
def Hub.silentCounted (h : Hub) (counts : Bool) : Hub :=
  if counts then h.md! fun m => { m with
    loseCount := min 65535 (m.loseCount + 1), silentRun := min 65535 (m.silentRun + 1) }
  else h

/-- The share of a lost frame is held where it counts. -/
def Hub.shareHeld (h : Hub) (counts : Bool) : Hub := if counts && h.bud.polled && !h.bud.loss then h.allocHeld 1 else h

/-- The hub once its TICK is missing, before the phases of the frame. -/
def Hub.missNoted (h : Hub) : Hub :=
  (((h.missMarked.bud! fun b => { b with tickA := none }).silentCounted h.counts).shareHeld h.counts).frm!
    fun f => { f with quietTicks := 0, alignRun := 0 }

theorem State.tickMissing_eq {s : State} (follower : s.hub.isFollower = true) (pos : s.hub.posValid = true)
    (got : s.hub.link.tickGot = false) (missed : s.hub.link.tickMissed = false) (later : s.hub.frm.first = false)
    (awake : s.hub.mode ≠ mNAP) :
    s.tickMissing = (State.drain 32 (s.hub! fun _ => s.hub.missNoted.runP1)).runP2 := by
  have due : ¬(!s.hub.isFollower || !s.hub.posValid || s.hub.link.tickGot || s.hub.link.tickMissed || s.hub.frm.first ||
      s.hub.mode == mNAP) = true := by
    rw [follower, pos, got, missed, later]
    simpa using awake
  exact (if_neg due).trans (id rfl)

theorem State.tickMissing_idle {s : State}
    (idle : s.hub.link.tickGot = true ∨ s.hub.link.tickMissed = true ∨ s.hub.frm.first = true ∨ s.hub.mode = mNAP) :
    s.tickMissing = s := by
  refine if_pos ?_
  rcases idle with e | e | e | e <;> simp [e]

theorem exec_tickMissing_on {s : State} (on : s.hub.running = true) : exec .tickMissing s = .next s.tickMissing := by
  change execTickMissing s = _
  exact if_pos on

theorem Hub.tickView_allocHeld (h : Hub) (cause : Nat) : (h.allocHeld cause).tickView = h.tickView := by
  unfold Hub.allocHeld
  split
  · rfl
  · exact (Hub.tickView_report ..).trans (h.tickView_bud! _)

theorem Hub.tickView_silentCounted (h : Hub) (counts : Bool) : (h.silentCounted counts).tickView = h.tickView := by
  unfold Hub.silentCounted
  split
  · exact h.tickView_md! rfl
  · rfl

theorem Hub.tickView_shareHeld (h : Hub) (counts : Bool) : (h.shareHeld counts).tickView = h.tickView := by
  unfold Hub.shareHeld
  split
  · exact h.tickView_allocHeld 1
  · rfl

/-- What is left of a TICK that is missing. -/
theorem Hub.tickView_missNoted (h : Hub) :
    h.missNoted.tickView = { h.missMarked.tickView with
      frm := { h.frm with quietTicks := 0, alignRun := 0, p1Due := false, p2Due := false } } := by
  have noted : ((h.missMarked.bud! fun b => { b with tickA := none }).silentCounted h.counts |>.shareHeld h.counts).tickView =
      h.missMarked.tickView := by
    rw [Hub.tickView_shareHeld, Hub.tickView_silentCounted, Hub.tickView_bud!]
  have marked : h.missMarked.frm = h.frm := by
    unfold Hub.missMarked
    rw [Hub.link!_frm]
    split <;> rfl
  have frm (b : Hub) : (b.frm! fun f => { f with quietTicks := 0, alignRun := 0 }).tickView =
      { b.tickView with frm := { b.tickView.frm with quietTicks := 0, alignRun := 0 } } := id rfl
  unfold Hub.missNoted
  rw [frm, noted]
  have view : h.missMarked.tickView.frm = { h.frm with p1Due := false, p2Due := false } :=
    congrArg (fun f : Frame => { f with p1Due := false, p2Due := false }) marked
  rw [view]

theorem Hub.missMarked_miss (h : Hub) :
    h.missMarked.get FRM_TERR_MISS = min (h.get FRM_TERR_MISS + (if h.link.startWait = none then 1 else 0)) 255 := by
  have lt : h.get FRM_TERR_MISS < 256 := bitsOf_lt ..
  unfold Hub.missMarked
  rw [Hub.get_link!]
  by_cases wait : h.link.startWait = none
  · rw [if_pos (Option.isNone_iff_eq_none.2 wait), if_pos wait, Hub.get_incSat_same _ _ (by decide)]
    rfl
  · rw [if_neg (fun none => wait (Option.isNone_iff_eq_none.1 none)), if_neg wait]
    omega

/-- A frame whose TICK is missing, whatever its phases do. -/
theorem State.tickMissing_noted {s : State} (follower : s.hub.isFollower = true) (pos : s.hub.posValid = true)
    (got : s.hub.link.tickGot = false) (missed : s.hub.link.tickMissed = false) (later : s.hub.frm.first = false)
    (awake : s.hub.mode ≠ mNAP) :
    s.tickMissing.pending = s.pending
      ∧ s.tickMissing.hub.get FRM_TERR_MISS =
        min (s.hub.get FRM_TERR_MISS + (if s.hub.link.startWait = none then 1 else 0)) 255
      ∧ s.tickMissing.hub.link.goodTicks = 0 ∧ s.tickMissing.hub.link.tickMissed = true
      ∧ s.tickMissing.hub.frm.quietTicks = 0 ∧ s.tickMissing.hub.frm.alignRun = 0 := by
  have views : s.tickMissing.tickView = ({ s.hub.missMarked.tickView with
      frm := { s.hub.frm with quietTicks := 0, alignRun := 0, p1Due := false, p2Due := false } }, s.pending) := by
    rw [State.tickMissing_eq follower pos got missed later awake, State.tickView_served]
    exact Prod.ext ((Hub.tickView_runP1 _).trans s.hub.tickView_missNoted) rfl
  have view := congrArg Prod.fst views
  have frm := congrArg TickView.frm view
  have links : s.hub.missMarked.link.goodTicks = 0 ∧ s.hub.missMarked.link.tickMissed = true := by
    unfold Hub.missMarked
    rw [Hub.link!_link]
    exact ⟨rfl, rfl⟩
  refine ⟨congrArg Prod.snd views, ?_, (congrArg TickView.goodTicks view).trans links.1,
    (congrArg TickView.missed view).trans links.2, congrArg Frame.quietTicks frm, congrArg Frame.alignRun frm⟩
  have miss : s.tickMissing.hub.get FRM_TERR_MISS = s.hub.missMarked.get FRM_TERR_MISS :=
    congrArg (fun v : TickView => bitsOf v.err 16 8) view
  rw [miss, Hub.missMarked_miss]

/-! ### A missing TICK that no phase waits for -/

theorem Hub.allocHeld_bare (h : Hub) (cause : Nat) :
    ∃ f, (h.allocHeld cause).bare = (h.bud! f).bare := by
  unfold Hub.allocHeld
  split
  · exact ⟨id, id rfl⟩
  · exact ⟨_, Hub.bare_report ..⟩

theorem Hub.shareHeld_bare (h : Hub) (counts : Bool) : ∃ f, (h.shareHeld counts).bare = (h.bud! f).bare := by
  unfold Hub.shareHeld
  split
  · exact h.allocHeld_bare 1
  · exact ⟨id, id rfl⟩

/-- The bare hub once its TICK is missing: modes, links, shares and the frame's alignment have changed. -/
theorem Hub.missNoted_rest (h : Hub) :
    h.missNoted.frm = { h.frm with quietTicks := 0, alignRun := 0 } ∧ h.missNoted.tst = h.tst
      ∧ h.missNoted.link.inbox = h.link.inbox
      ∧ h.missNoted.md.loseCount =
        if h.link.startWait = none then min 65535 (h.md.loseCount + 1) else h.md.loseCount := by
  obtain ⟨share, held⟩ := Hub.shareHeld_bare
    ((h.missMarked.bud! fun b => { b with tickA := none }).silentCounted h.counts) h.counts
  have marked : h.missMarked.bare = (h.link! fun l => { l with goodTicks := 0, tickMissed := true }).bare := by
    unfold Hub.missMarked
    split
    · rw [Hub.bare_link!, Hub.bare_incSat, Hub.bare_link!]
    · rfl
  have md : h.missMarked.md = h.md := (Hub.md_of_bare marked).trans (Hub.link!_md ..)
  have silent : ((h.missMarked.bud! fun b => { b with tickA := none }).silentCounted h.counts).md.loseCount =
      if h.link.startWait = none then min 65535 (h.md.loseCount + 1) else h.md.loseCount := by
    unfold Hub.silentCounted
    by_cases wait : h.link.startWait = none
    · rw [if_pos (Option.isNone_iff_eq_none.2 wait), if_pos wait, Hub.md!_md, Hub.bud!_md, md]
    · rw [if_neg (fun none => wait (Option.isNone_iff_eq_none.1 none)), if_neg wait, Hub.bud!_md, md]
  have rest {α : Type} (f : Hub → α) (bare : ∀ x, f x.bare = f x) (bud : ∀ x g, f (x.bud! g) = f x)
      (modes : ∀ x g, f (x.md! g) = f x) :
      f (((h.missMarked.bud! fun b => { b with tickA := none }).silentCounted h.counts).shareHeld h.counts) =
        f (h.link! fun l => { l with goodTicks := 0, tickMissed := true }) := by
    rw [Hub.of_bare f bare held, bud]
    unfold Hub.silentCounted
    split
    · rw [modes, bud, Hub.of_bare f bare marked]
    · rw [bud, Hub.of_bare f bare marked]
  unfold Hub.missNoted
  refine ⟨?_, ?_, ?_, ?_⟩
  · rw [Hub.frm!_frm, rest Hub.frm (fun _ => rfl) (fun _ _ => rfl) (fun _ _ => rfl), Hub.link!_frm]
  · rw [Hub.frm!_tst, rest Hub.tst (fun _ => rfl) (fun _ _ => rfl) (fun _ _ => rfl), Hub.link!_tst]
  · rw [Hub.frm!_link, rest Hub.link (fun _ => rfl) (fun _ _ => rfl) (fun _ _ => rfl), Hub.link!_link]
  · rw [Hub.frm!_md, Hub.md_of_bare held, Hub.bud!_md, silent]

theorem Hub.only.allocHeld {fs : List Fld} {ps : List Nat} {a b : Hub} (cause : Nat) (hf : (flagFld pgBUD 6).mayIn fs ps)
    (ht : traceIn ps) (x : Hub.only fs ps a b) : Hub.only fs ps a (b.allocHeld cause) :=
  .ite x ((x.bud! _).report pgBUD 6 _ _ _ _ hf ht (.inl (by decide)))

theorem Hub.missNoted_only (h : Hub) : Hub.only [FRM_TERR_MISS, flagFld 0x0D 6] tracePages h h.missNoted := by
  have marked : Hub.only [FRM_TERR_MISS, flagFld 0x0D 6] tracePages h h.missMarked :=
    (Hub.only.ite ((Hub.only.refl _ _ h).incSat 1 (.inl ⟨FRM_TERR_MISS, by decide⟩)) (.refl ..)).link! _
  have silent : Hub.only [FRM_TERR_MISS, flagFld 0x0D 6] tracePages h
      ((h.missMarked.bud! fun b => { b with tickA := none }).silentCounted h.counts) :=
    .ite ((marked.bud! _).md! _) (marked.bud! _)
  exact (Hub.only.ite (silent.allocHeld 1 (.inl ⟨flagFld 0x0D 6, by decide⟩) (by decide)) silent).frm! _

/-- A share that is held says so once. -/
theorem Hub.missNoted_heldFlag {h : Hub} (wait : h.link.startWait = none) (polled : h.bud.polled = true)
    (loss : h.bud.loss = false) (unsaid : h.bud.heldSaid = false) : h.missNoted.get (flagFld 0x0D 6) = 1 := by
  have counts : h.counts = true := Option.isNone_iff_eq_none.2 wait
  have marked : h.missMarked.bud = h.bud := by
    unfold Hub.missMarked
    rw [Hub.link!_bud]
    split <;> rfl
  have bud : ((h.missMarked.bud! fun b => { b with tickA := none }).silentCounted h.counts).bud =
      { h.bud with tickA := none } := by
    unfold Hub.silentCounted
    rw [if_pos counts, Hub.md!_bud, Hub.bud!_bud, marked]
  unfold Hub.missNoted Hub.shareHeld Hub.allocHeld
  rw [Hub.get_frm!, bud, if_pos (by rw [counts, polled, loss]; rfl), if_neg (by rw [unsaid]; decide)]
  exact Hub.get_report_flag _ pgBUD 6 _ _ _ _ (by decide) (by decide) (by decide)

theorem State.tickMissing_quiet {s : State} (follower : s.hub.isFollower = true) (pos : s.hub.posValid = true)
    (got : s.hub.link.tickGot = false) (missed : s.hub.link.tickMissed = false) (later : s.hub.frm.first = false)
    (awake : s.hub.mode ≠ mNAP) (empty : s.hub.link.inbox = [])
    (p1 : s.hub.frm.p1Due = false ∨ s.hub.tst.ovr.testBit 0 = true)
    (p2 : s.hub.frm.p2Due = false ∨ s.hub.tst.ovr.testBit 1 = true) :
    s.tickMissing = { s with hub := s.hub.missNoted } := by
  obtain ⟨frm, tst, inbox, -⟩ := s.hub.missNoted_rest
  rw [State.tickMissing_eq follower pos got missed later awake, Hub.runP1_done (by rw [frm, tst]; exact p1),
    State.drain_empty (inbox.trans empty), State.runP2_done]
  · rfl
  · change s.hub.missNoted.frm.p2Due = false ∨ s.hub.missNoted.tst.ovr.testBit 1 = true
    rw [frm, tst]
    exact p2

/-! ## A replay for this hub (14 R393) -/

theorem exec_replayTick_on {s : State} (f d c : Word) (on : s.hub.running = true) :
    exec (.replayTick f d c) s = .next { s with hub := s.hub.replayTick ⟨f.toNat, d.toInt, c.toInt⟩ } := State.upd_on _ on

/-- The words of a replay for this hub. -/
def Hub.replayWords (h : Hub) (t : Travel) : List Word :=
  [BitVec.ofInt 32 t.frm, BitVec.ofInt 32 t.dref, BitVec.ofInt 32 t.kappa] ++ List.replicate 8 0 ++
    [BitVec.ofNat 32 (2 ^ 9 + h.pos * 2 ^ 12)]

/-- The hub when a replay for it has gone on down and its travel has joined the queue. -/
def Hub.replayed (h : Hub) (t : Travel) : Hub :=
  ((h.passDn (tickPkt h (h.replayWords t))).takeTravel t).incWrap STR_REPLAY_COUNT

theorem Hub.replayTick_eq {h : Hub} {t : Travel} (follower : h.isFollower = true) (up : h.portUp .up = true)
    (pos : h.posValid = true) (gap : h.get SEC_STAT_GAP = 1) (later : h.sec.haveTravel = true)
    (ahead : 0 ≤ diff32 t.frm h.sec.needFrm) (new : ∀ u ∈ h.sec.queue, u.frm ≠ t.frm) :
    h.replayTick t = h.replayed t := by
  have sec : (h.passDn (tickPkt h (h.replayWords t))).sec = h.sec := congrArg (·.2.2.1) (h.passDn_data _)
  have open' : (h.passDn (tickPkt h (h.replayWords t))).flag SEC_STAT_GAP = true := by
    unfold Hub.flag
    rw [h.passDn_get, gap]
    rfl
  have missing : (h.sec.queue.any fun u => u.frm == t.frm) = false := by
    simpa using new
  have wanted : ¬(!(h.passDn (tickPkt h (h.replayWords t))).flag SEC_STAT_GAP ||
      !(h.passDn (tickPkt h (h.replayWords t))).sec.haveTravel ||
      decide (diff32 t.frm (h.passDn (tickPkt h (h.replayWords t))).sec.needFrm < 0) ||
      (h.passDn (tickPkt h (h.replayWords t))).sec.queue.any (fun u => u.frm == t.frm)) = true := by
    rw [open', sec, later, missing]
    simpa using ahead
  have mine : ¬(!h.isFollower || !h.portUp .up || !h.posValid) = true := by
    rw [follower, up, pos]
    decide
  exact (if_neg mine).trans (if_neg wanted)

theorem exec_replayTick_gap {s : State} {f d c : Word} (on : s.hub.running = true) (follower : s.hub.isFollower = true)
    (up : s.hub.portUp .up = true) (pos : s.hub.posValid = true) (gap : s.hub.get SEC_STAT_GAP = 1)
    (later : s.hub.sec.haveTravel = true) (ahead : 0 ≤ diff32 f.toNat s.hub.sec.needFrm)
    (new : ∀ u ∈ s.hub.sec.queue, u.frm ≠ f.toNat) :
    exec (.replayTick f d c) s = .next { s with hub := s.hub.replayed ⟨f.toNat, d.toInt, c.toInt⟩ } := by
  rw [exec_replayTick_on f d c on,
    Hub.replayTick_eq (t := ⟨f.toNat, d.toInt, c.toInt⟩) follower up pos gap later ahead new]

section
variable {h : Hub} (t : Travel)

theorem Hub.replayed_queue (later : h.sec.haveTravel = true) (ahead : 0 ≤ diff32 t.frm h.sec.needFrm)
    (new : ∀ u ∈ h.sec.queue, u.frm ≠ t.frm) : (h.replayed t).sec.queue = h.sec.queue ++ [t] := by
  have sec : (h.passDn (tickPkt h (h.replayWords t))).sec = h.sec := congrArg (·.2.2.1) (h.passDn_data _)
  have kept : (h.replayed t).sec = ((h.passDn (tickPkt h (h.replayWords t))).takeTravel t).sec :=
    Hub.sec_of_bare (Hub.bare_incWrap ..)
  rw [kept, Hub.takeTravel_sec, sec, Section.taken_next later ahead new]

theorem Hub.replayed_count : (h.replayed t).get STR_REPLAY_COUNT = (h.get STR_REPLAY_COUNT + 1) % 2 ^ 16 := by
  unfold Hub.replayed
  rw [Hub.get_incWrap_same _ _ (by decide), Hub.takeTravel_get, Hub.passDn_get]

theorem Hub.replayed_sentDn (up : h.portUp .dn = true) :
    (h.replayed t).link.sentDn.length = h.link.sentDn.length + 1 := by
  have link : (h.replayed t).link = h.passedLink (tickPkt h (h.replayWords t)) :=
    (Hub.link_of_bare (Hub.bare_incWrap ..)).trans ((Hub.takeTravel_link ..).trans (congrArg (·.2.1) (h.passDn_data _)))
  rw [link, Hub.passedLink_up _ up, List.length_append]
  rfl

theorem Hub.replayed_only : Hub.only [STR_REPLAY_COUNT] [] h (h.replayed t) :=
  ((Hub.only.passDn h _).takeTravel t).incWrap 1 (.inl ⟨STR_REPLAY_COUNT, by decide⟩)

end

end Sys2Proof.Machine
end

section
/-! SUPPORT. A follower's TICK, the frame without one, and a replay. -/

open Sys2Proof Sys2Proof.Machine

/-- Settles O53: what a TICK leaves in a follower outlasts the frame's phases and the requests served in them
(`State.tickView_served`), and where none of them is to come the hub is the one that `Hub.tickUsed`, `Hub.tickSkipped`,
`Hub.missNoted` or `Hub.replayed` gives. -/
theorem followersTakeTicks : Obligations.FollowersTakeTicks := by
  unfold Obligations.FollowersTakeTicks
  intro s k a w on follower up pos words
  subst words
  refine ⟨fun own good whole safe => ?_, fun own good whole safe quiet => ?_, fun own skip got other => ?_,
    fun got missed later awake => ?_, fun idle => ?_, fun f d c gap later ahead new => ?_⟩
  · exact ⟨_, exec_tick_on k a on, State.tick_taken follower up pos own good whole safe⟩
  · obtain ⟨note, noted, settled⟩ := State.tick_quiet follower up pos own good whole safe quiet
    refine ⟨_, (exec_tick_on k a on).trans (congrArg Host.Outcome.next settled), fun dn => ?_, ?_, ?_, ?_, ?_, fun new => ?_,
      fun retake armed => ?_, ?_, ⟨tickShare (fun i => nth k.words i 0) s.hub.pos, ?_, tickShare_lt .., fun b hb => ?_⟩,
      fun mirror => ?_, fun first => ?_, fun later ahead new => ?_, ?_⟩
    · exact (congrArg Link.sentDn (Hub.link!_link ..)).trans
        ((noted.sentDn _).trans (Hub.tickUsed_sentDn k a good safe dn))
    · exact (Hub.get_link! ..).trans
        ((Hub.tickUsed_string k a good safe (by decide) (by decide)).trans (Hub.stringShown_nhubs ..))
    · exact (Hub.get_link! ..).trans
        ((Hub.tickUsed_string k a good safe (by decide) (by decide)).trans (Hub.stringShown_live ..))
    · exact (Hub.get_link! ..).trans
        ((Hub.tickUsed_string k a good safe (by decide) (by decide)).trans (Hub.stringShown_sver ..))
    · exact (Hub.get_link! ..).trans
        ((Hub.tickUsed_string k a good safe (by decide) (by decide)).trans (Hub.stringShown_epoch ..))
    · exact (congrArg Modes.fromTick (Hub.link!_md ..)).trans (Hub.tickUsed_fromTick k a good safe new)
    · obtain ⟨back, found⟩ := Hub.tickUsed_back k a good safe retake armed
      exact ⟨(congrArg Modes.retake (Hub.link!_md ..)).trans back,
        (congrArg Modes.stringLost (Hub.link!_md ..)).trans found⟩
    · have live := (congrArg Link.liveLost (Hub.link!_link (s.hub.tickUsed k a) note)).trans (noted.liveLost _)
      exact (Iff.of_eq (congrArg (· = true) live)).trans (Hub.tickUsed_liveLost k a good safe)
    · exact (congrArg Budget.tickA (Hub.link!_bud ..)).trans (Hub.tickUsed_share k a good safe)
    · exact tickShare_testBit _ hb (bitsOf_lt ..)
    · exact (Hub.get_link! ..).trans (Hub.tickUsed_failRun k a good safe mirror)
    · have sec := (Hub.link!_sec (s.hub.tickUsed k a) note).trans (Hub.tickUsed_sec k a good safe)
      obtain ⟨some, need, queue⟩ := Section.taken_first (travelIn k) first
      exact ⟨(congrArg Section.haveTravel sec).trans some, (congrArg Section.needFrm sec).trans need,
        (congrArg Section.queue sec).trans queue⟩
    · have sec := (Hub.link!_sec (s.hub.tickUsed k a) note).trans (Hub.tickUsed_sec k a good safe)
      exact (congrArg Section.queue sec).trans (Section.taken_next (t := travelIn k) later ahead new)
    · exact State.frame_hub ((Hub.tickUsed_only k a good safe).link! _)
  · refine ⟨_, (exec_tick_on k a on).trans (congrArg Host.Outcome.next (State.tick_skipped follower up pos own skip got)),
      Hub.tickSkipped_frm k other, Hub.tickSkipped_mode k other, Hub.tickSkipped_sentDn k other,
      State.frame_hub (Hub.tickSkipped_only k other)⟩
  · obtain ⟨pending, miss, good, marked, quiet, run⟩ := State.tickMissing_noted follower pos got missed later awake
    refine ⟨_, exec_tickMissing_on on, pending, miss, good, marked, quiet, run, fun empty p1 p2 => ?_⟩
    rw [State.tickMissing_quiet follower pos got missed later awake empty p1 p2]
    obtain ⟨frm, -, -, lose⟩ := s.hub.missNoted_rest
    exact ⟨frm, lose, Hub.missNoted_heldFlag, State.frame_hub s.hub.missNoted_only⟩
  · exact (exec_tickMissing_on on).trans (congrArg Host.Outcome.next (State.tickMissing_idle idle))
  · exact ⟨_, exec_replayTick_gap on follower up pos gap later ahead new,
      Hub.replayed_queue ⟨f.toNat, d.toInt, c.toInt⟩ later ahead new, Hub.replayed_count _, Hub.replayed_sentDn _, State.frame_hub (Hub.replayed_only _)⟩

end

section
/-! SUPPORT. A step, what a hub holds after reset, and the parity of the sequencer's page. -/

open Sys2Proof Sys2Proof.Machine

/-- Settles O1, by the definition of a step. -/
theorem stepRunsTheFront : Obligations.StepRunsTheFront := by
  unfold Obligations.StepRunsTheFront
  intro s c rest front
  unfold step
  rw [front]

namespace Sys2Proof.Machine

/-- After reset every channel is DISABLED, its output off and its page not enabled (03 R85, 05 R165). -/
theorem reset_channel : ∀ n < 64, State.reset.hub.get (CH_STAT_STATE.pg n) = 0
    ∧ State.reset.hub.get (CH_STAT_OUT.pg n) = 0 ∧ State.reset.hub.get (PG_CTL_EN.pg (chPage n)) = 0 := by
  decide +kernel

/-- A hub whose power-up sequence runs. -/
def sequencing : State := { State.reset with hub := State.reset.hub.put SEQ_STAT_STATE 2 }

/-- A failing byte of the SEQ page stops the running sequence (12 R345). -/
theorem seqStat_parity_sequencing :
    (sequencing.hub.parityError (.active 0x0710 0)).get SEQ_STAT_STATE = 1 ∧ sequencing.hub.get SEQ_STAT_STATE = 2 := by
  decide +kernel

theorem exec_parityError_on {s : State} (site : ParitySite) (on : s.hub.running = true) :
    exec (.parityError site) s = .next { s with hub := s.hub.parityError site } := by
  change execParityError site s = _
  exact State.upd_on _ on

end Sys2Proof.Machine

/-- Settles O5: what no command has written reads as its table's reset word. -/
theorem resetHoldsTheTables : Obligations.ResetHoldsTheTables := by
  unfold Obligations.ResetHoldsTheTables
  refine ⟨rfl, rfl, rfl, rfl, rfl, rfl, fun _ => rfl, rfl, ?_, ?_, ?_, ?_, ?_, ?_, ?_, ?_, ?_, ?_, ?_, ?_, reset_channel⟩
  all_goals decide

/-- Refutes O56: a byte of the SEQ page that fails while a sequence runs fences the page and stops the sequence
(12 R345), so SEQ_STAT.STATE goes from 2 to 1, which the frame of the fenced pages leaves out. -/
theorem not_powerFailsAndParityFails : ¬ Obligations.PowerFailsAndParityFails := by
  unfold Obligations.PowerFailsAndParityFails
  intro h
  obtain ⟨-, fences, -⟩ := h sequencing 0x0710 0 0 0 0 0 0 0 false (by decide)
  obtain ⟨t, ht, -, -, -, -, frame⟩ := fences (by decide) (by decide) (by decide)
  obtain ⟨stopped, ran⟩ := seqStat_parity_sequencing
  have run := exec_parityError_on (s := sequencing) (.active 0x0710 0) (by decide)
  rw [← Host.Outcome.next.inj (run.symm.trans ht)] at frame
  have kept := frame.fields SEQ_STAT_STATE (by decide) (by decide) (by decide)
  exact absurd (stopped.symm.trans (kept.trans ran)) (by decide)

end

section
/-! SUPPORT. Accesses of a port to a running hub: what traffic leaves, refused writes, and accepted ones (03 R79–R84, 04
R127). -/

namespace Sys2Proof.Machine

/-! ## Traffic (04 R127, R130) -/

/-- Traffic reaches the idle time, the wake and the link alone: what is read from the rest stands. -/
theorem Hub.of_traffic {α : Type} (h : Hub) (f : Hub → α) (rest : ∀ (n : Nat) (e w : Bool) (l : Link),
    f { h with md := { h.md with idleRun := n, idleExpired := e, waking := w }, link := l } = f h) :
    f h.traffic = f h := by
  unfold Hub.traffic
  dsimp only
  split
  · exact rest 0 false true _
  · exact rest 0 false h.md.waking h.link

@[simp] theorem Hub.traffic_part (h : Hub) : h.traffic.part = h.part := h.of_traffic _ fun _ _ _ _ => rfl
@[simp] theorem Hub.traffic_regs (h : Hub) : h.traffic.regs = h.regs := h.of_traffic _ fun _ _ _ _ => rfl
@[simp] theorem Hub.traffic_pend (h : Hub) : h.traffic.pend = h.pend := h.of_traffic _ fun _ _ _ _ => rfl
@[simp] theorem Hub.traffic_shadow (h : Hub) : h.traffic.shadow = h.shadow := h.of_traffic _ fun _ _ _ _ => rfl
@[simp] theorem Hub.traffic_pages (h : Hub) : h.traffic.pages = h.pages := h.of_traffic _ fun _ _ _ _ => rfl
@[simp] theorem Hub.traffic_views (h : Hub) : h.traffic.views = h.views := h.of_traffic _ fun _ _ _ _ => rfl
@[simp] theorem Hub.traffic_rcd (h : Hub) : h.traffic.rcd = h.rcd := h.of_traffic _ fun _ _ _ _ => rfl
@[simp] theorem Hub.traffic_page (h : Hub) (p : Nat) : h.traffic.page p = h.page p :=
  h.of_traffic (·.page p) fun _ _ _ _ => rfl
@[simp] theorem Hub.traffic_get (h : Hub) (f : Fld) : h.traffic.get f = h.get f :=
  h.of_traffic (·.get f) fun _ _ _ _ => rfl
@[simp] theorem Hub.traffic_errPage (h : Hub) (i : Nat) : h.traffic.errPage i = h.errPage i :=
  h.of_traffic (·.errPage i) fun _ _ _ _ => rfl

theorem Hub.only.traffic {fs : List Fld} {ps : List Nat} {a b : Hub} (x : Hub.only fs ps a b) :
    Hub.only fs ps a b.traffic :=
  x.data (Hub.traffic_part b) (Hub.traffic_regs b) (Hub.traffic_pend b) (Hub.traffic_rcd b)

/-! ## Bytes that a write sets (03 R100) -/

theorem Hub.heal_eq (h : Hub) (i : Nat) (m : Word) (shadow : Bool) :
    h.heal i m shadow = h.bad! fun _ => (h.heal i m shadow).bad := by
  unfold Hub.heal
  split <;> rfl

theorem Hub.of_heal {α : Type} (h : Hub) (i : Nat) (m : Word) (shadow : Bool) (f : Hub → α)
    (rest : ∀ l, f (h.bad! fun _ => l) = f h) : f (h.heal i m shadow) = f h := by rw [Hub.heal_eq, rest]

@[simp] theorem Hub.heal_regs (h : Hub) (i : Nat) (m : Word) (b : Bool) : (h.heal i m b).regs = h.regs :=
  h.of_heal i m b _ fun _ => rfl
@[simp] theorem Hub.heal_pend (h : Hub) (i : Nat) (m : Word) (b : Bool) : (h.heal i m b).pend = h.pend :=
  h.of_heal i m b _ fun _ => rfl
@[simp] theorem Hub.heal_shadow (h : Hub) (i : Nat) (m : Word) (b : Bool) : (h.heal i m b).shadow = h.shadow :=
  h.of_heal i m b _ fun _ => rfl
@[simp] theorem Hub.heal_pages (h : Hub) (i : Nat) (m : Word) (b : Bool) : (h.heal i m b).pages = h.pages :=
  h.of_heal i m b _ fun _ => rfl
@[simp] theorem Hub.heal_views (h : Hub) (i : Nat) (m : Word) (b : Bool) : (h.heal i m b).views = h.views :=
  h.of_heal i m b _ fun _ => rfl
@[simp] theorem Hub.heal_rcd (h : Hub) (i : Nat) (m : Word) (b : Bool) : (h.heal i m b).rcd = h.rcd :=
  h.of_heal i m b _ fun _ => rfl
@[simp] theorem Hub.heal_twb (h : Hub) (i : Nat) (m : Word) (b : Bool) : (h.heal i m b).twb = h.twb :=
  h.of_heal i m b _ fun _ => rfl
@[simp] theorem Hub.heal_page (h : Hub) (i : Nat) (m : Word) (b : Bool) (p : Nat) : (h.heal i m b).page p = h.page p :=
  h.of_heal i m b (·.page p) fun _ => rfl
@[simp] theorem Hub.heal_get (h : Hub) (i : Nat) (m : Word) (b : Bool) (f : Fld) : (h.heal i m b).get f = h.get f :=
  h.of_heal i m b (·.get f) fun _ => rfl

theorem Hub.only.heal {fs : List Fld} {ps : List Nat} {a b : Hub} (i : Nat) (m : Word) (shadow : Bool)
    (x : Hub.only fs ps a b) : Hub.only fs ps a (b.heal i m shadow) := by
  rw [Hub.heal_eq]
  exact x.bad! _

/-! ## Refusals (03 R79, R84) -/

theorem Hub.refuse_eq (h : Hub) (idx code : Nat) : h.refuse idx code =
    (h.pgErr (h.errPage idx) code (if (pageKind h.part (idx / 256)).isSome = true then idx % 256 else idx / 256), code) := by
  unfold Hub.refuse Hub.errPage
  cases pageKind h.part (idx / 256) <;> rfl

theorem Hub.refuse_snd (h : Hub) (idx code : Nat) : (h.refuse idx code).2 = code := by rw [Hub.refuse_eq]

/-- Fields of one register stay apart on every page. -/
theorem Fld.apart_pg {f g : Fld} (n : Nat) (ha : f.lo + f.w ≤ g.lo ∨ g.lo + g.w ≤ f.lo) : (f.pg n).apart (g.pg n) := .inr ha

/-- PG_ERR shows the status, the offset and one refusal more. -/
theorem Hub.get_pgErr (h : Hub) (page : Nat) {code : Nat} (off : Nat) (hc : code < 256) :
    (h.pgErr page code off).get (PG_ERR_CODE.pg page) = code
    ∧ (h.pgErr page code off).get (PG_ERR_OFFSET.pg page) = off % 256
    ∧ (h.pgErr page code off).get (PG_ERR_COUNT.pg page) = min (h.get (PG_ERR_COUNT.pg page) + 1) 65535 := by
  have code_off : (PG_ERR_OFFSET.pg page).apart (PG_ERR_CODE.pg page) := Fld.apart_pg page (by decide)
  have code_count : (PG_ERR_COUNT.pg page).apart (PG_ERR_CODE.pg page) := Fld.apart_pg page (by decide)
  have off_count : (PG_ERR_COUNT.pg page).apart (PG_ERR_OFFSET.pg page) := Fld.apart_pg page (by decide)
  have fits : (PG_ERR_CODE.pg page).fits ∧ (PG_ERR_OFFSET.pg page).fits ∧ (PG_ERR_COUNT.pg page).fits :=
    (by decide : PG_ERR_CODE.fits ∧ PG_ERR_OFFSET.fits ∧ PG_ERR_COUNT.fits)
  obtain ⟨fitsCode, fitsOff, fitsCount⟩ := fits
  unfold Hub.pgErr
  refine ⟨?_, ?_, ?_⟩
  · rw [Hub.get_incSat_apart _ _ fitsCount code_count, Hub.get_put_apart _ _ fitsOff code_off, Hub.get_put_same _ _ fitsCode]
    exact Nat.mod_eq_of_lt hc
  · rw [Hub.get_incSat_apart _ _ fitsCount off_count, Hub.get_put_same _ _ fitsOff]
    rfl
  · rw [Hub.get_incSat_same _ _ fitsCount, Hub.get_put_apart _ _ fitsOff (Fld.apart_pg page (by decide)),
      Hub.get_put_apart _ _ fitsCode (Fld.apart_pg page (by decide))]
    rfl

theorem Hub.only.pgErr {fs : List Fld} {ps : List Nat} {a b : Hub} (page code off : Nat)
    (hf : wholeFld (PG_ERR_CODE.pg page) ∈ fs) (x : Hub.only fs ps a b) : Hub.only fs ps a (b.pgErr page code off) := by
  have within {f : Fld} (hi : f.idx = 7) (hw : f.fits) : (f.pg page).mayIn fs ps :=
    .inl ⟨_, hf, ⟨congrArg (· + 256 * page) hi, Nat.zero_le _, by simpa using hw⟩, hw⟩
  exact ((x.put _ (within rfl (by decide))).put _ (within rfl (by decide))).incSat _ (within rfl (by decide))

theorem Hub.bare_pgErr (h : Hub) (page code off : Nat) : (h.pgErr page code off).bare = h.bare := by simp [Hub.pgErr]

/-- What a refusal shows (03 R84). -/
theorem Hub.showsErr_refuse (h : Hub) (idx : Nat) {code : Nat} (hc : code < 256) :
    h.ShowsErr (h.refuse idx code).1 idx code := by
  rw [Hub.refuse_eq]
  obtain ⟨shown, offset, count⟩ := h.get_pgErr (h.errPage idx)
    (if (pageKind h.part (idx / 256)).isSome = true then idx % 256 else idx / 256) hc
  refine ⟨shown, offset.trans ?_, count⟩
  unfold Hub.errOff
  split <;> omega

/-! ## Writes of a port -/

/-- Registers of the IRQ page whose writes the stacks take (17 R454, R457, R461). -/
def irqWritten : List Nat := [IRQ_EOIE_SRC.idx, IRQ_EOIW_SRC.idx, IRQ_PRIGROUP_G.idx, IRQ_SWSET_SRC.idx]

/-- A write of every other register is the hub's, after the traffic and before the answer. -/
theorem State.portWrite_hub {s : State} {idx : Nat} (hi : idx ∉ irqWritten) (p : Port) (be : Nat) (val : Word) :
    (s.portWrite p idx be val).1 = { s with
      hub := (s.hub.traffic.write p idx be val).1.answered ⟨(s.hub.traffic.write p idx be val).2, 0⟩ } := by
  simp only [irqWritten, List.mem_cons, List.not_mem_nil, or_false, not_or] at hi
  obtain ⟨eoiE, eoiW, group, swset⟩ := hi
  unfold State.portWrite State.write
  dsimp only
  rw [if_neg eoiE, if_neg eoiW, if_neg (fun e => group e.1), if_neg (fun e => swset e.1)]

/-- A write that the hub refuses. -/
theorem State.refused_portWrite {s : State} {p : Port} {idx be code : Nat} {val : Word} (hi : idx ∉ irqWritten)
    (hc : code < 256)
    (refused : s.hub.traffic.write p idx be val = s.hub.traffic.refuse idx code) :
    s.Refused (s.portWrite p idx be val).1 idx code := by
  obtain ⟨shown, offset, count⟩ := s.hub.traffic.showsErr_refuse idx hc
  have errOff : s.hub.traffic.errOff idx = s.hub.errOff idx := s.hub.of_traffic (·.errOff idx) fun _ _ _ _ => rfl
  simp only [Hub.traffic_errPage, Hub.traffic_get, errOff] at shown offset count
  rw [State.portWrite_hub hi, refused]
  refine ⟨?_, ⟨shown, offset, count⟩, ?_, ?_, rfl, rfl, rfl⟩
  · exact congrArg (AccRes.mk · 0) (Hub.refuse_snd ..)
  · rw [Hub.refuse_eq, Hub.traffic_errPage]
    exact ((Hub.only.refl _ _ s.hub).traffic.pgErr _ _ _ (by simp)).answered _
  · rw [Hub.refuse_eq, Hub.bare_answered, Hub.bare_pgErr]
    rfl

/-- A write that the hub accepts: the answer is OK, and queue, SPI output and stacks are as they were. -/
theorem State.accepted_portWrite {s : State} {p : Port} {idx be : Nat} {val : Word} {h : Hub} (hi : idx ∉ irqWritten)
    (accepted : s.hub.traffic.write p idx be val = (h, 0)) :
    (s.portWrite p idx be val).1 = { s with hub := h.answered ⟨0, 0⟩ } := by
  rw [State.portWrite_hub hi, accepted]

theorem exec_registerWrite_on {s : State} (on : s.hub.running = true) (p : Port) (idx : BitVec 16) (be : BitVec 4)
    (val : Word) : exec (.registerWrite p idx be val) s = .next (s.portWrite p idx.toNat be.toNat val).1 := by
  change execRegisterWrite p idx be val s = _
  exact State.rowWrite_on _ _ _ _ on

/-! ## Registers that are not there -/

/-- An index that no table lists is none of those that every part's tables list. -/
theorem not_mem_of_unmapped {part : Part} {idx : Nat} {l : List Nat} (unmapped : findReg part idx = none)
    (mapped : ∀ i ∈ l, (findReg .pqh64 i).isSome = true ∧ (findReg .pqh32 i).isSome = true) : idx ∉ l := fun hi => by
  have listed := mapped idx hi
  cases part
  · exact absurd listed.1 (by simp [unmapped])
  · exact absurd listed.2 (by simp [unmapped])

theorem not_irqWritten_of_unmapped {part : Part} {idx : Nat} (unmapped : findReg part idx = none) : idx ∉ irqWritten :=
  not_mem_of_unmapped unmapped (by decide)

theorem findReg_absent {part : Part} {idx : Nat} (absent : pageKind part (idx / 256) = none) : findReg part idx = none := by
  unfold findReg
  rw [absent]

theorem Hub.write_absent {h : Hub} {idx : Nat} (absent : pageKind h.part (idx / 256) = none) (p : Port) (be : Nat)
    (val : Word) : h.write p idx be val = h.refuse idx 0x01 := by
  unfold Hub.write
  rw [absent]

theorem Hub.write_unmapped {h : Hub} {idx : Nat} (present : (pageKind h.part (idx / 256)).isSome = true)
    (unmapped : findReg h.part idx = none) (p : Port) (be : Nat) (val : Word) :
    h.write p idx be val = h.refuse idx 0x02 := by
  obtain ⟨k, hk⟩ := Option.isSome_iff_exists.1 present
  unfold Hub.write
  rw [hk, unmapped]

/-- REGISTER_WRITE on an absent page (03 R79). -/
theorem State.registerWrite_absent {s : State} {idx : BitVec 16} (absent : pageKind s.hub.part (idx.toNat / 256) = none)
    (p : Port) (be : BitVec 4) (val : Word) :
    s.Refused (s.portWrite p idx.toNat be.toNat val).1 idx.toNat 0x01 := by
  refine State.refused_portWrite (not_irqWritten_of_unmapped (findReg_absent absent)) (by decide) ?_
  exact Hub.write_absent (by rwa [Hub.traffic_part]) _ _ _

/-- REGISTER_WRITE at an offset that a present page does not list (03 R80). -/
theorem State.registerWrite_unmapped {s : State} {idx : BitVec 16}
    (present : (pageKind s.hub.part (idx.toNat / 256)).isSome = true) (unmapped : findReg s.hub.part idx.toNat = none)
    (p : Port) (be : BitVec 4) (val : Word) :
    s.Refused (s.portWrite p idx.toNat be.toNat val).1 idx.toNat 0x02 := by
  refine State.refused_portWrite (not_irqWritten_of_unmapped unmapped) (by decide) ?_
  exact Hub.write_unmapped (by rwa [Hub.traffic_part]) (by rwa [Hub.traffic_part]) _ _ _

/-! ## Reads of what is not there (03 R79–R80, 16 R432–R438) -/

theorem Hub.read_absent {h : Hub} {idx : Nat} (absent : pageKind h.part (idx / 256) = none) (p : Port) :
    h.read p idx = (h, 0x00, 0) := by
  unfold Hub.read
  rw [absent]

theorem Hub.read_unmapped {h : Hub} {idx : Nat} (present : (pageKind h.part (idx / 256)).isSome = true)
    (unmapped : findReg h.part idx = none) (p : Port) : h.read p idx = (h, 0x02, 0) := by
  obtain ⟨k, hk⟩ := Option.isSome_iff_exists.1 present
  unfold Hub.read
  rw [hk, unmapped]

/-- Registers whose reads the interrupt stacks and the two-wire port answer (16 R439, 17 R453, R461). -/
def stackRead : List Nat := [IRQ_ACKE_VECTOR.idx, IRQ_ACKW_VECTOR.idx, 0x0302, 0x030B, 0x0311, 0x030C, 0x0312, 0x030D,
  0x0313, 0x030E, 0x0314, 0x0B09, 0x0B0A] ++ (List.range 8).map (0x0320 + ·)

theorem not_stackRead_of_unmapped {part : Part} {idx : Nat} (unmapped : findReg part idx = none) : idx ∉ stackRead :=
  not_mem_of_unmapped unmapped (by decide)

/-- A read that the hub refuses, of a register that no stack answers. -/
theorem State.read_status {s : State} {p : Port} {idx st : Nat} (hi : idx ∉ stackRead)
    (refused : s.hub.read p idx = (s.hub, st, 0)) (hs : st ≠ 0) : s.read p idx = (s, st, 0) := by
  have ackE : idx ≠ IRQ_ACKE_VECTOR.idx := fun e => hi (e ▸ by decide)
  have ackW : idx ≠ IRQ_ACKW_VECTOR.idx := fun e => hi (e ▸ by decide)
  unfold State.read
  dsimp only
  rw [if_neg ackE, if_neg ackW, refused, if_pos hs]

/-- No stack shows a register that it does not answer. -/
theorem State.stackShown_none {idx : Nat} (s : State) (hi : idx ∉ stackRead) : s.stackShown idx = none := by
  unfold State.stackShown
  split
  case h_12 =>
    refine if_neg fun range => hi (List.mem_append_right _ (List.mem_map.2 ⟨idx - 0x0320, List.mem_range.2 ?_, ?_⟩)) <;> omega
  all_goals exact absurd (by decide) hi

/-- A read of an absent page answers 0 with status OK (03 R79). -/
theorem State.read_absent {s : State} {idx : Nat} (absent : pageKind s.hub.part (idx / 256) = none) (p : Port) :
    s.read p idx = (s, 0x00, 0) := by
  have hi := not_stackRead_of_unmapped (findReg_absent absent)
  have ackE : idx ≠ IRQ_ACKE_VECTOR.idx := fun e => hi (e ▸ by decide)
  have ackW : idx ≠ IRQ_ACKW_VECTOR.idx := fun e => hi (e ▸ by decide)
  have noIrqs : ¬ (0x20 ≤ idx / 256 ∧ idx / 256 < 0x24 ∧ 8 ≤ idx % 256 ∧ idx % 256 < 0x48) := by
    rintro ⟨lo, hi, -⟩
    have present : ∀ q, ∀ d < 4, pageKind q (0x20 + d) ≠ none := by rintro (_ | _) <;> decide
    exact present _ (idx / 256 - 0x20) (by omega) ((congrArg _ (by omega)).trans absent)
  unfold State.read
  dsimp only
  rw [if_neg ackE, if_neg ackW, Hub.read_absent absent, if_neg (fun e => e rfl), State.stackShown_none _ hi]
  exact if_neg noIrqs

/-- A read at an offset that a present page does not list answers 0 with UNMAPPED (03 R80). -/
theorem State.read_unmapped {s : State} {idx : Nat} (present : (pageKind s.hub.part (idx / 256)).isSome = true)
    (unmapped : findReg s.hub.part idx = none) (p : Port) : s.read p idx = (s, 0x02, 0) :=
  State.read_status (not_stackRead_of_unmapped unmapped) (Hub.read_unmapped present unmapped p) (by decide)

/-- A port that is free stays free as its window closes: the quiet time begins (16 R437–R438). -/
theorem Hub.twbBusy_windowAt {h : Hub} (cyc : Nat) (free : h.twbBusy = false) : (h.windowAt cyc).twbBusy = false := by
  unfold Hub.windowAt
  split
  next closes =>
    have opened : h.twb.commit.isSome = true := by
      simp only [Bool.and_eq_true, Hub.windowOver] at closes
      cases hc : h.twb.commit with
      | none => simp [hc] at closes
      | some => rfl
    have quiet : h.cfgSafe TWB_STAT_QUIET ≠ 0 := by simpa [Hub.twbBusy, opened] using free
    have reset : bitsOf (resetWord h.part TWB_STAT_QUIET.idx) TWB_STAT_QUIET.lo TWB_STAT_QUIET.w = 0 := by
      cases h.part <;> decide
    have bad : h.windowClose.bad = h.bad := by
      simp only [Hub.windowClose, Hub.quietBegin, Hub.twb!_bad, Hub.put_bad]
    have shown : h.windowClose.get TWB_STAT_QUIET = 1 := by
      rw [Hub.windowClose, Hub.quietBegin, Hub.get_twb!, Hub.get_put_same _ _ (by decide)]
      rfl
    have closed : h.windowClose.cfgSafe TWB_STAT_QUIET = 1 := by
      unfold Hub.cfgSafe at quiet ⊢
      rw [bad]
      split
      next fails => exact absurd ((if_pos fails).trans reset) quiet
      · exact shown
    simp [Hub.twbBusy, closed]
  · exact free

theorem Hub.windowAt_part (h : Hub) (cyc : Nat) : (h.windowAt cyc).part = h.part := by
  unfold Hub.windowAt Hub.windowClose Hub.quietBegin
  split
  · simp only [Hub.twb!_part, Hub.put_part]
  · rfl

theorem Hub.windowAt_up (h : Hub) (cyc : Nat) : (h.windowAt cyc).twbUp = h.twbUp := by
  unfold Hub.windowAt Hub.windowClose Hub.quietBegin Hub.twbUp
  split
  · simp only [Hub.running, Hub.twb!_md, Hub.put_md, Hub.twb!_frm, Hub.put_frm]
  · rfl

/-- A two-wire READ that the port serves (16 R434). -/
theorem exec_twbRead_served {s : State} (on : s.hub.running = true) (straps : s.hub.frm.first = false)
    (free : s.hub.twbBusy = false) (idx : BitVec 16) (pec : Bool) (cyc : Nat) :
    exec (.twbRead idx pec cyc) s = .next ((s.hub! fun h => h.windowAt cyc).twbRead idx.toNat cyc pec) := by
  have up : (s.hub.windowAt cyc).twbUp = true := by
    rw [Hub.windowAt_up, Hub.twbUp, on, straps]
    rfl
  change execTwbRead idx pec cyc s = _
  unfold execTwbRead State.twbServe
  rw [if_neg (by simpa [State.hub!] using up), if_neg (by simp [State.hub!, Hub.twbBusy_windowAt cyc free])]

/-- The answer of a two-wire READ is that of the read (16 R434). -/
theorem State.twbRead_acc {s : State} {idx cyc st : Nat} {pec : Bool} {w : Word}
    (answer : ∀ t : State, t.hub.part = s.hub.part → (t.read .w idx).2 = (st, w)) :
    (s.twbRead idx cyc pec).hub.acc = ⟨st, w⟩ := by
  have read := answer { s.hub! (fun h => h.atCyc cyc) with hub := (s.hub.atCyc cyc).traffic } (Hub.traffic_part _)
  exact congrArg (fun r : Nat × Word => (⟨r.1, r.2⟩ : AccRes)) read

end Sys2Proof.Machine

open Sys2Proof Sys2Proof.Machine

/-- Settles O8, page by page: what is not there is in no table of the stacks, so the hub alone answers. -/
theorem absentPagesAndUnmappedOffsets : Obligations.AbsentPagesAndUnmappedOffsets := by
  unfold Obligations.AbsentPagesAndUnmappedOffsets
  intro s port idx be val pec cyc on
  refine ⟨fun absent => ⟨?_, fun straps free => ?_, ?_⟩, fun present unmapped => ⟨?_, fun straps free => ?_, ?_⟩⟩
  · rw [Hub.read_absent absent]
  · refine ⟨_, exec_twbRead_served on straps free idx pec cyc, State.twbRead_acc fun t part => ?_⟩
    rw [State.read_absent]
    rwa [part, State.hub!, Hub.windowAt_part]
  · have refused := State.registerWrite_absent absent port be val
    have onDev : s.hub.errPage idx.toNat = 0 := if_neg (by simp [absent])
    have page : s.hub.errOff idx.toNat = idx.toNat / 256 :=
      (if_neg (by simp [absent])).trans (Nat.mod_eq_of_lt (by have := idx.isLt; omega))
    have code := refused.shows.code
    have offset := refused.shows.offset
    rw [onDev] at code offset
    exact ⟨_, exec_registerWrite_on on port idx be val, refused, code, offset.trans page⟩
  · rw [Hub.read_unmapped present unmapped]
  · refine ⟨_, exec_twbRead_served on straps free idx pec cyc, State.twbRead_acc fun t part => ?_⟩
    rw [State.read_unmapped] <;> rwa [part, State.hub!, Hub.windowAt_part]
  · exact ⟨_, exec_registerWrite_on on port idx be val, State.registerWrite_unmapped present unmapped port be val⟩

end

section
/-! SUPPORT. Writes of a page's header: PG_COMMIT and PG_CTL (03 R85–R88, R95–R96). -/

namespace Sys2Proof.Machine

/-! ## Registers that a write reaches -/

/-- The part lists the register at an index, which holds its own value and has a writable field. -/
structure Part.Takes (part : Part) (idx : Nat) (d : RegDef) : Prop where
  found : findReg part idx = some d
  writable : d.fields.any (·.writable) = true
  home : homeIdx idx = idx

theorem pageKind_of_findReg {part : Part} {idx : Nat} {d : RegDef} (found : findReg part idx = some d) :
    ∃ k, pageKind part (idx / 256) = some k := by
  refine Option.ne_none_iff_exists'.1 fun absent => ?_
  rw [findReg_absent absent] at found
  exact absurd found (by simp)

theorem Hub.write_takes {h : Hub} {idx : Nat} {d : RegDef} (takes : h.part.Takes idx d) (p : Port) (be : Nat) (val : Word) :
    h.write p idx be val = if (h.writeReg p idx be val d).2 = 0 then
      ((h.writeReg p idx be val d).1.heal idx (if idx % 256 = 5 then byteMask be else d.healMask idx be) false, 0)
      else h.writeReg p idx be val d := by
  obtain ⟨k, hk⟩ := pageKind_of_findReg takes.found
  unfold Hub.write
  rw [hk, takes.found]
  exact if_neg (by simp [takes.writable, takes.home])

variable {s : State} {idx : Nat} {d : RegDef}

/-- A write that the register's rules refuse. -/
theorem State.portWrite_refused (takes : s.hub.part.Takes idx d) (hi : idx ∉ irqWritten) {p : Port} {be code : Nat}
    {val : Word} (pos : code ≠ 0) (hc : code < 256)
    (refused : s.hub.traffic.writeReg p idx be val d = s.hub.traffic.refuse idx code) :
    s.Refused (s.portWrite p idx be val).1 idx code := by
  refine State.refused_portWrite hi hc ?_
  rw [Hub.write_takes (by rwa [Hub.traffic_part]), refused, if_neg (by rwa [Hub.refuse_snd])]

/-- A write that the register's rules accept: the bytes it sets hold no error. -/
theorem State.portWrite_accepted (takes : s.hub.part.Takes idx d) (hi : idx ∉ irqWritten) {p : Port} {be : Nat}
    {val : Word} {a : Hub} (accepted : s.hub.traffic.writeReg p idx be val d = (a, 0)) :
    ∃ m, (s.portWrite p idx be val).1 = { s with hub := (a.heal idx m false).answered ⟨0, 0⟩ } := by
  refine ⟨if idx % 256 = 5 then byteMask be else d.healMask idx be, State.accepted_portWrite hi ?_⟩
  rw [Hub.write_takes (by rwa [Hub.traffic_part]), accepted]
  exact if_pos rfl

theorem Hub.pageStatus_zero (h : Hub) {idx : Nat} (be : Nat) {d : RegDef} (tst : idx / 256 ≠ 0x1E)
    (cal : idx / 256 = 0x0A → d.mask (fun f => f.writable && f.eff == .staged) = 0) : h.pageStatus idx be d = 0 := by
  unfold Hub.pageStatus
  split
  next page => exact absurd page tst
  next page => simp [cal page]
  · rfl

/-! ## The common header (03 R85) -/

/-- The register at an offset of the header. -/
def headerReg (k : PageKind) (o : Nat) : RegDef := (headerRegs k).getD o ⟨0, 0, []⟩

theorem header_div (p : Nat) {o : Nat} (ho : o < 8) : (p * 256 + o) / 256 = p := by omega
theorem header_mod (p : Nat) {o : Nat} (ho : o < 8) : (p * 256 + o) % 256 = o := by omega

theorem findReg_header {part : Part} {p o : Nat} {k : PageKind} (kind : pageKind part p = some k) (ho : o < 8) :
    findReg part (p * 256 + o) = some (headerReg k o) := by
  unfold findReg
  rw [header_div p ho, kind, header_mod p ho]
  refine (if_pos ho).trans ?_
  interval_cases o <;> rfl

theorem homeIdx_header (p : Nat) {o : Nat} (ho : o < 8) : homeIdx (p * 256 + o) = p * 256 + o := by
  unfold homeIdx
  dsimp only
  rw [header_mod p ho, if_neg (by omega), if_neg (by omega)]

theorem header_not_irqWritten (p : Nat) {o : Nat} (ho : o < 8) : p * 256 + o ∉ irqWritten := by
  simp only [irqWritten, List.mem_cons, List.not_mem_nil, or_false, not_or]
  omega

/-- PG_CTL, PG_EVT, PG_COMMIT and PG_LOCK have writable fields. -/
theorem header_takes {part : Part} {p o : Nat} {k : PageKind} (kind : pageKind part p = some k)
    (ho : o ∈ [1, 3, 5, 6]) : part.Takes (p * 256 + o) (headerReg k o) := by
  have low : o < 8 := by simp at ho; omega
  refine ⟨findReg_header kind low, ?_, homeIdx_header p low⟩
  simp only [List.mem_cons, List.not_mem_nil, or_false] at ho
  rcases ho with rfl | rfl | rfl | rfl <;> rfl

/-- Of the header only PG_COMMIT is staged. -/
theorem headerReg_unstaged (k : PageKind) {o : Nat} (ho : o ∈ [1, 3, 6]) :
    (headerReg k o).mask (fun f => f.writable && f.eff == .staged) = 0 := by
  simp only [List.mem_cons, List.not_mem_nil, or_false] at ho
  rcases ho with rfl | rfl | rfl <;> rfl

/-! ## PG_COMMIT (03 R95–R96) -/

theorem Hub.writeReg_commit (h : Hub) {p : Nat} (tst : p ≠ 0x1E) (cal : p ≠ 0x0A) (port : Port) (be : Nat) (val : Word)
    (d : RegDef) : h.writeReg port (p * 256 + 5) be val d = h.writeCommit port p be val := by
  have page := header_div p (o := 5) (by decide)
  have free : h.pageStatus (p * 256 + 5) be d = 0 :=
    h.pageStatus_zero be (by rwa [page]) (by rw [page]; exact fun e => absurd e cal)
  unfold Hub.writeReg
  dsimp only
  rw [free, header_mod p (by decide), page]
  rfl

/-- COMMIT = 1 is refused to the port that does not own the shadow, and to port W in its quiet time. -/
theorem Hub.commitStatus_one (h : Hub) (port : Port) {p : Nat} (cal : p ≠ 0x0A) : h.commitStatus port p 15 1 =
    if (h.page p).dirty = true ∧ (h.page p).src ≠ port then 0x0A
    else if (h.page p).dirty = true ∧ (!(h.page p).commit) = true ∧ h.quietRefuses port = true then 0x05 else 0 := by
  unfold Hub.commitStatus
  dsimp only
  rw [if_neg (by decide), if_neg (fun e => cal e.1)]

/-- The commit of a page awaits the tick; of port W it opens a busy window (16 R437). -/
def Hub.commitAwaits (h : Hub) (port : Port) (p : Nat) : Hub :=
  let h1 := (h.setPage p { h.page p with commit := true }).put (PG_COMMIT_RESULT.pg p) 1
  if port = .w then h1.twb! fun t => { t with commit := some p } else h1

theorem Hub.commitAwaits_page (h : Hub) (port : Port) (p q : Nat) :
    (h.commitAwaits port p).page q = if q = p then { h.page p with commit := true } else h.page q := by
  have shown : (h.commitAwaits port p).page q = (h.setPage p { h.page p with commit := true }).page q := by
    unfold Hub.commitAwaits
    dsimp only
    split <;> rfl
  rw [shown]
  split
  next same => rw [same, Hub.page_setPage_same]
  next other => exact Hub.page_setPage_ne _ _ other

theorem resultFits (p : Nat) : (PG_COMMIT_RESULT.pg p).fits := (by decide : PG_COMMIT_RESULT.fits)

theorem Hub.commitAwaits_result (h : Hub) (port : Port) (p : Nat) :
    (h.commitAwaits port p).get (PG_COMMIT_RESULT.pg p) = 1 := by
  unfold Hub.commitAwaits
  dsimp only
  split
  · rw [Hub.get_twb!, Hub.get_put_same _ _ (resultFits p)]; rfl
  · rw [Hub.get_put_same _ _ (resultFits p)]; rfl

theorem Hub.commitAwaits_window (h : Hub) (p : Nat) : (h.commitAwaits .w p).twb.commit = some p := rfl

theorem Hub.only.commitAwaits {fs : List Fld} {ps : List Nat} {a b : Hub} (port : Port) {p : Nat}
    (hf : PG_COMMIT_RESULT.pg p ∈ fs) (x : Hub.only fs ps a b) : Hub.only fs ps a (b.commitAwaits port p) := by
  have put := (x.setPage p { b.page p with commit := true }).put 1 (Fld.mayIn_self hf (resultFits p))
  exact .ite (put.twb! _) put

/-- COMMIT = 1 by the state of the page's shadow (03 R95–R96). -/
theorem Hub.writeCommit_refused {h : Hub} {port : Port} {p st : Nat} (status : h.commitStatus port p 15 1 = st) (pos : st ≠ 0) :
    h.writeCommit port p 15 1 = h.refuse (p * 256 + 5) st := by
  unfold Hub.writeCommit
  dsimp only
  rw [status]
  exact if_pos pos

theorem Hub.writeCommit_first {h : Hub} {port : Port} {p : Nat} (status : h.commitStatus port p 15 1 = 0)
    (first : (h.page p).commit = false) : h.writeCommit port p 15 1 =
      if (h.page p).dirty = true then (h.commitAwaits port p, 0) else (h.put (PG_COMMIT_RESULT.pg p) 3, 0) := by
  unfold Hub.writeCommit
  dsimp only
  rw [status, first]
  rfl

variable {port : Port} {p : Nat} {k : PageKind} (kind : pageKind s.hub.part p = some k) (tst : p ≠ 0x1E)
include kind tst

/-- A commit from the port that does not own the shadow (03 R95). -/
theorem State.pageCommit_notOwner (cal : p ≠ 0x0A) (dirty : (s.hub.page p).dirty = true)
    (other : (s.hub.page p).src ≠ port) : s.Refused (s.portWrite port (p * 256 + 5) 15 1).1 (p * 256 + 5) 0x0A := by
  refine State.portWrite_refused (header_takes kind (by decide)) (header_not_irqWritten p (by decide)) (by decide)
    (by decide) ?_
  rw [Hub.writeReg_commit _ tst cal]
  refine Hub.writeCommit_refused ?_ (by decide)
  rw [Hub.commitStatus_one _ _ cal, Hub.traffic_page]
  exact if_pos ⟨dirty, other⟩

/-- A commit of staged values waits for the tick (03 R96). -/
theorem State.pageCommit_staged (cal : p ≠ 0x0A) (first : (s.hub.page p).commit = false)
    (dirty : (s.hub.page p).dirty = true) (owner : (s.hub.page p).src = port) (free : s.hub.quietRefuses port = false) :
    ∃ m, (s.portWrite port (p * 256 + 5) 15 1).1 = { s with
      hub := ((s.hub.traffic.commitAwaits port p).heal (p * 256 + 5) m false).answered ⟨0, 0⟩ } := by
  refine State.portWrite_accepted (header_takes kind (by decide)) (header_not_irqWritten p (by decide)) ?_
  have quiet : s.hub.traffic.quietRefuses port = false :=
    (s.hub.of_traffic (·.quietRefuses port) fun _ _ _ _ => rfl).trans free
  have status : s.hub.traffic.commitStatus port p 15 1 = 0 := by
    rw [Hub.commitStatus_one _ _ cal, Hub.traffic_page, if_neg (fun e => e.2 owner), quiet]
    exact if_neg (by simp)
  rw [Hub.writeReg_commit _ tst cal, Hub.writeCommit_first status (by rwa [Hub.traffic_page]), Hub.traffic_page]
  exact if_pos dirty

/-- A commit of a page with nothing staged (03 R96). -/
theorem State.pageCommit_clean (cal : p ≠ 0x0A) (first : (s.hub.page p).commit = false)
    (clean : (s.hub.page p).dirty = false) :
    ∃ m, (s.portWrite port (p * 256 + 5) 15 1).1 = { s with
      hub := ((s.hub.traffic.put (PG_COMMIT_RESULT.pg p) 3).heal (p * 256 + 5) m false).answered ⟨0, 0⟩ } := by
  refine State.portWrite_accepted (header_takes kind (by decide)) (header_not_irqWritten p (by decide)) ?_
  have status : s.hub.traffic.commitStatus port p 15 1 = 0 := by
    rw [Hub.commitStatus_one _ _ cal, Hub.traffic_page, clean]
    simp
  rw [Hub.writeReg_commit _ tst cal, Hub.writeCommit_first status (by rwa [Hub.traffic_page]), Hub.traffic_page]
  exact if_neg (by simp [clean])

end Sys2Proof.Machine
end

section
/-! SUPPORT. Writes of PG_CTL (03 R85–R88). -/

namespace Sys2Proof.Machine

/-! ## The word of PG_CTL -/

/-- A word of PG_CTL by its fields. -/
def ctlWord (en view rel srst : Bool) (key : Nat) : Word :=
  wordOf (boolNat en + 2 * boolNat view + 4 * boolNat rel + 8 * boolNat srst + key * 2 ^ 24)

theorem wordOf_eq_ctlWord {en view rel srst : Bool} {key v : Nat}
    (sum : v = boolNat en + 2 * boolNat view + 4 * boolNat rel + 8 * boolNat srst + key * 2 ^ 24) :
    wordOf v = ctlWord en view rel srst key := congrArg wordOf sum

theorem boolNat_true : boolNat true = 1 := rfl
theorem boolNat_false : boolNat false = 0 := rfl
theorem boolNat_lt (b : Bool) : boolNat b < 2 := by cases b <;> decide
theorem boolNat_beq_one (b : Bool) : (boolNat b == 1) = b := by cases b <;> rfl

section
variable (en view rel srst : Bool) {key : Nat} (byte : key < 256)
include byte

/-- The number that a word of PG_CTL stands for. -/
theorem ctlWord_toNat : (ctlWord en view rel srst key).toNat =
    boolNat en + 2 * boolNat view + 4 * boolNat rel + 8 * boolNat srst + key * 2 ^ 24 := by
  have := boolNat_lt en
  have := boolNat_lt view
  have := boolNat_lt rel
  have := boolNat_lt srst
  rw [ctlWord, wordOf, BitVec.toNat_ofNat]
  exact Nat.mod_eq_of_lt (by omega)

theorem bitsOf_ctlWord :
    bitsOf (ctlWord en view rel srst key) 0 1 = boolNat en ∧ bitsOf (ctlWord en view rel srst key) 1 1 = boolNat view
    ∧ bitsOf (ctlWord en view rel srst key) 2 1 = boolNat rel ∧ bitsOf (ctlWord en view rel srst key) 3 1 = boolNat srst
    ∧ bitsOf (ctlWord en view rel srst key) 24 8 = key := by
  have := boolNat_lt en
  have := boolNat_lt view
  have := boolNat_lt rel
  have := boolNat_lt srst
  simp only [bitsOf, ctlWord_toNat en view rel srst byte]
  omega

end

/-! ## How PG_CTL is judged (03 R87–R88) -/

/-- The status of EN, REL and SRST of one write, in this order (03 R83). -/
def Hub.ctlCode (h : Hub) (p : Nat) (fixed en rel srst : Bool) (key : Nat) : Nat :=
  firstStatus [
    if fixed then 0 else h.enStatus p en rel,
    if !rel then 0 else if key ≠ 0xFE then 0x0E else if h.fenced p && !h.allCleared p then 0x0D else 0,
    if srst then h.srstStatus p else 0]

theorem Hub.pgCtlStatus_ctlWord (h : Hub) (p : Nat) {be : Nat} (fixed en view rel srst : Bool) {key : Nat} (byte : key < 256)
    (low : be.testBit 0 = true) (high : rel = true → be.testBit 3 = true) :
    h.pgCtlStatus p be (ctlWord en view rel srst key) fixed = h.ctlCode p fixed en rel srst key := by
  obtain ⟨hen, -, hrel, hsrst, hkey⟩ := bitsOf_ctlWord en view rel srst byte
  unfold Hub.pgCtlStatus Hub.ctlCode
  rw [hen, hrel, hsrst, hkey, low, boolNat_beq_one, boolNat_beq_one]
  cases rel
  · cases srst <;> rfl
  · rw [high rfl]
    cases srst <;> rfl

theorem Hub.srstStatus_traffic (h : Hub) (p : Nat) : h.traffic.srstStatus p = h.srstStatus p :=
  h.of_traffic (·.srstStatus p) fun _ _ _ _ => by
    unfold Hub.srstStatus Hub.pgState
    dsimp only
    cases pageKind h.part p with
    | none => rfl
    | some k => cases k <;> rfl

theorem Hub.ctlCode_traffic (h : Hub) (p : Nat) (fixed en rel srst : Bool) (key : Nat) :
    h.traffic.ctlCode p fixed en rel srst key = h.ctlCode p fixed en rel srst key := by
  unfold Hub.ctlCode
  rw [h.srstStatus_traffic, h.of_traffic (·.enStatus p en rel) fun _ _ _ _ => rfl,
    h.of_traffic (·.fenced p) fun _ _ _ _ => rfl, h.of_traffic (·.allCleared p) fun _ _ _ _ => rfl]

theorem firstStatus_zero (l : List Nat) : firstStatus (0 :: l) = firstStatus l := if_pos rfl

/-- EN is not judged where it is fixed; elsewhere no sequence may hold the page, the charger needs its profile, and a
fenced page is enabled only by a write that releases it (03 R88, 11 R299, 12 R328). -/
theorem Hub.enStatus_zero {h : Hub} {p : Nat} {k : PageKind} {on rel : Bool}
    (held : k.enFixed = true ∨ h.seqHolds p = false ∧ (p = 0x10 → h.chg.committed = true))
    (free : k.enFixed = true ∨ on = false ∨ h.fenced p = false ∨ rel = true) :
    (if k.enFixed = true then 0 else h.enStatus p on rel) = 0 := by
  by_cases fixed : k.enFixed = true
  · exact if_pos fixed
  · obtain ⟨seq, profile⟩ := held.resolve_left fixed
    have unfenced : ¬ (on = true ∧ h.fenced p = true ∧ (!rel) = true) := by
      rintro ⟨rfl, fenced, unreleased⟩
      simp [fixed, fenced] at free
      simp [free] at unreleased
    have profiled : ¬ (p = 0x10 ∧ on = true ∧ (!h.chg.committed) = true) := fun e => by simp [profile e.1] at e
    rw [if_neg fixed]
    unfold Hub.enStatus
    rw [if_neg unfenced, seq, if_neg (by simp), if_neg profiled]

/-! ## What PG_CTL takes for the tick -/

/-- The views with the one that a port takes next. -/
def PortViews.withNext (v : PortViews) (port : Port) (view : Bool) : PortViews :=
  match port with | .e => { v with nextE := view } | .w => { v with nextW := view }

/-- The hub after a write of PG_CTL that is accepted: VIEW, REL, SRST and EN wait for the tick. -/
def Hub.ctlTaken (h : Hub) (port : Port) (p : Nat) (fixed en view rel srst : Bool) : Hub :=
  (h.views! fun v => v.withNext port view).setPage p
    { h.page p with rel := rel, srst := if srst then some port else none,
                    en := if fixed then none else if srst then (h.page p).en else some (en, 1) }

theorem Hub.writePgCtl_ctlWord {h : Hub} {p : Nat} {k : PageKind} (kind : pageKind h.part p = some k) (port : Port) {be : Nat}
    (en view rel srst : Bool) {key : Nat} (byte : key < 256) (low : be.testBit 0 = true)
    (high : rel = true → be.testBit 3 = true) :
    h.writePgCtl port p be (ctlWord en view rel srst key) = if h.ctlCode p k.enFixed en rel srst key ≠ 0
      then h.refuse (p * 256 + 1) (h.ctlCode p k.enFixed en rel srst key)
      else (h.ctlTaken port p k.enFixed en view rel srst, 0) := by
  obtain ⟨hen, hview, hrel, hsrst, -⟩ := bitsOf_ctlWord en view rel srst byte
  unfold Hub.writePgCtl
  rw [kind]
  dsimp only
  rw [h.pgCtlStatus_ctlWord p k.enFixed en view rel srst byte low high, low, hen, hview, hrel, hsrst]
  simp only [boolNat_beq_one]
  rfl

theorem Hub.writeReg_ctl (h : Hub) {p : Nat} (tst : p ≠ 0x1E) (port : Port) (be : Nat) (val : Word) (k : PageKind) :
    h.writeReg port (p * 256 + 1) be val (headerReg k 1) = h.writePgCtl port p be val := by
  have page := header_div p (o := 1) (by decide)
  have free : h.pageStatus (p * 256 + 1) be (headerReg k 1) = 0 :=
    h.pageStatus_zero be (by rwa [page]) (fun _ => headerReg_unstaged k (by decide))
  unfold Hub.writeReg
  dsimp only
  rw [free, header_mod p (by decide), page]
  rfl

/-- A write of PG_CTL has been taken: it waits in the page's header and in the port's view. -/
structure State.CtlTaken (s t : State) (port : Port) (p : Nat) (fixed en view rel srst : Bool) : Prop where
  answer : t.hub.acc = ⟨0, 0⟩
  page : t.hub.page p = { s.hub.page p with rel := rel, srst := if srst then some port else none,
                                            en := if fixed then none else if srst then (s.hub.page p).en else some (en, 1) }
  others : ∀ q, q ≠ p → t.hub.page q = s.hub.page q
  views : t.hub.views = s.hub.views.withNext port view
  frame : s.frame [] [] t

section
variable {s : State} {p : Nat} {k : PageKind} (kind : pageKind s.hub.part p = some k) (tst : p ≠ 0x1E) (port : Port) {be : Nat}
  {en rel srst : Bool} (view : Bool) {key : Nat} (byte : key < 256) (low : be.testBit 0 = true)
  (high : rel = true → be.testBit 3 = true)
include kind tst byte low high

theorem State.pgCtl_refused {st : Nat} (code : s.hub.ctlCode p k.enFixed en rel srst key = st) (pos : st ≠ 0)
    (lt : st < 256) :
    s.Refused (s.portWrite port (p * 256 + 1) be (ctlWord en view rel srst key)).1 (p * 256 + 1) st := by
  refine State.portWrite_refused (header_takes kind (by decide)) (header_not_irqWritten p (by decide)) pos lt ?_
  rw [Hub.writeReg_ctl _ tst, Hub.writePgCtl_ctlWord (by rwa [Hub.traffic_part]) port en view rel srst byte low high,
    Hub.ctlCode_traffic, code]
  exact if_pos pos

theorem State.pgCtl_taken (code : s.hub.ctlCode p k.enFixed en rel srst key = 0) :
    s.CtlTaken (s.portWrite port (p * 256 + 1) be (ctlWord en view rel srst key)).1 port p k.enFixed en view rel srst := by
  have accepted : s.hub.traffic.writeReg port (p * 256 + 1) be (ctlWord en view rel srst key) (headerReg k 1)
      = (s.hub.traffic.ctlTaken port p k.enFixed en view rel srst, 0) := by
    rw [Hub.writeReg_ctl _ tst, Hub.writePgCtl_ctlWord (by rwa [Hub.traffic_part]) port en view rel srst byte low high,
      Hub.ctlCode_traffic, code]
    exact if_neg (by simp)
  obtain ⟨m, out⟩ := State.portWrite_accepted (header_takes kind (by decide)) (header_not_irqWritten p (by decide)) accepted
  rw [out]
  refine ⟨rfl, ?_, fun q other => ?_, ?_, State.frame_hub ?_⟩
  · change ((s.hub.traffic.ctlTaken port p k.enFixed en view rel srst).heal (p * 256 + 1) m false).page p = _
    rw [Hub.heal_page, Hub.ctlTaken, Hub.page_setPage_same, Hub.traffic_page]
  · change ((s.hub.traffic.ctlTaken port p k.enFixed en view rel srst).heal (p * 256 + 1) m false).page q = _
    rw [Hub.heal_page, Hub.ctlTaken, Hub.page_setPage_ne _ _ other]
    exact Hub.traffic_page s.hub q
  · change ((s.hub.traffic.ctlTaken port p k.enFixed en view rel srst).heal (p * 256 + 1) m false).views = _
    rw [Hub.heal_views, ← s.hub.traffic_views]
    rfl
  · exact ((((Hub.only.refl [] [] s.hub).traffic.views! _).setPage p _).heal _ m false).answered _

end

/-! ## The commands that write PG_CTL -/

theorem exec_fenceRelease_on {s : State} (on : s.hub.running = true) (port : Port) (page key : BitVec 8) :
    exec (.fenceRelease port page key) s = .next (s.portWrite port (page.toNat * 256 + 1) 9
      (ctlWord (s.hub.enShown page.toNat) (s.hub.viewNext port) true false key.toNat)).1 := by
  have word : wordOf (s.hub.ctlBase page.toNat port + 4 + key.toNat * 2 ^ 24)
      = ctlWord (s.hub.enShown page.toNat) (s.hub.viewNext port) true false key.toNat :=
    wordOf_eq_ctlWord (by rw [Hub.ctlBase, boolNat_true, boolNat_false])
  rw [← word]
  exact State.rowWrite_on _ _ _ _ on

theorem exec_softReset_on {s : State} (on : s.hub.running = true) (port : Port) (page : BitVec 8) :
    exec (.softReset port page) s = .next (s.portWrite port (page.toNat * 256 + 1) 1
      (ctlWord false (s.hub.viewNext port) false true 0)).1 := by
  have word : wordOf (s.hub.ctlBase page.toNat port / 2 * 2 + 8) = ctlWord false (s.hub.viewNext port) false true 0 :=
    wordOf_eq_ctlWord (by
      have := boolNat_lt (s.hub.enShown page.toNat)
      rw [Hub.ctlBase, boolNat_true, boolNat_false]
      omega)
  rw [← word]
  exact State.rowWrite_on _ _ _ _ on

theorem exec_pageEnable_on {s : State} (on : s.hub.running = true) (port : Port) (page : BitVec 8) (en : Bool) :
    exec (.pageEnable port page en) s = .next (s.portWrite port (page.toNat * 256 + 1) 1
      (ctlWord en (s.hub.viewNext port) false false 0)).1 := by
  have word : wordOf (s.hub.ctlBase page.toNat port / 2 * 2 + boolNat en) = ctlWord en (s.hub.viewNext port) false false 0 :=
    wordOf_eq_ctlWord (by
      have := boolNat_lt (s.hub.enShown page.toNat)
      rw [Hub.ctlBase, boolNat_false]
      omega)
  rw [← word]
  exact State.rowWrite_on _ _ _ _ on

theorem exec_viewSelect_on {s : State} (on : s.hub.running = true) (port : Port) (page : BitVec 8) (view : Bool) :
    exec (.viewSelect port page view) s = .next (s.portWrite port (page.toNat * 256 + 1) 1
      (ctlWord (s.hub.enShown page.toNat) view false false 0)).1 := by
  have word : wordOf (s.hub.ctlBase page.toNat port % 2 + 2 * boolNat view)
      = ctlWord (s.hub.enShown page.toNat) view false false 0 :=
    wordOf_eq_ctlWord (by
      have := boolNat_lt (s.hub.enShown page.toNat)
      rw [Hub.ctlBase, boolNat_false]
      omega)
  rw [← word]
  exact State.rowWrite_on _ _ _ _ on

end Sys2Proof.Machine
end

section
/-! SUPPORT. Bits of masks, and writes that take their course by the classes of their fields alone (03 R83, R92, R95). -/

namespace Sys2Proof.Machine

/-! ## Bits of a word -/

theorem bitsOf_eq_extract (w : Word) (lo n : Nat) : bitsOf w lo n = (w.extractLsb' lo n).toNat := by
  rw [BitVec.extractLsb'_toNat, Nat.shiftRight_eq_div_pow]
  rfl

/-- A field depends on its own bits alone. -/
theorem bitsOf_congr {a b : Word} {lo n : Nat} (bits : ∀ i < n, a.getLsbD (lo + i) = b.getLsbD (lo + i)) :
    bitsOf a lo n = bitsOf b lo n := by
  rw [bitsOf_eq_extract, bitsOf_eq_extract]
  congr 1
  ext i hi
  simpa using bits i hi

/-- A field whose bits are all set. -/
theorem bitsOf_full {a : Word} {lo n : Nat} (bits : ∀ i < n, a.getLsbD (lo + i) = true) : bitsOf a lo n = 2 ^ n - 1 := by
  have ones : a.extractLsb' lo n = BitVec.allOnes n := by
    ext i hi
    simpa using bits i hi
  rw [bitsOf_eq_extract, ones, BitVec.toNat_allOnes]

theorem FldDef.getLsbD_mask (f : FldDef) (i : Nat) (hi : i < 32) :
    f.mask.getLsbD i = decide (f.lo ≤ i ∧ i < f.lo + f.w) := by
  unfold FldDef.mask
  rw [BitVec.getLsbD_ofNat, Nat.testBit_mul_two_pow, Nat.testBit_two_pow_sub_one]
  simp only [hi, decide_true, Bool.true_and]
  rw [← Bool.decide_and]
  exact decide_eq_decide.2 (by omega)

/-- Where a field lies in its word, its mask has its bits. -/
theorem FldDef.mask_inside {f : FldDef} (fits : f.lo + f.w ≤ 32) : ∀ i < f.w, f.mask.getLsbD (f.lo + i) = true :=
  fun i hi => by simp [f.getLsbD_mask (f.lo + i) (by omega), hi]

theorem FldDef.mask_ne_zero {f : FldDef} (fits : f.lo + f.w ≤ 32) (pos : 0 < f.w) : f.mask ≠ 0 := fun e => by
  have bit := FldDef.mask_inside fits 0 pos
  rw [e] at bit
  simp at bit

theorem byteMask_all : byteMask 15 = BitVec.allOnes 32 := by decide

/-- A write of four bytes leaves nothing of the word before it. -/
theorem writeOver_all (old val : Word) : writeOver old val 15 = val := by
  rw [writeOver, byteMask_all, BitVec.not_allOnes, BitVec.and_zero, BitVec.zero_or, BitVec.and_allOnes]

/-- The bits that a mask takes from the second of two words. -/
theorem bitsOf_merge {m old val : Word} {lo n : Nat} (set : ∀ i < n, m.getLsbD (lo + i) = true) :
    bitsOf ((old &&& ~~~ m) ||| (val &&& m)) lo n = bitsOf val lo n :=
  bitsOf_congr fun i hi => by simp [set i hi]

theorem bitsOf_or_full {m x : Word} {lo n : Nat} (set : ∀ i < n, m.getLsbD (lo + i) = true) :
    bitsOf (x ||| m) lo n = 2 ^ n - 1 := bitsOf_full fun i hi => by simp [set i hi]

/-! ## Masks of registers -/

theorem RegDef.mask_single {d : RegDef} {f : FldDef} (fields : d.fields = [f]) (c : FldDef → Bool) :
    d.mask c = if c f = true then f.mask else 0 := by
  unfold RegDef.mask FldDef.mask
  rw [fields]
  simp only [List.foldl_cons, List.foldl_nil, Nat.zero_add]
  split <;> rfl

/-! ## Writes that await the tick (03 R92) -/

theorem Hub.pendPut_eq (h : Hub) (p : Port) (idx : Nat) (mask val clr : Word) :
    h.pendPut p idx mask val clr = h.pend! fun _ => (h.pendPut p idx mask val clr).pend := by
  unfold Hub.pendPut
  split <;> rfl

/-- The bits that are written wait beside what waited before. -/
theorem Hub.find_pendPut (h : Hub) (p : Port) (idx : Nat) {mask clr : Word} (val : Word) (written : ¬ (mask = 0 ∧ clr = 0)) :
    ∃ m v c, mapFind (h.pendPut p idx mask val clr).pend idx
      = some ⟨m ||| mask, (v &&& ~~~ mask) ||| (val &&& mask), c ||| clr, p⟩ := by
  unfold Hub.pendPut
  rw [if_neg written]
  exact ⟨_, _, _, mapFind_mapPut_same ..⟩

theorem Hub.find_pendPut_ne (h : Hub) (p : Port) {idx i : Nat} (mask val clr : Word) (other : i ≠ idx) :
    mapFind (h.pendPut p idx mask val clr).pend i = mapFind h.pend i := by
  unfold Hub.pendPut
  split
  · rfl
  · exact mapFind_mapPut_ne _ _ other

theorem Hub.only.pendPut {fs : List Fld} {ps : List Nat} {a b : Hub} {f : Fld} (hf : f ∈ fs) (p : Port) (mask val clr : Word)
    (x : Hub.only fs ps a b) : Hub.only fs ps a (b.pendPut p f.idx mask val clr) := by
  refine x.trans ⟨?_, fun g _ _ _ => ?_, fun i away _ => ?_, fun _ => ?_⟩
  · rw [Hub.pendPut_eq]; rfl
  · rw [Hub.pendPut_eq]; rfl
  · exact b.find_pendPut_ne p mask val clr (away f hf).symm
  · rw [Hub.pendPut_eq]; rfl

/-- The hub after a port's write whose bits await the tick: traffic before, the bytes set hold no error, and OK. -/
def Hub.waiting (h : Hub) (p : Port) (idx : Nat) (mask val clr m : Word) : Hub :=
  (((h.traffic.heal idx 0 true).pendPut p idx mask val clr).heal idx m false).answered ⟨0, 0⟩

section
variable (h : Hub) (p : Port) (idx : Nat) (mask val clr m : Word)

theorem Hub.waiting_pend : (h.waiting p idx mask val clr m).pend
    = ((h.traffic.heal idx 0 true).pendPut p idx mask val clr).pend := Hub.heal_pend ..

/-- A field whose bits the write sets awaits the tick with the value written. -/
theorem Hub.waiting_awaits {f : Fld} {v : Nat} (pos : 0 < f.w) (set : ∀ i < f.w, mask.getLsbD (f.lo + i) = true)
    (value : bitsOf val f.lo f.w = v) : (h.waiting p f.idx mask val clr m).awaits f v := by
  have written : ¬ (mask = 0 ∧ clr = 0) := by
    rintro ⟨rfl, -⟩
    simpa using set 0 pos
  obtain ⟨x, v, c, found⟩ := (h.traffic.heal f.idx 0 true).find_pendPut p f.idx val written
  rw [← Hub.waiting_pend h p f.idx mask val clr m] at found
  exact ⟨_, found, bitsOf_or_full set, (bitsOf_merge set).trans value⟩

/-- A bit that the write clears awaits the tick. -/
theorem Hub.waiting_clears {i : Nat} (bit : clr.getLsbD i = true) :
    ∃ w, mapFind (h.waiting p idx mask val clr m).pend idx = some w ∧ w.clr.getLsbD i = true := by
  have written : ¬ (mask = 0 ∧ clr = 0) := by
    rintro ⟨-, rfl⟩
    simp at bit
  obtain ⟨x, v, c, found⟩ := (h.traffic.heal idx 0 true).find_pendPut p idx val written
  rw [← Hub.waiting_pend h p idx mask val clr m] at found
  exact ⟨_, found, by simp [bit]⟩

theorem Hub.waiting_pend_ne {i : Nat} (other : i ≠ idx) :
    mapFind (h.waiting p idx mask val clr m).pend i = mapFind h.pend i := by
  rw [Hub.waiting_pend, Hub.find_pendPut_ne _ _ _ _ _ other, Hub.heal_pend, Hub.traffic_pend]

theorem Hub.waiting_regs : (h.waiting p idx mask val clr m).regs = h.regs := by
  change (((h.traffic.heal idx 0 true).pendPut p idx mask val clr).heal idx m false).regs = _
  rw [Hub.heal_regs, Hub.pendPut_eq, Hub.pend!_regs, Hub.heal_regs, Hub.traffic_regs]

theorem Hub.waiting_rcd : (h.waiting p idx mask val clr m).rcd = h.rcd := by
  change (((h.traffic.heal idx 0 true).pendPut p idx mask val clr).heal idx m false).rcd = _
  rw [Hub.heal_rcd, Hub.pendPut_eq, Hub.pend!_rcd, Hub.heal_rcd, Hub.traffic_rcd]

end

theorem Hub.only.waiting {fs : List Fld} {ps : List Nat} (h : Hub) {f : Fld} (hf : f ∈ fs) (p : Port)
    (mask val clr m : Word) : Hub.only fs ps h (h.waiting p f.idx mask val clr m) :=
  ((((Hub.only.refl fs ps h).traffic.heal _ _ _).pendPut hf p mask val clr).heal _ _ _).answered _

/-! ## Registers without rules of their own -/

/-- Registers that have a rule of their own besides the classes of their fields. -/
def ruled : List Nat := [KEY_CTL_OP.idx, WDT_CHECKIN_KEY.idx, DEV_PROFILE_PROFILE.idx, DEV_MODEREQ_REQ.idx, DEV_SHIP_KEY.idx,
  CLK_SEL_PLLREF.idx, CLK_FMCTL_START.idx, RTC_CTL_HALT.idx, SEQ_CMD_CMD.idx, LB_SYNC_SRC.idx, STR_CTL_REENUM.idx,
  CAL_FCMD_GO.idx, ADC_HREQ_GO.idx, ADC_HRES_DONE.idx, SEC_APP0_W0.idx, SEC_APP1_W1.idx]

/-- A register whose writes the classes of its fields decide alone. -/
structure Ordinary (idx : Nat) : Prop where
  unruled : idx ∉ ruled
  notCtl : idx % 256 ≠ 1
  notCommit : idx % 256 ≠ 5
  notEnable : ¬ ((idx / 256 = 0x10 ∨ 0x40 ≤ idx / 256) ∧ idx % 256 = 8)
  notSupply : ¬ (idx / 256 = pgSUP ∧ 0x10 ≤ idx % 256 ∧ idx % 256 < 0x28)
  notIrq : idx ∉ irqWritten

theorem Ordinary.special_nil {idx : Nat} (plain : Ordinary idx) (h : Hub) (p : Port) (be : Nat) (w new : Word) :
    h.special p idx be w new = [] := by
  have unruled := plain.unruled
  simp only [ruled, List.mem_cons, List.not_mem_nil, or_false, not_or] at unruled
  unfold Hub.special
  dsimp only
  simp only [unruled, plain.notSupply, if_false]

theorem Ordinary.acts_eq {idx : Nat} (plain : Ordinary idx) (h : Hub) (p : Port) (be : Nat) (val : Word) (d : RegDef) :
    h.acts p idx be val d = (h.accept p idx be val d, 0) := by
  have unruled := plain.unruled
  simp only [ruled, List.mem_cons, List.not_mem_nil, or_false, not_or] at unruled
  have enable : ¬ (idx / 256 = 0x10 ∧ idx % 256 = 0x08 ∨ 0x40 ≤ idx / 256 ∧ idx % 256 = 0x08) := fun e =>
    plain.notEnable (by omega)
  unfold Hub.acts
  dsimp only
  simp only [unruled, enable, false_and, if_false]

theorem Ordinary.writeReg_eq {idx : Nat} (plain : Ordinary idx) {h : Hub} {be : Nat} {d : RegDef}
    (free : h.pageStatus idx be d = 0) (p : Port) (val : Word) {st : Nat}
    (status : lowestStatus (h.fieldsStatus p idx be val d ++ [(0, 0)]) = st) :
    h.writeReg p idx be val d = if st ≠ 0 then h.refuse idx st else (h.accept p idx be val d, 0) := by
  have unruled := plain.unruled
  simp only [ruled, List.mem_cons, List.not_mem_nil, or_false, not_or] at unruled
  have enable : ((idx / 256 == 0x10 || decide (0x40 ≤ idx / 256)) && idx % 256 == 8 && be.testBit 0) = false := by
    refine Bool.eq_false_iff.2 fun en => plain.notEnable ?_
    simp only [Bool.and_eq_true, Bool.or_eq_true, beq_iff_eq, decide_eq_true_eq] at en
    exact en.1
  unfold Hub.writeReg
  dsimp only
  rw [free, plain.special_nil, plain.acts_eq, enable]
  simp only [unruled, plain.notCtl, plain.notCommit, if_false, and_false, Bool.false_eq_true, status]
  simp

end Sys2Proof.Machine
end

section
/-! SUPPORT. Fields as a write is judged, and ordinary writes as they are accepted (03 R82–R83, R92). -/

namespace Sys2Proof.Machine

/-! ## Statuses -/

/-- Where no field refuses, the write is accepted. -/
theorem lowestStatus_zero {l : List (Nat × Nat)} (none : ∀ e ∈ l, e.2 = 0) : lowestStatus l = 0 := by
  have kept : ∀ a : Nat × Nat, l.foldl (fun a e => if e.2 ≠ 0 ∧ (a.2 = 0 ∨ e.1 < a.1) then e else a) a = a := by
    induction l with
    | nil => exact fun _ => rfl
    | cons e l ih =>
      intro a
      rw [List.foldl_cons, if_neg (fun refused => refused.1 (none e (by simp)))]
      exact ih (fun e' he' => none e' (by simp [he'])) a
  unfold lowestStatus
  rw [kept]

/-- The one field of a register decides. -/
theorem lowestStatus_single (lo st : Nat) : lowestStatus [(lo, st), (0, 0)] = st := by
  by_cases zero : st = 0
  · exact (lowestStatus_zero (by simp [zero])).trans zero.symm
  · simp [lowestStatus, zero]

section
variable (h : Hub) (p : Port) (idx : Nat) (val : Word) {f : FldDef}

/-- A Live field that takes every value accepts every write. -/
theorem Hub.fieldStatus_any (be : Nat) (live : f.eff = .live) (any : f.lim = .any) : h.fieldStatus p idx be val f = 0 := by
  unfold Hub.fieldStatus
  simp [live, any, Lim.ok]

theorem Hub.fieldNew_all : h.fieldNew p idx 15 val f = bitsOf val f.lo f.w := by
  unfold Hub.fieldNew
  dsimp only
  rw [writeOver_all]

variable (acc : f.acc = .rw) (fits : f.lo + f.w ≤ 32) (pos : 0 < f.w)
include acc fits pos

theorem FldDef.touched : (!f.writable || f.mask &&& byteMask 15 == 0) = false := by
  have set : (f.mask &&& byteMask 15 == 0) = false := by
    rw [byteMask_all, BitVec.and_allOnes]
    exact beq_false_of_ne (FldDef.mask_ne_zero fits pos)
  rw [set, FldDef.writable, acc]
  rfl

/-- A Live field is judged by its range alone. -/
theorem Hub.fieldStatus_live (live : f.eff = .live) : h.fieldStatus p idx 15 val f =
    if f.lim.ok h.part f.w (bitsOf val f.lo f.w) = true then 0 else 0x04 := by
  unfold Hub.fieldStatus
  dsimp only
  rw [FldDef.touched acc fits pos, Hub.fieldNew_all, live]
  cases f.lim.ok h.part f.w (bitsOf val f.lo f.w) <;> rfl

/-- A Staged field in range is judged by the page's lock, its commit and the owner of its shadow (03 R95). -/
theorem Hub.fieldStatus_staged (staged : f.eff = .staged) (ok : f.lim.ok h.part f.w (bitsOf val f.lo f.w) = true) :
    h.fieldStatus p idx 15 val f =
      if h.flag (PG_LOCK_CFG.pg (idx / 256)) = true then 0x08
      else if (h.page (idx / 256)).commit = true then 0x09
      else if (h.page (idx / 256)).dirty = true ∧ (h.page (idx / 256)).src ≠ p then 0x0A else 0 := by
  unfold Hub.fieldStatus
  dsimp only
  rw [FldDef.touched acc fits pos, Hub.fieldNew_all, ok, staged]
  simp

end

/-! ## Ordinary writes -/

/-- Bits of a write that wait as they are written. -/
def RegDef.plainBits (d : RegDef) (be : Nat) (val : Word) : Word :=
  d.mask (fun f => (f.acc == .rw || f.acc == .wo) && f.eff != .staged && f.eff != .none) &&& byteMask be
    ||| d.mask (fun f => f.acc == .rwo && f.eff == .live) &&& byteMask be &&& val

/-- The register has no Staged field and none that is written once. -/
structure RegDef.Plain (d : RegDef) : Prop where
  unstaged : d.mask (fun f => f.writable && f.eff == .staged) = 0#32
  noOnce : d.mask (fun f => f.acc == .rwo && f.eff == .once) = 0#32

theorem RegDef.Plain.accept_eq {d : RegDef} (plain : d.Plain) (h : Hub) (p : Port) (idx be : Nat) (val : Word) :
    h.accept p idx be val d = (h.heal idx 0 true).pendPut p idx (d.plainBits be val) val
      (d.mask (·.acc == .w1c) &&& byteMask be &&& val) := by
  unfold Hub.accept
  dsimp only
  rw [plain.unstaged, plain.noOnce]
  rw [BitVec.zero_and, BitVec.or_zero]
  rfl

/-- An ordinary write that no field refuses waits for the tick. -/
theorem State.portWrite_waits {s : State} {idx : Nat} {d : RegDef} (takes : s.hub.part.Takes idx d) (ordinary : Ordinary idx)
    (plain : d.Plain) (tst : idx / 256 ≠ 0x1E) {p : Port} {be : Nat} {val : Word}
    (status : lowestStatus (s.hub.traffic.fieldsStatus p idx be val d ++ [(0, 0)]) = 0) :
    ∃ m, (s.portWrite p idx be val).1 = { s with
      hub := s.hub.waiting p idx (d.plainBits be val) val (d.mask (·.acc == .w1c) &&& byteMask be &&& val) m } := by
  refine State.portWrite_accepted takes ordinary.notIrq ?_
  have free := s.hub.traffic.pageStatus_zero be (d := d) tst fun _ => plain.unstaged
  rw [ordinary.writeReg_eq free p val status, plain.accept_eq]
  exact if_neg (by simp)

/-! ## PG_LOCK and PG_EVT (03 R85, R89) -/

theorem header_ordinary (p : Nat) {o : Nat} (ho : o ∈ [3, 6]) : Ordinary (p * 256 + o) := by
  have low : o < 8 := by simp at ho; omega
  have off := header_mod p low
  have ruled_high : ∀ i ∈ ruled, 8 ≤ i % 256 := by decide
  refine ⟨fun e => ?_, ?_, ?_, ?_, ?_, header_not_irqWritten p low⟩
  · have := ruled_high _ e
    omega
  · rw [off]; rintro rfl; simp at ho
  · rw [off]; rintro rfl; simp at ho
  · rw [off]; omega
  · rw [off]; omega

theorem header_plain (k : PageKind) {o : Nat} (ho : o ∈ [3, 6]) : (headerReg k o).Plain := by
  simp only [List.mem_cons, List.not_mem_nil, or_false] at ho
  rcases ho with rfl | rfl <;> exact ⟨rfl, rfl⟩

theorem header_accepts (h : Hub) (p : Port) (idx be : Nat) (val : Word) (k : PageKind) {o : Nat} (ho : o ∈ [3, 6]) :
    lowestStatus (h.fieldsStatus p idx be val (headerReg k o) ++ [(0, 0)]) = 0 := by
  have live : ∀ f ∈ (headerReg k o).fields, f.eff = .live ∧ f.lim = .any := by
    simp only [List.mem_cons, List.not_mem_nil, or_false] at ho
    rcases ho with rfl | rfl <;> simp [headerReg, headerRegs]
  refine lowestStatus_zero fun e he => ?_
  rcases List.mem_append.1 he with field | last
  · obtain ⟨f, hf, rfl⟩ := List.mem_map.1 field
    exact h.fieldStatus_any p idx val be (live f hf).1 (live f hf).2
  · rw [List.mem_singleton.1 last]

theorem lock_bits (k : PageKind) (val : Word) : (headerReg k 6).plainBits 15 val = 0xFF03 &&& val := by
  have sets : (headerReg k 6).mask (fun f => f.acc == .rwo && f.eff == .live) = 0xFF03 := rfl
  have plain : (headerReg k 6).mask (fun f => (f.acc == .rw || f.acc == .wo) && f.eff != .staged && f.eff != .none) = 0#32 := rfl
  rw [RegDef.plainBits, sets, plain, byteMask_all, BitVec.and_allOnes, BitVec.zero_or,
    BitVec.and_allOnes]

theorem evt_bits (k : PageKind) (val : Word) :
    (headerReg k 3).mask (·.acc == .w1c) &&& byteMask 15 &&& val = 0xE0FFFFFF &&& val := by
  have clears : (headerReg k 3).mask (·.acc == .w1c) = 0xE0FFFFFF := rfl
  rw [clears, byteMask_all, BitVec.and_allOnes]

end Sys2Proof.Machine
end

section
/-! SUPPORT. What PG_COMMIT, PG_CTL, PG_LOCK and PG_EVT take for the tick (03 R85–R89, R95–R97). -/

namespace Sys2Proof.Machine

/-! ## PG_COMMIT -/

section
variable {s : State} {port : Port} {p : Nat} {k : PageKind} (kind : pageKind s.hub.part p = some k) (tst : p ≠ 0x1E)
include kind tst

/-- A commit of staged values has been taken: it waits and reads PENDING (03 R96). -/
theorem State.commit_pending (cal : p ≠ 0x0A) (first : (s.hub.page p).commit = false)
    (dirty : (s.hub.page p).dirty = true) (owner : (s.hub.page p).src = port) (free : s.hub.quietRefuses port = false) {t : State}
    (out : t = (s.portWrite port (p * 256 + 5) 15 1).1) :
    t.hub.acc = ⟨0, 0⟩ ∧ t.hub.get (PG_COMMIT_RESULT.pg p) = 1
      ∧ t.hub.page p = { s.hub.page p with commit := true } ∧ (∀ q, q ≠ p → t.hub.page q = s.hub.page q)
      ∧ (port = .w → t.hub.twb.commit = some p) ∧ s.frame [PG_COMMIT_RESULT.pg p] [] t := by
  obtain ⟨m, taken⟩ := State.pageCommit_staged kind tst cal first dirty owner free
  rw [out, taken]
  have page (q : Nat) : ((s.hub.traffic.commitAwaits port p).heal (p * 256 + 5) m false).page q
      = if q = p then { s.hub.page p with commit := true } else s.hub.page q := by
    rw [Hub.heal_page, Hub.commitAwaits_page, Hub.traffic_page, Hub.traffic_page]
  refine ⟨rfl, ?_, (page p).trans (if_pos rfl), fun q other => (page q).trans (if_neg other), ?_, State.frame_hub ?_⟩
  · exact (Hub.heal_get ..).trans (Hub.commitAwaits_result ..)
  · rintro rfl
    exact (congrArg (·.commit) (Hub.heal_twb ..)).trans (Hub.commitAwaits_window ..)
  · exact ((Hub.only.commitAwaits port (by simp) (Hub.only.refl _ _ s.hub).traffic).heal _ m false).answered _

/-- A commit of a page with nothing staged reads CLEAN (03 R96). -/
theorem State.commit_clean (cal : p ≠ 0x0A) (first : (s.hub.page p).commit = false) (clean : (s.hub.page p).dirty = false)
    {t : State} (out : t = (s.portWrite port (p * 256 + 5) 15 1).1) :
    t.hub.acc = ⟨0, 0⟩ ∧ t.hub.get (PG_COMMIT_RESULT.pg p) = 3 ∧ t.hub.pages = s.hub.pages
      ∧ s.frame [PG_COMMIT_RESULT.pg p] [] t := by
  obtain ⟨m, taken⟩ := State.pageCommit_clean (port := port) kind tst cal first clean
  rw [out, taken]
  refine ⟨rfl, ?_, ?_, State.frame_hub ?_⟩
  · exact (Hub.heal_get ..).trans (Hub.get_put_same _ _ (resultFits p))
  · exact (Hub.heal_pages ..).trans (Hub.traffic_pages s.hub)
  · exact (((Hub.only.refl _ _ s.hub).traffic.put _ (Fld.mayIn_self (by simp) (resultFits p))).heal _ m false).answered _

end

/-! ## PG_CTL: what its judgement comes to -/

section
variable {h : Hub} {p : Nat} {k : PageKind}
  (held : k.enFixed = true ∨ h.seqHolds p = false ∧ (p = 0x10 → h.chg.committed = true))
include held

/-- A release is judged by its key and by the causes of the fence (03 R88). -/
theorem Hub.ctlCode_release (en : Bool) (key : Nat) : h.ctlCode p k.enFixed en true false key =
    if key ≠ 0xFE then 0x0E else if (h.fenced p && !h.allCleared p) = true then 0x0D else 0 := by
  unfold Hub.ctlCode
  rw [Hub.enStatus_zero held (.inr (.inr (.inr rfl))), firstStatus_zero]
  by_cases keyed : key = 0xFE
  · by_cases stays : (h.fenced p && !h.allCleared p) = true <;> simp [firstStatus, keyed, stays]
  · simp [firstStatus, keyed]

/-- A soft reset is judged by the page's own rule, its EN being 0 (03 R87). -/
theorem Hub.ctlCode_reset : h.ctlCode p k.enFixed false false true 0 = h.srstStatus p := by
  unfold Hub.ctlCode
  rw [Hub.enStatus_zero held (.inr (.inl rfl)), firstStatus_zero]
  by_cases free : h.srstStatus p = 0 <;> simp [firstStatus, free]

/-- A write of EN and VIEW alone (03 R86, R88). -/
theorem Hub.ctlCode_plain {en : Bool} (free : k.enFixed = true ∨ en = false ∨ h.fenced p = false) :
    h.ctlCode p k.enFixed en false false 0 = 0 := by
  unfold Hub.ctlCode
  rw [Hub.enStatus_zero held (free.imp_right fun f => f.imp_right .inl), firstStatus_zero]
  rfl

end

/-- A fenced page is not enabled by a write that does not release it (03 R88). -/
theorem Hub.ctlCode_fenced {h : Hub} {p : Nat} {k : PageKind} (free : k.enFixed = false) (fenced : h.fenced p = true) :
    h.ctlCode p k.enFixed true false false 0 = 0x0D := by
  have refused : h.enStatus p true false = 0x0D := if_pos ⟨rfl, fenced, rfl⟩
  unfold Hub.ctlCode
  rw [free, refused]
  rfl

theorem Hub.srstStatus_lt (h : Hub) (p : Nat) : h.srstStatus p < 256 := by
  unfold Hub.srstStatus
  split
  · decide
  · split
    case h_1 | h_6 => decide
    all_goals split <;> decide

/-! ## PG_LOCK and PG_EVT -/

section
variable {s : State} {p : Nat} {k : PageKind} (kind : pageKind s.hub.part p = some k) (tst : p ≠ 0x1E) (port : Port)
  (val : Word) {t : State}
include kind tst

/-- The locks that a write of PG_LOCK sets wait for the tick (03 R85, R97). -/
theorem State.locks_wait (out : t = (s.portWrite port (p * 256 + 6) 15 val).1) :
    t.hub.acc = ⟨0, 0⟩
      ∧ (∀ i, i < 16 → i ∉ [2, 3, 4, 5, 6, 7] → val.getLsbD i = true → t.hub.awaits ⟨p * 256 + 6, i, 1⟩ 1)
      ∧ t.hub.regs = s.hub.regs ∧ s.frame [⟨p * 256 + 6, 0, 32⟩] [] t := by
  obtain ⟨m, taken⟩ := State.portWrite_waits (header_takes kind (by decide)) (header_ordinary p (by decide))
    (header_plain k (by decide)) (by rwa [header_div p (by decide)])
    (header_accepts s.hub.traffic port (p * 256 + 6) 15 val k (by decide))
  rw [lock_bits] at taken
  rw [out, taken]
  refine ⟨rfl, fun i low gap bit => ?_, Hub.waiting_regs .., State.frame_hub ?_⟩
  · have inMask : (0xFF03#32).getLsbD i = true := by
      revert gap
      interval_cases i <;> decide
    have value : bitsOf val i 1 = 1 := bitsOf_full fun j hj => by
      obtain rfl : j = 0 := by omega
      exact bit
    refine Hub.waiting_awaits (f := ⟨p * 256 + 6, i, 1⟩) _ _ _ _ _ _ Nat.one_pos (fun j hj => ?_) value
    obtain rfl : j = 0 := Nat.lt_one_iff.1 hj
    rw [BitVec.getLsbD_and, Bool.and_eq_true]
    exact ⟨inMask, bit⟩
  · exact Hub.only.waiting s.hub (f := ⟨p * 256 + 6, 0, 32⟩) (by simp) _ _ _ _ _

/-- The flags that a write of PG_EVT clears wait for the tick (03 R89). -/
theorem State.clears_wait (out : t = (s.portWrite port (p * 256 + 3) 15 val).1) :
    t.hub.acc = ⟨0, 0⟩
      ∧ (∀ i, i < 24 ∨ 29 ≤ i ∧ i < 32 → val.getLsbD i = true →
          ∃ w, mapFind t.hub.pend (p * 256 + 3) = some w ∧ w.clr.getLsbD i = true)
      ∧ t.hub.regs = s.hub.regs ∧ s.frame [flagFld p 0] [] t := by
  obtain ⟨m, taken⟩ := State.portWrite_waits (header_takes kind (by decide)) (header_ordinary p (by decide))
    (header_plain k (by decide)) (by rwa [header_div p (by decide)])
    (header_accepts s.hub.traffic port (p * 256 + 3) 15 val k (by decide))
  rw [evt_bits] at taken
  rw [out, taken]
  refine ⟨rfl, fun i flag bit => ?_, Hub.waiting_regs .., State.frame_hub ?_⟩
  · have inMask : (0xE0FFFFFF#32).getLsbD i = true := by
      have low : i < 32 := by omega
      revert flag
      interval_cases i <;> decide
    refine Hub.waiting_clears _ _ _ _ _ _ _ ?_
    rw [BitVec.getLsbD_and, Bool.and_eq_true]
    exact ⟨inMask, bit⟩
  · exact Hub.only.waiting s.hub (f := flagFld p 0) (by simp) _ _ _ _ _

end

end Sys2Proof.Machine

open Sys2Proof Sys2Proof.Machine

/-- Settles O58, register by register: PG_COMMIT by the state of the shadow, PG_CTL by the judgement of EN, REL and SRST,
PG_LOCK and PG_EVT as ordinary writes. -/
theorem pageControlWaitsForTheTick : Obligations.PageControlWaitsForTheTick := by
  unfold Obligations.PageControlWaitsForTheTick
  rintro s port page p k key on val up rfl kind tst
  refine ⟨fun cal first => ⟨fun dirty owner free => ?_, fun dirty other => ?_, fun clean => ?_⟩,
    fun held => ⟨fun keyed cleared => ?_, fun keyed fenced uncleared => ?_, fun unkeyed => ?_, fun free => ?_,
      fun refused => ?_, fun free => ?_, fun free => ?_⟩, fun free fenced => ?_, ?_, ?_⟩
  · exact ⟨_, State.rowWrite_on _ _ _ _ up, State.commit_pending kind tst cal first dirty owner free rfl⟩
  · exact ⟨_, State.rowWrite_on _ _ _ _ up, State.pageCommit_notOwner kind tst cal dirty other⟩
  · exact ⟨_, State.rowWrite_on _ _ _ _ up, State.commit_clean kind tst cal first clean rfl⟩
  · have code : s.hub.ctlCode page.toNat k.enFixed (s.hub.enShown page.toNat) true false key.toNat = 0 := by
      rw [Hub.ctlCode_release held, keyed]
      refine (if_neg (by decide)).trans (if_neg fun stays => ?_)
      obtain ⟨fenced, uncleared⟩ := Bool.and_eq_true_iff.1 stays
      simp [cleared fenced] at uncleared
    have taken := State.pgCtl_taken kind tst port (be := 9) (s.hub.viewNext port) key.isLt (by decide) (fun _ => by decide) code
    exact ⟨_, exec_fenceRelease_on up port page key, taken.answer, by rw [taken.page], by rw [taken.page],
      taken.others, taken.frame⟩
  · have code : s.hub.ctlCode page.toNat k.enFixed (s.hub.enShown page.toNat) true false key.toNat = 0x0D := by
      rw [Hub.ctlCode_release held, keyed, fenced, uncleared]
      rfl
    exact ⟨_, exec_fenceRelease_on up port page key,
      State.pgCtl_refused kind tst port _ key.isLt (by decide) (fun _ => by decide) code (by decide) (by decide)⟩
  · have code : s.hub.ctlCode page.toNat k.enFixed (s.hub.enShown page.toNat) true false key.toNat = 0x0E := by
      rw [Hub.ctlCode_release held]
      exact if_pos fun e => unkeyed (BitVec.eq_of_toNat_eq e)
    exact ⟨_, exec_fenceRelease_on up port page key,
      State.pgCtl_refused kind tst port _ key.isLt (by decide) (fun _ => by decide) code (by decide) (by decide)⟩
  · have taken := State.pgCtl_taken kind tst port (be := 1) (s.hub.viewNext port) (by decide) (by decide) (by simp)
      ((Hub.ctlCode_reset held).trans free)
    exact ⟨_, exec_softReset_on up port page, taken.answer, by rw [taken.page]; rfl, by rw [taken.page],
      taken.others, taken.frame⟩
  · exact ⟨_, exec_softReset_on up port page, State.pgCtl_refused kind tst port _ (by decide) (by decide) (by simp)
      (Hub.ctlCode_reset held) refused (s.hub.srstStatus_lt _)⟩
  · have taken := State.pgCtl_taken kind tst port (be := 1) (s.hub.viewNext port) (by decide) (by decide) (by simp)
      (Hub.ctlCode_plain held free)
    exact ⟨_, exec_pageEnable_on up port page on, taken.answer, by rw [taken.page]; rfl, taken.others, taken.frame⟩
  · have taken := State.pgCtl_taken kind tst port (be := 1) on (by decide) (by decide) (by simp)
      (Hub.ctlCode_plain held free)
    exact ⟨_, exec_viewSelect_on up port page on, taken.answer, by rw [taken.views]; cases port <;> rfl, by rw [taken.page],
      taken.others, taken.frame⟩
  · exact ⟨_, exec_pageEnable_on up port page true, State.pgCtl_refused kind tst port _ (by decide) (by decide) (by simp)
      (Hub.ctlCode_fenced free fenced) (by decide) (by decide)⟩
  · exact ⟨_, State.rowWrite_on _ _ _ _ up, State.locks_wait kind tst port val rfl⟩
  · exact ⟨_, State.rowWrite_on _ _ _ _ up, State.clears_wait kind tst port val rfl⟩

end

section
/-! SUPPORT. Register writes by the classes of their fields: read-only, Live and Staged (03 R82–R83, R92, R95–R96). -/

namespace Sys2Proof.Machine

/-! ## Ordinary writes that a field refuses -/

theorem State.ordinary_refused {s : State} {idx : Nat} {d : RegDef} (takes : s.hub.part.Takes idx d) (ordinary : Ordinary idx)
    (tst : idx / 256 ≠ 0x1E) (cal : idx / 256 = 0x0A → d.mask (fun f => f.writable && f.eff == .staged) = 0) {p : Port}
    {be st : Nat} {val : Word} (status : lowestStatus (s.hub.traffic.fieldsStatus p idx be val d ++ [(0, 0)]) = st)
    (pos : st ≠ 0) (lt : st < 256) : s.Refused (s.portWrite p idx be val).1 idx st := by
  refine State.portWrite_refused takes ordinary.notIrq pos lt ?_
  rw [ordinary.writeReg_eq (s.hub.traffic.pageStatus_zero be tst cal) p val status]
  exact if_pos pos

/-- The status of a register of one field is that of the field. -/
theorem Hub.fieldsStatus_single {d : RegDef} {f : FldDef} (fields : d.fields = [f]) (h : Hub) (p : Port) (idx be : Nat)
    (val : Word) : lowestStatus (h.fieldsStatus p idx be val d ++ [(0, 0)]) = h.fieldStatus p idx be val f := by
  rw [Hub.fieldsStatus, fields]
  exact lowestStatus_single ..

/-! ## Registers without a writable field (03 R82) -/

theorem not_irqWritten_of_readOnly {part : Part} {idx : Nat} {d : RegDef} (found : findReg part idx = some d)
    (readOnly : d.fields.any (·.writable) = false) : idx ∉ irqWritten := fun hi => by
  have writable : ∀ q, ∀ i ∈ irqWritten, (findReg q i).any (·.fields.any (·.writable)) = true := by
    rintro (_ | _) <;> decide
  have := writable part idx hi
  rw [found, Option.any_some, readOnly] at this
  exact absurd this (by decide)

theorem State.registerWrite_readOnly {s : State} {idx : Nat} {d : RegDef} (found : findReg s.hub.part idx = some d)
    (readOnly : ∀ f ∈ d.fields, f.acc = .ro ∨ f.acc = .rc) (p : Port) (be : Nat) (val : Word) :
    s.Refused (s.portWrite p idx be val).1 idx 0x03 := by
  have none : d.fields.any (·.writable) = false := List.any_eq_false.2 fun f hf => by
    rcases readOnly f hf with acc | acc <;> simp [FldDef.writable, acc]
  obtain ⟨k, kind⟩ := pageKind_of_findReg found
  refine State.refused_portWrite (not_irqWritten_of_readOnly found none) (by decide) ?_
  unfold Hub.write
  rw [Hub.traffic_part, kind, found]
  exact if_pos (by rw [none]; rfl)

/-! ## Plain Live fields (03 R92) -/

/-- The field stands alone in an ordinary register, Live, with the bounds `lo` and `hi`. -/
structure Part.LiveField (part : Part) (f : Fld) (lo hi : Nat) (d : RegDef) (g : FldDef) : Prop where
  takes : part.Takes f.idx d
  ordinary : Ordinary f.idx
  tst : f.idx / 256 ≠ 0x1E
  fields : d.fields = [g]
  place : g.lo = f.lo ∧ g.w = f.w
  acc : g.acc = .rw
  live : g.eff = .live
  lim : g.lim = .span lo hi
  fits : f.fits
  pos : 0 < f.w

theorem liveField_of_mem (part : Part) {f : Fld} {lo hi : Nat}
    (mem : (f, lo, hi) ∈ [(DEV_IDLET_IDLE_T, 1, 65535), (CLK_MONTOL_TOLF, 1, 1000), (STR_CREDTMO_FRAMES, 10, 10000),
      (GEY_CUSP_CUSPMIN, 10, 2000)]) : ∃ d g, part.LiveField f lo hi d g := by
  have ordinary : ∀ i ∈ [DEV_IDLET_IDLE_T.idx, CLK_MONTOL_TOLF.idx, STR_CREDTMO_FRAMES.idx, GEY_CUSP_CUSPMIN.idx],
      Ordinary i := fun i hi => by
    simp only [List.mem_cons, List.not_mem_nil, or_false] at hi
    rcases hi with rfl | rfl | rfl | rfl <;>
      exact ⟨by decide, by decide, by decide, by decide, by decide, by decide⟩
  simp only [List.mem_cons, List.not_mem_nil, or_false, Prod.mk.injEq] at mem
  obtain ⟨rfl, rfl, rfl⟩ | ⟨rfl, rfl, rfl⟩ | ⟨rfl, rfl, rfl⟩ | ⟨rfl, rfl, rfl⟩ := mem <;> cases part <;>
    exact ⟨_, _, ⟨rfl, rfl, rfl⟩, ordinary _ (by decide), by decide, rfl, ⟨rfl, rfl⟩, rfl, rfl, rfl, by decide,
      by decide⟩

section
variable {s : State} {f : Fld} {lo hi : Nat} {d : RegDef} {g : FldDef} (one : s.hub.part.LiveField f lo hi d g) (p : Port)
  {val : Word}
include one

theorem Part.LiveField.plain : d.Plain := by
  refine ⟨?_, ?_⟩ <;> simp [RegDef.mask_single one.fields, one.live, one.acc]

theorem Part.LiveField.status : lowestStatus (s.hub.traffic.fieldsStatus p f.idx 15 val d ++ [(0, 0)])
    = if lo ≤ bitsOf val f.lo f.w ∧ bitsOf val f.lo f.w ≤ hi then 0 else 0x04 := by
  obtain ⟨atLo, wide⟩ := one.place
  rw [Hub.fieldsStatus_single one.fields, Hub.fieldStatus_live _ _ _ _ one.acc (by rw [atLo, wide]; exact one.fits)
    (by rw [wide]; exact one.pos) one.live, one.lim, atLo, wide]
  simp only [Lim.ok, Bool.and_eq_true, decide_eq_true_eq]

/-- A Live field in its range waits for the tick. -/
theorem State.liveWrite_waits (inside : lo ≤ bitsOf val f.lo f.w ∧ bitsOf val f.lo f.w ≤ hi) :
    s.Waits (s.portWrite p f.idx 15 val).1 f (bitsOf val f.lo f.w) := by
  have bits : d.plainBits 15 val = g.mask := by
    rw [RegDef.plainBits, RegDef.mask_single one.fields, RegDef.mask_single one.fields, one.acc, one.live, byteMask_all,
      BitVec.and_allOnes]
    simp
  obtain ⟨m, taken⟩ := State.portWrite_waits one.takes one.ordinary one.plain one.tst
    ((one.status p).trans (if_pos inside))
  rw [taken, bits]
  refine ⟨rfl, Hub.waiting_awaits _ _ _ _ _ _ one.pos ?_ rfl, fun i other => Hub.waiting_pend_ne _ _ _ _ _ _ _ other,
    Hub.waiting_regs .., Hub.waiting_rcd .., rfl, rfl, rfl⟩
  have inMask := g.mask_inside
  rw [one.place.1, one.place.2] at inMask
  exact inMask one.fits

/-- A Live field out of its range is refused. -/
theorem State.liveWrite_refused (outside : bitsOf val f.lo f.w < lo ∨ hi < bitsOf val f.lo f.w) :
    s.Refused (s.portWrite p f.idx 15 val).1 f.idx 0x04 :=
  State.ordinary_refused one.takes one.ordinary one.tst (fun _ => one.plain.unstaged)
    ((one.status p).trans (if_neg (by omega))) (by decide) (by decide)

end

/-! ## Staged fields of a channel (03 R95) -/

/-- The register of a channel has one field, Staged, at `idx`. -/
structure Part.StagedField (part : Part) (idx : Nat) (d : RegDef) (f : FldDef) : Prop where
  takes : part.Takes idx d
  ordinary : Ordinary idx
  channel : 0x40 ≤ idx / 256
  fields : d.fields = [f]
  acc : f.acc = .rw
  staged : f.eff = .staged
  fits : f.lo + f.w ≤ 32
  pos : 0 < f.w

/-- PG_CTL and PG_COMMIT are no registers of one read-write field. -/
theorem header_not_single {part : Part} {idx : Nat} {d : RegDef} {f : FldDef} (found : findReg part idx = some d)
    (fields : d.fields = [f]) (acc : f.acc = .rw) : idx % 256 ≠ 1 ∧ idx % 256 ≠ 5 := by
  obtain ⟨k, kind⟩ := pageKind_of_findReg found
  have header {o : Nat} (low : o < 8) (off : idx % 256 = o) : d = headerReg k o := by
    have split : idx = idx / 256 * 256 + o := by omega
    rw [split, findReg_header kind low] at found
    exact (Option.some.inj found).symm
  refine ⟨fun off => ?_, fun off => ?_⟩
  · rw [header (by decide) off] at fields
    simp [headerReg, headerRegs] at fields
  · rw [header (by decide) off] at fields
    simp [headerReg, headerRegs] at fields
    subst fields
    simp at acc

theorem stagedField_of {part : Part} {idx : Nat} {d : RegDef} {f : FldDef} (found : findReg part idx = some d)
    (fields : d.fields = [f]) (acc : f.acc = .rw) (staged : f.eff = .staged) (channel : 0x40 ≤ idx / 256)
    (notEn : idx % 256 ≠ 0x08) (notGroup : idx % 256 ≠ 0x0B) (fits : f.lo + f.w ≤ 32) (pos : 0 < f.w) :
    part.StagedField idx d f := by
  have low : (∀ i ∈ ruled, i / 256 < 0x40) ∧ ∀ i ∈ irqWritten, i / 256 < 0x40 := by decide
  obtain ⟨notCtl, notCommit⟩ := header_not_single found fields acc
  have home : homeIdx idx = idx := by
    unfold homeIdx
    dsimp only
    rw [if_neg (by omega), if_neg (by omega)]
  refine ⟨⟨found, by simp [fields, FldDef.writable, acc], home⟩,
    ⟨fun e => ?_, notCtl, notCommit, fun e => notEn e.2, fun e => ?_, fun e => ?_⟩, channel, fields, acc, staged, fits, pos⟩
  · have := low.1 _ e
    omega
  · have : idx / 256 = 0x08 := e.1
    omega
  · have := low.2 _ e
    omega

/-- Staged bits of a channel go to the shadow, and the page is marked for the port. -/
theorem Hub.stage_channel (h : Hub) (p : Port) {idx : Nat} (channel : 0x40 ≤ idx / 256) {mask : Word} (val : Word)
    (written : mask ≠ 0) : ∃ m v, h.stage p idx mask val
      = (h.shadow! fun l => mapPut l idx ⟨m ||| mask, (v &&& ~~~ mask) ||| (val &&& mask)⟩).setPage (idx / 256)
          { h.page (idx / 256) with dirty := true, src := p } := by
  have notCal : idx / 256 ≠ pgCAL := fun (e : idx / 256 = 0x0A) => by omega
  have notRec : idx / 256 ≠ pgREC := fun (e : idx / 256 = 0x06) => by omega
  refine ⟨((mapFind h.shadow idx).getD {}).mask, ((mapFind h.shadow idx).getD {}).val, ?_⟩
  unfold Hub.stage
  rw [if_neg written]
  dsimp only
  rw [if_neg notCal, if_neg notRec]
  exact ite_self _

section
variable {s : State} {idx : Nat} {d : RegDef} {f : FldDef} (one : s.hub.part.StagedField idx d f) {p : Port} {val : Word}
  (ok : f.lim.ok s.hub.part f.w (bitsOf val f.lo f.w) = true)
include one

theorem Part.StagedField.accept_eq (h : Hub) : h.accept p idx 15 val d = (h.heal idx f.mask true).stage p idx f.mask val := by
  unfold Hub.accept
  dsimp only
  simp only [RegDef.mask_single one.fields, one.acc, one.staged, byteMask_all, BitVec.and_allOnes, FldDef.writable]
  simp [Hub.pendPut]

include ok

theorem Part.StagedField.status : lowestStatus (s.hub.traffic.fieldsStatus p idx 15 val d ++ [(0, 0)]) =
    if s.hub.flag (PG_LOCK_CFG.pg (idx / 256)) = true then 0x08
    else if (s.hub.page (idx / 256)).commit = true then 0x09
    else if (s.hub.page (idx / 256)).dirty = true ∧ (s.hub.page (idx / 256)).src ≠ p then 0x0A else 0 := by
  rw [Hub.fieldsStatus_single one.fields, Hub.fieldStatus_staged _ _ _ _ one.acc one.fits one.pos one.staged
    (by rwa [Hub.traffic_part]), Hub.traffic_page, s.hub.of_traffic (·.flag (PG_LOCK_CFG.pg (idx / 256))) fun _ _ _ _ => rfl]

/-- A Staged field of a channel that its lock, its commit or the owner of its shadow refuses. -/
theorem State.stagedWrite_refused {st : Nat} (status : (if s.hub.flag (PG_LOCK_CFG.pg (idx / 256)) = true then 0x08
    else if (s.hub.page (idx / 256)).commit = true then 0x09
    else if (s.hub.page (idx / 256)).dirty = true ∧ (s.hub.page (idx / 256)).src ≠ p then 0x0A else 0) = st)
    (pos : st ≠ 0) (lt : st < 256) : s.Refused (s.portWrite p idx 15 val).1 idx st := by
  have channel := one.channel
  exact State.ordinary_refused one.takes one.ordinary (by omega) (fun e => by omega) ((one.status ok).trans status) pos lt

/-- A Staged field of a channel goes to the shadow and marks the page for its port. -/
theorem State.stagedWrite_shadowed (unlocked : s.hub.flag (PG_LOCK_CFG.pg (idx / 256)) = false)
    (idle : (s.hub.page (idx / 256)).commit = false)
    (owner : (s.hub.page (idx / 256)).dirty = true → (s.hub.page (idx / 256)).src = p) {t : State}
    (out : t = (s.portWrite p idx 15 val).1) :
    ∃ y : Shadow, t.hub.acc = ⟨0, 0⟩
      ∧ mapFind t.hub.shadow idx = some y ∧ bitsOf y.mask f.lo f.w = 2 ^ f.w - 1
      ∧ bitsOf y.val f.lo f.w = bitsOf val f.lo f.w
      ∧ (∀ i, i ≠ idx → mapFind t.hub.shadow i = mapFind s.hub.shadow i)
      ∧ t.hub.page (idx / 256) = { s.hub.page (idx / 256) with dirty := true, src := p }
      ∧ s.frame [] [] t := by
  have channel := one.channel
  have status : lowestStatus (s.hub.traffic.fieldsStatus p idx 15 val d ++ [(0, 0)]) = 0 := by
    rw [one.status ok, if_neg (by simp [unlocked]), if_neg (by simp [idle])]
    exact if_neg fun e => e.2 (owner e.1)
  have accepted : s.hub.traffic.writeReg p idx 15 val d
      = ((s.hub.traffic.heal idx f.mask true).stage p idx f.mask val, 0) := by
    rw [one.ordinary.writeReg_eq (s.hub.traffic.pageStatus_zero 15 (by omega) (fun e => by omega)) p val status, one.accept_eq]
    exact if_neg (by simp)
  obtain ⟨m, taken⟩ := State.portWrite_accepted one.takes one.ordinary.notIrq accepted
  obtain ⟨x, v, staged⟩ := (s.hub.traffic.heal idx f.mask true).stage_channel p channel val
    (FldDef.mask_ne_zero one.fits one.pos)
  have inMask := FldDef.mask_inside one.fits
  rw [out, taken, staged]
  refine ⟨⟨x ||| f.mask, (v &&& ~~~ f.mask) ||| (val &&& f.mask)⟩, rfl, ?_, bitsOf_or_full inMask, bitsOf_merge inMask,
    fun i other => ?_, ?_, State.frame_hub ?_⟩
  · exact (congrArg (mapFind · idx) (Hub.heal_shadow ..)).trans (mapFind_mapPut_same ..)
  · refine (congrArg (mapFind · i) (Hub.heal_shadow ..)).trans ((mapFind_mapPut_ne _ _ other).trans ?_)
    rw [Hub.heal_shadow, Hub.traffic_shadow]
  · refine (Hub.heal_page ..).trans ((Hub.page_setPage_same ..).trans ?_)
    rw [Hub.heal_page, Hub.traffic_page]
  · exact (((((Hub.only.refl [] [] s.hub).traffic.heal _ _ _).shadow! _).setPage _ _).heal _ m false).answered _

end

end Sys2Proof.Machine

open Sys2Proof Sys2Proof.Machine

/-- Settles O59, class by class: what is not there, what is not writable, what is Live, and what is Staged. -/
theorem registerWritesAreClassed : Obligations.RegisterWritesAreClassed := by
  unfold Obligations.RegisterWritesAreClassed
  intro s port idx be val on
  have run := exec_registerWrite_on on port idx be val
  refine ⟨fun absent => ?_, fun present unmapped => ?_, fun d found _ readOnly => ?_, ?_, ?_⟩
  · exact ⟨_, run, State.registerWrite_absent absent port be val⟩
  · exact ⟨_, run, State.registerWrite_unmapped present unmapped port be val⟩
  · exact ⟨_, run, State.registerWrite_readOnly found readOnly port _ val⟩
  · rintro f lo hi mem at_ rfl
    obtain ⟨d, g, one⟩ := liveField_of_mem s.hub.part mem
    rw [at_] at run ⊢
    exact ⟨fun above below => ⟨_, run, State.liveWrite_waits one port ⟨above, below⟩⟩,
      fun outside => ⟨_, run, State.liveWrite_refused one port outside⟩⟩
  · rintro d f found fields acc staged channel notEn notGroup rfl fits pos ok
    have one := stagedField_of found fields acc staged channel notEn notGroup fits pos
    refine ⟨fun locked => ?_, fun unlocked commits => ?_, fun unlocked idle dirty other => ?_, fun unlocked idle owner => ?_⟩
    · exact ⟨_, run, State.stagedWrite_refused one ok (if_pos locked) (by decide) (by decide)⟩
    · exact ⟨_, run, State.stagedWrite_refused one ok ((if_neg (by simp [unlocked])).trans (if_pos commits))
        (by decide) (by decide)⟩
    · exact ⟨_, run, State.stagedWrite_refused one ok ((if_neg (by simp [unlocked])).trans
        ((if_neg (by simp [idle])).trans (if_pos ⟨dirty, other⟩))) (by decide) (by decide)⟩
    · obtain ⟨y, shadowed⟩ := State.stagedWrite_shadowed one ok unlocked idle owner rfl
      exact ⟨_, y, run, shadowed⟩

end

section
/-! SUPPORT. Low power: an acknowledge that a hub in NAP serves (04 R545, 17 R460). -/

namespace Sys2Proof.Machine

theorem exec_hostAccessInNap_on {s : State} (port : Port) (access : Access) (on : s.hub.running = true)
    (nap : s.hub.mode = mNAP) : exec (.hostAccessInNap port access) s = .next (s.portAccess port access) := by
  change execHostAccessInNap port access s = _
  exact if_pos (by simp [on, nap])

/-- A register with a failing byte refuses its read (03 R82, R100). -/
theorem Hub.read_failing {h : Hub} {p : Port} {idx : Nat} (present : (pageKind h.part (idx / 256)).isSome = true)
    (mapped : (findReg h.part idx).isSome = true) (failing : h.byteBad p idx = true) : (h.read p idx).2 = (0x0C, 0) := by
  obtain ⟨k, hk⟩ := Option.isSome_iff_exists.1 present
  obtain ⟨d, hd⟩ := Option.isSome_iff_exists.1 mapped
  unfold Hub.read
  rw [hk, hd]
  dsimp only
  rw [if_pos failing]

/-- An acknowledge of target E is answered OK whatever its register's parity (17 R460). -/
theorem State.portRead_ackE_status (s : State) (p : Port) :
    (s.portRead p IRQ_ACKE_VECTOR.idx).1.hub.acc.status = 0 := by
  unfold State.portRead State.read
  dsimp only
  rw [if_pos rfl]
  rfl

/-- A hub in NAP with a failing byte in the acknowledge register of target E. -/
def failingAckInNap : State where
  hub := (State.reset.hub.put DEV_MODE_MODE mNAP).parityError (.active 0x0309 0)

/-- In it the register by itself refuses a read, and nothing keeps an access from being served. -/
theorem failingAckInNap_spec : failingAckInNap.hub.running = true ∧ failingAckInNap.hub.mode = mNAP
    ∧ failingAckInNap.hub.md.waking = false ∧ (failingAckInNap.hub.read .e IRQ_ACKE_VECTOR.idx).2 = (0x0C, 0) :=
  ⟨by decide, by decide, by decide, Hub.read_failing (by decide) (by decide) (by decide)⟩

end Sys2Proof.Machine

open Sys2Proof Sys2Proof.Machine

/-- Refutes O54: in NAP a read of IRQ_ACKE whose register fails parity goes on as an acknowledge and answers OK
(17 R460), while the status the statement gives every read in NAP is that of the register by itself, 0x0C. -/
theorem not_lowPowerModesAndWakes : ¬ Obligations.LowPowerModesAndWakes := by
  unfold Obligations.LowPowerModesAndWakes
  intro h
  obtain ⟨on, nap, asleep, refused⟩ := failingAckInNap_spec
  obtain ⟨-, -, -, -, -, -, -, -, served⟩ := h failingAckInNap false .nap .wakePin .e (.read 0x0309)
  obtain ⟨t, ht, -, -, status, -⟩ := served on nap asleep
  have run := exec_hostAccessInNap_on .e (.read 0x0309) on nap
  have answeredOk : t.hub.acc.status = 0 := by
    rw [← Host.Outcome.next.inj (run.symm.trans ht)]
    exact State.portRead_ackE_status _ _
  have asRegister : t.hub.acc.status = 0x0C := (status 0x0309 rfl).trans (congrArg Prod.fst refused)
  exact absurd (answeredOk.symm.trans asRegister) (by decide)

end

section
/-! SUPPORT. One channel: its own data, the fields of its page, and frames that take fields within fields (05 R175). -/

namespace Sys2Proof.Machine

/-! ## A channel's own data -/

@[simp] theorem Hub.ch_setCh_same (h : Hub) (n : Nat) (c : Chan) : (h.setCh n c).ch n = c := nth_setNth_same ..

@[simp] theorem Hub.ch_ch!_same (h : Hub) (n : Nat) (f : Chan → Chan) : (h.ch! n f).ch n = f (h.ch n) := h.ch_setCh_same ..

@[simp] theorem Hub.ch_put (h : Hub) (f : Fld) (v n : Nat) : (h.put f v).ch n = h.ch n := rfl

@[simp] theorem Hub.ch_puti (h : Hub) (f : Fld) (v : Int) (n : Nat) : (h.puti f v).ch n = h.ch n := rfl

@[simp] theorem Hub.ch_incSat (h : Hub) (f : Fld) (k n : Nat) : (h.incSat f k).ch n = h.ch n := rfl

/-- What reaches registers and records alone leaves every channel's own data. -/
theorem Hub.ch_of_bare {a b : Hub} (e : a.bare = b.bare) (n : Nat) : a.ch n = b.ch n :=
  Hub.of_bare (fun h => h.ch n) (fun _ => rfl) e

@[simp] theorem Hub.ch_evt (h : Hub) (page bit n : Nat) : (h.evt page bit).ch n = h.ch n := Hub.ch_of_bare (h.bare_evt ..) n

@[simp] theorem Hub.ch_report (h : Hub) (page bit code inst sev : Nat) (l : List (Nat × Nat × Nat)) (n : Nat) :
    (h.report page bit code inst sev l).ch n = h.ch n := Hub.ch_of_bare (h.bare_report ..) n

@[simp] theorem Hub.ch_fence (h : Hub) (page code n : Nat) : (h.fence page code).ch n = h.ch n := by
  unfold Hub.fence
  split
  · rfl
  · exact Hub.ch_of_bare ((Hub.bare_record ..).trans (Hub.bare_evt ..)) n

/-! ## Fields -/

/-- A flag that does not stand reads 0. -/
theorem Hub.not_flag_iff (h : Hub) (f : Fld) : h.flag f = false ↔ h.get f = 0 := bne_eq_false_iff_eq

/-- A word whose field is given the value that it holds is as it was. -/
theorem putBits_bitsOf (w : Word) {lo n : Nat} (hf : lo + n ≤ 32) : putBits w lo n (bitsOf w lo n) = w := by
  apply BitVec.eq_of_toNat_eq
  rw [putBits_toNat w _ hf, Nat.mod_eq_of_lt (bitsOf_lt ..)]
  exact (nat_field_split ..).symm

theorem Hub.word_put_get (h : Hub) {f : Fld} (hf : f.fits) (i : Nat) : (h.put f (h.get f)).word i = h.word i := by
  rw [Hub.word_put]
  split
  · next e => rw [e]; exact putBits_bitsOf _ hf
  · rfl

/-- A signed field that has been given a number of its width reads as it. -/
theorem Hub.geti_puti_toInt (h : Hub) {f : Fld} {w : Nat} (v : BitVec w) (hw : f.w = w) (hf : f.fits) :
    (h.puti f v.toInt).geti f = v.toInt := by
  subst hw
  have low : wrapTo f.w v.toInt = v.toNat := (BitVec.toNat_ofInt ..).symm.trans (congrArg _ (BitVec.ofInt_toInt ..))
  rw [Hub.geti, Hub.get_puti_same h _ hf, low]
  unfold signed
  rw [Nat.mod_mod, Nat.mod_eq_of_lt v.isLt, BitVec.toInt_eq_toNat_cond]
  split <;> split <;> omega

/-! ## Fields of a channel's page

`f.pg n` is field `f` of channel n; the conditions speak of channel 0 and are decided. -/

/-- Fields that are apart are apart on every page. -/
theorem Fld.apart.pg {f g : Fld} (ha : f.apart g) (n : Nat) : (f.pg n).apart (g.pg n) := by
  simp only [Fld.apart] at ha ⊢
  omega

theorem Hub.get_put_pg_apart (h : Hub) {f g : Fld} (n v : Nat) (hf : f.fits) (ha : f.apart g) :
    (h.put (no_index (f.pg n)) v).get (no_index (g.pg n)) = h.get (g.pg n) := h.get_put_apart v hf (ha.pg n)

/-- A field of another register space than the channels'. -/
theorem Hub.get_put_pg_off (h : Hub) {f g : Fld} (n v : Nat) (hf : f.fits) (hg : g.idx < f.idx) :
    (h.put (no_index (f.pg n)) v).get g = h.get g :=
  h.get_put_apart v hf (.inl (by simp only; omega))

theorem Hub.get_put_pg_same (h : Hub) {f : Fld} (n v : Nat) (hf : f.fits) :
    (h.put (no_index (f.pg n)) v).get (no_index (f.pg n)) = v % 2 ^ f.w := h.get_put_same (f := f.pg n) v hf

/-- A field of the channel that may change. -/
theorem Fld.mayIn_pg {fs : List Fld} {ps : List Nat} {f : Fld} {n : Nat} (hm : f.pg n ∈ fs) (hf : f.fits) :
    (f.pg n).mayIn fs ps := Fld.mayIn_self hm hf

theorem flagFld_mayIn {fs : List Fld} {ps : List Nat} {page bit : Nat} (hm : flagFld page bit ∈ fs) (hb : bit < 32) :
    (flagFld page bit).mayIn fs ps := Fld.mayIn_self hm hb

theorem Hub.geti_puti_pg (h : Hub) {f : Fld} {w : Nat} (n : Nat) (v : BitVec w) (hw : f.w = w) (hf : f.fits) :
    (h.puti (f.pg n) v.toInt).geti (f.pg n) = v.toInt := h.geti_puti_toInt v hw hf

/-- A channel's flag is a field of its page. -/
theorem flagFld_chPage (n bit : Nat) : flagFld (chPage n) bit = (⟨0x4003, bit, 1⟩ : Fld).pg n := by
  simp only [flagFld, chPage, Fld.pg, Fld.mk.injEq, and_true]
  omega

/-- Above PG_EVT no field of a channel's page is one of its flags or traces. -/
theorem Fld.pg_above {g : Fld} (n bit : Nat) (hg : 0x4003 < g.idx) :
    (flagFld (chPage n) bit).apart (g.pg n) ∧ (g.pg n).idx / 256 ∉ tracePages := by
  refine ⟨.inl ?_, ?_⟩
  · rw [flagFld_chPage]
    simp only
    omega
  · simp only [tracePages, List.mem_cons, List.not_mem_nil, or_false]
    omega

theorem Hub.get_evt_pg (h : Hub) (n bit : Nat) {g : Fld} (hb : bit < 31) (hg : 0x4003 < g.idx) :
    (h.evt (chPage n) bit).get (no_index (g.pg n)) = h.get (g.pg n) :=
  have ⟨apart, off⟩ := Fld.pg_above n bit hg
  h.get_evt _ _ hb apart fun i => off (List.mem_cons_of_mem 6 i)

theorem Hub.get_report_pg (h : Hub) (n bit code inst sev : Nat) (l : List (Nat × Nat × Nat)) {g : Fld} (hb : bit < 31)
    (hg : 0x4003 < g.idx) : (h.report (chPage n) bit code inst sev l).get (no_index (g.pg n)) = h.get (g.pg n) :=
  have ⟨apart, off⟩ := Fld.pg_above n bit hg
  h.get_report _ _ _ _ _ _ hb apart off

theorem Hub.get_fence_pg (h : Hub) (n code : Nat) {g : Fld} (hg : 0x4003 < g.idx) :
    (h.fence (chPage n) code).get (no_index (g.pg n)) = h.get (g.pg n) :=
  have ⟨apart, off⟩ := Fld.pg_above n 29 hg
  h.get_fence _ _ apart off

theorem flagFld_apart (page : Nat) {i j : Nat} (hij : i ≠ j) : (flagFld page i).apart (flagFld page j) := by
  simp only [Fld.apart]
  omega

/-- A channel's event sets its flag. -/
theorem Hub.get_evt_chFlag (h : Hub) (n bit : Nat) (hb : bit < 31) :
    (h.evt (chPage n) bit).get (flagFld (chPage n) bit) = 1 :=
  h.get_evt_flag _ _ hb (by simp only [irqPages, chPage, List.mem_cons, List.not_mem_nil, or_false]; omega)

theorem Hub.get_report_chFlag (h : Hub) (n bit code inst sev : Nat) (l : List (Nat × Nat × Nat)) (hb : bit < 31) :
    (h.report (chPage n) bit code inst sev l).get (flagFld (chPage n) bit) = 1 :=
  h.get_report_flag _ _ _ _ _ _ hb (by simp only [irqPages, chPage, List.mem_cons, List.not_mem_nil, or_false]; omega)
    (by simp only [chPage]; omega)

/-! ## Frames -/

/-- A frame whose fields lie in those of another is a frame of it. -/
theorem Hub.only.widen {fs gs : List Fld} {ps qs : List Nat} {a b : Hub} (x : Hub.only fs ps a b)
    (hf : ∀ g ∈ fs, g.mayIn gs qs) (hp : ∀ p ∈ ps, p ∈ qs) : Hub.only gs qs a b := by
  refine ⟨x.part, fun f fits apart off => x.fields f fits (fun g hg => ?_) (off ∘ hp _),
    fun i apart off => x.waits i (fun g hg => ?_) (off ∘ hp _), fun h6 => x.recs (h6 ∘ hp _)⟩
  · rcases hf g hg with ⟨k, hk, ⟨idx, lo, hi⟩, -⟩ | page
    · have := apart k hk
      simp only [Fld.apart] at this ⊢
      omega
    · exact .inl fun e => off (e ▸ page)
  · rcases hf g hg with ⟨k, hk, ⟨idx, -, -⟩, -⟩ | page
    · exact fun e => apart k hk (idx ▸ e)
    · exact fun e => off (e ▸ page)

/-- A field that is given the value it holds changes nothing. -/
theorem Hub.only.put_get {fs : List Fld} {ps : List Nat} {a b : Hub} {f : Fld} (hf : f.fits) (x : Hub.only fs ps a b) :
    Hub.only fs ps a (b.put f (b.get f)) :=
  x.trans ⟨rfl, fun _ _ _ _ => by unfold Hub.get; exact congrArg (bitsOf · _ _) (b.word_put_get hf _), fun _ _ _ => rfl,
    fun _ => rfl⟩

end Sys2Proof.Machine
end

section
/-! SUPPORT. What captures reach: their engines, a channel's fields of them, and the traces of events (07 R211–R218). -/

namespace Sys2Proof.Machine

/-- The traces of events are among what captures reach. -/
theorem traceIn_gey : traceIn geyPages := fun _ => List.mem_cons_of_mem _

/-- A register of an engine lies on the GEY page. -/
theorem engF_mayIn {fs : List Fld} {f : Fld} {k : Nat} (hk : k < 4) (hf : f.idx / 4 = 0x1718 / 4) :
    (engF f k).mayIn fs geyPages := by
  refine .inr ?_
  have page : (engF f k).idx / 256 = 0x17 := by
    simp only
    omega
  rw [page]
  exact List.mem_cons_self ..

theorem Hub.capturing_some {h : Hub} {c k : Nat} (e : h.capturing c = some k) :
    k < 4 ∧ h.get (engF GEY_ENG_STAT_CH k) = c := by
  have hk := List.mem_of_find?_eq_some e
  have hc := List.find?_some e
  simp only [Bool.and_eq_true, beq_iff_eq] at hc
  exact ⟨List.mem_range.1 hk, hc.2⟩

theorem Hub.freeEngine_some {h : Hub} {c k : Nat} (e : h.freeEngine c = some k) : k < 4 := by
  have idle {p q : Nat → Bool} (f : ((List.range 4).filter p).find? q = some k) : k < 4 :=
    List.mem_range.1 (List.mem_filter.1 (List.mem_of_find?_eq_some f)).1
  unfold Hub.freeEngine at e
  rcases (Option.orElse_eq_some ..).1 e with reserved | ⟨-, free⟩
  · exact idle reserved
  · exact idle free

/-! ## The detection window -/

/-- A window that closes reaches its engine alone. -/
theorem Hub.geyClose_eq (h : Hub) (c dir : Nat) : ∃ f, h.geyClose c dir = h.engines! f := by
  have same : ∃ f, h = h.engines! f := ⟨id, rfl⟩
  unfold Hub.geyClose
  split
  · exact same
  · split
    · dsimp only
      split
      · exact same
      · exact ⟨_, rfl⟩
    · exact same

@[simp] theorem Hub.get_geyClose (h : Hub) (c dir : Nat) (g : Fld) : (h.geyClose c dir).get g = h.get g := by
  obtain ⟨f, e⟩ := h.geyClose_eq c dir
  rw [e, Hub.get_engines!]

@[simp] theorem Hub.ch_geyClose (h : Hub) (c dir n : Nat) : (h.geyClose c dir).ch n = h.ch n := by
  obtain ⟨f, e⟩ := h.geyClose_eq c dir
  rw [e]
  rfl

theorem Hub.only.geyClose {fs : List Fld} {ps : List Nat} {a b : Hub} (c dir : Nat) (x : Hub.only fs ps a b) :
    Hub.only fs ps a (b.geyClose c dir) := by
  obtain ⟨f, e⟩ := b.geyClose_eq c dir
  rw [e]
  exact x.engines! f

/-! ## Captures that end -/

/-- The fields of a channel that its captures reach lie in their registers. -/
theorem gey_mayIn {n : Nat} {ps : List Nat} : ∀ g ∈ geyFlds n, g.mayIn (geyFlds n) ps := by
  intro g hg
  refine Fld.mayIn_self hg ?_
  simp only [geyFlds, List.mem_cons, List.not_mem_nil, or_false] at hg
  rcases hg with rfl | rfl | rfl | rfl | rfl | rfl <;> simp only [Fld.fits] <;> decide

theorem Hub.only_engAbort (h : Hub) {k c : Nat} (cause : Nat) (hk : k < 4) (hc : h.get (engF GEY_ENG_STAT_CH k) = c) :
    Hub.only (geyFlds c) geyPages h (h.engAbort k cause) := by
  unfold Hub.engAbort
  split
  · exact .refl ..
  · have left : Hub.only (geyFlds c) geyPages h (h.geyLeave k) := by
      unfold Hub.geyLeave
      rw [hc]
      exact ((Hub.only.refl _ _ h).put _ (engF_mayIn hk rfl)).put _ (gey_mayIn _ (by simp [geyFlds]))
    rw [hc]
    have gey : (flagFld pgGEY (4 + k)).idx / 256 ∈ geyPages :=
      List.mem_cons.2 (.inl (by decide : (pgGEY * 256 + 3) / 256 = 0x17))
    have ended := ((left.put 3 (engF_mayIn (f := GEY_ENG_STAT_END) hk rfl)).put 3
      (gey_mayIn (CH_GEYMEAS_RESULT.pg c) (by simp [geyFlds]))).put (h.get (engF GEY_ENG_STAT_DIR k))
      (gey_mayIn (CH_GEYMEAS_DIR.pg c) (by simp [geyFlds]))
    exact (ended.evt pgGEY (4 + k) (.inr gey) traceIn_gey.irq (.inl (by omega))).report (0x40 + c) 22 _ _ _ _
      (gey_mayIn _ (by simp [geyFlds, chPage])) traceIn_gey (.inl (by decide))

@[simp] theorem Hub.bare_engAbort (h : Hub) (k cause : Nat) : (h.engAbort k cause).bare = h.bare := by
  unfold Hub.engAbort Hub.geyLeave
  split
  · rfl
  · simp only [Hub.bare_report, Hub.bare_evt, Hub.bare_put]

theorem Hub.only_geyAbort (h : Hub) (n cause : Nat) : Hub.only (geyFlds n) geyPages h (h.geyAbort n cause) := by
  unfold Hub.geyAbort
  split
  · next e => exact h.only_engAbort cause (Hub.capturing_some e).1 (Hub.capturing_some e).2
  · exact .refl ..

/-! ## Edges -/

/-- The engine registers with which a capture starts. -/
def Hub.captureShown (h : Hub) (k c dir cyc : Nat) : Hub :=
  let h2 := (((h.put (engF GEY_ENG_STAT_STATE k) 1).put (engF GEY_ENG_STAT_END k) 0).put (engF GEY_ENG_STAT_CH k) c).put
    (engF GEY_ENG_STAT_DIR k) dir
  let h3 := ((h2.put (engF GEY_ENG_STAT_CUSP k) 0).put (engF GEY_ENG_STAT_NS k) 0).put (engF GEY_ENG_FRM_FRM k) h.frmNo
  (h3.put (engF GEY_ENG_CYC_CYC k) cyc).put (engF GEY_ENG_CYC_KCUSP k) 0xFFF

theorem Hub.startCapture_eq (h : Hub) (k c dir cyc : Nat) : h.startCapture k c dir cyc =
    ((h.setEngine k { vM := (h.get LB_MEAS_V : Int), tM := h.geti (CH_TEMP_TEMP.pg c) }).captureShown k c dir cyc).put
      (CH_GEYSTAT_ENG.pg c) (k + 1) := rfl

theorem Hub.only.captureShown {fs : List Fld} {a b : Hub} {k : Nat} (c dir cyc : Nat) (hk : k < 4)
    (x : Hub.only fs geyPages a b) : Hub.only fs geyPages a (b.captureShown k c dir cyc) := by
  have eng {f : Fld} (hf : f.idx / 4 = 0x1718 / 4) : (engF f k).mayIn fs geyPages := engF_mayIn hk hf
  unfold Hub.captureShown
  have stat := (((x.put 1 (eng (f := GEY_ENG_STAT_STATE) rfl)).put 0 (eng (f := GEY_ENG_STAT_END) rfl)).put c
    (eng (f := GEY_ENG_STAT_CH) rfl)).put dir (eng (f := GEY_ENG_STAT_DIR) rfl)
  have run := ((stat.put 0 (eng (f := GEY_ENG_STAT_CUSP) rfl)).put 0 (eng (f := GEY_ENG_STAT_NS) rfl)).put b.frmNo
    (eng (f := GEY_ENG_FRM_FRM) rfl)
  exact (run.put cyc (eng (f := GEY_ENG_CYC_CYC) rfl)).put 0xFFF (eng (f := GEY_ENG_CYC_KCUSP) rfl)

theorem Hub.only_startCapture (h : Hub) {k : Nat} (c dir cyc : Nat) (hk : k < 4) :
    Hub.only (geyFlds c) geyPages h (h.startCapture k c dir cyc) := by
  rw [Hub.startCapture_eq]
  exact (((Hub.only.refl _ _ h).engines! _).captureShown c dir cyc hk).put _ (gey_mayIn _ (by simp [geyFlds]))

theorem Hub.bare_captureShown (h : Hub) (k c dir cyc : Nat) : (h.captureShown k c dir cyc).bare = h.bare := by
  unfold Hub.captureShown
  simp only [Hub.bare_put]

@[simp] theorem Hub.ch_startCapture (h : Hub) (k c dir cyc n : Nat) : (h.startCapture k c dir cyc).ch n = h.ch n := by
  rw [Hub.startCapture_eq, Hub.ch_put, Hub.ch_of_bare (Hub.bare_captureShown ..)]
  rfl

theorem Hub.get_captureShown_ch (h : Hub) {k c : Nat} (dir cyc : Nat) (hc : c < 64) :
    (h.captureShown k c dir cyc).get (engF GEY_ENG_STAT_CH k) = c := by
  have off {f : Fld} (v : Nat) (b : Hub) (hf : f.fits) (ha : f.apart GEY_ENG_STAT_CH) :
      (b.put (engF f k) v).get (engF GEY_ENG_STAT_CH k) = b.get (engF GEY_ENG_STAT_CH k) := by
    refine b.get_put_apart v hf ?_
    simp only [Fld.apart] at ha ⊢
    omega
  unfold Hub.captureShown
  rw [off _ _ (by decide) (by decide), off _ _ (by decide) (by decide), off _ _ (by decide) (by decide),
    off _ _ (by decide) (by decide), off _ _ (by decide) (by decide), off _ _ (by decide) (by decide),
    Hub.get_put_same _ _ (by simp only [Fld.fits]; decide)]
  exact Nat.mod_eq_of_lt hc

theorem Hub.get_startCapture_ch (h : Hub) {k c : Nat} (dir cyc : Nat) (hc : c < 64) :
    (h.startCapture k c dir cyc).get (engF GEY_ENG_STAT_CH k) = c := by
  rw [Hub.startCapture_eq, Hub.get_put_apart _ _ (by simp only [Fld.fits]; decide) (.inl (by simp only; omega))]
  exact Hub.get_captureShown_ch _ dir cyc hc

/-- The edge is taken by the engine `eng`, or skipped (07 R213–R214, R216). -/
def Hub.edgeTaken (h : Hub) (n dir cyc : Nat) (eng : Option Nat) : Hub :=
  match eng with
  | some k =>
    let h2 := h.startCapture k n dir cyc
    if h2.adcFenced (n / 32) then h2.engAbort k 4 else h2
  | none =>
    let h2 := (h.incSat (CH_GEYCNT_SKIP.pg n)).incSat GEY_CNT_SKIP
    (h2.evt (0x40 + n) 21).report pgGEY 8 0x1401 0 sevINFO [(0, 1, n), (1, 1, dir)]

theorem Hub.only_edgeTaken (h : Hub) {n : Nat} (dir cyc : Nat) {eng : Option Nat} (hn : n < 64)
    (he : ∀ k ∈ eng, k < 4) : Hub.only (geyFlds n) geyPages h (h.edgeTaken n dir cyc eng) := by
  cases eng with
  | none =>
    exact ((((Hub.only.refl _ _ h).incSat 1 (gey_mayIn _ (by simp [geyFlds]))).incSat 1 (.inr (by decide))).evt (0x40 + n) 21
      (gey_mayIn _ (by simp [geyFlds, chPage])) traceIn_gey.irq (.inl (by decide))).report pgGEY 8 _ _ _ _
      (.inr (List.mem_cons_self ..)) traceIn_gey (.inl (by decide))
  | some k =>
    have started := h.only_startCapture n dir cyc (he k rfl)
    exact .ite (started.trans (Hub.only_engAbort _ 4 (he k rfl) (h.get_startCapture_ch dir cyc hn))) started

theorem Hub.ch_edgeTaken (h : Hub) (n dir cyc : Nat) (eng : Option Nat) (m : Nat) :
    (h.edgeTaken n dir cyc eng).ch m = h.ch m := by
  cases eng with
  | none => rw [Hub.edgeTaken, Hub.ch_report, Hub.ch_evt]; rfl
  | some k =>
    unfold Hub.edgeTaken
    dsimp only
    split
    · exact (Hub.ch_of_bare (Hub.bare_engAbort ..) m).trans (h.ch_startCapture ..)
    · exact h.ch_startCapture ..

/-- An edge that is offered has counted; then it is passed over, or taken by an engine or skipped (07 R212–R214). -/
theorem Hub.geyEdge_cases (h : Hub) (n dir cyc : Nat) : h.geyEdge n dir cyc = h ∨
    ∃ on off eng, (∀ k ∈ eng, k < 4) ∧ (h.geyEdge n dir cyc = h.setCh n { h.ch n with everyOn := on, everyOff := off }
      ∨ h.geyEdge n dir cyc = (h.setCh n { h.ch n with everyOn := on, everyOff := off }).edgeTaken n dir cyc eng) := by
  have counted (l : Nat) : ∃ on off, (if dir = 0 then { h.ch n with everyOn := l } else { h.ch n with everyOff := l }) =
      { h.ch n with everyOn := on, everyOff := off } := by
    split
    · exact ⟨_, _, rfl⟩
    · exact ⟨_, _, rfl⟩
  unfold Hub.geyEdge
  extract_lets enabled ch left offer left' h1
  split
  · exact .inl rfl
  · obtain ⟨on, off, e⟩ := counted left'
    have e1 : h1 = h.setCh n { h.ch n with everyOn := on, everyOff := off } := congrArg (h.setCh n) e
    refine .inr ⟨on, off, ?_⟩
    split
    · exact ⟨none, nofun, .inl e1⟩
    · rw [← e1]
      refine ⟨h1.freeEngine n, fun k hk => Hub.freeEngine_some hk, .inr ?_⟩
      unfold Hub.edgeTaken
      cases h1.freeEngine n <;> rfl

/-- What an edge that is counted leaves of the channel's own data. -/
theorem Hub.ch_geyEdge (h : Hub) (n dir cyc : Nat) :
    ∃ on off, (h.geyEdge n dir cyc).ch n = { h.ch n with everyOn := on, everyOff := off } := by
  rcases h.geyEdge_cases n dir cyc with e | ⟨on, off, eng, -, e | e⟩ <;> rw [e]
  · exact ⟨_, _, rfl⟩
  · exact ⟨on, off, Hub.ch_setCh_same ..⟩
  · exact ⟨on, off, (Hub.ch_edgeTaken ..).trans (Hub.ch_setCh_same ..)⟩

theorem Hub.only_geyEdge (h : Hub) {n : Nat} (dir cyc : Nat) (hn : n < 64) :
    Hub.only (geyFlds n) geyPages h (h.geyEdge n dir cyc) := by
  rcases h.geyEdge_cases n dir cyc with e | ⟨on, off, eng, he, e | e⟩ <;> rw [e]
  · exact .refl ..
  · exact (Hub.only.refl ..).setCh ..
  · exact ((Hub.only.refl ..).setCh ..).trans (Hub.only_edgeTaken _ dir cyc hn he)

/-! ## Frames of a channel's fields and its captures -/

/-- Fields of channel n, given as those of channel 0, and what its captures reach. -/
def chFlds (n : Nat) (l : List Fld) : List Fld := l.map (·.pg n) ++ geyFlds n

theorem chFlds_mayIn {n : Nat} {l : List Fld} {ps : List Nat} {f : Fld} (hm : f ∈ l) (hf : f.fits) :
    (f.pg n).mayIn (chFlds n l) ps :=
  Fld.mayIn_self (List.mem_append_left _ (List.mem_map_of_mem hm)) hf

theorem chFlds_gey {n : Nat} {l : List Fld} : ∀ g ∈ geyFlds n, g ∈ chFlds n l := fun _ => List.mem_append_right _

/-- Captures reach no field of the channel's page outside their own registers and PG_EVT. -/
theorem geyFlds_apart (n : Nat) {g : Fld} (hi : 0x4003 < g.idx ∧ g.idx < 0x4066) : ∀ f ∈ geyFlds n, f.apart (g.pg n) := by
  intro f hf
  refine .inl ?_
  simp only [geyFlds, List.mem_cons, List.not_mem_nil, or_false] at hf
  rcases hf with rfl | rfl | rfl | rfl | rfl | rfl <;> simp only [chPage] <;> omega

/-- A field of the channel that is none of them stays, whatever the budget counts besides. -/
theorem Hub.only.get_pg {n : Nat} {l : List Fld} {a b : Hub} {g : Fld}
    (x : Hub.only (BUD_CNT2_CANCELLED :: chFlds n l) geyPages a b) (hf : g.fits) (hi : 0x4003 < g.idx ∧ g.idx < 0x4066)
    (ha : ∀ f ∈ l, f.apart g) : b.get (g.pg n) = a.get (g.pg n) := by
  refine x.getEq hf (fun f hm => ?_) ?_
  · rcases List.mem_cons.1 hm with rfl | hm
    · exact .inl (by simp only; omega)
    · rcases List.mem_append.1 hm with hm | hm
      · obtain ⟨k, hk, rfl⟩ := List.mem_map.1 hm
        exact (ha k hk).pg n
      · exact geyFlds_apart n hi f hm
  · simp only [geyPages, tracePages, List.mem_cons, List.not_mem_nil, or_false]
    omega

/-- A field of another block stays. -/
theorem Hub.only.get_off {n : Nat} {l : List Fld} {a b : Hub} {g : Fld}
    (x : Hub.only (BUD_CNT2_CANCELLED :: chFlds n l) geyPages a b) (hl : ∀ f ∈ l, 0x4000 ≤ f.idx) (hf : g.fits)
    (hg : g.idx < 0x4000 ∧ g.idx ≠ BUD_CNT2_CANCELLED.idx ∧ g.idx / 256 ∉ geyPages) : b.get g = a.get g := by
  obtain ⟨lo, bud, page⟩ := hg
  refine x.getEq hf (fun f hm => .inl ?_) page
  rcases List.mem_cons.1 hm with rfl | hm
  · exact bud.symm
  · rcases List.mem_append.1 hm with hm | hm
    · obtain ⟨k, hk, rfl⟩ := List.mem_map.1 hm
      have := hl k hk
      simp only
      omega
    · simp only [geyFlds, List.mem_cons, List.not_mem_nil, or_false] at hm
      rcases hm with rfl | rfl | rfl | rfl | rfl | rfl <;> simp only [chPage] <;> omega

/-- Frames of captures, and of fewer fields, are among those the budget counts in. -/
theorem Hub.only.counted {n : Nat} {l : List Fld} {a b : Hub} (x : Hub.only (chFlds n l) geyPages a b) :
    Hub.only (BUD_CNT2_CANCELLED :: chFlds n l) geyPages a b := x.mono (fun _ => List.mem_cons_of_mem _) fun _ => id

end Sys2Proof.Machine
end

section
/-! SUPPORT. The output of a channel: turning on and off, entering a state, and an ON that no longer waits (05 R140, R149,
R165, 10 R287). -/

namespace Sys2Proof.Machine

/-! ## Entering a state -/

@[simp] theorem Hub.ch_chTo (h : Hub) (n st : Nat) : (h.chTo n st).ch n = { h.ch n with stRun := 0 } := Hub.ch_ch!_same ..

theorem Hub.chSt_chTo (h : Hub) (n : Nat) {st : Nat} (hs : st < 16) : (h.chTo n st).get (CH_STAT_STATE.pg n) = st :=
  (h.get_put_pg_same n st (by decide)).trans (Nat.mod_eq_of_lt hs)

/-- The other fields of the channel stay. -/
theorem Hub.get_chTo_pg (h : Hub) (n st : Nat) {g : Fld} (ha : CH_STAT_STATE.apart g) :
    (h.chTo n st).get (no_index (g.pg n)) = h.get (g.pg n) := h.get_put_pg_apart n st (by decide) ha

theorem Hub.only.chTo {fs : List Fld} {ps : List Nat} {a b : Hub} (n st : Nat) (hf : (CH_STAT_STATE.pg n).mayIn fs ps)
    (x : Hub.only fs ps a b) : Hub.only fs ps a (b.chTo n st) := (x.put st hf).ch! n _

/-! ## The high side turns on -/

/-- The high side on, before the edge is offered. -/
def Hub.outRaised (h : Hub) (n cyc : Nat) : Hub :=
  let h1 := ((h.put (CH_STAT_OUT.pg n) 1).put (CH_STAT_OPEN.pg n) 0).geyClose n 1
  h1.ch! n fun c => { c with
    hit := h1.hitMode n, hitStart := h1.eng cyc, offRun := 0, refreshing := false, lsClosed := false,
    limSince := if h1.flag (CH_STAT_LIMITING.pg n) then some (h1.eng cyc : Int) else none }

theorem Hub.outOn_eq (h : Hub) (n cyc : Nat) (offer : Bool) : h.outOn n cyc offer =
    if h.flag (CH_STAT_OUT.pg n) then h
    else if offer then (h.outRaised n cyc).geyEdge n 0 cyc else h.outRaised n cyc := rfl

theorem Hub.only.outRaised {a b : Hub} {n : Nat} {l : List Fld} (cyc : Nat) (hl : ∀ f ∈ [CH_STAT_OUT, CH_STAT_OPEN], f ∈ l)
    (x : Hub.only (chFlds n l) geyPages a b) : Hub.only (chFlds n l) geyPages a (b.outRaised n cyc) := by
  have out := chFlds_mayIn (n := n) (ps := geyPages) (hl CH_STAT_OUT (by decide)) (by decide)
  have openLoad := chFlds_mayIn (n := n) (ps := geyPages) (hl CH_STAT_OPEN (by decide)) (by decide)
  unfold Hub.outRaised
  exact (((x.put 1 out).put 0 openLoad).geyClose n 1).ch! n _

theorem Hub.only.geyEdge {a b : Hub} {n : Nat} {l : List Fld} (dir cyc : Nat) (hn : n < 64)
    (x : Hub.only (chFlds n l) geyPages a b) : Hub.only (chFlds n l) geyPages a (b.geyEdge n dir cyc) :=
  x.trans ((b.only_geyEdge dir cyc hn).mono chFlds_gey fun _ => id)

theorem Hub.only.outOn {a b : Hub} {n : Nat} {l : List Fld} (cyc : Nat) (offer : Bool) (hn : n < 64)
    (hl : ∀ f ∈ [CH_STAT_OUT, CH_STAT_OPEN], f ∈ l) (x : Hub.only (chFlds n l) geyPages a b) :
    Hub.only (chFlds n l) geyPages a (b.outOn n cyc offer) := by
  rw [Hub.outOn_eq]
  exact .ite x (.ite ((x.outRaised cyc hl).geyEdge 0 cyc hn) (x.outRaised cyc hl))

theorem Hub.get_outRaised_out (h : Hub) (n cyc : Nat) : (h.outRaised n cyc).get (CH_STAT_OUT.pg n) = 1 := by
  unfold Hub.outRaised
  rw [Hub.get_ch!, Hub.get_geyClose, Hub.get_put_pg_apart _ _ _ (by decide) (by decide),
    Hub.get_put_pg_same _ _ _ (by decide)]
  rfl

/-- An edge leaves every field of the channel but those of its captures. -/
theorem Hub.get_geyEdge_pg (h : Hub) {n : Nat} (dir cyc : Nat) (hn : n < 64) {g : Fld} (hf : g.fits)
    (hi : 0x4003 < g.idx ∧ g.idx < 0x4066) : (h.geyEdge n dir cyc).get (no_index (g.pg n)) = h.get (g.pg n) :=
  (Hub.only.geyEdge (l := []) dir cyc hn (.refl ..)).counted.get_pg hf hi nofun

theorem Hub.out_outOn (h : Hub) {n : Nat} (cyc : Nat) (offer : Bool) (hn : n < 64) :
    (h.outOn n cyc offer).get (CH_STAT_OUT.pg n) = 1 := by
  rw [Hub.outOn_eq]
  split
  · next on => exact (h.flag_iff rfl).1 on
  · split
    · rw [Hub.get_geyEdge_pg _ _ _ hn (by decide) (by decide), Hub.get_outRaised_out]
    · exact h.get_outRaised_out n cyc

/-- The grid's data of a channel: the duties that wait and the end of the on-phase. -/
abbrev Chan.grid (c : Chan) : Option Nat × Int := (c.nextDuty, c.onEnd)

theorem Hub.grid_geyEdge (h : Hub) (n dir cyc : Nat) : ((h.geyEdge n dir cyc).ch n).grid = (h.ch n).grid := by
  obtain ⟨on, off, e⟩ := h.ch_geyEdge n dir cyc
  rw [e]

theorem Hub.grid_outRaised (h : Hub) (n cyc : Nat) : ((h.outRaised n cyc).ch n).grid = (h.ch n).grid := by
  unfold Hub.outRaised
  rw [Hub.ch_ch!_same, Hub.ch_geyClose]
  rfl

theorem Hub.grid_outOn (h : Hub) (n cyc : Nat) (offer : Bool) : ((h.outOn n cyc offer).ch n).grid = (h.ch n).grid := by
  rw [Hub.outOn_eq]
  split
  · rfl
  · split
    · rw [Hub.grid_geyEdge, Hub.grid_outRaised]
    · exact h.grid_outRaised n cyc

/-! ## The high side turns off -/

/-- The high side off, before the edge is offered. -/
def Hub.outDropped (h : Hub) (n cyc : Nat) (offer : Bool) : Hub :=
  let h1 := (h.put (CH_STAT_OUT.pg n) 0).geyClose n 0
  h1.ch! n fun c => { c with
    onPhase := false, hit := false, onAll := false, lsClosed := offer && !h1.flag (CH_MODE_OFFDECAY.pg n),
    limAcc := c.limRan (h1.eng cyc), limSince := none }

theorem Hub.outOff_eq (h : Hub) (n cyc : Nat) (offer : Bool) : h.outOff n cyc offer =
    if h.flag (CH_STAT_OUT.pg n) then
      if offer then (h.outDropped n cyc offer).geyEdge n 1 cyc else h.outDropped n cyc offer
    else h.ch! n fun c =>
      { c with onPhase := false, hit := false, onAll := false, lsClosed := c.lsClosed && offer } := rfl

theorem Hub.only.outDropped {a b : Hub} {n : Nat} {l : List Fld} (cyc : Nat) (offer : Bool) (hl : CH_STAT_OUT ∈ l)
    (x : Hub.only (chFlds n l) geyPages a b) : Hub.only (chFlds n l) geyPages a (b.outDropped n cyc offer) := by
  unfold Hub.outDropped
  exact ((x.put 0 (chFlds_mayIn hl (by decide))).geyClose n 0).ch! n _

theorem Hub.only.outOff {a b : Hub} {n : Nat} {l : List Fld} (cyc : Nat) (offer : Bool) (hn : n < 64) (hl : CH_STAT_OUT ∈ l)
    (x : Hub.only (chFlds n l) geyPages a b) : Hub.only (chFlds n l) geyPages a (b.outOff n cyc offer) := by
  rw [Hub.outOff_eq]
  exact .ite (.ite ((x.outDropped cyc offer hl).geyEdge 1 cyc hn) (x.outDropped cyc offer hl)) (x.ch! n _)

theorem Hub.get_outDropped_out (h : Hub) (n cyc : Nat) (offer : Bool) :
    (h.outDropped n cyc offer).get (CH_STAT_OUT.pg n) = 0 := by
  unfold Hub.outDropped
  rw [Hub.get_ch!, Hub.get_geyClose, Hub.get_put_pg_same _ _ _ (by decide)]
  rfl

theorem Hub.out_outOff (h : Hub) {n : Nat} (cyc : Nat) (offer : Bool) (hn : n < 64) :
    (h.outOff n cyc offer).get (CH_STAT_OUT.pg n) = 0 := by
  rw [Hub.outOff_eq]
  split
  · split
    · rw [Hub.get_geyEdge_pg _ _ _ hn (by decide) (by decide), Hub.get_outDropped_out]
    · exact h.get_outDropped_out ..
  · next off => exact (h.not_flag_iff _).1 (Bool.not_eq_true _ ▸ off)

theorem Hub.grid_outOff (h : Hub) (n cyc : Nat) (offer : Bool) : ((h.outOff n cyc offer).ch n).grid = (h.ch n).grid := by
  have dropped : ((h.outDropped n cyc offer).ch n).grid = (h.ch n).grid := by
    unfold Hub.outDropped
    rw [Hub.ch_ch!_same, Hub.ch_geyClose]
    rfl
  rw [Hub.outOff_eq]
  split
  · split
    · rw [Hub.grid_geyEdge, dropped]
    · exact dropped
  · rw [Hub.ch_ch!_same]

/-! ## An ON that no longer waits -/

theorem Hub.only.cancelDeferred {fs : List Fld} {ps : List Nat} {a b : Hub} {n : Nat}
    (hb : BUD_CNT2_CANCELLED.mayIn fs ps) (hc : (CH_STAT_CAPPED.pg n).mayIn fs ps) (x : Hub.only fs ps a b) :
    Hub.only fs ps a (b.cancelDeferred n) := by
  unfold Hub.cancelDeferred
  exact .ite x ((((x.bud! _).setCh n _).incSat _ hb).put 0 hc)

theorem Hub.ch_cancelDeferred (h : Hub) (n : Nat) : ∃ d, (h.cancelDeferred n).ch n = { h.ch n with tickDefer := d } := by
  unfold Hub.cancelDeferred
  dsimp only
  split
  · exact ⟨(h.ch n).tickDefer, rfl⟩
  · refine ⟨none, ?_⟩
    rw [Hub.ch_put, Hub.ch_incSat, Hub.ch_setCh_same]
    rfl

/-- The fields of the channel but CAPPED stay. -/
theorem Hub.get_cancelDeferred_pg (h : Hub) (n : Nat) {g : Fld} (hf : g.fits) (hi : 0x4003 < g.idx ∧ g.idx < 0x4066)
    (ha : CH_STAT_CAPPED.apart g) : (h.cancelDeferred n).get (no_index (g.pg n)) = h.get (g.pg n) :=
  have x : Hub.only (BUD_CNT2_CANCELLED :: chFlds n [CH_STAT_CAPPED]) geyPages h (h.cancelDeferred n) :=
    Hub.only.cancelDeferred (Fld.mayIn_self (List.mem_cons_self ..) (by decide))
      (Fld.mayIn_pg (List.mem_cons_of_mem _ (List.mem_cons_self ..)) (by decide)) (.refl ..)
  x.get_pg hf hi (List.forall_mem_singleton.2 ha)

/-! ## Frames of the output -/

theorem Fld.mayIn.mono {fs gs : List Fld} {ps qs : List Nat} {f : Fld} (x : f.mayIn fs ps) (hf : ∀ g ∈ fs, g ∈ gs)
    (hp : ∀ p ∈ ps, p ∈ qs) : f.mayIn gs qs :=
  x.imp (fun ⟨g, hg, w⟩ => ⟨g, hf g hg, w⟩) (hp _)

/-- A field of CH_STAT lies in the register. -/
theorem stat_mayIn {n : Nat} {ps : List Nat} {f : Fld} (hi : f.idx = CH_STAT_STATE.idx) (hf : f.fits) :
    (f.pg n).mayIn (outFlds n) ps :=
  .inl ⟨⟨0x4014 + 256 * n, 0, 32⟩, List.mem_cons_self .., ⟨congrArg (· + 256 * n) hi, Nat.zero_le _, by simpa using hf⟩, hf⟩

/-- What an output reaches: fields of CH_STAT, the count of ONs, the duty in use, flag 7, and captures. -/
theorem outFlds_mayIn {n : Nat} {l : List Fld}
    (hl : ∀ f ∈ l, f.fits ∧ (f.idx = CH_STAT_STATE.idx ∨ f ∈ [CH_SWCNT_SW, CH_APPLIED_DUTY, ⟨0x4003, 7, 1⟩])) :
    ∀ g ∈ BUD_CNT2_CANCELLED :: chFlds n l, g.mayIn (outFlds n) geyPages := by
  intro g hg
  rcases List.mem_cons.1 hg with rfl | hg
  · exact Fld.mayIn_self (by simp [outFlds]) (by decide)
  · rcases List.mem_append.1 hg with hg | hg
    · obtain ⟨f, hf, rfl⟩ := List.mem_map.1 hg
      obtain ⟨fits, stat | other⟩ := hl f hf
      · exact stat_mayIn stat fits
      · refine Fld.mayIn_pg (List.mem_append_left _ ?_) fits
        simp only [List.mem_cons, List.not_mem_nil, or_false] at other
        rcases other with rfl | rfl | rfl
        · simp
        · simp
        · rw [← flagFld_chPage]
          simp
    · exact (gey_mayIn g hg).mono (fun _ => List.mem_append_right _) fun _ => id

end Sys2Proof.Machine
end

section
/-! SUPPORT. Limiting and the warnings of temperature (05 R154, R157, R165). -/

namespace Sys2Proof.Machine

/-- The output is driven in ON, LIMIT and ATTEMPT. -/
theorem Hub.driven_iff (h : Hub) (n : Nat) : h.driven n = true ↔ h.get (CH_STAT_STATE.pg n) ∈ [2, 3, 5] := by
  simp only [Hub.driven, Bool.or_eq_true, beq_iff_eq, List.mem_cons, List.not_mem_nil, or_false, or_assoc]

/-! ## LIMIT_ENTRY -/

/-- LIMITING shows and the limit timer starts; the window of a hit's capture closes (05 R154, 07 R217). -/
def Hub.limitShown (h : Hub) (n : Nat) : Hub :=
  let h1 := (h.put (CH_STAT_LIMITING.pg n) 1).ch! n fun c => { c with
    limAcc := 0, limSince := some (h.eng h.cyc : Int) }
  if (h.ch n).hit then h1.geyClose n 0 else h1

theorem Hub.limitEntry_eq (h : Hub) (n : Nat) : h.limitEntry n =
    (if h.get (CH_STAT_STATE.pg n) = 2 then (h.limitShown n).chTo n 3 else h.limitShown n).evt (chPage n) 6 := rfl

theorem Hub.get_limitShown (h : Hub) (n : Nat) (g : Fld) :
    (h.limitShown n).get g = (h.put (CH_STAT_LIMITING.pg n) 1).get g := by
  unfold Hub.limitShown
  dsimp only
  split
  · rw [Hub.get_geyClose, Hub.get_ch!]
  · exact Hub.get_ch! ..

theorem Hub.ch_limitShown (h : Hub) (n : Nat) :
    (h.limitShown n).ch n = { h.ch n with limAcc := 0, limSince := some (h.eng h.cyc : Int) } := by
  unfold Hub.limitShown
  dsimp only
  split
  · rw [Hub.ch_geyClose, Hub.ch_ch!_same, Hub.ch_put]
  · rw [Hub.ch_ch!_same, Hub.ch_put]

theorem Hub.get_limitEntry_limiting (h : Hub) (n : Nat) : (h.limitEntry n).get (CH_STAT_LIMITING.pg n) = 1 := by
  have shown : (h.limitShown n).get (CH_STAT_LIMITING.pg n) = 1 := by
    rw [Hub.get_limitShown, Hub.get_put_pg_same _ _ _ (by decide)]
    rfl
  rw [Hub.limitEntry_eq, Hub.get_evt_pg _ _ _ (by decide) (by decide)]
  split
  · rw [Hub.get_chTo_pg _ _ _ (by decide), shown]
  · exact shown

theorem Hub.chSt_limitEntry (h : Hub) (n : Nat) : (h.limitEntry n).get (CH_STAT_STATE.pg n) =
    if h.get (CH_STAT_STATE.pg n) = 2 then 3 else h.get (CH_STAT_STATE.pg n) := by
  rw [Hub.limitEntry_eq, Hub.get_evt_pg _ _ _ (by decide) (by decide)]
  split
  · exact Hub.chSt_chTo _ _ (by decide)
  · rw [Hub.get_limitShown, Hub.get_put_pg_apart _ _ _ (by decide) (by decide)]

/-- The limit timer has run for no time yet. -/
theorem Hub.limRan_limitEntry (h : Hub) (n : Nat) : ((h.limitEntry n).ch n).limRan (h.eng h.cyc) = 0 := by
  have started : ((h.limitShown n).ch n).limRan (h.eng h.cyc) = 0 := by
    rw [Hub.ch_limitShown]
    simp only [Chan.limRan, sub_self, Int.toNat_zero, Nat.add_zero]
  rw [Hub.limitEntry_eq, Hub.ch_evt]
  split
  · rw [Hub.ch_chTo]
    exact started
  · exact started

theorem Hub.only.limitShown {fs : List Fld} {ps : List Nat} {a b : Hub} {n : Nat}
    (hf : (CH_STAT_LIMITING.pg n).mayIn fs ps) (x : Hub.only fs ps a b) : Hub.only fs ps a (b.limitShown n) :=
  .ite (((x.put 1 hf).ch! n _).geyClose n 0) ((x.put 1 hf).ch! n _)

theorem Hub.only_limitEntry (h : Hub) (n : Nat) :
    Hub.only ([CH_STAT_LIMITING.pg n, CH_STAT_STATE.pg n, flagFld (chPage n) 6] ++ geyFlds n) geyPages h
      (h.limitEntry n) := by
  have shown : Hub.only ([CH_STAT_LIMITING.pg n, CH_STAT_STATE.pg n, flagFld (chPage n) 6] ++ geyFlds n) geyPages h
      (h.limitShown n) := (Hub.only.refl ..).limitShown (Fld.mayIn_pg (by simp) (by decide))
  rw [Hub.limitEntry_eq]
  exact (Hub.only.ite (shown.chTo n 3 (Fld.mayIn_pg (by simp) (by decide))) shown).evt _ 6
    (flagFld_mayIn (by simp) (by decide)) traceIn_gey.irq (.inl (by decide))

/-! ## LIMIT_EXIT -/

theorem Hub.get_limitExit_limiting (h : Hub) (n : Nat) : (h.limitExit n).get (CH_STAT_LIMITING.pg n) = 0 := by
  have shown : (h.put (CH_STAT_LIMITING.pg n) 0).get (CH_STAT_LIMITING.pg n) = 0 :=
    (h.get_put_pg_same n 0 (by decide)).trans rfl
  unfold Hub.limitExit
  dsimp only
  split
  · rw [Hub.get_chTo_pg _ _ _ (by decide), shown]
  · exact shown

theorem Hub.chSt_limitExit (h : Hub) (n : Nat) : (h.limitExit n).get (CH_STAT_STATE.pg n) =
    if h.get (CH_STAT_STATE.pg n) = 3 then 2 else h.get (CH_STAT_STATE.pg n) := by
  unfold Hub.limitExit
  dsimp only
  split
  · exact Hub.chSt_chTo _ _ (by decide)
  · exact Hub.get_put_pg_apart _ _ _ (by decide) (by decide)

theorem Hub.only_limitExit (h : Hub) (n : Nat) :
    Hub.only [CH_STAT_LIMITING.pg n, CH_STAT_STATE.pg n] [] h (h.limitExit n) := by
  have shown : Hub.only [CH_STAT_LIMITING.pg n, CH_STAT_STATE.pg n] [] h (h.put (CH_STAT_LIMITING.pg n) 0) :=
    (Hub.only.refl ..).put 0 (Fld.mayIn_pg (by simp) (by decide))
  exact .ite (shown.chTo n 2 (Fld.mayIn_pg (by simp) (by decide))) shown

/-! ## Temperature -/

theorem Hub.otWarn_shows (h : Hub) (n : Nat) (temp : BitVec 10) :
    (h.otWarn n temp).geti (CH_TEMP_TEMP.pg n) = temp.toInt ∧ (h.otWarn n temp).get (flagFld (chPage n) 5) = 1
    ∧ (h.otWarn n temp).ch n = { h.ch n with otArmed := false } := by
  unfold Hub.otWarn
  refine ⟨?_, Hub.get_evt_chFlag _ _ _ (by decide), ?_⟩
  · rw [Hub.geti, Hub.get_evt_pg _ _ _ (by decide) (by decide), Hub.get_ch!]
    exact h.geti_puti_pg n temp rfl (by decide)
  · rw [Hub.ch_evt, Hub.ch_ch!_same, Hub.ch_puti]

theorem Hub.only_otWarn (h : Hub) (n : Nat) (temp : BitVec 10) :
    Hub.only [CH_TEMP_TEMP.pg n, flagFld (chPage n) 5] irqPages h (h.otWarn n temp) :=
  (((Hub.only.refl _ _ h).puti _ (Fld.mayIn_pg (by simp) (by decide))).ch! n _).evt _ 5
    (flagFld_mayIn (by simp) (by decide)) (fun _ => id) (.inl (by decide))

theorem Hub.otClear_shows (h : Hub) (n : Nat) (temp : BitVec 10) :
    (h.otClear n temp).geti (CH_TEMP_TEMP.pg n) = temp.toInt ∧ (h.otClear n temp).get (CH_STAT_OT.pg n) = 0
    ∧ (h.otClear n temp).ch n = { h.ch n with otArmed := true } := by
  unfold Hub.otClear
  refine ⟨?_, ?_, ?_⟩
  · rw [Hub.geti, Hub.get_ch!, Hub.get_put_pg_apart _ _ _ (by decide) (by decide)]
    exact h.geti_puti_pg n temp rfl (by decide)
  · rw [Hub.get_ch!, Hub.get_put_pg_same _ _ _ (by decide)]
    rfl
  · rw [Hub.ch_ch!_same, Hub.ch_put, Hub.ch_puti]

theorem Hub.only_otClear (h : Hub) (n : Nat) (temp : BitVec 10) :
    Hub.only [CH_TEMP_TEMP.pg n, CH_STAT_OT.pg n] [] h (h.otClear n temp) :=
  (((Hub.only.refl _ _ h).puti _ (Fld.mayIn_pg (by simp) (by decide))).put 0
    (Fld.mayIn_pg (by simp) (by decide))).ch! n _

end Sys2Proof.Machine

open Sys2Proof Sys2Proof.Machine

/-- Settles O14, by what LIMIT_ENTRY, LIMIT_EXIT, OT_WARN and OT_CLEAR show and reach. -/
theorem limitAndTemperatureWarnings : Obligations.LimitAndTemperatureWarnings := by
  unfold Obligations.LimitAndTemperatureWarnings
  intro s ch temp on fitted
  refine ⟨fun st limiting out => ?_, fun st limiting out => ?_, fun st hot armed => ?_, fun st cool => ?_⟩
  · have due : ((s.hub.chSt ch.toNat == 2 || s.hub.chSt ch.toNat == 5) && s.hub.flag (CH_STAT_OUT.pg ch.toNat)
        && !s.hub.flag (CH_STAT_LIMITING.pg ch.toNat)) = true := by
      rw [(s.hub.flag_iff rfl).2 out, (s.hub.not_flag_iff _).2 limiting]
      simpa using st
    have attempt : s.hub.get (CH_STAT_STATE.pg ch.toNat) ≠ 2 → s.hub.get (CH_STAT_STATE.pg ch.toNat) = 5 := by
      simpa [or_iff_not_imp_left] using st
    refine ⟨_, State.chWhen_on _ fitted due on, Hub.get_limitEntry_limiting .., (Hub.chSt_limitEntry ..).trans ?_,
      Hub.get_evt_chFlag _ _ _ (by decide), Hub.limRan_limitEntry .., State.frame_hub (Hub.only_limitEntry ..)⟩
    split
    · rfl
    · next other => exact attempt other
  · have due : (s.hub.driven ch.toNat && s.hub.flag (CH_STAT_OUT.pg ch.toNat)
        && s.hub.flag (CH_STAT_LIMITING.pg ch.toNat)) = true := by
      rw [(s.hub.driven_iff _).2 st, (s.hub.flag_iff rfl).2 out, (s.hub.flag_iff rfl).2 limiting]
      rfl
    exact ⟨_, State.chWhen_on _ fitted due on, Hub.get_limitExit_limiting .., Hub.chSt_limitExit ..,
      State.frame_hub (Hub.only_limitExit ..)⟩
  · have due : (s.hub.chSt ch.toNat != 0 && decide (300 ≤ temp.toInt) && (s.hub.ch ch.toNat).otArmed) = true := by
      rw [bne_iff_ne.2 st, decide_eq_true hot, armed]
      rfl
    obtain ⟨shown, flag, data⟩ := s.hub.otWarn_shows ch.toNat temp
    exact ⟨_, State.chWhen_on _ fitted due on, shown, flag, data, State.frame_hub (Hub.only_otWarn ..)⟩
  · have due : (s.hub.chSt ch.toNat != 0 && decide (temp.toInt < 280)) = true := by
      rw [bne_iff_ne.2 st, decide_eq_true cool]
      rfl
    obtain ⟨shown, clear, data⟩ := s.hub.otClear_shows ch.toNat temp
    exact ⟨_, State.chWhen_on _ fitted due on, shown, clear, data, State.frame_hub (Hub.only_otClear ..)⟩

end

section
/-! SUPPORT. Open load, the end of a hit, and the counts of retries (05 R152, R158, R162–R163). -/

namespace Sys2Proof.Machine

/-- Open load is seen: OPEN sets, and its count starts (05 R158). -/
def Hub.openSeen (h : Hub) (n : Nat) (mv : BitVec 16) : Hub :=
  ((h.put (CH_STAT_OPEN.pg n) 1).ch! n fun c => { c with openRun := 0 }).report (chPage n) 3 0x1804 n sevWARN
    [(0, 2, mv.toNat)]

theorem Hub.openSeen_shows (h : Hub) (n : Nat) (mv : BitVec 16) : (h.openSeen n mv).get (CH_STAT_OPEN.pg n) = 1
    ∧ (h.openSeen n mv).get (flagFld (chPage n) 3) = 1 ∧ (h.openSeen n mv).ch n = { h.ch n with openRun := 0 } := by
  unfold Hub.openSeen
  refine ⟨?_, Hub.get_report_chFlag _ _ _ _ _ _ _ (by decide), ?_⟩
  · rw [Hub.get_report_pg _ _ _ _ _ _ _ (by decide) (by decide), Hub.get_ch!, Hub.get_put_pg_same _ _ _ (by decide)]
    rfl
  · rw [Hub.ch_report, Hub.ch_ch!_same, Hub.ch_put]

theorem Hub.only_openSeen (h : Hub) (n : Nat) (mv : BitVec 16) :
    Hub.only [CH_STAT_OPEN.pg n, flagFld (chPage n) 3] tracePages h (h.openSeen n mv) :=
  (((Hub.only.refl ..).put 1 (Fld.mayIn_pg (by simp) (by decide))).ch! n _).report _ 3 _ _ _ _
    (flagFld_mayIn (by simp) (by decide)) (fun _ => id) (.inl (by decide))

theorem Hub.ch_hitEnd (h : Hub) (n : Nat) : (h.hitEnd n).ch n = { h.ch n with hit := false } := by
  unfold Hub.hitEnd
  rw [Hub.ch_geyClose, Hub.ch_ch!_same]

@[simp] theorem Hub.get_hitEnd (h : Hub) (n : Nat) (g : Fld) : (h.hitEnd n).get g = h.get g := by
  unfold Hub.hitEnd
  rw [Hub.get_geyClose, Hub.get_ch!]

theorem Hub.retryOk_shows (h : Hub) (n : Nat) : (h.retryOk n).get (CH_STAT_STATE.pg n) = 2
    ∧ (h.retryOk n).get (CH_STAT_RETRY_PEND.pg n) = 0 ∧ (h.retryOk n).get (flagFld (chPage n) 2) = 1 := by
  unfold Hub.retryOk
  refine ⟨?_, ?_, Hub.get_report_chFlag _ _ _ _ _ _ _ (by decide)⟩
  · rw [Hub.get_report_pg _ _ _ _ _ _ _ (by decide) (by decide), Hub.get_put_pg_apart _ _ _ (by decide) (by decide),
      Hub.chSt_chTo _ _ (by decide)]
  · rw [Hub.get_report_pg _ _ _ _ _ _ _ (by decide) (by decide), Hub.get_put_pg_same _ _ _ (by decide)]
    rfl

theorem Hub.only_retryOk (h : Hub) (n : Nat) :
    Hub.only [CH_STAT_STATE.pg n, CH_STAT_RETRY_PEND.pg n, flagFld (chPage n) 2] tracePages h (h.retryOk n) :=
  (((Hub.only.refl ..).chTo n 2 (Fld.mayIn_pg (by simp) (by decide))).put 0
    (Fld.mayIn_pg (by simp) (by decide))).report _ 2 _ _ _ _
    (flagFld_mayIn (by simp) (by decide)) (fun _ => id) (.inl (by decide))

/-- The limit timer of an attempt is not overdue where TLIM has not run in limitation (05 R154). -/
theorem Hub.attemptRun_of {h : Hub} {n : Nat} (st : h.get (CH_STAT_STATE.pg n) = 5)
    (run : h.get (CH_LIM_TLIM.pg n) ≤ (h.ch n).stRun)
    (none : h.get (CH_STAT_LIMITING.pg n) = 1 →
      (h.ch n).limRan (h.eng h.cyc) ≤ h.get (CH_LIM_TLIM.pg n) * 40000 + 400) : h.attemptRun n = true := by
  unfold Hub.attemptRun
  simp only [Bool.and_eq_true, beq_iff_eq, decide_eq_true_eq, Bool.not_eq_true', Bool.and_eq_false_imp,
    decide_eq_false_iff_not, Nat.not_lt]
  exact ⟨⟨st, run⟩, fun limiting => none ((h.flag_iff rfl).1 limiting)⟩

end Sys2Proof.Machine

open Sys2Proof Sys2Proof.Machine

/-- Settles O15, by what each monitor shows and reaches. That a retry that succeeds clears RETRY_PEND is the model's
reading (log entry 21). -/
theorem loadMonitorsAndRetryCounts : Obligations.LoadMonitorsAndRetryCounts := by
  unfold Obligations.LoadMonitorsAndRetryCounts
  intro s ch mv on fitted
  refine ⟨fun st test closed run high => ?_, fun openLoad st run => ?_, fun hit out ended => ?_, fun st run none => ?_,
    fun quiet => ?_⟩
  · have due : (s.hub.inState ch.toNat 1 100 && s.hub.flag (CH_CTL_OLT.pg ch.toNat)
        && !s.hub.flag (CH_STAT_OPEN.pg ch.toNat) && decide (3000 < mv.toNat)) = true := by
      rw [Hub.inState, beq_iff_eq.2 st, decide_eq_true run, (s.hub.flag_iff rfl).2 test, (s.hub.not_flag_iff _).2 closed,
        decide_eq_true high]
      rfl
    obtain ⟨shown, flag, data⟩ := s.hub.openSeen_shows ch.toNat mv
    exact ⟨_, State.chWhen_on _ fitted due on, shown, flag, data, State.frame_hub (Hub.only_openSeen ..)⟩
  · have due : (s.hub.flag (CH_STAT_OPEN.pg ch.toNat) && s.hub.chSt ch.toNat != 0
        && decide (100 ≤ (s.hub.ch ch.toNat).openRun)) = true := by
      rw [(s.hub.flag_iff rfl).2 openLoad, bne_iff_ne.2 st, decide_eq_true run]
      rfl
    exact ⟨_, State.chWhen_on _ fitted due on, s.hub.get_put_pg_same _ 0 (by decide),
      State.regFrame_hub ((Hub.only.refl ..).put 0 (Fld.mayIn_pg (by simp) (by decide))) (Hub.bare_put ..)⟩
  · have due : s.hub.hitOver ch.toNat (s.hub.eng 39999) = true := by
      rw [Hub.hitOver, hit, (s.hub.flag_iff rfl).2 out]
      exact decide_eq_true ended
    refine ⟨_, State.chWhen_on _ fitted due on, ?_, (Hub.get_hitEnd ..).trans out,
      State.frame_hub (((Hub.only.refl ..).ch! ..).geyClose ..)⟩
    rw [Hub.ch_hitEnd]
  · obtain ⟨state, pend, flag⟩ := s.hub.retryOk_shows ch.toNat
    exact ⟨_, State.chWhen_on _ fitted (Hub.attemptRun_of st run none) on, state, pend, flag,
      State.frame_hub (Hub.only_retryOk ..)⟩
  · refine ⟨_, State.chWhen_on _ fitted (decide_eq_true quiet) on, ?_, Hub.get_put_pg_same _ _ 0 (by decide),
      State.regFrame_hub (((Hub.only.refl ..).put 0 (Fld.mayIn_pg (by simp) (by decide))).put 0
        (Fld.mayIn_pg (by simp) (by decide))) ((Hub.bare_put ..).trans (Hub.bare_put ..))⟩
    exact (Hub.get_put_pg_apart _ _ _ (by decide) (by decide)).trans (s.hub.get_put_pg_same _ 0 (by decide))

end

section
/-! SUPPORT. Trips: the output is off, CH_TRIP is loaded, and the channel waits or latches (05 R154–R157, R160, R164). -/

namespace Sys2Proof.Machine

/-! ## The class F conversion of a trip (13 R353) -/

/-- A class F conversion reaches the converters' own data and the count of aborted conversions. -/
theorem Hub.classF_eq (h : Hub) (k cyc : Nat) : ∃ f, h.classF k cyc = h.mea! f
    ∨ h.classF k cyc = (h.mea! f).incSat (ADC_CNT_FABORT.nth k) := by
  unfold Hub.classF
  dsimp only
  split
  · exact ⟨id, .inl rfl⟩
  · split
    · exact ⟨_, .inl rfl⟩
    · split
      · exact ⟨_, .inr rfl⟩
      · exact ⟨_, .inl rfl⟩

theorem Hub.get_classF (h : Hub) (cyc : Nat) {g : Fld} (hg : g.idx / 256 ≠ 9) : (h.classF 2 cyc).get g = h.get g := by
  obtain ⟨f, e | e⟩ := h.classF_eq 2 cyc <;> rw [e]
  · exact Hub.get_mea! ..
  · exact Hub.get_incSat_apart _ _ (by decide) (.inl fun i => hg (i ▸ rfl))

theorem Hub.pages_classF (h : Hub) (k cyc : Nat) : (h.classF k cyc).pages = h.pages := by
  obtain ⟨f, e | e⟩ := h.classF_eq k cyc <;> rw [e] <;> rfl

@[simp] theorem Hub.ch_classF (h : Hub) (k cyc n : Nat) : (h.classF k cyc).ch n = h.ch n := by
  obtain ⟨f, e | e⟩ := h.classF_eq k cyc <;> rw [e] <;> rfl

theorem Hub.only.classF {fs : List Fld} {ps : List Nat} {a b : Hub} (cyc : Nat) (hp : 9 ∈ ps) (x : Hub.only fs ps a b) :
    Hub.only fs ps a (b.classF 2 cyc) := by
  obtain ⟨f, e | e⟩ := b.classF_eq 2 cyc <;> rw [e]
  · exact x.mea! f
  · exact (x.mea! f).incSat 1 (.inr hp)

/-! ## The steps of a trip -/

/-- The output is off, and a capture in progress ends (05 R160). -/
def Hub.tripOff (h : Hub) (n cyc : Nat) : Hub := (h.geyAbort n 1).outOff n cyc false

/-- The counts and CH_TRIP (05 R160). -/
def Hub.tripLoaded (b : Hub) (n cause att : Nat) : Hub :=
  let h2 := ((b.put (CH_STAT_ATTEMPTS.pg n) att).put (CH_STAT_LIMITING.pg n) 0).put (CH_STAT_CMD.pg n) 0
  let h3 := (h2.incWrap (CH_TRIPCNT_TRIPS.pg n)).put (CH_TRIP_CAUSE.pg n) cause
  (h3.put (CH_TRIP_ATTEMPT.pg n) att).put (CH_TRIP_FRM.pg n) h3.frmNo

/-- The quiet frames count anew, and OC clears the accumulator (05 R156, R163). -/
def Hub.tripCounts (b : Hub) (n cause : Nat) : Hub :=
  b.setCh n { b.ch n with quiet := 0, i2t := if cause = 3 then 0 else (b.ch n).i2t }

/-- What OC and OT leave behind: the accumulator at 0, and OT (05 R156–R157). -/
def Hub.tripMarked (b : Hub) (n cause : Nat) : Hub :=
  let h5 := (b.tripCounts n cause).put (CH_TEMP_I2T.pg n)
    (if cause = 3 then 0 else b.get (CH_TEMP_I2T.pg n))
  if cause = 4 then h5.put (CH_STAT_OT.pg n) 1 else h5

theorem Hub.get_tripCounts (b : Hub) (n cause : Nat) (g : Fld) : (b.tripCounts n cause).get g = b.get g := Hub.get_setCh ..

/-- WAIT, or LATCHED with its flag and its fence once ATTEMPTS has come to MAX (05 R160, R164). -/
def Hub.tripFate (b : Hub) (n cause att max : Nat) : Hub :=
  if max ≤ att then ((b.chTo n 6).report (chPage n) 1 0x1802 n sevFAULT [(0, 1, cause), (1, 1, att)]).fence (chPage n) 2
  else b.chTo n 4

/-- The payload of TRIP (05 R174). -/
def tripSaid (m : TripMeas) (cause att : Nat) : List (Nat × Nat × Nat) :=
  [(0, 1, cause), (2, 2, m.peak.toNat), (4, 1, m.temp.toNat), (5, 1, att), (6, 2, m.vlb.toNat)]

/-- The registers of a trip are loaded, before it is reported and judged. -/
def Hub.tripShown (h : Hub) (n cause cyc : Nat) : Hub :=
  ((h.tripOff n cyc).tripLoaded n cause (h.tripAttempts n)).tripMarked n cause

theorem Hub.chTrip_eq (h : Hub) (n cause : Nat) (m : TripMeas) (cyc : Nat) : h.chTrip n cause m cyc =
    (((h.tripShown n cause cyc).cancelDeferred n).report (chPage n) 0 0x1801 n sevWARN
      (tripSaid m cause (h.tripAttempts n))).tripFate n cause (h.tripAttempts n) (h.get (CH_RETRY_MAX.pg n)) := rfl

/-! ## What each step leaves and shows -/

theorem Hub.only_tripOff (h : Hub) {n : Nat} (cyc : Nat) (hn : n < 64) :
    Hub.only (chFlds n [CH_STAT_OUT]) geyPages h (h.tripOff n cyc) :=
  ((h.only_geyAbort n 1).mono chFlds_gey fun _ => id).outOff cyc false hn (List.mem_cons_self ..)

theorem Hub.get_tripMarked_pg (b : Hub) (n cause : Nat) {g : Fld} (ho : CH_STAT_OT.apart g) (hi : CH_TEMP_I2T.apart g) :
    (b.tripMarked n cause).get (no_index (g.pg n)) = b.get (g.pg n) := by
  unfold Hub.tripMarked
  dsimp only
  split
  · rw [Hub.get_put_pg_apart _ _ _ (by decide) ho, Hub.get_put_pg_apart _ _ _ (by decide) hi, Hub.get_tripCounts]
  · rw [Hub.get_put_pg_apart _ _ _ (by decide) hi, Hub.get_tripCounts]

/-- The flags, states and fences of a trip leave the other fields of the channel. -/
theorem Hub.get_tripFate_pg (b : Hub) (n cause att max : Nat) {g : Fld} (hg : 0x4003 < g.idx) (ha : CH_STAT_STATE.apart g) :
    (b.tripFate n cause att max).get (no_index (g.pg n)) = b.get (g.pg n) := by
  unfold Hub.tripFate
  split
  · rw [Hub.get_fence_pg _ _ _ hg, Hub.get_report_pg _ _ _ _ _ _ _ (by decide) hg, Hub.get_chTo_pg _ _ _ ha]
  · exact b.get_chTo_pg _ _ ha

theorem Hub.get_chTrip_pg (h : Hub) (n cause : Nat) (m : TripMeas) (cyc : Nat) {g : Fld} (hf : g.fits)
    (hi : 0x4003 < g.idx ∧ g.idx < 0x4066) (hs : CH_STAT_STATE.apart g) (hc : CH_STAT_CAPPED.apart g) :
    (h.chTrip n cause m cyc).get (no_index (g.pg n)) = (h.tripShown n cause cyc).get (g.pg n) := by
  rw [Hub.chTrip_eq, Hub.get_tripFate_pg _ _ _ _ _ hi.1 hs, Hub.get_report_pg _ _ _ _ _ _ _ (by decide) hi.1,
    Hub.get_cancelDeferred_pg _ _ hf hi hc]

theorem Hub.i2t_tripFate (b : Hub) (n cause att max : Nat) : ((b.tripFate n cause att max).ch n).i2t = (b.ch n).i2t := by
  unfold Hub.tripFate
  split
  · rw [Hub.ch_fence, Hub.ch_report, Hub.ch_chTo]
  · rw [Hub.ch_chTo]

/-- A field that neither the output nor the trip reaches. -/
theorem Hub.get_chTrip_kept (h : Hub) {n : Nat} (cause : Nat) (m : TripMeas) (cyc : Nat) (hn : n < 64) {g : Fld}
    (hf : g.fits) (hi : 0x4003 < g.idx ∧ g.idx < 0x4066)
    (ha : ∀ f ∈ [CH_STAT_STATE, CH_STAT_CAPPED, CH_STAT_OT, CH_TEMP_I2T, CH_STAT_OUT, CH_STAT_ATTEMPTS, CH_STAT_LIMITING,
      CH_STAT_CMD, CH_TRIPCNT_TRIPS, CH_TRIP_CAUSE, CH_TRIP_ATTEMPT, CH_TRIP_FRM], f.apart g) :
    (h.chTrip n cause m cyc).get (no_index (g.pg n)) = h.get (g.pg n) := by
  simp only [List.forall_mem_cons] at ha
  obtain ⟨state, capped, ot, i2t, out, attempts, limiting, cmd, trips, cause', attempt, frm, -⟩ := ha
  rw [Hub.get_chTrip_pg _ _ _ _ _ hf hi state capped]
  unfold Hub.tripShown Hub.tripLoaded Hub.incWrap
  rw [Hub.get_tripMarked_pg _ _ _ ot i2t]
  dsimp only
  rw [Hub.get_put_pg_apart _ _ _ (by decide) frm, Hub.get_put_pg_apart _ _ _ (by decide) attempt,
    Hub.get_put_pg_apart _ _ _ (by decide) cause', Hub.get_put_pg_apart _ _ _ (by decide) trips,
    Hub.get_put_pg_apart _ _ _ (by decide) cmd, Hub.get_put_pg_apart _ _ _ (by decide) limiting,
    Hub.get_put_pg_apart _ _ _ (by decide) attempts]
  exact (h.only_tripOff cyc hn).counted.get_pg hf hi (List.forall_mem_singleton.2 out)

theorem Hub.tripAttempts_lt (h : Hub) (n : Nat) : h.tripAttempts n < 2 ^ 4 := by
  unfold Hub.tripAttempts
  split
  · omega
  · exact bitsOf_lt ..

/-! ## The trip as a whole -/

/-- What CH_STAT, CH_TRIP and CH_TRIPCNT hold once a trip is loaded. -/
structure Hub.TripLoads (b b' : Hub) (n cause att : Nat) : Prop where
  out : b'.get (CH_STAT_OUT.pg n) = b.get (CH_STAT_OUT.pg n)
  cmd : b'.get (CH_STAT_CMD.pg n) = 0
  limiting : b'.get (CH_STAT_LIMITING.pg n) = 0
  count : b'.get (CH_TRIPCNT_TRIPS.pg n) = (b.get (CH_TRIPCNT_TRIPS.pg n) + 1) % 2 ^ 32
  cause : b'.get (CH_TRIP_CAUSE.pg n) = cause
  attempt : b'.get (CH_TRIP_ATTEMPT.pg n) = att
  frame : b'.get (CH_TRIP_FRM.pg n) = b.get FRM_NO_NO % 2 ^ 16
  attempts : b'.get (CH_STAT_ATTEMPTS.pg n) = att

/-- Every field is read past the writes of the others. -/
theorem Hub.tripLoads_tripLoaded (b : Hub) (n : Nat) {cause att : Nat} (hc : cause < 2 ^ 3) (ha : att < 2 ^ 4) :
    b.TripLoads (b.tripLoaded n cause att) n cause att := by
  have attempt : att % 2 ^ 8 = att := Nat.mod_eq_of_lt (ha.trans (by decide))
  constructor <;> unfold Hub.tripLoaded Hub.incWrap <;>
    simp (disch := decide) only [Hub.get_put_pg_apart, Hub.get_put_pg_same, Hub.get_put_pg_off, Nat.zero_mod,
      Nat.mod_eq_of_lt hc, Nat.mod_eq_of_lt ha, attempt]

theorem Hub.get_tripFate_flag (b : Hub) (n cause att max : Nat) :
    (b.tripFate n cause att max).get (flagFld (chPage n) 0) = b.get (flagFld (chPage n) 0) := by
  have off : (flagFld (chPage n) 0).idx / 256 ∉ tracePages := by
    simp only [tracePages, chPage, List.mem_cons, List.not_mem_nil, or_false]
    omega
  have entered (st : Nat) : (b.chTo n st).get (flagFld (chPage n) 0) = b.get (flagFld (chPage n) 0) := by
    rw [flagFld_chPage, Hub.get_chTo_pg _ _ _ (by decide)]
  unfold Hub.tripFate
  split
  · rw [Hub.get_fence _ _ _ (flagFld_apart _ (by decide)) off,
      Hub.get_report _ _ _ _ _ _ _ (by decide) (flagFld_apart _ (by decide)) off, entered]
  · exact entered 4

/-- Once ATTEMPTS has come to MAX the channel latches. -/
theorem Hub.tripFate_latched (b : Hub) (n cause : Nat) {att max : Nat} (hm : max ≤ att) :
    (b.tripFate n cause att max).get (CH_STAT_STATE.pg n) = 6
    ∧ (b.tripFate n cause att max).get (flagFld (chPage n) 1) = 1
    ∧ (b.tripFate n cause att max).hasCause (chPage n) 2 = true := by
  have off : (flagFld (chPage n) 1).idx / 256 ∉ tracePages := by
    simp only [tracePages, chPage, List.mem_cons, List.not_mem_nil, or_false]
    omega
  unfold Hub.tripFate
  rw [if_pos hm]
  refine ⟨?_, ?_, Hub.hasCause_fence ..⟩
  · rw [Hub.get_fence_pg _ _ _ (by decide), Hub.get_report_pg _ _ _ _ _ _ _ (by decide) (by decide),
      Hub.chSt_chTo _ _ (by decide)]
  · rw [Hub.get_fence _ _ _ (flagFld_apart _ (by decide)) off, Hub.get_report_chFlag _ _ _ _ _ _ _ (by decide)]

/-- A trip shows in every register of 05 R160 and R164. -/
theorem Hub.tripped_chTrip (h : Hub) {n cause : Nat} (m : TripMeas) (cyc : Nat) (hn : n < 64) (hc : cause < 2 ^ 3) :
    h.Tripped (h.chTrip n cause m cyc) n cause := by
  have off := h.only_tripOff cyc hn
  have loads := (h.tripOff n cyc).tripLoads_tripLoaded n hc (h.tripAttempts_lt n)
  have keep {g : Fld} (hf : g.fits) (hi : 0x4003 < g.idx ∧ g.idx < 0x4066)
      (ha : CH_STAT_STATE.apart g ∧ CH_STAT_CAPPED.apart g ∧ CH_STAT_OT.apart g ∧ CH_TEMP_I2T.apart g) :
      (h.chTrip n cause m cyc).get (g.pg n) = ((h.tripOff n cyc).tripLoaded n cause (h.tripAttempts n)).get (g.pg n) := by
    obtain ⟨state, capped, ot, i2t⟩ := ha
    rw [Hub.get_chTrip_pg _ _ _ _ _ hf hi state capped]
    exact Hub.get_tripMarked_pg _ _ _ ot i2t
  exact {
    out := (keep (by decide) (by decide) (by decide)).trans (loads.out.trans (Hub.out_outOff _ cyc false hn))
    cmd := (keep (by decide) (by decide) (by decide)).trans loads.cmd
    limiting := (keep (by decide) (by decide) (by decide)).trans loads.limiting
    count := by
      rw [keep (by decide) (by decide) (by decide), loads.count, off.counted.get_pg (by decide) (by decide) (by decide)]
    cause := (keep (by decide) (by decide) (by decide)).trans loads.cause
    attempt := (keep (by decide) (by decide) (by decide)).trans loads.attempt
    frame := by
      rw [keep (by decide) (by decide) (by decide), loads.frame, off.counted.get_off (by decide) (by decide) (by decide)]
    attempts := (keep (by decide) (by decide) (by decide)).trans loads.attempts
    flag := (Hub.get_tripFate_flag ..).trans (Hub.get_report_chFlag _ _ _ _ _ _ _ (by decide))
    wait := fun less => by
      rw [Hub.chTrip_eq, Hub.tripFate, if_neg (Nat.not_le.2 less), Hub.chSt_chTo _ _ (by decide)]
    latched := fun full => Hub.tripFate_latched _ _ _ full }

/-! ## OC, OT and the class F conversion -/

/-- An OC trip clears the accumulator (05 R156). -/
theorem Hub.chTrip_oc (h : Hub) {n : Nat} (m : TripMeas) (cyc : Nat) :
    (h.chTrip n 3 m cyc).get (CH_TEMP_I2T.pg n) = 0 ∧ ((h.chTrip n 3 m cyc).ch n).i2t = 0 := by
  refine ⟨?_, ?_⟩
  · rw [Hub.get_chTrip_pg _ _ _ _ _ (by decide) (by decide) (by decide) (by decide)]
    exact Hub.get_put_pg_same _ _ _ (by decide)
  · have marked : ((h.tripShown n 3 cyc).ch n).i2t = 0 := by
      unfold Hub.tripShown Hub.tripMarked Hub.tripCounts
      dsimp only
      rw [if_neg (by decide), Hub.ch_put, Hub.ch_setCh_same]
      rfl
    obtain ⟨d, e⟩ := (h.tripShown n 3 cyc).ch_cancelDeferred n
    rw [Hub.chTrip_eq, Hub.i2t_tripFate, Hub.ch_report, e]
    exact marked

/-- An OT trip sets OT (05 R157). -/
theorem Hub.chTrip_ot (h : Hub) (n : Nat) (m : TripMeas) (cyc : Nat) : (h.chTrip n 4 m cyc).get (CH_STAT_OT.pg n) = 1 := by
  rw [Hub.get_chTrip_pg _ _ _ _ _ (by decide) (by decide) (by decide) (by decide)]
  unfold Hub.tripShown Hub.tripMarked
  dsimp only
  rw [if_pos rfl, Hub.get_put_pg_same _ _ _ (by decide)]
  rfl

/-- A trip with its class F conversion shows as the trip does. -/
theorem Hub.Tripped.classF {h a : Hub} {n cause : Nat} (x : h.Tripped a n cause) (cyc : Nat) :
    h.Tripped (a.classF 2 cyc) n cause := by
  have keep (f : Fld) (hf : 0x4000 ≤ f.idx) : (a.classF 2 cyc).get (f.pg n) = a.get (f.pg n) :=
    a.get_classF cyc (by simp only; omega)
  have flag (bit : Nat) : (a.classF 2 cyc).get (flagFld (chPage n) bit) = a.get (flagFld (chPage n) bit) := by
    rw [flagFld_chPage]
    exact keep _ (by decide : 0x4000 ≤ 0x4003)
  have causes : (a.classF 2 cyc).hasCause (chPage n) 2 = a.hasCause (chPage n) 2 := by
    unfold Hub.hasCause Hub.page
    rw [Hub.pages_classF]
  exact {
    out := (keep CH_STAT_OUT (by decide)).trans x.out
    cmd := (keep CH_STAT_CMD (by decide)).trans x.cmd
    limiting := (keep CH_STAT_LIMITING (by decide)).trans x.limiting
    count := (keep CH_TRIPCNT_TRIPS (by decide)).trans x.count
    cause := (keep CH_TRIP_CAUSE (by decide)).trans x.cause
    attempt := (keep CH_TRIP_ATTEMPT (by decide)).trans x.attempt
    frame := (keep CH_TRIP_FRM (by decide)).trans x.frame
    attempts := (keep CH_STAT_ATTEMPTS (by decide)).trans x.attempts
    flag := (flag 0).trans x.flag
    wait := fun less => (keep CH_STAT_STATE (by decide)).trans (x.wait less)
    latched := fun full => by
      obtain ⟨state, shown, fenced⟩ := x.latched full
      exact ⟨(keep CH_STAT_STATE (by decide)).trans state, (flag 1).trans shown, causes.trans fenced⟩ }

theorem Hub.tripped_tripNow (h : Hub) {n cause : Nat} (m : TripMeas) (hn : n < 64) (hc : cause < 2 ^ 3) :
    h.Tripped (h.tripNow n cause m) n cause := (h.tripped_chTrip m h.cyc hn hc).classF h.cyc

/-- A trip counts from what stood before the temperature was noted. -/
theorem Hub.Tripped.sincePuti {h a : Hub} {n cause : Nat} {v : Int} (x : (h.puti (CH_TEMP_TEMP.pg n) v).Tripped a n cause) :
    h.Tripped a n cause := by
  have keep {f : Fld} (ha : CH_TEMP_TEMP.apart f) : (h.puti (CH_TEMP_TEMP.pg n) v).get (f.pg n) = h.get (f.pg n) :=
    h.get_put_pg_apart n _ (by decide) ha
  have attempts : (h.puti (CH_TEMP_TEMP.pg n) v).tripAttempts n = h.tripAttempts n := by
    unfold Hub.tripAttempts
    rw [keep (f := CH_STAT_STATE) (by decide), keep (f := CH_STAT_ATTEMPTS) (by decide)]
  have max := keep (f := CH_RETRY_MAX) (by decide)
  have frm : (h.puti (CH_TEMP_TEMP.pg n) v).get FRM_NO_NO = h.get FRM_NO_NO :=
    h.get_put_pg_off n _ (by decide) (by decide)
  have count := x.count
  rw [keep (f := CH_TRIPCNT_TRIPS) (by decide)] at count
  exact { x with
    count := count
    attempt := x.attempt.trans attempts
    frame := frm ▸ x.frame
    attempts := x.attempts.trans attempts
    wait := fun less => x.wait (by rw [attempts, max]; exact less)
    latched := fun full => x.latched (by rw [attempts, max]; exact full) }

/-- 170 °C trips a driven output, once the temperature is noted (05 R157). -/
theorem Hub.otTrip_driven (h : Hub) {n : Nat} (temp : BitVec 10) (m : TripMeas) (driven : h.driven n = true) :
    h.otTrip n temp m = (h.puti (CH_TEMP_TEMP.pg n) temp.toInt).tripNow n 4 m := if_pos driven

theorem Hub.otTrip_idle (h : Hub) {n : Nat} (temp : BitVec 10) (m : TripMeas) (idle : h.driven n = false) :
    h.otTrip n temp m = (h.puti (CH_TEMP_TEMP.pg n) temp.toInt).put (CH_STAT_OT.pg n) 1 := if_neg (by simp [idle])

theorem Hub.get_tripNow_pg (h : Hub) (n cause : Nat) (m : TripMeas) {f : Fld} (hf : 0x4000 ≤ f.idx) :
    (h.tripNow n cause m).get (no_index (f.pg n)) = (h.chTrip n cause m h.cyc).get (f.pg n) :=
  Hub.get_classF _ _ (by simp only; omega)

/-- The temperature that has been noted stands after the trip. -/
theorem Hub.temp_tripNow (h : Hub) {n : Nat} (temp : BitVec 10) (cause : Nat) (m : TripMeas) (hn : n < 64) :
    ((h.puti (CH_TEMP_TEMP.pg n) temp.toInt).tripNow n cause m).geti (CH_TEMP_TEMP.pg n) = temp.toInt := by
  rw [Hub.geti, Hub.get_tripNow_pg _ _ _ _ (by decide),
    Hub.get_chTrip_kept _ cause m _ hn (by decide) (by decide) (by decide)]
  exact h.geti_puti_pg n temp rfl (by decide)

/-! ## What a trip reaches -/

section
variable {fs : List Fld} {ps : List Nat} {a b : Hub} {n : Nat}

/-- The fields that a trip reaches are among those of the frame. -/
theorem trip_mayIn (hf : ∀ g ∈ tripFlds n, g ∈ fs) {f : Fld} (hm : f.pg n ∈ tripFlds n) (hfit : f.fits) :
    (f.pg n).mayIn fs ps := Fld.mayIn_pg (hf _ hm) hfit

theorem tripStat_mayIn (hf : ∀ g ∈ tripFlds n, g ∈ fs) {f : Fld} (hi : f.idx = CH_STAT_STATE.idx) (hfit : f.fits) :
    (f.pg n).mayIn fs ps :=
  (stat_mayIn (ps := []) hi hfit).mono (fun _ hg => hf _ (List.mem_append_right _ hg)) nofun

theorem Hub.only.tripLoaded (cause att : Nat) (hf : ∀ g ∈ tripFlds n, g ∈ fs) (x : Hub.only fs ps a b) :
    Hub.only fs ps a (b.tripLoaded n cause att) := by
  have stat := ((x.put att (tripStat_mayIn (f := CH_STAT_ATTEMPTS) hf rfl (by decide))).put 0
    (tripStat_mayIn (f := CH_STAT_LIMITING) hf rfl (by decide))).put 0 (tripStat_mayIn (f := CH_STAT_CMD) hf rfl (by decide))
  unfold Hub.tripLoaded
  exact (((stat.incWrap 1 (trip_mayIn hf (by simp [tripFlds]) (by decide))).put _
    (trip_mayIn hf (by simp [tripFlds]) (by decide))).put _ (trip_mayIn hf (by simp [tripFlds]) (by decide))).put _
    (trip_mayIn hf (by simp [tripFlds]) (by decide))

theorem Hub.only.tripMarked {cause : Nat} (hf : ∀ g ∈ tripFlds n, g ∈ fs) (hi : cause = 3 → CH_TEMP_I2T.pg n ∈ fs)
    (x : Hub.only fs ps a b) : Hub.only fs ps a (b.tripMarked n cause) := by
  have counts : Hub.only fs ps a (b.tripCounts n cause) := x.setCh n _
  have accumulator : Hub.only fs ps a ((b.tripCounts n cause).put (CH_TEMP_I2T.pg n)
      (if cause = 3 then 0 else b.get (CH_TEMP_I2T.pg n))) := by
    split
    · next oc => exact counts.put 0 (Fld.mayIn_pg (hi oc) (by decide))
    · rw [← b.get_tripCounts n cause]
      exact counts.put_get (f := CH_TEMP_I2T.pg n) (by simp only [Fld.fits]; decide)
  exact .ite (accumulator.put 1 (tripStat_mayIn (f := CH_STAT_OT) hf rfl (by decide))) accumulator

theorem Hub.only.tripFate (cause att max : Nat) (hf : ∀ g ∈ tripFlds n, g ∈ fs) (hp : traceIn ps) (x : Hub.only fs ps a b) :
    Hub.only fs ps a (b.tripFate n cause att max) := by
  have entered (st : Nat) : Hub.only fs ps a (b.chTo n st) := x.chTo n st (tripStat_mayIn hf rfl (by decide))
  have flag (bit : Nat) (hm : flagFld (chPage n) bit ∈ tripFlds n) (hb : bit < 32) :=
    flagFld_mayIn (ps := ps) (hf _ hm) hb
  have latched := (entered 6).report (chPage n) 1 0x1802 n sevFAULT [(0, 1, cause), (1, 1, att)]
    (flag 1 (by simp [tripFlds]) (by decide)) hp (.inl (by decide))
  exact .ite (latched.fence _ 2 (flag 29 (by simp [tripFlds]) (by decide)) hp) (entered 4)

theorem Hub.only_chTrip (h : Hub) {cause : Nat} (m : TripMeas) (cyc : Nat) (hn : n < 64) (hf : ∀ g ∈ tripFlds n, g ∈ fs)
    (hi : cause = 3 → CH_TEMP_I2T.pg n ∈ fs) (hp : ∀ p ∈ geyPages, p ∈ ps) :
    Hub.only fs ps h (h.chTrip n cause m cyc) := by
  have out : ∀ g ∈ outFlds n, g ∈ fs := fun g hg => hf g (List.mem_append_right _ hg)
  have trace : traceIn ps := fun p hp' => hp p (traceIn_gey p hp')
  have off : Hub.only fs ps h (h.tripOff n cyc) := (h.only_tripOff cyc hn).counted.widen
    (fun g hg => (outFlds_mayIn (by decide) g hg).mono out hp) hp
  rw [Hub.chTrip_eq]
  exact ((((off.tripLoaded cause _ hf).tripMarked hf hi).cancelDeferred
    (Fld.mayIn_self (out _ (by simp [outFlds])) (by decide)) (tripStat_mayIn hf rfl (by decide))).report _ 0 _ _ _ _
    (flagFld_mayIn (hf _ (by simp [tripFlds])) (by decide)) trace (.inl (by decide))).tripFate cause _ _ hf trace

end

/-- A trip with its class F conversion reaches what the trip reaches and the ADC page. -/
theorem Hub.only_tripNow (h : Hub) {n cause : Nat} {fs : List Fld} (m : TripMeas) (hn : n < 64)
    (hf : ∀ g ∈ tripFlds n, g ∈ fs) (hi : cause = 3 → CH_TEMP_I2T.pg n ∈ fs) :
    Hub.only fs (0x09 :: geyPages) h (h.tripNow n cause m) :=
  (h.only_chTrip m h.cyc hn hf hi fun _ => List.mem_cons_of_mem _).classF h.cyc (List.mem_cons_self ..)

end Sys2Proof.Machine

open Sys2Proof Sys2Proof.Machine

/-- Settles O16: every trip of a driven output is one trip with its own cause, shown and judged alike. -/
theorem tripsWaitOrLatch : Obligations.TripsWaitOrLatch := by
  unfold Obligations.TripsWaitOrLatch
  intro s ch temp m on fitted
  have hn : ch.toNat < 64 := ch.isLt
  refine ⟨fun st => ?_, fun st hot => ?_⟩
  · have driven := (s.hub.driven_iff _).2 st
    have frame {fs : List Fld} {cause : Nat} (hf : ∀ g ∈ tripFlds ch.toNat, g ∈ fs)
        (hi : cause = 3 → CH_TEMP_I2T.pg ch.toNat ∈ fs) :=
      State.frame_hub (s.hub.only_tripNow m hn hf hi)
    refine ⟨fun peak => ?_, fun limiting ran => ?_, fun level => ?_, fun hot => ?_⟩
    · have due : (s.hub.driven ch.toNat && s.hub.fastPeak ch.toNat m) = true := by
        rw [driven, Hub.fastPeak, decide_eq_true peak]
        rfl
      exact ⟨_, State.chWhen_on _ fitted due on, s.hub.tripped_tripNow m hn (by decide), frame (fun _ => id) nofun⟩
    · have due : (s.hub.driven ch.toNat && s.hub.limTripDue ch.toNat) = true := by
        rw [driven, Hub.limTripDue, (s.hub.flag_iff rfl).2 limiting, decide_eq_true ran]
        rfl
      have cause : (if s.hub.fastPeak ch.toNat m = true then 1 else 2) =
          if s.hub.get (CH_LIM_ILIM.pg ch.toNat) * 20 < m.peak.toNat then 1 else 2 := by
        simp only [Hub.fastPeak, decide_eq_true_eq]
      refine ⟨_, State.chWhen_on _ fitted due on, ?_, ?_⟩
      · rw [← cause]
        exact s.hub.tripped_tripNow m hn (by split <;> decide)
      · exact frame (fun _ => id) (by split <;> nofun)
    · have due : (s.hub.driven ch.toNat && s.hub.ocReached ch.toNat) = true := by
        rw [driven, Hub.ocReached, decide_eq_true level]
        rfl
      obtain ⟨i2t, data⟩ := s.hub.chTrip_oc (n := ch.toNat) m s.hub.cyc
      refine ⟨_, State.chWhen_on _ fitted due on, s.hub.tripped_tripNow m hn (by decide), ?_, ?_,
        frame (fun _ => List.mem_cons_of_mem _) fun _ => List.mem_cons_self ..⟩
      · exact (congrArg Chan.i2t (Hub.ch_classF ..)).trans data
      · exact (Hub.get_tripNow_pg _ _ _ _ (by decide)).trans i2t
    · have due : (s.hub.chSt ch.toNat != 0 && decide (340 ≤ temp.toInt)) = true := by
        rw [bne_iff_ne.2 (fun e => by simp [e] at st), decide_eq_true hot]
        rfl
      rw [show exec (.otTrip ch temp m) s = _ from State.chWhen_on _ fitted due on, s.hub.otTrip_driven temp m driven]
      exact ⟨_, rfl, (Hub.tripped_tripNow _ m hn (by decide)).sincePuti,
        (Hub.get_tripNow_pg _ _ _ _ (by decide)).trans (Hub.chTrip_ot ..), s.hub.temp_tripNow temp 4 m hn,
        State.frame_hub (((Hub.only.refl ..).puti _ (Fld.mayIn_pg (by simp) (by decide))).trans
          (Hub.only_tripNow _ m hn (fun _ => List.mem_cons_of_mem _) nofun))⟩
  · have due : (s.hub.chSt ch.toNat != 0 && decide (340 ≤ temp.toInt)) = true := by
      rw [bne_iff_ne.2 (fun e => by simp [e] at st), decide_eq_true hot]
      rfl
    have idle : s.hub.driven ch.toNat = false := by
      rw [Bool.eq_false_iff, Ne, Hub.driven_iff]
      intro driven
      simp only [List.mem_cons, List.not_mem_nil, or_false] at st driven
      omega
    rw [show exec (.otTrip ch temp m) s = _ from State.chWhen_on _ fitted due on, s.hub.otTrip_idle temp m idle]
    refine ⟨_, rfl, Hub.get_put_pg_same _ _ _ (by decide), ?_, State.regFrame_hub
      (((Hub.only.refl ..).puti _ (Fld.mayIn_pg (by simp) (by decide))).put 1 (Fld.mayIn_pg (by simp) (by decide)))
      ((Hub.bare_put ..).trans (Hub.bare_puti ..))⟩
    rw [Hub.geti, Hub.get_put_pg_apart _ _ _ (by decide) (by decide)]
    exact s.hub.geti_puti_pg _ temp rfl (by decide)

end

section
/-! SUPPORT. The PWM grid: a period starts, and its on-phase ends (05 R146, R148, R150, R153). -/

namespace Sys2Proof.Machine

/-- The duty that waited, or that in use, comes into use with the period (05 R150). -/
def Hub.periodTaken (h : Hub) (n cyc : Nat) : Hub :=
  ((h.atCyc cyc).put (CH_APPLIED_DUTY.pg n) (h.periodDuty n)).ch! n fun c => { c with
    nextDuty := none, dutyInUse := h.periodDuty n, dutyUse := (c.dutyNext.map (·.1)).getD c.dutyUse, dutyNext := none }

/-- The on-phase of the period, to its end by R148. -/
def Hub.periodPhased (h : Hub) (n cyc : Nat) : Hub :=
  (h.periodTaken n cyc).ch! n fun c => { c with
    onPhase := true, pStart := h.eng cyc, gridOn := true
    onEnd := onEndOf (h.eng cyc) (h.chPeriod n) (onCyc (h.chPeriod n) (h.periodDuty n)) }

theorem Hub.periodStart_eq (h : Hub) (n cyc : Nat) : h.periodStart n cyc =
    if onCyc (h.chPeriod n) (h.periodDuty n) < 1600 then (h.periodTaken n cyc).outOff n cyc true
    else (h.periodPhased n cyc).outOn n cyc true := rfl

theorem Hub.only_periodTaken (h : Hub) (n cyc : Nat) {l : List Fld} (hl : CH_APPLIED_DUTY ∈ l) :
    Hub.only (chFlds n l) geyPages h (h.periodTaken n cyc) :=
  (((Hub.only.refl ..).atCyc cyc).put _ (chFlds_mayIn hl (by decide))).ch! n _

theorem Hub.get_periodTaken_duty (h : Hub) (n cyc : Nat) :
    (h.periodTaken n cyc).get (CH_APPLIED_DUTY.pg n) = h.periodDuty n % 1024 := by
  unfold Hub.periodTaken
  exact (Hub.get_ch! ..).trans (Hub.get_put_pg_same _ _ _ (by decide))

theorem Hub.nextDuty_periodTaken (h : Hub) (n cyc : Nat) : ((h.periodTaken n cyc).ch n).nextDuty = none := by
  unfold Hub.periodTaken
  rw [Hub.ch_ch!_same]

theorem Hub.grid_periodPhased (h : Hub) (n cyc : Nat) : ((h.periodPhased n cyc).ch n).grid =
    (none, onEndOf (h.eng cyc) (h.chPeriod n) (onCyc (h.chPeriod n) (h.periodDuty n))) := by
  unfold Hub.periodPhased
  rw [Hub.ch_ch!_same]
  exact congrArg (·, _) (h.nextDuty_periodTaken n cyc)

/-- The duty in use is that of the period, and none waits any more. -/
theorem Hub.periodStart_duty (h : Hub) {n : Nat} (cyc : Nat) (hn : n < 64) :
    (h.periodStart n cyc).get (CH_APPLIED_DUTY.pg n) = h.periodDuty n % 1024
    ∧ ((h.periodStart n cyc).ch n).nextDuty = none := by
  rw [Hub.periodStart_eq]
  split
  · have off : Hub.only (chFlds n [CH_STAT_OUT]) geyPages (h.periodTaken n cyc) ((h.periodTaken n cyc).outOff n cyc true) :=
      (Hub.only.refl ..).outOff cyc true hn (by decide)
    refine ⟨?_, (congrArg Prod.fst (Hub.grid_outOff ..)).trans (h.nextDuty_periodTaken n cyc)⟩
    rw [off.counted.get_pg (by decide) (by decide) (by decide), Hub.get_periodTaken_duty]
  · have raised : Hub.only (chFlds n [CH_STAT_OUT, CH_STAT_OPEN]) geyPages (h.periodPhased n cyc)
        ((h.periodPhased n cyc).outOn n cyc true) := (Hub.only.refl ..).outOn cyc true hn (by decide)
    refine ⟨?_, (congrArg Prod.fst ((Hub.grid_outOn ..).trans (h.grid_periodPhased n cyc)))⟩
    rw [raised.counted.get_pg (by decide) (by decide) (by decide), Hub.periodPhased, Hub.get_ch!, Hub.get_periodTaken_duty]

/-- A duty below 4 µs has no pulse (05 R148). -/
theorem Hub.periodStart_short (h : Hub) {n : Nat} (cyc : Nat) (hn : n < 64)
    (short : onCyc (h.chPeriod n) (h.periodDuty n) < 1600) : (h.periodStart n cyc).get (CH_STAT_OUT.pg n) = 0 := by
  rw [Hub.periodStart_eq, if_pos short]
  exact Hub.out_outOff _ cyc true hn

/-- A longer one is on until the end of its on-phase. -/
theorem Hub.periodStart_on (h : Hub) {n : Nat} (cyc : Nat) (hn : n < 64)
    (long : 1600 ≤ onCyc (h.chPeriod n) (h.periodDuty n)) : (h.periodStart n cyc).get (CH_STAT_OUT.pg n) = 1
    ∧ ((h.periodStart n cyc).ch n).onEnd =
        onEndOf (h.eng cyc) (h.chPeriod n) (onCyc (h.chPeriod n) (h.periodDuty n)) := by
  rw [Hub.periodStart_eq, if_neg (Nat.not_lt.2 long)]
  exact ⟨Hub.out_outOn _ cyc true hn, congrArg Prod.snd ((Hub.grid_outOn ..).trans (h.grid_periodPhased n cyc))⟩

theorem Hub.only_periodStart (h : Hub) {n : Nat} (cyc : Nat) (hn : n < 64) :
    Hub.only (outFlds n) geyPages h (h.periodStart n cyc) := by
  have taken := h.only_periodTaken n cyc (l := [CH_APPLIED_DUTY, CH_STAT_OUT, CH_STAT_OPEN]) (by decide)
  have started : Hub.only (chFlds n [CH_APPLIED_DUTY, CH_STAT_OUT, CH_STAT_OPEN]) geyPages h (h.periodStart n cyc) := by
    rw [Hub.periodStart_eq]
    exact .ite (taken.outOff cyc true hn (by decide)) ((taken.ch! n _).outOn cyc true hn (by decide))
  exact started.counted.widen (outFlds_mayIn (by decide)) fun _ => id

/-- The end of an on-phase: the whole period where the off-phase would be shorter than 4 µs (05 R148). -/
theorem onEndOf_eq (ps : Int) (period on : Nat) :
    onEndOf ps period on = ps + (if period - on < 1600 then period else on : Nat) := by
  unfold onEndOf
  split <;> rfl

/-- A driven output whose grid stands at a period start is due. -/
theorem Hub.periodStartDue_of {h : Hub} {n cyc : Nat} (driven : h.driven n = true) (grid : h.onGrid n = true)
    (phase : h.chPhaseCyc n ≤ h.eng cyc) (start : intoPeriod (h.chPeriod n) (h.chPhaseCyc n) (h.eng cyc) = 0) :
    h.periodStartDue n cyc = true := by
  unfold Hub.periodStartDue Hub.intoGrid
  rw [driven, grid, if_neg (Nat.not_lt.2 phase), start]
  rfl

/-- An on-phase that has run ends unless one begins at the same cycle. -/
theorem Hub.onEndDue_of {h : Hub} {n cyc : Nat} (driven : h.driven n = true) (grid : h.onGrid n = true)
    (out : h.get (CH_STAT_OUT.pg n) = 1) (phase : (h.ch n).onPhase = true) (run : (h.ch n).onEnd ≤ h.eng cyc)
    (none : h.periodStartDue n cyc = false ∨ onCyc (h.chPeriod n) (h.periodDuty n) < 1600) : h.onEndDue n cyc = true := by
  unfold Hub.onEndDue
  rw [driven, grid, (h.flag_iff rfl).2 out, phase, decide_eq_true run]
  simp only [Bool.and_self, Bool.true_and, Bool.not_eq_true', Bool.and_eq_false_imp, decide_eq_false_iff_not, Nat.not_le]
  exact fun due => none.resolve_left (by rw [due]; decide)

end Sys2Proof.Machine

open Sys2Proof Sys2Proof.Machine

/-- Settles O18, by the two courses of a period start: no pulse, or an on-phase to its end. -/
theorem pwmPeriodsFollowTheGrid : Obligations.PwmPeriodsFollowTheGrid := by
  unfold Obligations.PwmPeriodsFollowTheGrid
  intro s ch cyc on fitted st grid
  have hn : ch.toNat < 64 := ch.isLt
  have driven := (s.hub.driven_iff _).2 st
  refine ⟨fun phase start => ?_, fun out phase run none => ?_⟩
  · have due := Hub.periodStartDue_of driven grid phase start
    obtain ⟨duty, next⟩ := s.hub.periodStart_duty cyc hn
    refine ⟨_, State.chWhen_on _ fitted due on, duty, next, fun short => s.hub.periodStart_short cyc hn short,
      fun long => ?_, State.frame_hub (Hub.only_periodStart _ cyc hn)⟩
    obtain ⟨raised, ended⟩ := s.hub.periodStart_on cyc hn long
    refine ⟨raised, ended.trans ((onEndOf_eq ..).trans ?_)⟩
    simp only [Hub.eng, Nat.cast_add, Nat.cast_mul, Nat.cast_ofNat]
    rfl
  · have frame : Hub.only (chFlds ch.toNat [CH_STAT_OUT]) geyPages s.hub ((s.hub.atCyc cyc).outOff ch.toNat cyc true) :=
      ((Hub.only.refl ..).atCyc cyc).outOff cyc true hn (by decide)
    exact ⟨_, State.chWhen_on _ fitted (Hub.onEndDue_of driven grid out phase (mod_cast run) none) on,
      Hub.out_outOff _ cyc true hn, State.frame_hub frame⟩

end

section
/-! SUPPORT. A channel is blocked (05 R159). -/

namespace Sys2Proof.Machine

/-- Both switches are open, before BLOCKED shows. -/
def Hub.blockOff (h : Hub) (n cyc : Nat) : Hub := ((h.geyAbort n 2).outOff n cyc false).cancelDeferred n

theorem Hub.chBlock_eq (h : Hub) (n mv how cyc : Nat) : h.chBlock n mv how cyc =
    (((((h.blockOff n cyc).chTo n 7).put (CH_STAT_LIMITING.pg n) 0).put (CH_STAT_CMD.pg n) 0).put (CH_STAT_SSUP.pg n)
      1).report (chPage n) 4 0x1805 n sevFAULT [(0, 2, mv), (2, 1, how)] := rfl

theorem Hub.out_blockOff (h : Hub) {n : Nat} (cyc : Nat) (hn : n < 64) : (h.blockOff n cyc).get (CH_STAT_OUT.pg n) = 0 := by
  unfold Hub.blockOff
  rw [Hub.get_cancelDeferred_pg _ _ (by decide) (by decide) (by decide), Hub.out_outOff _ _ _ hn]

theorem Hub.blocked_chBlock (h : Hub) {n : Nat} (mv how cyc : Nat) (hn : n < 64) : (h.chBlock n mv how cyc).Blocked n := by
  have shown {g : Fld} (hg : 0x4003 < g.idx) : (h.chBlock n mv how cyc).get (g.pg n) =
      (((((h.blockOff n cyc).chTo n 7).put (CH_STAT_LIMITING.pg n) 0).put (CH_STAT_CMD.pg n) 0).put (CH_STAT_SSUP.pg n)
        1).get (g.pg n) := Hub.get_report_pg _ _ _ _ _ _ _ (by decide) hg
  have past {g : Fld} (hs : CH_STAT_SSUP.apart g) (hc : CH_STAT_CMD.apart g) (hl : CH_STAT_LIMITING.apart g)
      (hg : 0x4003 < g.idx) : (h.chBlock n mv how cyc).get (g.pg n) = ((h.blockOff n cyc).chTo n 7).get (g.pg n) := by
    rw [shown hg, Hub.get_put_pg_apart _ _ _ (by decide) hs, Hub.get_put_pg_apart _ _ _ (by decide) hc,
      Hub.get_put_pg_apart _ _ _ (by decide) hl]
  exact {
    state := (past (by decide) (by decide) (by decide) (by decide)).trans (Hub.chSt_chTo _ _ (by decide))
    ssup := (shown (by decide)).trans (Hub.get_put_pg_same _ _ _ (by decide))
    out := (past (by decide) (by decide) (by decide) (by decide)).trans
      ((Hub.get_chTo_pg _ _ _ (by decide)).trans (h.out_blockOff cyc hn))
    cmd := (shown (by decide)).trans ((Hub.get_put_pg_apart _ _ _ (by decide) (by decide)).trans
      (Hub.get_put_pg_same _ _ _ (by decide)))
    limiting := (shown (by decide)).trans ((Hub.get_put_pg_apart _ _ _ (by decide) (by decide)).trans
      ((Hub.get_put_pg_apart _ _ _ (by decide) (by decide)).trans (Hub.get_put_pg_same _ _ _ (by decide))))
    flag := Hub.get_report_chFlag _ _ _ _ _ _ _ (by decide) }

theorem Hub.only_chBlock (h : Hub) {n : Nat} (mv how cyc : Nat) (hn : n < 64) :
    Hub.only (flagFld (chPage n) 4 :: outFlds n) geyPages h (h.chBlock n mv how cyc) := by
  have stat {f : Fld} (hi : f.idx = CH_STAT_STATE.idx) (hf : f.fits) :
      (f.pg n).mayIn (flagFld (chPage n) 4 :: outFlds n) geyPages :=
    (stat_mayIn hi hf).mono (fun _ => List.mem_cons_of_mem _) fun _ => id
  have opened : Hub.only (chFlds n [CH_STAT_OUT]) geyPages h ((h.geyAbort n 2).outOff n cyc false) :=
    ((h.only_geyAbort n 2).mono chFlds_gey fun _ => id).outOff cyc false hn (by decide)
  have off : Hub.only (flagFld (chPage n) 4 :: outFlds n) geyPages h (h.blockOff n cyc) :=
    (opened.counted.widen (fun g hg => (outFlds_mayIn (by decide) g hg).mono (fun _ => List.mem_cons_of_mem _) fun _ => id)
      fun _ => id).cancelDeferred (Fld.mayIn_self (by simp [outFlds]) (by decide)) (stat rfl (by decide))
  rw [Hub.chBlock_eq]
  exact ((((off.chTo n 7 (stat rfl (by decide))).put 0 (stat (f := CH_STAT_LIMITING) rfl (by decide))).put 0
    (stat (f := CH_STAT_CMD) rfl (by decide))).put 1 (stat (f := CH_STAT_SSUP) rfl (by decide))).report _ 4 _ _ _ _
    (flagFld_mayIn (List.mem_cons_self ..) (by decide)) traceIn_gey (.inl (by decide))

end Sys2Proof.Machine
end

section
/-! SUPPORT. The output of a channel in OFF is settled by the rules of 05 R141: it stays off, or it turns on (05 R141–R143,
R149–R150, R162, R165). -/

namespace Sys2Proof.Machine

/-! ## What settling reaches before the output turns on -/

/-- Fields of the channel that settling reaches while the output stays as it is. -/
def settleFlds : List Fld := [CH_STAT_SAFE_ACT, CH_STAT_FORCED, CH_STAT_CAPPED, CH_APPLIED_DUTY, ⟨0x4003, 7, 1⟩]

/-- What settling leaves while the output stays as it is: all but those fields, the budget's count and captures. -/
abbrev Hub.settling (n : Nat) (a b : Hub) : Prop := Hub.only (BUD_CNT2_CANCELLED :: chFlds n settleFlds) geyPages a b

theorem settle_mayIn {n : Nat} {f : Fld} (hm : f ∈ settleFlds) (hf : f.fits) :
    (f.pg n).mayIn (BUD_CNT2_CANCELLED :: chFlds n settleFlds) geyPages :=
  (chFlds_mayIn hm hf).mono (fun _ => List.mem_cons_of_mem _) fun _ => id

theorem budCancelled_mayIn {n : Nat} : BUD_CNT2_CANCELLED.mayIn (BUD_CNT2_CANCELLED :: chFlds n settleFlds) geyPages :=
  Fld.mayIn_self (List.mem_cons_self ..) (by decide)

section
variable {a b : Hub} {n : Nat}

theorem Hub.settling.cancel (x : Hub.settling n a b) : Hub.settling n a (b.cancelDeferred n) :=
  x.cancelDeferred budCancelled_mayIn (settle_mayIn (by decide) (by decide))

theorem Hub.settling.holdTake (x : Hub.settling n a b) : Hub.settling n a (b.holdTake n) := .ite x (x.setCh n _)

theorem Hub.settling.settleSafe (x : Hub.settling n a b) : Hub.settling n a (b.settleSafe n) := by
  have held := x.holdTake
  have raised := held.put 1 (settle_mayIn (f := CH_STAT_SAFE_ACT) (by decide) (by decide))
  have flag : (flagFld (chPage n) 7).mayIn (BUD_CNT2_CANCELLED :: chFlds n settleFlds) geyPages := by
    rw [flagFld_chPage]
    exact settle_mayIn (by decide) (by decide)
  unfold Hub.settleSafe
  exact .ite ((Hub.only.ite (Hub.settling.cancel raised) raised).report _ 7 _ _ _ _ flag traceIn_gey (.inl (by decide)))
    (.ite (held.put 0 (settle_mayIn (by decide) (by decide))) held)

end

/-- The hub with SAFE_ACT and FORCED as the rules give them (05 R141–R144). -/
def Hub.ruled (h : Hub) (n : Nat) : Hub :=
  (h.settleSafe n).putb (CH_STAT_FORCED.pg n) (h.forceApplies n && h.lbSupplies)

theorem Hub.settling_ruled (h : Hub) (n : Nat) : Hub.settling n h (h.ruled n) :=
  (Hub.settling.settleSafe (.refl ..)).putb _ (settle_mayIn (by decide) (by decide))

/-- A command that is off drops an ON that waited (10 R287). -/
def Hub.offTaken (h0 : Hub) (n : Nat) : Hub :=
  if h0.chHoldupSafe n && !h0.chFenceSafe n then h0
  else if !h0.rawWith n true || h0.chMode n == 0 then h0.cancelDeferred n
  else if (h0.ch n).tickDefer.isSome then
    (h0.setCh n { h0.ch n with tickDefer := none }).incSat BUD_CNT2_CANCELLED
  else h0

/-- An ON of class B at a tick is held off for the budget (10 R286). -/
def Hub.heldOff (h0 : Hub) (n : Nat) : Hub :=
  (h0.setCh n { h0.ch n with tickDefer := some h0.frmNo }).put (CH_STAT_CAPPED.pg n) 1

/-- The duty with which the output is to turn on (05 R150). -/
def Hub.dutyTaken (h0 : Hub) (n cyc : Nat) : Hub :=
  let h1 := h0.takeDuty n cyc
  let next := (h1.ch n).dutyNext.map fun x => h1.dutyFor n x.1
  (h1.put (CH_APPLIED_DUTY.pg n) (h1.dutyWanted n)).ch! n fun c => { c with nextDuty := next }

/-- The command by the rules, of a channel whose drive mode is not OFF. -/
def Hub.wanted (h0 : Hub) (n : Nat) : Bool := h0.rawCmd n && h0.chMode n != 0

/-- The ON waits for the budget already. -/
def Hub.waitsBudget (h0 : Hub) (n : Nat) : Bool := (h0.ch n).tickDefer.isSome || h0.bud.deferred.any (fun d => d.ch == n)

/-- An ON that acts now is one that the budget decides (10 R286). -/
def Hub.budgeted (h0 : Hub) (n : Nat) (tick : Bool) : Bool :=
  tick && h0.effClass n == 1 && h0.en 0x0D && h0.cfg BUD_CFG_DEFERMAX != 0 && !h0.safeCond n

/-- Settling an output in OFF, once the rules have spoken. -/
theorem Hub.settle_off {h : Hub} {n : Nat} (cyc : Nat) (tick : Bool) (st : (h.ruled n).get (CH_STAT_STATE.pg n) = 1) :
    h.settle n cyc tick =
      if !(h.ruled n).wanted n then ((h.ruled n).offTaken n).put (CH_STAT_CMD.pg n) (boolNat ((h.ruled n).rawCmd n))
      else if (h.ruled n).flag (CH_STAT_OT.pg n) then (h.ruled n).put (CH_STAT_CMD.pg n) 1
      else if (h.ruled n).waitsBudget n then (h.ruled n).put (CH_STAT_CMD.pg n) 0
      else if (h.ruled n).budgeted n tick then ((h.ruled n).heldOff n).put (CH_STAT_CMD.pg n) 0
      else ((h.ruled n).dutyTaken n cyc).turnOn n cyc := by
  have off : ¬ ((h.ruled n).chSt n = 0 ∨ (h.ruled n).chSt n = 4 ∨ (h.ruled n).chSt n = 6 ∨ (h.ruled n).chSt n = 7) := by
    rw [Hub.chSt, st]
    decide
  unfold Hub.settle
  exact (if_neg off).trans (if_pos st)

theorem Hub.only_takeDuty (h : Hub) (n cyc : Nat) {fs : List Fld} {ps : List Nat} : Hub.only fs ps h (h.takeDuty n cyc) :=
  (Hub.only.refl ..).setCh n _

theorem Hub.settling_dutyTaken (h : Hub) (n cyc : Nat) : Hub.settling n h (h.dutyTaken n cyc) := by
  unfold Hub.dutyTaken
  exact ((h.only_takeDuty n cyc).put _ (settle_mayIn (f := CH_APPLIED_DUTY) (by decide) (by decide))).ch! n _

theorem Hub.settling_offTaken (h : Hub) (n : Nat) : Hub.settling n h (h.offTaken n) :=
  .ite (.refl ..) (.ite (Hub.settling.cancel (.refl ..))
    (.ite (((Hub.only.refl ..).setCh n _).incSat 1 budCancelled_mayIn) (.refl ..)))

theorem Hub.settling_heldOff (h : Hub) (n : Nat) : Hub.settling n h (h.heldOff n) :=
  ((Hub.only.refl ..).setCh n _).put 1 (settle_mayIn (by decide) (by decide))

/-- An output in OFF stays off with its command shown, or turns on. -/
theorem Hub.settle_off_cases {h : Hub} {n : Nat} (cyc : Nat) (tick : Bool) (st : h.get (CH_STAT_STATE.pg n) = 1) :
    ∃ b, Hub.settling n h b ∧
      ((∃ v, h.settle n cyc tick = b.put (CH_STAT_CMD.pg n) v) ∨ h.settle n cyc tick = b.turnOn n cyc) := by
  have ruled := h.settling_ruled n
  have st0 : (h.ruled n).get (CH_STAT_STATE.pg n) = 1 :=
    (ruled.get_pg (by decide) (by decide) (by decide)).trans st
  rw [Hub.settle_off cyc tick st0]
  split
  · exact ⟨_, ruled.trans (Hub.settling_offTaken ..), .inl ⟨_, rfl⟩⟩
  · split
    · exact ⟨_, ruled, .inl ⟨_, rfl⟩⟩
    · split
      · exact ⟨_, ruled, .inl ⟨_, rfl⟩⟩
      · split
        · exact ⟨_, ruled.trans (Hub.settling_heldOff ..), .inl ⟨_, rfl⟩⟩
        · exact ⟨_, ruled.trans (Hub.settling_dutyTaken ..), .inr rfl⟩

/-! ## The output turns on -/

/-- The transition is that into ATTEMPT: a retry is pending, or the wait was served (05 R165). -/
def Hub.attempts (h : Hub) (n : Nat) : Bool := h.flag (CH_STAT_RETRY_PEND.pg n) || h.chSt n == 4

/-- ON or ATTEMPT, with the command and the count of ONs, before the output is driven. -/
def Hub.turnedOn (h : Hub) (n : Nat) : Hub :=
  let h2 := ((h.chTo n (if h.attempts n then 5 else 2)).incWrap (CH_SWCNT_SW.pg n)).put (CH_STAT_CMD.pg n) 1
  if h.attempts n then h2.put (CH_STAT_RETRY_PEND.pg n) 1 else h2

theorem Hub.turnOn_eq (h : Hub) (n cyc : Nat) : h.turnOn n cyc = (h.turnedOn n).driveOn n cyc (!h.attempts n) := rfl

theorem Hub.only.driveOn {a b : Hub} {n : Nat} {l : List Fld} (cyc : Nat) (offer : Bool) (hn : n < 64)
    (hl : ∀ f ∈ [CH_STAT_OUT, CH_STAT_OPEN], f ∈ l) (x : Hub.only (chFlds n l) geyPages a b) :
    Hub.only (chFlds n l) geyPages a (b.driveOn n cyc offer) :=
  .ite ((x.ch! n _).outOn cyc offer hn hl) (.ite (x.ch! n _) ((x.ch! n _).outOn cyc offer hn hl))

/-- Driving the output leaves the other fields of the channel. -/
theorem Hub.get_turnOn_pg (h : Hub) {n : Nat} (cyc : Nat) (hn : n < 64) {g : Fld} (hf : g.fits)
    (hi : 0x4003 < g.idx ∧ g.idx < 0x4066) (ha : ∀ f ∈ [CH_STAT_OUT, CH_STAT_OPEN], f.apart g) :
    (h.turnOn n cyc).get (no_index (g.pg n)) = (h.turnedOn n).get (g.pg n) :=
  (Hub.only.driveOn (l := [CH_STAT_OUT, CH_STAT_OPEN]) cyc _ hn (fun _ => id) (.refl ..)).counted.get_pg hf hi ha

theorem Hub.get_turnedOn_pg (h : Hub) (n : Nat) {g : Fld} (hp : CH_STAT_RETRY_PEND.apart g) :
    (h.turnedOn n).get (no_index (g.pg n)) =
      (((h.chTo n (if h.attempts n then 5 else 2)).incWrap (CH_SWCNT_SW.pg n)).put (CH_STAT_CMD.pg n) 1).get (g.pg n) := by
  unfold Hub.turnedOn
  dsimp only
  split
  · exact Hub.get_put_pg_apart _ _ _ (by decide) hp
  · rfl

/-- What an output that turns on shows: ON or ATTEMPT, the command, and one ON more. -/
theorem Hub.turnOn_shows (h : Hub) {n : Nat} (cyc : Nat) (hn : n < 64) :
    (h.turnOn n cyc).get (CH_STAT_STATE.pg n) = (if h.attempts n then 5 else 2)
    ∧ (h.turnOn n cyc).get (CH_STAT_CMD.pg n) = 1
    ∧ (h.turnOn n cyc).get (CH_SWCNT_SW.pg n) = (h.get (CH_SWCNT_SW.pg n) + 1) % 2 ^ 32 := by
  refine ⟨?_, ?_, ?_⟩
  · rw [Hub.get_turnOn_pg _ _ hn (by decide) (by decide) (by decide), Hub.get_turnedOn_pg _ _ (by decide),
      Hub.get_put_pg_apart _ _ _ (by decide) (by decide), Hub.incWrap, Hub.get_put_pg_apart _ _ _ (by decide) (by decide),
      Hub.chSt_chTo _ _ (by split <;> decide)]
  · rw [Hub.get_turnOn_pg _ _ hn (by decide) (by decide) (by decide), Hub.get_turnedOn_pg _ _ (by decide),
      Hub.get_put_pg_same _ _ _ (by decide)]
    rfl
  · rw [Hub.get_turnOn_pg _ _ hn (by decide) (by decide) (by decide), Hub.get_turnedOn_pg _ _ (by decide),
      Hub.get_put_pg_apart _ _ _ (by decide) (by decide), Hub.incWrap, Hub.get_put_pg_same _ _ _ (by decide),
      Hub.get_chTo_pg _ _ _ (by decide)]

/-- SSUP and the other fields that turning on does not name stay. -/
theorem Hub.get_turnOn_kept (h : Hub) {n : Nat} (cyc : Nat) (hn : n < 64) {g : Fld} (hf : g.fits)
    (hi : 0x4003 < g.idx ∧ g.idx < 0x4066)
    (ha : ∀ f ∈ [CH_STAT_OUT, CH_STAT_OPEN, CH_STAT_RETRY_PEND, CH_STAT_CMD, CH_SWCNT_SW, CH_STAT_STATE], f.apart g) :
    (h.turnOn n cyc).get (no_index (g.pg n)) = h.get (g.pg n) := by
  simp only [List.forall_mem_cons] at ha
  obtain ⟨out, openLoad, pend, cmd, count, state, -⟩ := ha
  rw [Hub.get_turnOn_pg _ _ hn hf hi (by simp only [List.forall_mem_cons]; exact ⟨out, openLoad, nofun⟩),
    Hub.get_turnedOn_pg _ _ pend, Hub.get_put_pg_apart _ _ _ (by decide) cmd, Hub.incWrap,
    Hub.get_put_pg_apart _ _ _ (by decide) count, Hub.get_chTo_pg _ _ _ state]

/-- A pending retry stays pending through its attempt (05 R162). -/
theorem Hub.turnOn_pending (h : Hub) {n : Nat} (cyc : Nat) (hn : n < 64) (pend : h.get (CH_STAT_RETRY_PEND.pg n) = 1) :
    (h.turnOn n cyc).get (CH_STAT_STATE.pg n) = 5 ∧ (h.turnOn n cyc).get (CH_STAT_RETRY_PEND.pg n) = 1 := by
  have attempt : h.attempts n = true := by
    rw [Hub.attempts, (h.flag_iff rfl).2 pend]
    rfl
  refine ⟨(h.turnOn_shows cyc hn).1.trans (if_pos attempt), ?_⟩
  rw [Hub.get_turnOn_pg _ _ hn (by decide) (by decide) (by decide), Hub.turnedOn, attempt, if_pos rfl,
    Hub.get_put_pg_same _ _ _ (by decide)]
  rfl

theorem Hub.only_turnOn (h : Hub) {n : Nat} (cyc : Nat) (hn : n < 64) :
    Hub.only (outFlds n) geyPages h (h.turnOn n cyc) := by
  have may {f : Fld} (hm : f ∈ [CH_STAT_STATE, CH_SWCNT_SW, CH_STAT_CMD, CH_STAT_RETRY_PEND, CH_STAT_OUT, CH_STAT_OPEN])
      (hf : f.fits) := chFlds_mayIn (n := n) (ps := geyPages) hm hf
  have on := ((((Hub.only.refl _ _ h).chTo n (if h.attempts n then 5 else 2) (may (by decide) (by decide))).incWrap 1
    (may (f := CH_SWCNT_SW) (by decide) (by decide))).put 1 (may (f := CH_STAT_CMD) (by decide) (by decide)))
  have turned : Hub.only _ _ h (h.turnedOn n) := .ite (on.put 1 (may (by decide) (by decide))) on
  rw [Hub.turnOn_eq]
  exact (turned.driveOn cyc _ hn (by decide)).counted.widen (outFlds_mayIn (by decide)) fun _ => id

/-! ## An output in OFF that is settled -/

theorem Hub.settling.out {n : Nat} {a b : Hub} (x : Hub.settling n a b) : Hub.only (outFlds n) geyPages a b :=
  x.widen (outFlds_mayIn (by decide)) fun _ => id

theorem Hub.only_settle_off {h : Hub} {n : Nat} (cyc : Nat) (tick : Bool) (hn : n < 64)
    (st : h.get (CH_STAT_STATE.pg n) = 1) : Hub.only (outFlds n) geyPages h (h.settle n cyc tick) := by
  obtain ⟨b, x, ⟨v, e⟩ | e⟩ := Hub.settle_off_cases cyc tick st <;> rw [e]
  · exact x.out.put v (stat_mayIn rfl (by decide))
  · exact x.out.trans (b.only_turnOn cyc hn)

/-- Settled, it is OFF, ON or ATTEMPT, with SSUP as it was. -/
theorem Hub.settle_off_shows {h : Hub} {n : Nat} (cyc : Nat) (tick : Bool) (hn : n < 64)
    (st : h.get (CH_STAT_STATE.pg n) = 1) :
    (h.settle n cyc tick).get (CH_STAT_STATE.pg n) ∈ [1, 2, 5]
    ∧ (h.settle n cyc tick).get (CH_STAT_SSUP.pg n) = h.get (CH_STAT_SSUP.pg n) := by
  obtain ⟨b, x, ⟨v, e⟩ | e⟩ := Hub.settle_off_cases cyc tick st <;> rw [e]
  · rw [Hub.get_put_pg_apart _ _ _ (by decide) (by decide), Hub.get_put_pg_apart _ _ _ (by decide) (by decide),
      x.get_pg (by decide) (by decide) (by decide), x.get_pg (by decide) (by decide) (by decide), st]
    exact ⟨by decide, rfl⟩
  · rw [(b.turnOn_shows cyc hn).1, Hub.get_turnOn_kept _ _ hn (by decide) (by decide) (by decide),
      x.get_pg (g := CH_STAT_SSUP) (by decide) (by decide) (by decide)]
    exact ⟨by split <;> decide, rfl⟩

/-- Where a retry is pending it is OFF or ATTEMPT, and the retry is pending still. -/
theorem Hub.settle_off_pending {h : Hub} {n : Nat} (cyc : Nat) (tick : Bool) (hn : n < 64)
    (st : h.get (CH_STAT_STATE.pg n) = 1) (pend : h.get (CH_STAT_RETRY_PEND.pg n) = 1) :
    (h.settle n cyc tick).get (CH_STAT_STATE.pg n) ∈ [1, 5] ∧ (h.settle n cyc tick).get (CH_STAT_RETRY_PEND.pg n) = 1 := by
  obtain ⟨b, x, ⟨v, e⟩ | e⟩ := Hub.settle_off_cases cyc tick st <;> rw [e]
  · rw [Hub.get_put_pg_apart _ _ _ (by decide) (by decide), Hub.get_put_pg_apart _ _ _ (by decide) (by decide),
      x.get_pg (by decide) (by decide) (by decide), x.get_pg (by decide) (by decide) (by decide), st, pend]
    exact ⟨by decide, rfl⟩
  · obtain ⟨state, still⟩ := b.turnOn_pending cyc hn ((x.get_pg (by decide) (by decide) (by decide)).trans pend)
    rw [state, still]
    exact ⟨by decide, rfl⟩

/-! ## Without a supply of LB -/

/-- Settling leaves what supplies the channels. -/
theorem Hub.only.lbSupplies {n : Nat} {l : List Fld} {a b : Hub}
    (x : Hub.only (BUD_CNT2_CANCELLED :: chFlds n l) geyPages a b) (hl : ∀ f ∈ l, 0x4000 ≤ f.idx) : b.lbSupplies = a.lbSupplies := by
  unfold Hub.lbSupplies Hub.flag
  rw [x.get_off (g := LB_STAT_STATE) hl (by decide) (by decide), x.get_off (g := LB_STAT_NPH) hl (by decide) (by decide),
    x.get_off (g := CHG_STAT_BYPASS) hl (by decide) (by decide)]

/-- Without a supply the rules command off (05 R141 rule 2). -/
theorem Hub.rawCmd_unsupplied {h : Hub} (n : Nat) (none : h.lbSupplies = false) : h.rawCmd n = false := by
  unfold Hub.rawCmd Hub.rawWith
  rw [none]
  rfl

theorem Hub.settle_off_unsupplied {h : Hub} {n : Nat} (cyc : Nat) (tick : Bool) (st : h.get (CH_STAT_STATE.pg n) = 1)
    (none : h.lbSupplies = false) : (h.settle n cyc tick).get (CH_STAT_STATE.pg n) = 1
    ∧ (h.settle n cyc tick).get (CH_STAT_CMD.pg n) = 0 := by
  have ruled := h.settling_ruled n
  have st0 : (h.ruled n).get (CH_STAT_STATE.pg n) = 1 := (ruled.get_pg (by decide) (by decide) (by decide)).trans st
  have raw := Hub.rawCmd_unsupplied n ((ruled.lbSupplies (by decide)).trans none)
  have off := (h.ruled n).settling_offTaken n
  rw [Hub.settle_off cyc tick st0, if_pos (by rw [Hub.wanted, raw]; rfl), raw]
  refine ⟨?_, Hub.get_put_pg_same _ _ _ (by decide)⟩
  rw [Hub.get_put_pg_apart _ _ _ (by decide) (by decide), off.get_pg (by decide) (by decide) (by decide), st0]

end Sys2Proof.Machine
end

section
/-! SUPPORT. A forced output in OFF turns on, and the ends of BLOCKED and WAIT (05 R141–R142, R159, R161–R162, R165). -/

namespace Sys2Proof.Machine

/-! ## A channel that FORCE ON commands in FIELD -/

/-- In FIELD CH_FORCE commands the channel on, and neither its class nor an ON that waits holds it off (05 R141–R142). -/
structure Hub.Forced (h : Hub) (n : Nat) : Prop where
  supplied : h.lbSupplies = true
  safe : h.safeCond n = false
  mode : h.mode = mFIELD
  force : h.get (CH_FORCE_FORCE.pg n) = 1
  drive : h.get (CH_MODE_MODE.pg n) ≠ 0
  ot : h.get (CH_STAT_OT.pg n) = 0
  cls : h.effClass n = 0
  tickDefer : (h.ch n).tickDefer = none
  deferred : ∀ d ∈ h.bud.deferred, d.ch ≠ n

/-- Steps that none of this depends on: of the channel's page fields of CH_STAT alone, of its own data neither the class of
the entry that drives it nor an ON held off, and no fence. -/
structure Hub.Calm (n : Nat) (a b : Hub) : Prop where
  only : Hub.only (BUD_CNT2_CANCELLED :: chFlds n [CH_STAT_STATE, CH_STAT_RETRY_PEND, CH_STAT_SAFE_ACT, CH_STAT_FORCED])
    geyPages a b
  pages : b.pages = a.pages
  bud : b.bud = a.bud
  tickDefer : (b.ch n).tickDefer = (a.ch n).tickDefer
  fldCls : (b.ch n).fldCls = (a.ch n).fldCls

theorem Hub.Calm.refl (n : Nat) (h : Hub) : Hub.Calm n h h := ⟨.refl .., rfl, rfl, rfl, rfl⟩

theorem Hub.Calm.put {n : Nat} {a b : Hub} {f : Fld} (v : Nat)
    (hm : f ∈ [CH_STAT_STATE, CH_STAT_RETRY_PEND, CH_STAT_SAFE_ACT, CH_STAT_FORCED]) (hf : f.fits) (x : Hub.Calm n a b) :
    Hub.Calm n a (b.put (f.pg n) v) :=
  ⟨x.only.put v ((chFlds_mayIn hm hf).mono (fun _ => List.mem_cons_of_mem _) fun _ => id), x.pages, x.bud, x.tickDefer,
    x.fldCls⟩

theorem Hub.Calm.setCh {n : Nat} {a b : Hub} {c : Chan} (hd : c.tickDefer = (b.ch n).tickDefer)
    (hc : c.fldCls = (b.ch n).fldCls) (x : Hub.Calm n a b) : Hub.Calm n a (b.setCh n c) :=
  ⟨x.only.setCh n c, x.pages, x.bud, by rw [Hub.ch_setCh_same, hd, x.tickDefer], by rw [Hub.ch_setCh_same, hc, x.fldCls]⟩

theorem Hub.Calm.chTo {n : Nat} {a b : Hub} (st : Nat) (x : Hub.Calm n a b) : Hub.Calm n a (b.chTo n st) :=
  (x.put st (f := CH_STAT_STATE) (by decide) (by decide)).setCh rfl rfl

theorem Hub.Calm.holdTake {n : Nat} {a b : Hub} (x : Hub.Calm n a b) : Hub.Calm n a (b.holdTake n) := by
  unfold Hub.holdTake
  extract_lets c now c1
  split
  · exact x
  · refine x.setCh ?_ ?_
    · change c1.tickDefer = c.tickDefer
      unfold c1
      split <;> rfl
    · change c1.fldCls = c.fldCls
      unfold c1
      split <;> rfl

theorem Hub.Calm.safeCond {n : Nat} {a b : Hub} (x : Hub.Calm n a b) : b.safeCond n = a.safeCond n := by
  have mode : b.mode = a.mode := x.only.get_off (by decide) (by decide) (by decide)
  unfold Hub.safeCond Hub.chFenceSafe Hub.chHoldupSafe Hub.fenced Hub.page Hub.flag
  rw [x.pages, mode,
    x.only.get_pg (g := CH_CLASS_HOLDUP_EN) (by decide) (by decide) (by decide)]

theorem Hub.Forced.calm {n : Nat} {a b : Hub} (y : a.Forced n) (x : Hub.Calm n a b) : b.Forced n where
  supplied := (x.only.lbSupplies (by decide)).trans y.supplied
  safe := x.safeCond.trans y.safe
  mode := (x.only.get_off (by decide) (by decide) (by decide)).trans y.mode
  force := (x.only.get_pg (by decide) (by decide) (by decide)).trans y.force
  drive := by
    rw [x.only.get_pg (by decide) (by decide) (by decide)]
    exact y.drive
  ot := (x.only.get_pg (by decide) (by decide) (by decide)).trans y.ot
  cls := by
    have cls := y.cls
    unfold Hub.effClass at cls ⊢
    rw [x.fldCls, x.only.get_pg (by decide) (by decide) (by decide)]
    exact cls
  tickDefer := x.tickDefer.trans y.tickDefer
  deferred := by
    rw [x.bud]
    exact y.deferred

/-- Without a safe state the rules touch SAFE_ACT and FORCED alone. -/
theorem Hub.Calm.ruled {n : Nat} {h : Hub} (safe : h.safeCond n = false) : Hub.Calm n h (h.ruled n) := by
  have held : Hub.Calm n h (h.holdTake n) := (Hub.Calm.refl n h).holdTake
  have idle : (h.holdTake n).safeActive n = false := by
    unfold Hub.safeActive
    rw [held.safeCond, safe]
    rfl
  have settled : Hub.Calm n h (h.settleSafe n) := by
    unfold Hub.settleSafe
    dsimp only
    rw [idle, Bool.false_and, if_neg Bool.false_ne_true]
    split
    · exact held.put 0 (by decide) (by decide)
    · exact held
  exact settled.put _ (f := CH_STAT_FORCED) (by decide) (by decide)

/-- FORCE ON commands the channel on in FIELD (05 R142). -/
theorem Hub.Forced.wanted {n : Nat} {h : Hub} (x : h.Forced n) : h.wanted n = true := by
  have field : h.ruleMode = mFIELD := by
    unfold Hub.ruleMode
    rw [x.mode]
    rfl
  have raw : h.rawCmd n = true := by
    unfold Hub.rawCmd Hub.rawWith
    simp only [x.supplied, x.safe, field, x.force, Bool.not_true, Bool.false_eq_true, if_false, if_true]
  rw [Hub.wanted, raw, bne_iff_ne.2 x.drive]
  rfl

theorem Hub.Forced.waitsBudget {n : Nat} {h : Hub} (x : h.Forced n) : h.waitsBudget n = false := by
  have none : h.bud.deferred.any (fun d => d.ch == n) = false := by
    simpa using x.deferred
  rw [Hub.waitsBudget, x.tickDefer, none]
  rfl

/-- A forced output in OFF turns on. -/
theorem Hub.settle_off_forced {h : Hub} {n : Nat} (cyc : Nat) (tick : Bool) (st : h.get (CH_STAT_STATE.pg n) = 1)
    (x : h.Forced n) : h.settle n cyc tick = ((h.ruled n).dutyTaken n cyc).turnOn n cyc := by
  have y := x.calm (.ruled x.safe)
  have st0 : (h.ruled n).get (CH_STAT_STATE.pg n) = 1 :=
    ((h.settling_ruled n).get_pg (by decide) (by decide) (by decide)).trans st
  have free : (h.ruled n).budgeted n tick = false := by
    rw [Hub.budgeted, y.cls]
    simp
  rw [Hub.settle_off cyc tick st0, y.wanted, (Hub.not_flag_iff ..).2 y.ot, y.waitsBudget, free]
  rfl

/-! ## The ends of BLOCKED and WAIT -/

/-- BLOCKED ends in OFF, before the command is followed (05 R159). -/
def Hub.unblocked (h : Hub) (n : Nat) : Hub := (h.chTo n 1).put (CH_STAT_SSUP.pg n) 0

theorem Hub.unblocked_shows (h : Hub) (n : Nat) : (h.unblocked n).get (CH_STAT_STATE.pg n) = 1
    ∧ (h.unblocked n).get (CH_STAT_SSUP.pg n) = 0 :=
  ⟨(Hub.get_put_pg_apart _ _ _ (by decide) (by decide)).trans (Hub.chSt_chTo _ _ (by decide)),
    Hub.get_put_pg_same _ _ _ (by decide)⟩

theorem Hub.only_unblocked (h : Hub) (n : Nat) :
    Hub.only (BUD_CNT2_CANCELLED :: chFlds n [CH_STAT_STATE, CH_STAT_SSUP]) geyPages h (h.unblocked n) :=
  Hub.only.counted (((Hub.only.refl ..).chTo n 1 (chFlds_mayIn (by decide) (by decide))).put 0
    (chFlds_mayIn (by decide) (by decide)))

/-- The wait is over, and the retry is pending (05 R161–R162). -/
def Hub.waitOver (h : Hub) (n : Nat) : Hub := (h.chTo n 1).put (CH_STAT_RETRY_PEND.pg n) 1

theorem Hub.waitOver_shows (h : Hub) (n : Nat) : (h.waitOver n).get (CH_STAT_STATE.pg n) = 1
    ∧ (h.waitOver n).get (CH_STAT_RETRY_PEND.pg n) = 1 :=
  ⟨(Hub.get_put_pg_apart _ _ _ (by decide) (by decide)).trans (Hub.chSt_chTo _ _ (by decide)),
    Hub.get_put_pg_same _ _ _ (by decide)⟩

theorem Hub.Calm.waitOver (h : Hub) (n : Nat) : Hub.Calm n h (h.waitOver n) :=
  ((Hub.Calm.refl n h).chTo 1).put 1 (by decide) (by decide)

/-- The end of a wait settles the output; only the instant at which the budget is asked may follow. -/
theorem Hub.get_retryWaitEnd (h : Hub) (n : Nat) (g : Fld) :
    (h.retryWaitEnd n).get g = ((h.waitOver n).settle n 0 true).get g := by
  unfold Hub.retryWaitEnd
  dsimp only
  split
  · rfl
  · exact Hub.get_ch! ..

theorem Hub.only_retryWaitEnd (h : Hub) {n : Nat} (hn : n < 64) : Hub.only (outFlds n) geyPages h (h.retryWaitEnd n) := by
  have settled := ((Hub.Calm.waitOver h n).only.widen (outFlds_mayIn (by decide)) fun _ => id).trans
    (Hub.only_settle_off 0 true hn (h.waitOver_shows n).1)
  exact .ite settled (settled.ch! n _)

/-- A channel whose wait is served and whose command is on begins the attempt. -/
theorem Hub.retryWaitEnd_forced {h : Hub} {n : Nat} (hn : n < 64) (x : h.Forced n) :
    (h.retryWaitEnd n).get (CH_STAT_STATE.pg n) = 5
    ∧ (h.retryWaitEnd n).get (CH_SWCNT_SW.pg n) = (h.get (CH_SWCNT_SW.pg n) + 1) % 2 ^ 32
    ∧ (h.retryWaitEnd n).get (CH_STAT_CMD.pg n) = 1 := by
  obtain ⟨st, pend⟩ := h.waitOver_shows n
  have taken := ((h.waitOver n).settling_ruled n).trans (((h.waitOver n).ruled n).settling_dutyTaken n 0)
  have count := (taken.get_pg (g := CH_SWCNT_SW) (by decide) (by decide) (by decide)).trans
    ((Hub.Calm.waitOver h n).only.get_pg (by decide) (by decide) (by decide))
  obtain ⟨-, cmd, counted⟩ := (((h.waitOver n).ruled n).dutyTaken n 0).turnOn_shows 0 hn
  have attempt := (Hub.turnOn_pending _ 0 hn ((taken.get_pg (by decide) (by decide) (by decide)).trans pend)).1
  simp only [Hub.get_retryWaitEnd, Hub.settle_off_forced 0 true st (x.calm (.waitOver h n))]
  exact ⟨attempt, by rw [counted, count], cmd⟩

end Sys2Proof.Machine

open Sys2Proof Sys2Proof.Machine

/-- Settles O17: a block opens both switches, and an output in OFF is settled by the rules, its pending retry
kept. -/
theorem blockedAndWaitingChannelsReturn : Obligations.BlockedAndWaitingChannelsReturn := by
  unfold Obligations.BlockedAndWaitingChannelsReturn
  refine ⟨fun s ch mv on fitted => ?_, fun s ch on fitted st served cool => ?_⟩
  · have hn : ch.toNat < 64 := ch.isLt
    refine ⟨fun st run high => ?_, fun st out => ?_, fun st run => ?_⟩
    · have due : (s.hub.inState ch.toNat 1 100 && decide (6000 < mv.toNat)) = true := by
        rw [Hub.inState, beq_iff_eq.2 st, decide_eq_true run, decide_eq_true high]
        rfl
      exact ⟨_, State.chWhen_on _ fitted due on, Hub.blocked_chBlock _ _ _ _ hn,
        State.frame_hub (Hub.only_chBlock _ _ _ _ hn)⟩
    · have due : (s.hub.driven ch.toNat && s.hub.flag (CH_STAT_OUT.pg ch.toNat)) = true := by
        rw [(s.hub.driven_iff _).2 st, (s.hub.flag_iff rfl).2 out]
        rfl
      exact ⟨_, State.chWhen_on _ fitted due on, Hub.blocked_chBlock _ _ _ _ hn,
        State.frame_hub (Hub.only_chBlock _ _ _ _ hn)⟩
    · have due : s.hub.inState ch.toNat 7 1000 = true := by
        rw [Hub.inState, beq_iff_eq.2 st, decide_eq_true run]
        rfl
      obtain ⟨off, clear⟩ := s.hub.unblocked_shows ch.toNat
      obtain ⟨state, ssup⟩ := Hub.settle_off_shows s.hub.cyc false hn off
      have free := s.hub.only_unblocked ch.toNat
      exact ⟨_, State.chWhen_on _ fitted due on, ssup.trans clear, state,
        fun none => Hub.settle_off_unsupplied s.hub.cyc false off ((free.lbSupplies (by decide)).trans none),
        State.frame_hub ((free.widen (outFlds_mayIn (by decide)) fun _ => id).trans (Hub.only_settle_off _ _ hn off))⟩
  · have hn : ch.toNat < 64 := ch.isLt
    have due : s.hub.waitServed ch.toNat = true := by
      rw [Hub.waitServed, beq_iff_eq.2 st, Hub.waitFrames, decide_eq_true served, (Hub.not_flag_iff ..).2 cool]
      rfl
    have run := State.chWhen_on (fun h => h.retryWaitEnd ch.toNat) fitted due on
    obtain ⟨off, pend⟩ := s.hub.waitOver_shows ch.toNat
    obtain ⟨state, still⟩ := Hub.settle_off_pending 0 true hn off pend
    refine ⟨⟨_, run, (Hub.get_retryWaitEnd ..).trans still, ?_, State.frame_hub (Hub.only_retryWaitEnd _ hn)⟩,
      fun none => ?_, fun supplied safe mode force drive cls free waits => ?_⟩
    · rw [Hub.get_retryWaitEnd]
      exact state
    · obtain ⟨stays, cmd⟩ := Hub.settle_off_unsupplied 0 true off
        (((Hub.Calm.waitOver s.hub ch.toNat).only.lbSupplies (by decide)).trans none)
      exact ⟨_, run, (Hub.get_retryWaitEnd ..).trans stays, (Hub.get_retryWaitEnd ..).trans cmd⟩
    · exact ⟨_, run, Hub.retryWaitEnd_forced hn
        { supplied, safe, mode, force, drive, ot := cool, cls, tickDefer := free, deferred := waits }⟩

end

section
/-! SUPPORT. The append window: a write of SEC_APP1 appends at once, and SEC_APPRES shows the outcome (06 R187–R191). -/

namespace Sys2Proof.Machine

/-! ## Outcomes of an entry (06 R187–R189) -/

/-- An entry is INVALID by its three conditions alone (06 R187). -/
theorem Hub.judgeEntry_invalid_iff (h : Hub) (e : Entry) : h.judgeEntry e = 1 ↔
    h.nch ≤ e.chan ∨ (e.action = 2 ∧ 1000 < e.duty) ∨ bitsOf e.w1 8 2 ≠ 0 := by
  unfold Hub.judgeEntry
  dsimp only
  split
  · next invalid => exact iff_of_true rfl invalid
  · next valid =>
    refine iff_of_false ?_ valid
    split
    · decide
    · split
      · split <;> decide
      · decide

/-- ACCEPTED, INVALID, FULL and ORDER are the outcomes. -/
theorem Hub.judgeEntry_lt (h : Hub) (e : Entry) : h.judgeEntry e < 4 := by
  unfold Hub.judgeEntry
  dsimp only
  split
  · decide
  · split
    · decide
    · split
      · split <;> decide
      · decide

theorem Hub.appendEntry_outcome (h : Hub) (e : Entry) : (h.appendEntry e).2 = h.judgeEntry e := by
  unfold Hub.appendEntry
  dsimp only
  split
  · next accepted => exact accepted.symm
  · next invalid => exact invalid.symm
  · rfl

/-! ## SEC_APP1 and SEC_APPRES (06 R191) -/

/-- SEC_APP1 as the SEC page lists it. -/
def app1Reg : RegDef := ⟨0x18, 1, [⟨0, 32, .wo, .live, 0, .any⟩]⟩

theorem app1_takes (part : Part) : part.Takes SEC_APP1_W1.idx app1Reg := by cases part <;> exact ⟨rfl, rfl, rfl⟩

/-- The one field of SEC_APP1 takes every value, and no other rule refuses it. -/
theorem Hub.writeReg_app1 (h : Hub) (p : Port) (val : Word) :
    h.writeReg p SEC_APP1_W1.idx 15 val app1Reg = (h.writeApp1 p val, 0) := by
  have free : h.pageStatus SEC_APP1_W1.idx 15 app1Reg = 0 :=
    h.pageStatus_zero 15 (by decide) fun page => absurd page (by decide)
  have status : lowestStatus (h.fieldsStatus p SEC_APP1_W1.idx 15 val app1Reg ++ [(0, 0)]) = 0 :=
    (Hub.fieldsStatus_single rfl h p _ 15 val).trans (h.fieldStatus_any p _ val 15 rfl rfl)
  have special (w new : Word) : h.special p SEC_APP1_W1.idx 15 w new = [] := rfl
  have acts : h.acts p SEC_APP1_W1.idx 15 val app1Reg = (h.writeApp1 p (writeOver 0 val 15), 0) := rfl
  unfold Hub.writeReg
  dsimp only
  rw [free, special, acts, writeOver_all, if_neg (by decide), if_neg (by decide), if_neg (by decide), if_neg (by decide),
    if_neg (by decide)]
  simp [status]

/-- SEC_APP0 as a port has written it. -/
def Section.app0 (x : Section) : Port → Word
  | .e => x.app0E
  | .w => x.app0W

/-- SEC_APPRES as a port reads it. -/
def Section.appres (x : Section) : Port → Word
  | .e => x.appresE
  | .w => x.appresW

/-- Outcome, channel and free slots. -/
theorem Hub.appres_writeApp1 (h : Hub) (p : Port) (w1 : Word) : ∃ free, (h.writeApp1 p w1).sec.appres p
    = BitVec.ofNat 32 (h.judgeEntry ⟨h.sec.app0 p, w1, false⟩ + bitsOf w1 26 6 * 2 ^ 8 + free * 2 ^ 16) := by
  unfold Hub.writeApp1
  dsimp only
  rw [Hub.appendEntry_outcome]
  cases p <;> exact ⟨_, rfl⟩

/-- The outcome in the word of SEC_APPRES. -/
theorem bitsOf_appres {o : Nat} (c f : Nat) (ho : o < 16) : bitsOf (BitVec.ofNat 32 (o + c * 2 ^ 8 + f * 2 ^ 16)) 0 4 = o := by
  unfold bitsOf
  rw [BitVec.toNat_ofNat]
  omega

theorem Hub.heal_sec (h : Hub) (i : Nat) (m : Word) (b : Bool) : (h.heal i m b).sec = h.sec := h.of_heal i m b _ fun _ => rfl

theorem Hub.traffic_sec (h : Hub) : h.traffic.sec = h.sec := h.of_traffic _ fun _ _ _ _ => rfl

/-- APPEND_ENTRY on a running hub is answered OK, and the port's SEC_APPRES shows the outcome. -/
theorem State.appended {s : State} (on : s.hub.running = true) (p : Port) (w1 : Word) : ∃ t,
    exec (.appendEntry p 15 w1) s = .next t ∧ t.hub.acc = ⟨0, 0⟩
      ∧ bitsOf (t.hub.sec.appres p) 0 4 = s.hub.judgeEntry ⟨s.hub.sec.app0 p, w1, false⟩ := by
  obtain ⟨m, taken⟩ := State.portWrite_accepted (app1_takes s.hub.part) (by decide) (s.hub.traffic.writeReg_app1 p w1)
  obtain ⟨free, shown⟩ := s.hub.traffic.appres_writeApp1 p w1
  refine ⟨_, (State.rowWrite_on _ _ _ _ on).trans (congrArg _ taken), rfl, ?_⟩
  change bitsOf (((s.hub.traffic.writeApp1 p w1).heal _ m false).sec.appres p) 0 4 = _
  rw [Hub.heal_sec, shown, bitsOf_appres _ _ ((Hub.judgeEntry_lt ..).trans (by decide)), Hub.traffic_sec]
  exact s.hub.of_traffic (·.judgeEntry _) fun _ _ _ _ => rfl

end Sys2Proof.Machine

open Sys2Proof Sys2Proof.Machine

/-- Settles O9, by the outcome that SEC_APPRES shows. -/
theorem entriesAreInvalidExactlyWhere : Obligations.EntriesAreInvalidExactlyWhere := by
  unfold Obligations.EntriesAreInvalidExactlyWhere
  intro s port w1 on
  obtain ⟨t, run, answer, outcome⟩ := State.appended on port w1
  refine ⟨t, run, answer, Iff.trans ?_ (s.hub.judgeEntry_invalid_iff ⟨s.hub.sec.app0 port, w1, false⟩)⟩
  rw [← outcome]
  cases port <;> rfl

end

section
/-! SUPPORT. The examination of a lane's only head (06 R193, R196–R197). -/

namespace Sys2Proof.Machine

/-! ## What the examination finds -/

/-- A time-keyed head is late, waits or is armed by its r alone (06 R196). -/
theorem Hub.exam_time (h : Hub) (n : Nat) {e : Entry} (frm : Nat) (dist : Bool) (time : e.key = 1) :
    h.exam n e frm dist = if h.timeR n e frm < 100 then .late (h.timeR n e frm)
      else if 200 ≤ h.timeR n e frm then .wait else .arm ((h.timeR n e frm).toNat * 400) (h.timeR n e frm) := by
  unfold Hub.exam
  rw [if_neg (by simp [time])]

/-! ## What it does to a head that stands alone in its lane -/

/-- The edge that an entry examined in frame `frm` is armed for, `t` cycles after the tick of that frame. -/
def Hub.edgeOf (h : Hub) (n : Nat) (e : Entry) (frm : Nat) (t : Int) (late : Bool) (r : Int) : Armed :=
  { frm := wrapTo 32 (frm + 1), cyc := (t - 40000).toNat, kind := e.kind, tag := e.tag, cls := h.entryClass n e,
    late := late, key := e.key, r := lateR e r }

/-- The head leaves its lane for the armed edges. -/
def Hub.takeHead (h : Hub) (n : Nat) (a : Armed) : Hub :=
  (h.popHead n 1).ch! n fun d => { d with armed := insertArmed a d.armed }

/-- LATE counts, its flag sets and its record is written (06 R197). -/
def Hub.lateNoted (h : Hub) (n : Nat) (e : Entry) (r : Int) : Hub :=
  (h.incSat (CH_SECCNT0_LATE.pg n)).report (chPage n) 10 0x1810 n sevWARN
    [(0, 1, e.tag), (1, 1, e.action), (2, 1, e.key), (3, 1, boolNat (h.flag (CH_LANECTL_LATEPOL.pg n))), (4, 4, lateR e r)]

section
variable {h : Hub} {n : Nat} {e : Entry} {frm : Nat} {dist : Bool} (alone : (h.ch n).lane = [e]) (good : e.bad = false)
include alone good

theorem Hub.evalHead_wait (found : h.exam n e frm dist = .wait) : h.evalHead n frm dist = (h, 0) := by
  unfold Hub.evalHead
  simp only [alone, good, found, Bool.false_eq_true, if_false]

/-- No entry follows that an ON could collapse with. -/
theorem Hub.evalHead_arm {cyc : Nat} {r : Int} (found : h.exam n e frm dist = .arm cyc r) :
    h.evalHead n frm dist = (h.takeHead n (h.edgeOf n e frm cyc false r), 1) := by
  unfold Hub.evalHead
  simp only [alone, good, found, Bool.false_eq_true, if_false, Bool.false_and, ite_self]
  rfl

theorem Hub.evalHead_late {r : Int} (found : h.exam n e frm dist = .late r) :
    h.evalHead n frm dist = (if h.flag (CH_LANECTL_LATEPOL.pg n) then (h.lateNoted n e r).popHead n 1
      else (h.lateNoted n e r).takeHead n ((h.lateNoted n e r).edgeOf n e frm 40000 true r), 1) := by
  unfold Hub.evalHead
  simp only [alone, good, found, Bool.false_eq_true, if_false, Bool.true_and, ite_self]
  split <;> rfl

end

/-! ## What it leaves and shows -/

@[simp] theorem Hub.ch_popHead (h : Hub) (n k : Nat) : (h.popHead n k).ch n = { h.ch n with
    lane := (h.ch n).lane.drop k, laneHead := ((h.ch n).laneHead + k) % max 1 (h.laneLen n) } := Hub.ch_ch!_same ..

@[simp] theorem Hub.ch_takeHead (h : Hub) (n : Nat) (a : Armed) : (h.takeHead n a).ch n =
    { (h.popHead n 1).ch n with armed := insertArmed a (h.ch n).armed } := by
  rw [Hub.takeHead, Hub.ch_ch!_same, Hub.ch_popHead]

@[simp] theorem Hub.ch_lateNoted (h : Hub) (n : Nat) (e : Entry) (r : Int) : (h.lateNoted n e r).ch n = h.ch n := by
  rw [Hub.lateNoted, Hub.ch_report, Hub.ch_incSat]

@[simp] theorem Hub.get_popHead (h : Hub) (n k : Nat) (g : Fld) : (h.popHead n k).get g = h.get g := Hub.get_ch! ..

@[simp] theorem Hub.get_takeHead (h : Hub) (n : Nat) (a : Armed) (g : Fld) : (h.takeHead n a).get g = h.get g :=
  (Hub.get_ch! ..).trans (h.get_popHead ..)

theorem Hub.get_lateNoted_late (h : Hub) (n : Nat) (e : Entry) (r : Int) :
    (h.lateNoted n e r).get (CH_SECCNT0_LATE.pg n) = min (h.get (CH_SECCNT0_LATE.pg n) + 1) 65535 := by
  rw [Hub.lateNoted, Hub.get_report_pg _ _ _ _ _ _ _ (by decide) (by decide)]
  exact h.get_incSat_same 1 (by decide : CH_SECCNT0_LATE.fits)

theorem mem_insertArmed (a : Armed) (l : List Armed) : a ∈ insertArmed a l := by
  induction l with
  | nil => exact List.mem_cons_self ..
  | cons b bs ih =>
    unfold insertArmed
    split
    · exact List.mem_cons_self ..
    · exact List.mem_cons_of_mem _ ih

/-- The next frame's number, modulo 2^32 (02 R54). -/
theorem wrapTo_next (n : Nat) : wrapTo 32 ((n : Int) + 1) = (n + 1) % 2 ^ 32 := by
  unfold wrapTo
  omega

end Sys2Proof.Machine

open Sys2Proof Sys2Proof.Machine

/-- Settles O10, by the three findings of 06 R196. -/
theorem timeKeyedHeadsWaitArmOrAreLate : Obligations.TimeKeyedHeadsWaitArmOrAreLate := by
  unfold Obligations.TimeKeyedHeadsWaitArmOrAreLate
  intro h ch n e moving r _ time good alone due
  have found := h.exam_time ch n moving time
  rw [show h.timeR ch e n = r from due.symm] at found
  refine ⟨fun far => ?_, fun near inside => ?_, fun past => ?_⟩
  · rw [if_neg (by omega), if_pos far] at found
    exact Hub.evalHead_wait alone good found
  · rw [if_neg (by omega), if_neg (by omega)] at found
    rw [Hub.evalHead_arm alone good found]
    refine ⟨rfl, by simp [alone], h.edgeOf ch e n (r.toNat * 400 : Nat) false r, ?_, wrapTo_next n, ?_, rfl, rfl, rfl⟩
    · rw [Hub.ch_takeHead]
      exact mem_insertArmed ..
    · simp only [Hub.edgeOf]
      omega
  · rw [if_pos past] at found
    rw [Hub.evalHead_late alone good found]
    refine ⟨rfl, ?_, ?_, fun drop => ?_, fun keep => ?_⟩
    · dsimp only
      split <;> simp [alone]
    · dsimp only
      split <;> simp [Hub.get_lateNoted_late]
    · rw [(h.flag_iff rfl).2 drop]
      simp
    · rw [(h.not_flag_iff _).2 keep]
      refine ⟨(h.lateNoted ch e r).edgeOf ch e n 40000 true r, ?_, wrapTo_next n, rfl, rfl, rfl, rfl⟩
      simp [mem_insertArmed]

end

section
/-! SUPPORT. Travel: the accepted edges of its inputs, stale speed, and the source that HYBRID uses (06 R176–R178). -/

namespace Sys2Proof.Machine

/-! ## Edges (06 R177) -/

/-- A field that has been given a signed number holds it modulo its width. -/
theorem Hub.get_puti_mod (h : Hub) {f : Fld} (v : Int) (hf : f.fits) : ((h.puti f v).get f : Int) = v % (2 ^ f.w : Nat) := by
  have pos : (0 : Int) < (2 ^ f.w : Nat) := by exact_mod_cast Nat.two_pow_pos f.w
  have low : (wrapTo f.w v : Int) = v % (2 ^ f.w : Nat) := Int.toNat_of_nonneg (Int.emod_nonneg _ pos.ne')
  rw [Hub.get_puti_same h v hf, Int.natCast_emod, low, Int.emod_emod_of_dvd _ dvd_rfl]

/-- Levels are noted, and the frame's count and SEC_PULSES advance by `v`. -/
def Hub.travelBy (h : Hub) (a b : Bool) (v : Int) : Hub :=
  (h.sec! fun x => { x with trvA := a, trvB := b, count := x.count + v }).puti SEC_PULSES_COUNT (h.get SEC_PULSES_COUNT + v)

/-- DIRINV negates a count. -/
def Hub.directed (h : Hub) (v : Int) : Int := if h.flag SEC_TRVSRC_DIRINV then -v else v

section
variable {h : Hub}

theorem Hub.travelEdge_unmeasured (a b : Bool) (idle : h.leads = false ∨ h.mode = mNAP) :
    h.travelEdge a b = h.sec! fun x => { x with trvA := a, trvB := b } := by
  have idle' : (!h.leads || h.mode == mNAP) = true := by simpa using idle
  unfold Hub.travelEdge
  dsimp only
  rw [if_pos idle']

variable (a b : Bool) (leads : h.leads = true) (awake : h.mode ≠ mNAP)
include leads awake

/-- Travel is measured, by pulses and a direction or in quadrature. -/
theorem Hub.travelEdge_measured : h.travelEdge a b =
    if h.flag SEC_TRVSRC_DECODE then
      h.travelBy a b (if a && !h.sec.trvA then h.directed (if b then -1 else 1) else 0)
    else if a != h.sec.trvA && b != h.sec.trvB then
      ((h.sec! fun x => { x with trvA := a, trvB := b }).incSat SEC_CNT_QERR).evt pgSEC 7
    else h.travelBy a b (h.directed (quadStep h.sec.trvA h.sec.trvB a b)) := by
  have measured : ¬ (!h.leads || h.mode == mNAP) = true := by simp [leads, awake]
  unfold Hub.travelEdge
  dsimp only
  rw [if_neg measured]
  rfl

end

/-- One input that changes counts one, and none counts nothing. -/
theorem quadStep_single : ∀ a b a' b' : Bool, (a' = a ∧ b' = b → quadStep a b a' b' = 0)
    ∧ ((a' = a ∨ b' = b) → (a' ≠ a ∨ b' ≠ b) → quadStep a b a' b' = 1 ∨ quadStep a b a' b' = -1) := by decide

theorem Hub.directed_zero (h : Hub) : h.directed 0 = 0 := by simp [Hub.directed]

theorem Hub.directed_one (h : Hub) {v : Int} (one : v = 1 ∨ v = -1) : h.directed v = 1 ∨ h.directed v = -1 := by
  unfold Hub.directed
  split <;> omega

theorem Hub.directed_eq (h : Hub) (v : Int) : h.directed v = (if h.get SEC_TRVSRC_DIRINV = 1 then -1 else 1) * v := by
  unfold Hub.directed
  simp only [h.flag_iff (f := SEC_TRVSRC_DIRINV) rfl]
  split <;> omega

/-- What a count shows and reaches. -/
theorem State.travelBy_shows (s : State) (a b : Bool) (v : Int) :
    (s.hub.travelBy a b v).sec = { s.hub.sec with trvA := a, trvB := b, count := s.hub.sec.count + v }
    ∧ ((s.hub.travelBy a b v).get SEC_PULSES_COUNT : Int) = ((s.hub.get SEC_PULSES_COUNT : Int) + v) % 2 ^ 32
    ∧ s.frame [SEC_PULSES_COUNT] [] { s with hub := s.hub.travelBy a b v } :=
  ⟨rfl, Hub.get_puti_mod _ _ (by decide),
    State.frame_hub (((Hub.only.refl ..).sec! _).puti _ (Fld.mayIn_self (by simp) (by decide)))⟩

/-- Both inputs that change at once: QERR counts, with its flag. -/
def Hub.travelLost (h : Hub) (a b : Bool) : Hub :=
  ((h.sec! fun x => { x with trvA := a, trvB := b }).incSat SEC_CNT_QERR).evt pgSEC 7

theorem State.travelLost_shows (s : State) (a b : Bool) :
    (s.hub.travelLost a b).get SEC_CNT_QERR = min (s.hub.get SEC_CNT_QERR + 1) 65535
    ∧ (s.hub.travelLost a b).sec = { s.hub.sec with trvA := a, trvB := b }
    ∧ (s.hub.travelLost a b).get (flagFld 0x16 7) = 1
    ∧ s.frame [SEC_CNT_QERR, flagFld 0x16 7] irqPages { s with hub := s.hub.travelLost a b } := by
  refine ⟨?_, Hub.of_bare Hub.sec (fun _ => rfl) (Hub.bare_evt ..), Hub.get_evt_flag _ _ _ (by decide) (by decide),
    State.frame_hub ?_⟩
  · rw [Hub.travelLost, Hub.get_evt _ _ _ (by decide) (by decide) (by decide), Hub.get_incSat_same _ _ (by decide)]
    rfl
  · exact (((Hub.only.refl ..).sec! _).incSat _ (Fld.mayIn_self (by simp) (by decide))).evt _ _
      (flagFld_mayIn (by simp) (by decide)) (fun _ => id) (.inl (by decide))

/-! ## Stale speed (06 R178) -/

theorem Hub.speedStaleDue_of {h : Hub} (leads : h.leads = true) (speed : h.get SEC_TRVSRC_SRC = 2)
    (fresh : h.get SEC_STAT_SPDSTALE = 0) (old : h.get SEC_SPDTMO_FRAMES ≤ h.sec.speedAge) : h.speedStaleDue = true := by
  have used : h.speedInUse = true := by
    rw [Hub.speedInUse, speed]
    rfl
  rw [Hub.speedStaleDue, leads, used, (h.not_flag_iff _).2 fresh, decide_eq_true old]
  rfl

theorem State.speedStale_shows (s : State) :
    s.hub.speedStale.get SEC_STAT_SPDSTALE = 1 ∧ s.hub.speedStale.get (flagFld 0x16 2) = 1
    ∧ s.regFrame [SEC_STAT_SPDSTALE, flagFld 0x16 2] tracePages { s with hub := s.hub.speedStale } := by
  unfold Hub.speedStale
  refine ⟨?_, Hub.get_report_flag _ _ _ _ _ _ _ (by decide) (by decide) (by decide), State.regFrame_hub ?_ ?_⟩
  · rw [Hub.get_report _ _ _ _ _ _ _ (by decide) (by decide) (by decide), Hub.get_put_same _ _ (by decide)]
    rfl
  · exact ((Hub.only.refl ..).put _ (Fld.mayIn_self (by simp) (by decide))).report _ _ _ _ _ _
      (flagFld_mayIn (by simp) (by decide)) (fun _ => id) (.inl (by decide))
  · rw [Hub.bare_report, Hub.bare_put]

/-! ## The source of HYBRID (06 R176) -/

/-- HYBRID turns to speed after 500 frames without a count. -/
theorem Hub.fallbackDue_toSpeed {h : Hub} (leads : h.leads = true) (hybrid : h.get SEC_TRVSRC_SRC = 3)
    (pulses : h.get SEC_STAT_TRVACT = 0) (none : h.sec.count = 0) (long : 500 ≤ h.sec.zeroRun) : h.fallbackDue = true := by
  rw [Hub.fallbackDue, leads, hybrid, (h.not_flag_iff _).2 pulses, none, decide_eq_true long]
  rfl

/-- It turns back with the first count. -/
theorem Hub.fallbackDue_toPulses {h : Hub} (leads : h.leads = true) (hybrid : h.get SEC_TRVSRC_SRC = 3)
    (speed : h.get SEC_STAT_TRVACT = 1) (count : h.sec.count ≠ 0) : h.fallbackDue = true := by
  rw [Hub.fallbackDue, leads, hybrid, (h.flag_iff rfl).2 speed, if_pos rfl, bne_iff_ne.2 count]
  rfl

/-- TRVACT turns over; the remainder goes with the speed. -/
theorem State.trvFallback_shows (s : State) :
    s.hub.trvFallback.get SEC_STAT_TRVACT = boolNat (!s.hub.flag SEC_STAT_TRVACT)
    ∧ s.hub.trvFallback.get (flagFld 0x16 5) = 1
    ∧ s.hub.trvFallback.sec = { s.hub.sec with rem := if (!s.hub.flag SEC_STAT_TRVACT) then s.hub.sec.rem else 0 }
    ∧ s.frame [SEC_STAT_TRVACT, flagFld 0x16 5] tracePages { s with hub := s.hub.trvFallback } := by
  unfold Hub.trvFallback
  refine ⟨?_, Hub.get_report_flag _ _ _ _ _ _ _ (by decide) (by decide) (by decide),
    Hub.of_bare Hub.sec (fun _ => rfl) (Hub.bare_report ..), State.frame_hub ?_⟩
  · rw [Hub.get_report _ _ _ _ _ _ _ (by decide) (by decide) (by decide), Hub.get_sec!, Hub.get_putb_same _ _ (by decide)]
    cases s.hub.flag SEC_STAT_TRVACT <;> rfl
  · exact (((Hub.only.refl ..).putb _ (Fld.mayIn_self (by simp) (by decide))).sec! _).report _ _ _ _ _ _
      (flagFld_mayIn (by simp) (by decide)) (fun _ => id) (.inl (by decide))

end Sys2Proof.Machine

open Sys2Proof Sys2Proof.Machine

/-- Settles O20, decoding by decoding, and by what stale speed and the change of HYBRID's source show. -/
theorem travelIsCountedOrTakenFromSpeed : Obligations.TravelIsCountedOrTakenFromSpeed := by
  unfold Obligations.TravelIsCountedOrTakenFromSpeed
  refine ⟨fun s a b on => ?_, fun s on leads => ⟨fun speed fresh old => ?_, fun hybrid pulses none long => ?_,
    fun hybrid speed count => ?_⟩⟩
  · have run : exec (.travelEdge a b) s = .next { s with hub := s.hub.travelEdge a b } := State.upd_on _ on
    refine ⟨fun leads awake pulse => ?_, fun leads awake quad onA onB => ?_, fun leads awake quad one => ?_, fun idle => ?_⟩
    · rw [run, Hub.travelEdge_measured a b leads awake, if_pos ((s.hub.flag_iff rfl).2 pulse)]
      refine ⟨_, _, rfl, ?_, s.travelBy_shows a b _⟩
      simp only [Hub.directed_eq, Bool.and_eq_true, Bool.not_eq_true']
    · have both : (a != s.hub.sec.trvA && b != s.hub.sec.trvB) = true := by simp [onA, onB]
      rw [run, Hub.travelEdge_measured a b leads awake, if_neg (by simp [quad]), if_pos both]
      exact ⟨_, rfl, s.travelLost_shows a b⟩
    · have single : ¬ (a != s.hub.sec.trvA && b != s.hub.sec.trvB) = true := by
        simpa [or_iff_not_imp_left] using one
      obtain ⟨still, moves⟩ := quadStep_single s.hub.sec.trvA s.hub.sec.trvB a b
      rw [run, Hub.travelEdge_measured a b leads awake, if_neg (by simp [quad]), if_neg single]
      refine ⟨_, _, rfl, fun same => ?_, fun moved => s.hub.directed_one (moves one moved), s.travelBy_shows a b _⟩
      rw [still same, Hub.directed_zero]
    · rw [run, Hub.travelEdge_unmeasured a b idle]
      exact ⟨_, rfl, rfl, State.frame_hub ((Hub.only.refl ..).sec! _)⟩
  · exact ⟨_, State.when_on _ (Hub.speedStaleDue_of leads speed fresh old) on, s.speedStale_shows⟩
  · have shows := s.trvFallback_shows
    rw [(s.hub.not_flag_iff _).2 pulses] at shows
    exact ⟨_, State.when_on _ (Hub.fallbackDue_toSpeed leads hybrid pulses none long) on, shows⟩
  · have shows := s.trvFallback_shows
    rw [(s.hub.flag_iff rfl).2 speed] at shows
    exact ⟨_, State.when_on _ (Hub.fallbackDue_toPulses leads hybrid speed count) on, shows⟩

end

section
/-! SUPPORT. The zero frame, and the gap that is not closed (06 R180, R182, R184, R190). -/

namespace Sys2Proof.Machine

/-! ## One channel among others -/

theorem Hub.ch_setCh_ne (h : Hub) {m n : Nat} (c : Chan) (other : n ≠ m) : (h.setCh m c).ch n = h.ch n :=
  nth_setNth_ne _ _ _ other

theorem Hub.ch_ch!_ne (h : Hub) {m n : Nat} (f : Chan → Chan) (other : n ≠ m) : (h.ch! m f).ch n = h.ch n :=
  h.ch_setCh_ne _ other

/-- What one member of a list brings about and every member keeps holds at the end. -/
theorem foldl_of_mem {α β : Type} {f : β → α → β} {P : β → Prop} {x : α} (brings : ∀ b, P (f b x))
    (keeps : ∀ b y, P b → P (f b y)) {l : List α} (mem : x ∈ l) (b : β) : P (l.foldl f b) := by
  obtain ⟨before, after, rfl⟩ := List.append_of_mem mem
  rw [List.foldl_append, List.foldl_cons]
  exact List.foldlRecOn after f (brings _) fun b hb y _ => keeps b y hb

/-- A value of two fields that is 0. -/
theorem Hub.getPair_putPair_zero (h : Hub) {lo hi : Fld} (fitsLo : lo.fits) (fitsHi : hi.fits) (apart : hi.apart lo) :
    (h.putPair lo hi 0).getPair lo hi = 0 := by
  unfold Hub.getPair Hub.putPair
  rw [Hub.get_put_apart _ _ fitsHi apart, Hub.get_put_same _ _ fitsLo, Hub.get_put_same _ _ fitsHi, Nat.zero_mod,
    Nat.zero_div, Nat.zero_mod, Nat.mul_zero, Nat.add_zero]

/-! ## The zero branch (06 R180, R182) -/

/-- The odometer of channel n is 0, its increment is 0, and the distance reference of its lane is clear. -/
def Hub.odoZero (h : Hub) (n : Nat) : Hub :=
  (h.putPair (CH_ODO_LO_ODO.pg n) (CH_ODO_HI_ODO.pg n) 0).ch! n fun c => { c with dLast := 0, tailD := none }

theorem Hub.zeroAll_eq (h : Hub) :
    h.zeroAll = h.chList.foldl Hub.odoZero (h.putPair SEC_REFODO_LO_ODO SEC_REFODO_HI_ODO 0) := rfl

/-- The odometer of channel n reads 0, and its lane holds no distance reference. -/
def Hub.zeroedCh (h : Hub) (n : Nat) : Prop := h.odo n = 0 ∧ (h.ch n).tailD = none

theorem Hub.zeroedCh_odoZero_same (h : Hub) (n : Nat) : (h.odoZero n).zeroedCh n := by
  refine ⟨?_, by rw [Hub.odoZero, Hub.ch_ch!_same]⟩
  rw [Hub.odo, Hub.getPair, Hub.odoZero, Hub.get_ch!, Hub.get_ch!]
  exact h.getPair_putPair_zero (lo := CH_ODO_LO_ODO.pg n) (hi := CH_ODO_HI_ODO.pg n) (by decide : CH_ODO_LO_ODO.fits)
    (by decide : CH_ODO_HI_ODO.fits) ((by decide : CH_ODO_HI_ODO.apart CH_ODO_LO_ODO).pg n)

/-- Another channel's registers and data stay. -/
theorem Hub.odoZero_ne (h : Hub) {m n : Nat} (other : n ≠ m) :
    (h.odoZero m).odo n = h.odo n ∧ (h.odoZero m).ch n = h.ch n := by
  have kept {g : Fld} (hg : g.idx / 256 = 0x40) : (h.odoZero m).get (g.pg n) = h.get (g.pg n) := by
    have away {f : Fld} (hf : f.idx / 256 = 0x40) : (f.pg m).apart (g.pg n) := .inl (by simp only; omega)
    unfold Hub.odoZero Hub.putPair
    rw [Hub.get_ch!, Hub.get_put_apart (f := CH_ODO_HI_ODO.pg m) _ _ (by decide : CH_ODO_HI_ODO.fits) (away rfl),
      Hub.get_put_apart (f := CH_ODO_LO_ODO.pg m) _ _ (by decide : CH_ODO_LO_ODO.fits) (away rfl)]
  refine ⟨?_, Hub.ch_ch!_ne _ _ other⟩
  unfold Hub.odo Hub.getPair
  rw [kept rfl, kept rfl]

theorem Hub.zeroedCh.odoZero {h : Hub} {n : Nat} (zero : h.zeroedCh n) (m : Nat) : (h.odoZero m).zeroedCh n := by
  by_cases same : n = m
  · exact same ▸ h.zeroedCh_odoZero_same n
  · obtain ⟨odo, data⟩ := h.odoZero_ne same
    rwa [Hub.zeroedCh, odo, data]

theorem Hub.lane_odoZero (h : Hub) (m n : Nat) : ((h.odoZero m).ch n).lane = (h.ch n).lane := by
  by_cases same : n = m
  · rw [same, Hub.odoZero, Hub.ch_ch!_same]
    rfl
  · rw [(h.odoZero_ne same).2]

/-- Every fitted channel is zeroed, and lanes keep their entries. -/
theorem Hub.zeroAll_channel (h : Hub) {n : Nat} (fitted : n < h.nch) :
    h.zeroAll.zeroedCh n ∧ (h.zeroAll.ch n).lane = (h.ch n).lane := by
  rw [Hub.zeroAll_eq]
  refine ⟨foldl_of_mem (P := fun a : Hub => a.zeroedCh n) (fun a => a.zeroedCh_odoZero_same n)
    (fun _ m zero => zero.odoZero m) (List.mem_range.2 fitted) _, ?_⟩
  exact List.foldlRecOn (motive := fun a : Hub => (a.ch n).lane = (h.ch n).lane) _ _ rfl
    fun a kept m _ => (a.lane_odoZero m n).trans kept

theorem mem_odoFlds {h : Hub} {f : Fld} : f ∈ odoFlds h ↔ ∃ n < h.nch, f = CH_ODO_LO_ODO.pg n ∨ f = CH_ODO_HI_ODO.pg n := by
  simp only [odoFlds, Hub.chList, List.mem_flatMap, List.mem_range, List.mem_cons, List.not_mem_nil, or_false]

theorem Hub.only_zeroAll (h : Hub) : Hub.only (SEC_REFODO_LO_ODO :: SEC_REFODO_HI_ODO :: odoFlds h) [] h h.zeroAll := by
  have odo {f : Fld} {n : Nat} (mem : n ∈ h.chList) (hf : f = CH_ODO_LO_ODO ∨ f = CH_ODO_HI_ODO) (fits : f.fits) :
      (f.pg n).mayIn (SEC_REFODO_LO_ODO :: SEC_REFODO_HI_ODO :: odoFlds h) [] :=
    Fld.mayIn_pg (List.mem_cons_of_mem _ (List.mem_cons_of_mem _ (mem_odoFlds.2
      ⟨n, List.mem_range.1 mem, hf.imp (congrArg (Fld.pg · n)) (congrArg (Fld.pg · n))⟩))) fits
  rw [Hub.zeroAll_eq]
  refine Hub.only.foldlMem _ _ (fun c n mem y => ?_)
    ((Hub.only.refl ..).putPair 0 (Fld.mayIn_self (by simp) (by decide)) (Fld.mayIn_self (by simp) (by decide)))
  exact (y.putPair 0 (odo mem (.inl rfl) (by decide)) (odo mem (.inr rfl) (by decide))).ch! n _

/-- The odometers lie on the channels' pages. -/
theorem odoFlds_apart {h : Hub} {g : Fld} (hg : g.idx < 0x4000) : ∀ f ∈ odoFlds h, f.apart g := by
  intro f hf
  obtain ⟨n, -, rfl | rfl⟩ := mem_odoFlds.1 hf <;> exact .inl (by simp only; omega)

/-- The reference is 0. -/
theorem Hub.refodo_zeroAll (h : Hub) : h.zeroAll.getPair SEC_REFODO_LO_ODO SEC_REFODO_HI_ODO = 0 := by
  have kept (a : Hub) (n : Nat) {g : Fld} (hg : g.idx < 0x4000) : (a.odoZero n).get g = a.get g := by
    unfold Hub.odoZero Hub.putPair
    rw [Hub.get_ch!, Hub.get_put_pg_off _ _ _ (by decide) (by simp only; omega),
      Hub.get_put_pg_off _ _ _ (by decide) (by simp only; omega)]
  rw [Hub.zeroAll_eq]
  refine List.foldlRecOn (motive := fun a : Hub => a.getPair SEC_REFODO_LO_ODO SEC_REFODO_HI_ODO = 0) _ _
    (h.getPair_putPair_zero (by decide) (by decide) (by decide)) fun a zero n _ => ?_
  rw [Hub.getPair, kept a n (by decide), kept a n (by decide)]
  exact zero

/-! ## ZERO (06 R182) -/

/-- ZEROARM clears, and no zero frame is due any more. -/
def Hub.disarmed (h : Hub) : Hub := (h.put SEC_CTL_ZEROARM 0).sec! fun x => { x with zeroDue := false }

/-- At its frame the hub zeroes. -/
theorem Hub.zeroAct_now {h : Hub} {n : Nat} (now : h.get SEC_ZEROAT_FRAME = n) :
    h.zeroAct n = h.disarmed.zeroAll.report pgSEC 0 0x1301 0 sevINFO [(0, 4, h.get SEC_ZEROAT_FRAME)] := if_pos now

/-- At any other it zeroes nothing. -/
theorem Hub.zeroAct_missed {h : Hub} {n : Nat} (missed : h.get SEC_ZEROAT_FRAME ≠ n) :
    h.zeroAct n = h.disarmed.report pgSEC 1 0x1302 0 sevWARN [(0, 4, h.get SEC_ZEROAT_FRAME), (4, 4, n)] := if_neg missed

theorem Hub.get_disarmed (h : Hub) : h.disarmed.get SEC_CTL_ZEROARM = 0 := by
  rw [Hub.disarmed, Hub.get_sec!, Hub.get_put_same _ _ (by decide)]
  rfl

theorem Hub.only.disarmed {fs : List Fld} {ps : List Nat} {a b : Hub} (arm : SEC_CTL_ZEROARM ∈ fs) (x : Hub.only fs ps a b) :
    Hub.only fs ps a b.disarmed := (x.put 0 (Fld.mayIn_self arm (by decide))).sec! _

/-- An event of the SEC page reaches no register but its PG_EVT and the traces. -/
theorem Hub.get_report_sec (h : Hub) {bit : Nat} (code sev : Nat) (l : List (Nat × Nat × Nat)) {g : Fld} (hb : bit < 31)
    (hi : g.idx ≠ 0x1603) (off : g.idx / 256 ∉ tracePages) : (h.report pgSEC bit code 0 sev l).get g = h.get g :=
  h.get_report _ _ _ _ _ _ hb (.inl hi.symm) off

/-- What zeroing shows and reaches. -/
theorem State.zeroAct_now_shows {s : State} {t : Hub} (now : s.hub.get SEC_ZEROAT_FRAME = s.hub.frmNo)
    (out : t = s.hub.zeroAct s.hub.frmNo) :
    t.get SEC_CTL_ZEROARM = 0 ∧ t.get (flagFld 0x16 0) = 1 ∧ t.getPair SEC_REFODO_LO_ODO SEC_REFODO_HI_ODO = 0
    ∧ (∀ n, n < s.hub.nch → t.zeroedCh n ∧ (t.ch n).lane = (s.hub.ch n).lane)
    ∧ s.frame ([SEC_CTL_ZEROARM, flagFld 0x16 0, SEC_REFODO_LO_ODO, SEC_REFODO_HI_ODO] ++ odoFlds s.hub) tracePages
        { s with hub := t } := by
  have zeroed := s.hub.disarmed.only_zeroAll
  rw [out, Hub.zeroAct_now now]
  refine ⟨?_, Hub.get_report_flag _ _ _ _ _ _ _ (by decide) (by decide) (by decide), ?_, fun n fitted => ?_,
    State.frame_hub ?_⟩
  · rw [Hub.get_report_sec _ _ _ _ (by decide) (by decide) (by decide)]
    refine (zeroed.getEq (by decide) (fun f hf => ?_) (by decide)).trans s.hub.get_disarmed
    rcases List.mem_cons.1 hf with rfl | hf
    · decide
    · rcases List.mem_cons.1 hf with rfl | odo
      · decide
      · exact odoFlds_apart (by decide) f odo
  · rw [Hub.getPair, Hub.get_report_sec _ _ _ _ (by decide) (by decide) (by decide),
      Hub.get_report_sec _ _ _ _ (by decide) (by decide) (by decide)]
    exact Hub.refodo_zeroAll _
  · have kept (a : Hub) (l : List (Nat × Nat × Nat)) {g : Fld} (hg : 0x4003 < g.idx) :
        (a.report pgSEC 0 0x1301 0 sevINFO l).get (g.pg n) = a.get (g.pg n) :=
      Hub.get_report_sec _ _ _ _ (by decide) (by simp only; omega) (Fld.pg_above n 0 hg).2
    obtain ⟨zero, lane⟩ := s.hub.disarmed.zeroAll_channel fitted
    rw [Hub.zeroedCh, Hub.odo, Hub.getPair, kept _ _ (by decide), kept _ _ (by decide), Hub.ch_report]
    exact ⟨zero, lane⟩
  · have wider : ∀ f ∈ SEC_REFODO_LO_ODO :: SEC_REFODO_HI_ODO :: odoFlds s.hub,
        f ∈ [SEC_CTL_ZEROARM, flagFld 0x16 0, SEC_REFODO_LO_ODO, SEC_REFODO_HI_ODO] ++ odoFlds s.hub :=
      fun f hf => List.mem_cons_of_mem _ (List.mem_cons_of_mem _ hf)
    exact (((Hub.only.refl ..).disarmed (by simp)).trans (zeroed.mono wider (by simp))).report _ _ _ _ _ _
      (flagFld_mayIn (by simp) (by decide)) (fun _ => id) (.inl (by decide))

/-- What a missed zero frame shows and reaches. -/
theorem State.zeroAct_missed_shows {s : State} {t : Hub} (missed : s.hub.get SEC_ZEROAT_FRAME ≠ s.hub.frmNo)
    (out : t = s.hub.zeroAct s.hub.frmNo) :
    t.get SEC_CTL_ZEROARM = 0 ∧ t.get (flagFld 0x16 1) = 1 ∧ t.chans = s.hub.chans
    ∧ s.frame [SEC_CTL_ZEROARM, flagFld 0x16 1] tracePages { s with hub := t } := by
  rw [out, Hub.zeroAct_missed missed]
  refine ⟨?_, Hub.get_report_flag _ _ _ _ _ _ _ (by decide) (by decide) (by decide),
    Hub.of_bare (b := s.hub.disarmed) Hub.chans (fun _ => rfl) (Hub.bare_report ..), State.frame_hub ?_⟩
  · rw [Hub.get_report_sec _ _ _ _ (by decide) (by decide) (by decide), Hub.get_disarmed]
  · exact ((Hub.only.refl ..).disarmed (by simp)).report _ _ _ _ _ _ (flagFld_mayIn (by simp) (by decide)) (fun _ => id)
      (.inl (by decide))

/-! ## DESYNC (06 R184, R190) -/

/-- The lane of channel n holds no entry and no order reference. -/
def Hub.flushedCh (h : Hub) (n : Nat) : Prop := (h.ch n).lane = [] ∧ (h.ch n).tailD = none ∧ (h.ch n).tailT = none

theorem Hub.ch_flushLane (h : Hub) (m cause n : Nat) : (h.flushLane m cause).ch n = (h.setCh m { h.ch m with
    lane := [], tailD := none, tailT := none,
    laneHead := ((h.ch m).laneHead + (h.ch m).lane.length) % max 1 (h.laneLen m) }).ch n :=
  Hub.ch_of_bare (Hub.bare_record ..) n

theorem Hub.flushedCh_flushLane_same (h : Hub) (n cause : Nat) : (h.flushLane n cause).flushedCh n := by
  rw [Hub.flushedCh, Hub.ch_flushLane, Hub.ch_setCh_same]
  exact ⟨rfl, rfl, rfl⟩

theorem Hub.flushedCh.flushLane {h : Hub} {n : Nat} (empty : h.flushedCh n) (m cause : Nat) :
    (h.flushLane m cause).flushedCh n := by
  by_cases same : n = m
  · exact same ▸ h.flushedCh_flushLane_same n cause
  · rwa [Hub.flushedCh, Hub.ch_flushLane, Hub.ch_setCh_ne _ _ same]

theorem Hub.sec_flushLane (h : Hub) (n cause : Nat) : (h.flushLane n cause).sec = h.sec :=
  (Hub.of_bare Hub.sec (fun _ => rfl) (Hub.bare_record ..)).trans (Hub.setCh_sec ..)

/-- Every lane of some length is flushed. -/
def Hub.lanesFlushed (h : Hub) : Hub := (h.chList.filter fun n => 0 < h.laneLen n).foldl (fun a n => a.flushLane n 2) h

theorem Hub.flushedCh_lanesFlushed {h : Hub} {n : Nat} (fitted : n < h.nch) (lane : 0 < h.laneLen n) :
    h.lanesFlushed.flushedCh n :=
  foldl_of_mem (f := fun a n => Hub.flushLane a n 2) (P := fun a : Hub => a.flushedCh n)
    (fun a => a.flushedCh_flushLane_same n 2) (fun _ m empty => empty.flushLane m 2) (List.mem_filter.2 ⟨List.mem_range.2 fitted, decide_eq_true lane⟩) h

theorem Hub.sec_lanesFlushed (h : Hub) : h.lanesFlushed.sec = h.sec :=
  List.foldlRecOn (motive := fun a : Hub => a.sec = h.sec) _ _ rfl fun a kept n _ => (a.sec_flushLane n 2).trans kept

theorem Hub.only.lanesFlushed {fs : List Fld} {ps : List Nat} {a b : Hub} (hp : 6 ∈ ps) (x : Hub.only fs ps a b) :
    Hub.only fs ps a b.lanesFlushed :=
  Hub.only.foldl (fun c n => c.flushLane n 2) (fun _ n y => (y.setCh n _).record _ _ _ _ hp) _ x

/-- The missing travel is dropped, and neither gap nor queue is shown. -/
def Hub.gapDropped (h : Hub) : Hub :=
  ((h.put SEC_STAT_GAP 0).put SEC_STAT_QUEUED 0).sec! fun x => { x with queue := [], haveTravel := false }

theorem Hub.desync_eq (h : Hub) : h.desync = (h.lanesFlushed.gapDropped.setFlag SEC_STAT_DESYNC).report pgSEC 4 0x1305 0
    sevFAULT [(0, 4, h.sec.gapFirst)] := rfl

/-- What DESYNC shows and reaches. -/
theorem State.desync_shows (s : State) :
    s.hub.desync.get SEC_STAT_DESYNC = 1 ∧ s.hub.desync.get (flagFld 0x16 4) = 1 ∧ s.hub.desync.get SEC_STAT_GAP = 0
    ∧ s.hub.desync.sec = { s.hub.sec with queue := [], haveTravel := false }
    ∧ (∀ n, n < s.hub.nch → 0 < s.hub.get (CH_LANE_LENGTH.pg n) → s.hub.desync.flushedCh n)
    ∧ s.frame [SEC_STAT_GAP, SEC_STAT_QUEUED, SEC_STAT_DESYNC, flagFld 0x16 4] tracePages
        { s with hub := s.hub.desync } := by
  rw [Hub.desync_eq]
  have bare := (Hub.bare_report (s.hub.lanesFlushed.gapDropped.setFlag SEC_STAT_DESYNC) pgSEC 4 0x1305 0 sevFAULT
    [(0, 4, s.hub.sec.gapFirst)]).trans (Hub.bare_setFlag ..)
  refine ⟨?_, Hub.get_report_flag _ _ _ _ _ _ _ (by decide) (by decide) (by decide), ?_, ?_, fun n fitted lane => ?_,
    State.frame_hub ?_⟩
  · rw [Hub.get_report_sec _ _ _ _ (by decide) (by decide) (by decide), Hub.get_setFlag_same _ (by decide) rfl]
  · rw [Hub.get_report_sec _ _ _ _ (by decide) (by decide) (by decide), Hub.get_setFlag_apart _ (by decide) (by decide),
      Hub.gapDropped, Hub.get_sec!, Hub.get_put_apart _ _ (by decide) (by decide), Hub.get_put_same _ _ (by decide)]
    rfl
  · refine (Hub.of_bare Hub.sec (fun _ => rfl) bare).trans ?_
    rw [Hub.gapDropped, Hub.sec!_sec, Hub.put_sec, Hub.put_sec, Hub.sec_lanesFlushed]
  · have flushed := Hub.flushedCh_lanesFlushed fitted lane
    rw [Hub.flushedCh, Hub.ch_of_bare bare]
    exact flushed
  · have dropped := (((Hub.only.refl [SEC_STAT_GAP, SEC_STAT_QUEUED, SEC_STAT_DESYNC, flagFld 0x16 4] tracePages
      s.hub).lanesFlushed (by decide)).put (f := SEC_STAT_GAP) 0 (Fld.mayIn_self (by simp) (by decide))).put
      (f := SEC_STAT_QUEUED) 0 (Fld.mayIn_self (by simp) (by decide))
    exact ((dropped.sec! _).setFlag (Fld.mayIn_self (by simp) (by decide))).report _ _ _ _ _ _
      (flagFld_mayIn (by simp) (by decide)) (fun _ => id) (.inl (by decide))

end Sys2Proof.Machine

open Sys2Proof Sys2Proof.Machine

/-- Settles O21, by what the zero frame, a missed one and DESYNC show and reach. -/
theorem zeroFramesAndUnclosedGaps : Obligations.ZeroFramesAndUnclosedGaps := by
  unfold Obligations.ZeroFramesAndUnclosedGaps
  refine ⟨fun s on due => ⟨fun now => ?_, fun missed => ?_⟩, fun s on gap long => ?_⟩
  · obtain ⟨arm, flag, ref, channels, frame⟩ := State.zeroAct_now_shows now rfl
    refine ⟨_, State.when_on _ due on, arm, flag, ref, fun n fitted => ?_, frame⟩
    obtain ⟨⟨odo, tail⟩, lane⟩ := channels n fitted
    exact ⟨odo, tail, lane⟩
  · exact ⟨_, State.when_on _ due on, State.zeroAct_missed_shows missed rfl⟩
  · have due : s.hub.desyncDue = true := by
      rw [Hub.desyncDue, (s.hub.flag_iff rfl).2 gap, decide_eq_true long]
      rfl
    exact ⟨_, State.when_on _ due on, s.desync_shows⟩

end

section
/-! SUPPORT. A host request with a reserved bit (00 R6, 13 R354). -/

open Sys2Proof Sys2Proof.Machine

/-- Refutes O60: a write of ADC_HREQ that sets bit 11, which is reserved, is accepted and notes the request without that
bit, since a 1 written to a reserved bit has no effect (00 R6); the statement has the hub note the word as written. -/
theorem not_appendsAndCalibrationsAreTakenAtOnce : ¬ Obligations.AppendsAndCalibrationsAreTakenAtOnce := by
  unfold Obligations.AppendsAndCalibrationsAreTakenAtOnce
  intro h
  obtain ⟨-, hostRequest, -⟩ := h State.reset .e 0 ⟨0, 0, false⟩ 0 0 [] (by decide)
  obtain ⟨t, ht, -, noted, -⟩ := hostRequest 0x00000800 (by decide) (by decide) (by decide) (by decide)
  have bare : (t.hub.host .e).next = some 0 := by
    rw [(Host.Outcome.next.inj ht).symm]
    decide
  have asWritten : (t.hub.host .e).next = some 0x00000800 := by rw [noted]
  exact absurd (bare.symm.trans asWritten) (by decide)

end

section
/-! SUPPORT. The fields of a feed's page, and what the events, counts and states of a feed reach (08 R231–R243,
R252–R253). -/

namespace Sys2Proof.Machine

/-! ## The page of a feed

`g.pg k` is field `g` of feed k; the conditions speak of FEEDA and are decided. -/

theorem feedNum_lt (feed : FeedId) : feedNum feed < 2 := by cases feed <;> decide

/-- Bit `bit` of PG_EVT of FEEDA. -/
abbrev feedFlag (bit : Nat) : Fld := flagFld 0x0E bit

/-- A feed's flag is a field of its page. -/
theorem flagFld_feedPage (k bit : Nat) : flagFld (feedPage k) bit = (feedFlag bit).pg k := by
  simp only [flagFld, feedPage, Fld.pg, Fld.mk.injEq, and_true]
  omega

theorem Fld.page_pg_feed {g : Fld} (k : Nat) (hg : g.idx / 256 = 0x0E) : (g.pg k).idx / 256 = 0x0E + k := by
  simp only
  omega

/-- No trace of an event lies on a feed's page. -/
theorem Fld.pg_feed_untraced {g : Fld} {k : Nat} (hk : k < 2) (hg : g.idx / 256 = 0x0E) : (g.pg k).idx / 256 ∉ tracePages := by
  rw [Fld.page_pg_feed k hg]
  simp only [tracePages, List.mem_cons, List.not_mem_nil, or_false]
  omega

/-- A field of FEED_STAT lies in the register. -/
theorem feedStat_mayIn {k : Nat} {ps : List Nat} {f : Fld} (hi : f.idx = FEED_STAT_STATE.idx) (hf : f.fits) :
    (f.pg k).mayIn [wholeFld (FEED_STAT_STATE.pg k)] ps :=
  .inl ⟨_, List.mem_singleton_self _, ⟨congrArg (· + 256 * k) hi, Nat.zero_le _, by simpa using hf⟩, hf⟩

theorem feedFlds_mayIn_stat {k : Nat} {ps : List Nat} :
    ∀ g ∈ feedFlds k, g.mayIn [wholeFld (FEED_STAT_STATE.pg k)] ps := by
  have stat : ∀ f ∈ FEED_STAT_STATE :: feedOut, f.idx = FEED_STAT_STATE.idx ∧ f.fits := by decide
  intro g hg
  obtain ⟨f, hf, rfl⟩ : ∃ f ∈ FEED_STAT_STATE :: feedOut, f.pg k = g := List.mem_map.1 hg
  obtain ⟨idx, fits⟩ := stat f hf
  exact feedStat_mayIn idx fits

/-! ## Events and counts, while the logic runs -/

theorem Hub.feedReport_on {h : Hub} (k bit code sev : Nat) (l : List (Nat × Nat × Nat)) (on : h.running = true) :
    h.feedReport k bit code sev l = h.report (feedPage k) bit code k sev l := if_pos on

theorem Hub.feedCount_on {h : Hub} (f : Fld) (on : h.running = true) : h.feedCount f = h.incSat f := if_pos on

@[simp] theorem Hub.bare_feedReport (h : Hub) (k bit code sev : Nat) (l : List (Nat × Nat × Nat)) :
    (h.feedReport k bit code sev l).bare = h.bare := by
  unfold Hub.feedReport
  split
  · exact Hub.bare_report ..
  · rfl

@[simp] theorem Hub.bare_feedCount (h : Hub) (f : Fld) : (h.feedCount f).bare = h.bare := by
  unfold Hub.feedCount
  split
  · exact Hub.bare_incSat ..
  · rfl

theorem Hub.only.feedReport {fs : List Fld} {ps : List Nat} {a b : Hub} (k bit code sev : Nat) (l : List (Nat × Nat × Nat))
    (hf : (flagFld (feedPage k) bit).mayIn fs ps) (hp : traceIn ps) (h31 : bit ≠ 31) (x : Hub.only fs ps a b) :
    Hub.only fs ps a (b.feedReport k bit code sev l) := .ite (x.report _ _ _ _ _ _ hf hp (.inl h31)) x

theorem Hub.only.feedCount {fs : List Fld} {ps : List Nat} {a b : Hub} {f : Fld} (hf : f.mayIn fs ps)
    (x : Hub.only fs ps a b) : Hub.only fs ps a (b.feedCount f) := .ite (x.incSat 1 hf) x

theorem Hub.get_feedReport_flag {h : Hub} {k bit : Nat} (code sev : Nat) (l : List (Nat × Nat × Nat)) (hk : k < 2)
    (hb : bit < 31) (on : h.running = true) : (h.feedReport k bit code sev l).get (flagFld (feedPage k) bit) = 1 := by
  rw [Hub.feedReport_on _ _ _ _ _ on]
  refine Hub.get_report_flag _ _ _ _ _ _ _ hb ?_ ?_
  · simp only [feedPage, irqPages, List.mem_cons, List.not_mem_nil, or_false]
    omega
  · simp only [feedPage]
    omega

theorem Hub.get_feedReport_apart (h : Hub) {k bit : Nat} (code sev : Nat) (l : List (Nat × Nat × Nat)) {g : Fld}
    (hb : bit < 31) (ha : ((feedFlag bit).pg k).apart g) (hg : g.idx / 256 ∉ tracePages) :
    (h.feedReport k bit code sev l).get g = h.get g := by
  unfold Hub.feedReport
  split
  · exact h.get_report _ _ _ _ _ _ hb (flagFld_feedPage k bit ▸ ha) hg
  · rfl

theorem Hub.get_feedReport_pg (h : Hub) {k bit : Nat} (code sev : Nat) (l : List (Nat × Nat × Nat)) {g : Fld} (hk : k < 2)
    (hb : bit < 31) (hg : g.idx / 256 = 0x0E) (ha : (feedFlag bit).apart g) :
    (h.feedReport k bit code sev l).get (no_index (g.pg k)) = h.get (g.pg k) :=
  h.get_feedReport_apart _ _ _ hb (ha.pg k) (Fld.pg_feed_untraced hk hg)

theorem Hub.get_feedCount_apart (h : Hub) {f g : Fld} (hf : f.fits) (ha : f.apart g) : (h.feedCount f).get g = h.get g := by
  unfold Hub.feedCount
  split
  · exact h.get_incSat_apart 1 hf ha
  · rfl

theorem Hub.get_feedCount_pg (h : Hub) {f g : Fld} (k : Nat) (hf : f.fits) (ha : f.apart g) :
    (h.feedCount (no_index (f.pg k))).get (no_index (g.pg k)) = h.get (g.pg k) := h.get_feedCount_apart hf (ha.pg k)

theorem Hub.get_feedCount_same {h : Hub} {f : Fld} (hf : f.fits) (on : h.running = true) :
    (h.feedCount f).get f = min (h.get f + 1) (2 ^ f.w - 1) := by
  rw [Hub.feedCount_on _ on, Hub.get_incSat_same _ _ hf]

/-! ## States -/

@[simp] theorem Hub.feed!_md (h : Hub) (k : Nat) (f : Feed → Feed) : (h.feed! k f).md = h.md := by
  unfold Hub.feed!
  split <;> rfl

@[simp] theorem Hub.feed!_pages (h : Hub) (k : Nat) (f : Feed → Feed) : (h.feed! k f).pages = h.pages := by
  unfold Hub.feed!
  split <;> rfl

theorem Hub.feed_feed! (h : Hub) (k : Nat) (f : Feed → Feed) : (h.feed! k f).feed k = f (h.feed k) := by
  unfold Hub.feed! Hub.feed
  split <;> rfl

theorem Hub.run_feedTo (h : Hub) (k st : Nat) : ((h.feedTo k st).feed k).run = h.feedStart := by
  unfold Hub.feedTo
  dsimp only
  rw [Hub.feed_feed!]

@[simp] theorem Hub.feedTo_md (h : Hub) (k st : Nat) : (h.feedTo k st).md = h.md := Hub.feed!_md ..

@[simp] theorem Hub.feedTo_pages (h : Hub) (k st : Nat) : (h.feedTo k st).pages = h.pages := Hub.feed!_pages ..

/-- The FETs are closed in ON alone. -/
theorem Hub.conduct_feedTo (h : Hub) (k st : Nat) :
    (h.feedTo k st).get (FEED_STAT_CONDUCT.pg k) = boolNat (st == 5) := by
  unfold Hub.feedTo
  dsimp only
  rw [Hub.get_feed!, Hub.get_put_pg_apart _ _ _ (by decide) (by decide), Hub.get_put_pg_apart _ _ _ (by decide) (by decide)]
  refine (Hub.get_putb_same _ (f := FEED_STAT_CONDUCT.pg k) _ (by decide : FEED_STAT_CONDUCT.fits)).trans ?_
  cases st == 5 <;> rfl

theorem Hub.blocking_feedTo (h : Hub) (k st : Nat) : (h.feedTo k st).get (FEED_STAT_BLOCKING.pg k) = 0 := by
  unfold Hub.feedTo
  dsimp only
  rw [Hub.get_feed!, Hub.get_put_pg_apart _ _ _ (by decide) (by decide), Hub.get_put_pg_same _ _ _ (by decide)]
  rfl

/-- A field of the feed's page that entering a state leaves. -/
theorem Hub.get_feedTo_pg (h : Hub) (k st : Nat) {g : Fld} (hg : g.fits) (ha : ∀ f ∈ FEED_STAT_STATE :: feedOut, f.apart g) :
    (h.feedTo k st).get (no_index (g.pg k)) = h.get (g.pg k) := by
  refine h.get_feedTo k st hg fun f hf => ?_
  obtain ⟨base, hb, rfl⟩ : ∃ base ∈ FEED_STAT_STATE :: feedOut, base.pg k = f := List.mem_map.1 hf
  exact (ha base hb).pg k

theorem Hub.only.feedTo_stat {ps : List Nat} {a b : Hub} {k : Nat} (st : Nat)
    (x : Hub.only [wholeFld (FEED_STAT_STATE.pg k)] ps a b) :
    Hub.only [wholeFld (FEED_STAT_STATE.pg k)] ps a (b.feedTo k st) := x.feedTo k st feedFlds_mayIn_stat

theorem Hub.only.put_stat {ps : List Nat} {a b : Hub} {k : Nat} {f : Fld} (v : Nat) (hi : f.idx = FEED_STAT_STATE.idx)
    (hf : f.fits) (x : Hub.only [wholeFld (FEED_STAT_STATE.pg k)] ps a b) :
    Hub.only [wholeFld (FEED_STAT_STATE.pg k)] ps a (b.put (f.pg k) v) := x.put v (feedStat_mayIn hi hf)

theorem Hub.feedSt_put {h : Hub} {f : Fld} (k v : Nat) (hf : f.fits) (ha : f.apart FEED_STAT_STATE) :
    (h.put (no_index (f.pg k)) v).feedSt k = h.feedSt k := h.get_put_pg_apart k v hf ha

end Sys2Proof.Machine

end

section
/-! SUPPORT. Presence, polarity and insertion up to PRECHARGE (08 R233–R235, R238, R243). -/

namespace Sys2Proof.Machine

/-! ## Presence (08 R233) -/

theorem Hub.feedPresent_shows (h : Hub) (k : Nat) :
    (h.feedPresent k).get (FEED_STAT_PRESENT.pg k) = 1
    ∧ (h.feedPresent k).feedSt k = (if h.feedSt k ∈ [1, 2] ∧ h.feedFenced k = false then 3 else h.feedSt k)
    ∧ Hub.only [wholeFld (FEED_STAT_STATE.pg k)] [] h (h.feedPresent k) := by
  have marked := (Hub.only.refl [wholeFld (FEED_STAT_STATE.pg k)] [] h).put_stat (f := FEED_STAT_PRESENT) 1 rfl (by decide)
  have shown : (h.put (FEED_STAT_PRESENT.pg k) 1).get (FEED_STAT_PRESENT.pg k) = 1 := h.get_put_pg_same k 1 (by decide)
  have enters : ((h.feedSt k = 1 ∨ h.feedSt k = 2) ∧ (!h.feedFenced k) = true)
      ↔ (h.feedSt k ∈ [1, 2] ∧ h.feedFenced k = false) := by simp
  unfold Hub.feedPresent
  simp only [enters]
  split
  · exact ⟨(Hub.present_feedTo ..).trans shown, Hub.feedSt_feedTo_same _ _ (by decide), marked.feedTo_stat 3⟩
  · exact ⟨shown, Hub.feedSt_put k 1 (by decide) (by decide), marked⟩

/-- Nothing is detected at the contacts any more. -/
def Hub.feedUnseen (h : Hub) (k : Nat) : Hub := (h.put (FEED_STAT_PRESENT.pg k) 0).put (FEED_STAT_INWIN.pg k) 0

theorem Hub.feedUnseen_shows (h : Hub) (k : Nat) :
    (h.feedUnseen k).get (FEED_STAT_PRESENT.pg k) = 0 ∧ (h.feedUnseen k).get (FEED_STAT_INWIN.pg k) = 0
    ∧ (h.feedUnseen k).feedSt k = h.feedSt k ∧ Hub.only [wholeFld (FEED_STAT_STATE.pg k)] [] h (h.feedUnseen k) := by
  unfold Hub.feedUnseen
  refine ⟨?_, Hub.get_put_pg_same _ _ _ (by decide), ?_, ?_⟩
  · rw [Hub.get_put_pg_apart _ _ _ (by decide) (by decide), Hub.get_put_pg_same _ _ _ (by decide)]
    rfl
  · rw [Hub.feedSt_put _ _ (by decide) (by decide), Hub.feedSt_put _ _ (by decide) (by decide)]
  · exact ((Hub.only.refl ..).put_stat (f := FEED_STAT_PRESENT) 0 rfl (by decide)).put_stat 0 rfl (by decide)

theorem Hub.feedAbsent_shows (h : Hub) (k v : Nat) (off : h.feedSt k ≠ 5) :
    (h.feedAbsent k v).get (FEED_STAT_PRESENT.pg k) = 0 ∧ (h.feedAbsent k v).get (FEED_STAT_INWIN.pg k) = 0
    ∧ (h.feedAbsent k v).feedSt k = (if h.feedSt k ∈ [2, 3, 4] then 1 else h.feedSt k)
    ∧ Hub.only [wholeFld (FEED_STAT_STATE.pg k)] [] h (h.feedAbsent k v) := by
  obtain ⟨present, inWin, state, reach⟩ := h.feedUnseen_shows k
  have inserting : (h.feedSt k = 2 ∨ h.feedSt k = 3 ∨ h.feedSt k = 4) ↔ h.feedSt k ∈ [2, 3, 4] := by simp
  unfold Hub.feedAbsent
  rw [if_neg off]
  simp only [inserting]
  split
  · exact ⟨(Hub.present_feedTo ..).trans present, (Hub.get_feedTo_pg _ _ _ (by decide) (by decide)).trans inWin,
      Hub.feedSt_feedTo_same _ _ (by decide), reach.feedTo_stat 1⟩
  · exact ⟨present, inWin, state, reach⟩

/-! ## Insertion (08 R235, R238, R243) -/

/-- A feed enters a state of its insertion. -/
theorem Hub.feedTo_shows (h : Hub) (k : Nat) {st : Nat} (hs : st < 16) :
    (h.feedTo k st).feedSt k = st ∧ Hub.only [wholeFld (FEED_STAT_STATE.pg k)] [] h (h.feedTo k st) :=
  ⟨h.feedSt_feedTo_same k hs, (Hub.only.refl ..).feedTo_stat st⟩

theorem Hub.feedQualDue_iff (h : Hub) (k : Nat) : h.feedQualDue k = true ↔
    h.feedSt k = 3 ∧ h.feedFenced k = false ∧ (h.running = true → h.get (FEED_STAT_INWIN.pg k) = 1)
      ∧ h.feedCfg (FEED_QUALT_T.pg k) * 10 ≤ (h.feed k).run := by
  have window : ((!h.running || h.flag (FEED_STAT_INWIN.pg k)) = true)
      ↔ (h.running = true → h.get (FEED_STAT_INWIN.pg k) = 1) := by
    rw [← h.flag_iff (f := FEED_STAT_INWIN.pg k) rfl, Bool.or_eq_true, Bool.not_eq_true', ← Bool.not_eq_true, imp_iff_not_or]
  simp only [Hub.feedQualDue, Bool.and_eq_true, window, beq_iff_eq, Bool.not_eq_true', decide_eq_true_eq, and_assoc]

/-- Outside the window the qualification timer alone changes beside INWIN (08 R235). -/
theorem Hub.feedInWin_shows (h : Hub) (k : Nat) :
    (h.feedInWin k false).get (FEED_STAT_INWIN.pg k) = 0 ∧ (h.feedInWin k false).feedSt k = h.feedSt k
    ∧ Hub.only [wholeFld (FEED_STAT_STATE.pg k)] [] h (h.feedInWin k false) := by
  have left := (Hub.only.refl [wholeFld (FEED_STAT_STATE.pg k)] [] h).put_stat (f := FEED_STAT_INWIN) 0 rfl (by decide)
  have shown : (h.put (FEED_STAT_INWIN.pg k) 0).get (FEED_STAT_INWIN.pg k) = 0 := h.get_put_pg_same k 0 (by decide)
  have state : (h.put (FEED_STAT_INWIN.pg k) 0).feedSt k = h.feedSt k := Hub.feedSt_put k 0 (by decide) (by decide)
  unfold Hub.feedInWin
  dsimp only
  split
  · exact ⟨shown, state, left⟩
  · split
    · exact ⟨shown, state, left.feedA! _⟩
    · exact ⟨shown, state, left.feedB! _⟩

/-- The voltage has left the window: PRECHARGE goes back to QUALIFY (08 R238). -/
def Hub.feedWindowExit (h : Hub) (k : Nat) : Hub :=
  if h.feedSt k = 4 then (h.feedInWin k false).feedTo k 3 else h.feedInWin k false

theorem Hub.feedWindowExit_shows (h : Hub) (k : Nat) :
    (h.feedWindowExit k).get (FEED_STAT_INWIN.pg k) = 0
    ∧ (h.feedWindowExit k).feedSt k = (if h.feedSt k = 4 then 3 else h.feedSt k)
    ∧ Hub.only [wholeFld (FEED_STAT_STATE.pg k)] [] h (h.feedWindowExit k) := by
  obtain ⟨inWin, state, reach⟩ := h.feedInWin_shows k
  unfold Hub.feedWindowExit
  split
  · exact ⟨(Hub.get_feedTo_pg _ _ _ (by decide) (by decide)).trans inWin, Hub.feedSt_feedTo_same _ _ (by decide),
      reach.feedTo_stat 3⟩
  · exact ⟨inWin, state, reach⟩

/-! ## Polarity (08 R234) -/

/-- Reversed polarity is marked and, by a running hub, flagged and recorded. -/
def Hub.polReversed (h : Hub) (k v : Nat) : Hub :=
  (h.put (FEED_STAT_POLREV.pg k) 1).feedReport k 6 0x0F07 sevWARN [(0, 2, v)]

theorem Hub.polReversed_shows (h : Hub) {k : Nat} (v : Nat) (hk : k < 2) :
    (h.polReversed k v).get (FEED_STAT_POLREV.pg k) = 1
    ∧ (h.running = true → (h.polReversed k v).get (flagFld (feedPage k) 6) = 1)
    ∧ Hub.only [FEED_STAT_POLREV.pg k, flagFld (feedPage k) 6] tracePages h (h.polReversed k v)
    ∧ (h.polReversed k v).bare = h.bare :=
  ⟨(Hub.get_feedReport_pg _ _ _ _ hk (by decide) (by decide) (by decide)).trans (Hub.get_put_pg_same _ _ _ (by decide)),
    fun on => Hub.get_feedReport_flag _ _ _ hk (by decide) on,
    ((Hub.only.refl ..).put 1 (Fld.mayIn_pg (by simp) (by decide))).feedReport _ _ _ _ _
      (flagFld_mayIn (by simp) (by decide)) (fun _ => id) (by decide),
    (Hub.bare_feedReport ..).trans (Hub.bare_put ..)⟩

end Sys2Proof.Machine

open Sys2Proof Sys2Proof.Machine

/-- Settles O23: each event of an insertion by what its effect shows and reaches. -/
theorem feedInsertionSteps : Obligations.FeedInsertionSteps := by
  unfold Obligations.FeedInsertionSteps
  intro s feed v
  refine ⟨fun absent => ?_, fun present off => ?_, fun idle released => ?_, fun detected => ?_,
    fun qualifying released inside run => ?_, fun off => ?_, fun upright => ?_, fun reversed => ?_⟩
  · obtain ⟨present, state, reach⟩ := s.hub.feedPresent_shows (feedNum feed)
    exact ⟨_, State.feedWhen_on _ (by simp [absent]), present, state, State.frame_hub reach⟩
  · obtain ⟨gone, outside, state, reach⟩ := s.hub.feedAbsent_shows (feedNum feed) v.toNat off
    exact ⟨_, State.feedWhen_on _ ((Hub.flag_iff _ rfl).2 present), gone, outside, state, State.frame_hub reach⟩
  · obtain ⟨state, reach⟩ := s.hub.feedTo_shows (feedNum feed) (st := 2) (by decide)
    exact ⟨_, State.feedWhen_on _ (by simp [idle, released]), state, State.frame_hub reach⟩
  · obtain ⟨state, reach⟩ := s.hub.feedTo_shows (feedNum feed) (st := 1) (by decide)
    exact ⟨_, State.feedWhen_on _ (by simp [detected]), state, State.frame_hub reach⟩
  · obtain ⟨state, reach⟩ := s.hub.feedTo_shows (feedNum feed) (st := 4) (by decide)
    exact ⟨_, State.feedWhen_on _ ((Hub.feedQualDue_iff ..).2 ⟨qualifying, released, inside, run⟩),
      (Hub.feedSt_put _ _ (by decide) (by decide)).trans state, Hub.get_put_pg_same _ _ _ (by decide),
      State.frame_hub (reach.put_stat 1 rfl (by decide))⟩
  · obtain ⟨outside, state, reach⟩ := s.hub.feedWindowExit_shows (feedNum feed)
    exact ⟨_, State.feedWhen_on _ (bne_iff_ne.2 off), outside, state, State.frame_hub reach⟩
  · obtain ⟨shown, flagged, reach, bare⟩ := s.hub.polReversed_shows v.toNat (feedNum_lt feed)
    exact ⟨_, State.feedWhen_on _ (by simp [upright]), shown, flagged, State.regFrame_hub reach bare⟩
  · exact ⟨_, State.feedWhen_on _ ((Hub.flag_iff _ rfl).2 reversed), Hub.get_put_pg_same _ _ _ (by decide),
      State.regFrame_hub ((Hub.only.refl ..).put 0 (Fld.mayIn_pg (by simp) (by decide))) (Hub.bare_put ..)⟩

end

section
/-! SUPPORT. Sharing between the feeds: what its settling and a takeover reach (08 R246–R249). -/

namespace Sys2Proof.Machine

/-! ## What the events of the feeds leave of the hub's own data -/

/-- The hub's own data that the control of the feeds works with. -/
def Hub.feedData (h : Hub) : Part × Modes × List (Nat × PageHdr) × Feed × Feed := (h.part, h.md, h.pages, h.feedA, h.feedB)

theorem Hub.feedData_of_bare {a b : Hub} (e : a.bare = b.bare) : a.feedData = b.feedData :=
  Hub.of_bare Hub.feedData (fun _ => rfl) e

theorem Hub.md_of_feedData {a b : Hub} (e : a.feedData = b.feedData) : a.md = b.md := congrArg (fun d => d.2.1) e

theorem Hub.running_of_feedData {a b : Hub} (e : a.feedData = b.feedData) : a.running = b.running := by
  unfold Hub.running
  rw [Hub.md_of_feedData e]

theorem Hub.feed_of_feedData {a b : Hub} (e : a.feedData = b.feedData) (k : Nat) : a.feed k = b.feed k :=
  congrArg (fun d : Part × Modes × List (Nat × PageHdr) × Feed × Feed => if k = 0 then d.2.2.2.1 else d.2.2.2.2) e

@[simp] theorem Hub.feedData_put (h : Hub) (f : Fld) (v : Nat) : (h.put f v).feedData = h.feedData := id rfl
@[simp] theorem Hub.feedData_incSat (h : Hub) (f : Fld) (n : Nat) : (h.incSat f n).feedData = h.feedData := id rfl
@[simp] theorem Hub.feedData_share! (h : Hub) (f : Sharing → Sharing) : (h.share! f).feedData = h.feedData := id rfl
@[simp] theorem Hub.feedData_conv! (h : Hub) (i : Nat) (f : Conv → Conv) : (h.conv! i f).feedData = h.feedData := id rfl
@[simp] theorem Hub.feedData_lb! (h : Hub) (f : LoadBus → LoadBus) : (h.lb! f).feedData = h.feedData := id rfl
@[simp] theorem Hub.feedData_chg! (h : Hub) (f : Charger → Charger) : (h.chg! f).feedData = h.feedData := id rfl
@[simp] theorem Hub.feedData_evt (h : Hub) (page bit : Nat) : (h.evt page bit).feedData = h.feedData :=
  Hub.feedData_of_bare (h.bare_evt page bit)
@[simp] theorem Hub.feedData_report (h : Hub) (page bit code inst sev : Nat) (l : List (Nat × Nat × Nat)) :
    (h.report page bit code inst sev l).feedData = h.feedData := Hub.feedData_of_bare (h.bare_report page bit code inst sev l)
@[simp] theorem Hub.feedData_feedReport (h : Hub) (k bit code sev : Nat) (l : List (Nat × Nat × Nat)) :
    (h.feedReport k bit code sev l).feedData = h.feedData := Hub.feedData_of_bare (h.bare_feedReport k bit code sev l)
@[simp] theorem Hub.feedData_feedCount (h : Hub) (f : Fld) : (h.feedCount f).feedData = h.feedData :=
  Hub.feedData_of_bare (h.bare_feedCount f)

/-- A setting of the control reads the same where its field does. -/
theorem Hub.feedCfg_congr {a b : Hub} {f : Fld} (part : a.part = b.part) (md : a.md = b.md) (pages : a.pages = b.pages)
    (hf : a.get f = b.get f) : a.feedCfg f = b.feedCfg f := by
  unfold Hub.feedCfg Hub.cfg Hub.hasCause Hub.page
  rw [md, part, pages, hf]

theorem Hub.feedCfg_of_feedData {a b : Hub} {f : Fld} (e : a.feedData = b.feedData) (hf : a.get f = b.get f) :
    a.feedCfg f = b.feedCfg f :=
  Hub.feedCfg_congr (congrArg (fun d => d.1) e) (Hub.md_of_feedData e) (congrArg (fun d => d.2.2.1) e) hf

theorem Hub.feedFenced_of_bare {a b : Hub} (e : a.bare = b.bare) (k : Nat) : a.feedFenced k = b.feedFenced k := by
  unfold Hub.feedFenced Hub.running
  rw [Hub.md_of_bare e, Hub.fenced_of_bare e]

theorem Hub.feedOn_eq (h : Hub) (k : Nat) : h.feedOn k = (h.feedSt k == 5) := rfl

theorem Hub.feedOn_iff (h : Hub) (k : Nat) : h.feedOn k = true ↔ h.feedSt k = 5 := beq_iff_eq

/-- Fields of the two feeds that are apart on one page are apart on any two. -/
theorem Fld.apart.pgs {f g : Fld} (ha : f.apart g) (hf : f.idx / 256 = 0x0E) (hg : g.idx / 256 = 0x0E) (j k : Nat) :
    (f.pg j).apart (g.pg k) := by
  simp only [Fld.apart] at ha ⊢
  omega

theorem Hub.get_put_pgs_apart (h : Hub) {f g : Fld} (j k v : Nat) (hf : f.fits) (ha : f.apart g) (hi : f.idx / 256 = 0x0E)
    (hg : g.idx / 256 = 0x0E) : (h.put (no_index (f.pg j)) v).get (no_index (g.pg k)) = h.get (g.pg k) :=
  h.get_put_apart v hf (ha.pgs hi hg j k)

/-- A field that reads a value on one page still does once it is written on either. -/
theorem Hub.get_put_pgs_keeps {h : Hub} {f : Fld} (j : Nat) {k v : Nat} (hf : f.fits) (hv : v < 2 ^ f.w) (x : h.get (f.pg k) = v) :
    (h.put (f.pg j) v).get (f.pg k) = v := by
  rcases eq_or_ne j k with rfl | ne
  · rw [h.get_put_pg_same j v hf, Nat.mod_eq_of_lt hv]
  · have pages : (f.pg j).apart (f.pg k) := .inl (by simp only; omega)
    rw [h.get_put_apart (f := f.pg j) v hf pages, x]

/-! ## RATIO (08 R247) -/

/-- RATIO holds a feed off only while both are ON. -/
theorem Hub.ratioIdle_some {h : Hub} {f : FeedId} (e : h.ratioIdle = some f) :
    h.feedCfg FEED_SHARE_MODE = 1 ∧ h.feedOn 0 = true ∧ h.feedOn 1 = true := by
  unfold Hub.ratioIdle at e
  split at e
  · assumption
  · cases e

theorem Hub.ratioIdle_none {h : Hub} (mode : h.feedCfg FEED_SHARE_MODE ≠ 1) : h.ratioIdle = none :=
  if_neg fun ratio => mode ratio.1

/-- All that RATIO's hold does: the feed that was idle closes its FETs where it is ON, that which is idle now opens them,
and the change is noted. -/
theorem Hub.ratioHold_induction {P : Hub → Prop} {h : Hub} (start : P h)
    (frees : ∀ f, h.feedOn (feedNum f) = true →
      P ((h.put (FEED_STAT_CONDUCT.pg (feedNum f)) 1).put (FEED_STAT_BLOCKING.pg (feedNum f)) 0))
    (holds : ∀ b f, h.ratioIdle = some f → P b → P (b.put (FEED_STAT_CONDUCT.pg (feedNum f)) 0))
    (notes : ∀ b x, P b → P (b.share! x)) : P h.ratioHold := by
  unfold Hub.ratioHold
  dsimp only
  split
  · exact start
  · refine notes _ _ ?_
    have freed : P (match h.share.idle with
        | some f => if h.feedOn (feedNum f) then (h.put (FEED_STAT_CONDUCT.pg (feedNum f)) 1).put
            (FEED_STAT_BLOCKING.pg (feedNum f)) 0 else h
        | none => h) := by
      split
      · split
        · next on => exact frees _ on
        · exact start
      · exact start
    split
    · next f idle => exact holds _ f idle freed
    · exact freed

theorem Hub.feedData_ratioHold (h : Hub) : h.ratioHold.feedData = h.feedData :=
  Hub.ratioHold_induction (P := fun b => b.feedData = h.feedData) rfl (fun _ _ => by simp) (fun _ _ _ e => by simpa using e)
    fun _ _ e => by simpa using e

/-- RATIO's hold leaves what is apart from the switches. -/
theorem Hub.get_ratioHold_pg (h : Hub) (k : Nat) {g : Fld} (hg : g.idx / 256 = 0x0E) (hc : FEED_STAT_CONDUCT.apart g)
    (hb : FEED_STAT_BLOCKING.apart g) : h.ratioHold.get (g.pg k) = h.get (g.pg k) := by
  have conduct (b : Hub) (j v : Nat) : (b.put (FEED_STAT_CONDUCT.pg j) v).get (g.pg k) = b.get (g.pg k) :=
    b.get_put_pgs_apart j k v (by decide) hc (by decide) hg
  have blocking (b : Hub) (j v : Nat) : (b.put (FEED_STAT_BLOCKING.pg j) v).get (g.pg k) = b.get (g.pg k) :=
    b.get_put_pgs_apart j k v (by decide) hb (by decide) hg
  exact Hub.ratioHold_induction (P := fun b => b.get (g.pg k) = h.get (g.pg k)) rfl
    (fun _ _ => (blocking ..).trans (conduct ..)) (fun _ _ _ e => (conduct ..).trans e) fun _ _ e => e

theorem Hub.feedOn_ratioHold (h : Hub) (k : Nat) : h.ratioHold.feedOn k = h.feedOn k := by
  unfold Hub.feedOn
  rw [Hub.get_ratioHold_pg h k (g := FEED_STAT_STATE) (by decide) (by decide) (by decide)]

theorem Hub.shareMode_ratioHold (h : Hub) : h.ratioHold.feedCfg FEED_SHARE_MODE = h.feedCfg FEED_SHARE_MODE :=
  Hub.feedCfg_of_feedData h.feedData_ratioHold
    (h.get_ratioHold_pg 0 (g := FEED_SHARE_MODE) (by decide) (by decide) (by decide))

theorem Hub.ratioHold_same {h : Hub} (same : h.ratioIdle = h.share.idle) : h.ratioHold = h := if_pos same

/-- The feed that RATIO holds off is noted. -/
theorem Hub.share_ratioHold (h : Hub) : h.ratioHold.share = { h.share with idle := h.ratioIdle } := by
  unfold Hub.ratioHold
  dsimp only
  split
  · next same => rw [same]
  · cases h.share.idle with
    | none => cases h.ratioIdle <;> rfl
    | some f =>
      cases h.ratioIdle <;> by_cases on : h.feedOn (feedNum f) = true <;> simp [on]

/-! ## Settling (08 R248–R249) -/

/-- All that settling does after RATIO's hold: feed B stands by, or carries, or stands by no longer, each while it is
ON, and what has changed is noted. -/
theorem Hub.shareSettle_induction {P : Hub → Prop} {h : Hub} (held : P h.ratioHold)
    (standsBy : h.feedCfg FEED_SHARE_MODE = 2 → h.feedOn 1 = true → ∀ b, P b →
      P (((b.put (FEED_STAT_STANDBY_B.pg 1) 1).put (FEED_STAT_CONDUCT.pg 1) 0).put (FEED_STAT_BLOCKING.pg 1) 0))
    (carries : h.feedOn 1 = true → ∀ b, P b → P (b.put (FEED_STAT_CONDUCT.pg 1) 1))
    (ends : ∀ b, P b → P (b.put (FEED_STAT_STANDBY_B.pg 1) 0)) (notes : ∀ b x, P b → P (b.share! x)) :
    P h.shareSettle := by
  unfold Hub.shareSettle
  dsimp only
  rw [h.feedOn_ratioHold, h.feedOn_ratioHold, h.shareMode_ratioHold]
  split
  · next primary =>
    obtain ⟨mode, on⟩ := primary
    split
    · exact standsBy mode on _ held
    · refine notes _ _ (ends _ ?_)
      split
      · exact carries on _ held
      · exact held
  · refine notes _ _ (ends _ ?_)
    split
    · next standby => exact carries standby.2 _ held
    · exact held

theorem Hub.feedData_shareSettle (h : Hub) : h.shareSettle.feedData = h.feedData :=
  Hub.shareSettle_induction (P := fun b => b.feedData = h.feedData) h.feedData_ratioHold
    (fun _ _ _ e => by simpa using e) (fun _ _ e => by simpa using e) (fun _ e => by simpa using e)
    fun _ _ e => by simpa using e

/-- Settling reaches the standing of feed B, and the switches of the feeds that are ON. -/
theorem Hub.only.settled {fs : List Fld} {ps : List Nat} {a b : Hub} (hs : (FEED_STAT_STANDBY_B.pg 1).mayIn fs ps)
    (hon : ∀ k < 2, b.feedOn k = true → (FEED_STAT_CONDUCT.pg k).mayIn fs ps ∧ (FEED_STAT_BLOCKING.pg k).mayIn fs ps)
    (x : Hub.only fs ps a b) : Hub.only fs ps a b.shareSettle := by
  have both {f : FeedId} (idle : b.ratioIdle = some f) : b.feedOn (feedNum f) = true := by
    obtain ⟨-, onA, onB⟩ := Hub.ratioIdle_some idle
    cases f
    · exact onA
    · exact onB
  have one : (1 : Nat) < 2 := by decide
  refine Hub.shareSettle_induction (Hub.ratioHold_induction x (fun f on => ?_) (fun c f idle y => ?_) fun c _ y => y.share! _)
    (fun _ on c y => ?_) (fun on c y => y.put _ (hon 1 one on).1) (fun c y => y.put _ hs) fun c _ y => y.share! _
  · obtain ⟨conduct, blocking⟩ := hon _ (feedNum_lt f) on
    exact (x.put _ conduct).put _ blocking
  · exact y.put _ (hon _ (feedNum_lt f) (both idle)).1
  · obtain ⟨conduct, blocking⟩ := hon 1 one on
    exact ((y.put _ hs).put _ conduct).put _ blocking

/-- Settling leaves what is apart from the switches. -/
theorem Hub.get_shareSettle_pg (h : Hub) (k : Nat) {g : Fld} (hg : g.fits) (hp : g.idx / 256 = 0x0E)
    (ha : ∀ f ∈ feedOut, f.apart g) : h.shareSettle.get (no_index (g.pg k)) = h.get (g.pg k) := by
  refine h.get_shareSettle hg fun j _ f hf => ?_
  obtain ⟨base, hb, rfl⟩ := List.mem_map.1 hf
  exact (ha base hb).pgs ((by decide : ∀ f ∈ feedOut, f.idx / 256 = 0x0E) base hb) hp j k

/-- No feed blocks for the settling's sake. -/
theorem Hub.blocking_shareSettle {h : Hub} {k : Nat} (x : h.get (FEED_STAT_BLOCKING.pg k) = 0) :
    h.shareSettle.get (FEED_STAT_BLOCKING.pg k) = 0 := by
  have other {f : Fld} (b : Hub) (j v : Nat) (hf : f.fits) (ha : f.apart FEED_STAT_BLOCKING) (hi : f.idx / 256 = 0x0E)
      (y : b.get (FEED_STAT_BLOCKING.pg k) = 0) : (b.put (f.pg j) v).get (FEED_STAT_BLOCKING.pg k) = 0 :=
    (b.get_put_pgs_apart j k v hf ha hi (by decide)).trans y
  have opens (b : Hub) (j : Nat) (y : b.get (FEED_STAT_BLOCKING.pg k) = 0) :
      (b.put (FEED_STAT_BLOCKING.pg j) 0).get (FEED_STAT_BLOCKING.pg k) = 0 := Hub.get_put_pgs_keeps j (by decide) (by decide) y
  have conduct (b : Hub) (j v : Nat) := other (f := FEED_STAT_CONDUCT) b j v (by decide) (by decide) (by decide)
  have standby (b : Hub) (v : Nat) := other (f := FEED_STAT_STANDBY_B) b 1 v (by decide) (by decide) (by decide)
  have held : h.ratioHold.get (FEED_STAT_BLOCKING.pg k) = 0 :=
    Hub.ratioHold_induction (P := fun b => b.get (FEED_STAT_BLOCKING.pg k) = 0) x (fun _ _ => opens _ _ (conduct _ _ _ x))
      (fun _ _ _ y => conduct _ _ _ y) fun _ _ => (Hub.get_share! ..).trans
  exact Hub.shareSettle_induction (P := fun b => b.get (FEED_STAT_BLOCKING.pg k) = 0) held
    (fun _ _ _ y => opens _ _ (conduct _ _ _ (standby _ _ y))) (fun _ _ y => conduct _ _ _ y) (fun _ y => standby _ _ y)
    fun _ _ => (Hub.get_share! ..).trans

/-- Without RATIO a feed that conducts goes on doing so, unless it is feed B in PRIMARY. -/
theorem Hub.conduct_shareSettle {h : Hub} {k : Nat} (ratio : h.feedCfg FEED_SHARE_MODE ≠ 1)
    (primary : h.feedCfg FEED_SHARE_MODE = 2 → k = 0) (x : h.get (FEED_STAT_CONDUCT.pg k) = 1) :
    h.shareSettle.get (FEED_STAT_CONDUCT.pg k) = 1 := by
  have other {f : Fld} (b : Hub) (j v : Nat) (hf : f.fits) (ha : f.apart FEED_STAT_CONDUCT) (hi : f.idx / 256 = 0x0E)
      (y : b.get (FEED_STAT_CONDUCT.pg k) = 1) : (b.put (f.pg j) v).get (FEED_STAT_CONDUCT.pg k) = 1 :=
    (b.get_put_pgs_apart j k v hf ha hi (by decide)).trans y
  have closes (b : Hub) (j : Nat) (y : b.get (FEED_STAT_CONDUCT.pg k) = 1) :
      (b.put (FEED_STAT_CONDUCT.pg j) 1).get (FEED_STAT_CONDUCT.pg k) = 1 := Hub.get_put_pgs_keeps j (by decide) (by decide) y
  have blocking (b : Hub) (j v : Nat) := other (f := FEED_STAT_BLOCKING) b j v (by decide) (by decide) (by decide)
  have standby (b : Hub) (v : Nat) := other (f := FEED_STAT_STANDBY_B) b 1 v (by decide) (by decide) (by decide)
  have held : h.ratioHold.get (FEED_STAT_CONDUCT.pg k) = 1 :=
    Hub.ratioHold_induction (P := fun b => b.get (FEED_STAT_CONDUCT.pg k) = 1) x (fun _ _ => blocking _ _ _ (closes _ _ x))
      (fun _ _ idle _ => absurd (Hub.ratioIdle_some idle).1 ratio) fun _ _ => (Hub.get_share! ..).trans
  refine Hub.shareSettle_induction (P := fun b => b.get (FEED_STAT_CONDUCT.pg k) = 1) held (fun mode _ b y => ?_)
    (fun _ _ y => closes _ _ y) (fun _ y => standby _ _ y) fun _ _ => (Hub.get_share! ..).trans
  cases primary mode
  exact blocking _ _ _ ((Hub.get_put_apart _ _ (by decide) (by decide)).trans (standby _ _ y))

/-- Feed B stands by while both are ON in PRIMARY and it does not carry. -/
theorem Hub.shareSettle_primary {h : Hub} (mode : h.feedCfg FEED_SHARE_MODE = 2) (onA : h.feedOn 0 = true)
    (onB : h.feedOn 1 = true) (rests : h.share.bCarries = false) : h.shareSettle =
      ((h.ratioHold.put (FEED_STAT_STANDBY_B.pg 1) 1).put (FEED_STAT_CONDUCT.pg 1) 0).put (FEED_STAT_BLOCKING.pg 1) 0 := by
  have carries : (!h.ratioHold.share.bCarries) = true := by rw [h.share_ratioHold, rests]; rfl
  unfold Hub.shareSettle
  dsimp only
  rw [h.feedOn_ratioHold, h.feedOn_ratioHold, h.shareMode_ratioHold, if_pos ⟨mode, onB⟩, if_pos ⟨onA, carries⟩]

/-! ## A takeover (08 R248) -/

/-- Feed B stands by no longer, and its FETs are closed. -/
def Hub.feedBTakes (h : Hub) : Hub :=
  ((h.put (FEED_STAT_STANDBY_B.pg 1) 0).put (FEED_STAT_CONDUCT.pg 1) 1).put (FEED_STAT_BLOCKING.pg 1) 0

theorem Hub.priTakeover_eq (h : Hub) (va : Nat) : h.priTakeover va =
    ((h.feedBTakes.share! fun s => { s with bCarries := true, returnRun := 0 }).feedCount FEED_SHARESTAT_PRICNT).feedReport
      1 9 0x0F0A sevINFO [(0, 2, va)] := rfl

theorem Hub.bare_priTakeover (h : Hub) (va : Nat) :
    (h.priTakeover va).bare = h.bare.share! fun s => { s with bCarries := true, returnRun := 0 } := by
  rw [Hub.priTakeover_eq, Hub.bare_feedReport, Hub.bare_feedCount]
  rfl

theorem Hub.feedData_priTakeover (h : Hub) (va : Nat) : (h.priTakeover va).feedData = h.feedData := by
  simp [Hub.priTakeover_eq, Hub.feedBTakes]

/-- What a takeover reaches. -/
def takeoverFlds : List Fld :=
  [FEED_STAT_STANDBY_B.pg 1, FEED_STAT_CONDUCT.pg 1, FEED_STAT_BLOCKING.pg 1, FEED_SHARESTAT_PRICNT, flagFld 0x0F 9]

theorem Hub.only_priTakeover (h : Hub) (va : Nat) : Hub.only takeoverFlds tracePages h (h.priTakeover va) := by
  have reached : ∀ f ∈ takeoverFlds, f.mayIn takeoverFlds tracePages :=
    fun f hf => Fld.mayIn_self hf ((by decide : ∀ f ∈ takeoverFlds, f.fits) f hf)
  have taken : Hub.only takeoverFlds tracePages h h.feedBTakes :=
    (((Hub.only.refl ..).put 0 (reached _ (by decide))).put 1 (reached _ (by decide))).put 0 (reached _ (by decide))
  rw [Hub.priTakeover_eq]
  exact ((taken.share! _).feedCount (reached _ (by decide))).feedReport 1 9 _ _ _ (reached _ (by decide)) (fun _ => id)
    (by decide)

end Sys2Proof.Machine

end

section
/-! SUPPORT. A feed leaves ON: the other feed, the hand-back and LB follow (08 R242, R248, 09 R260, 11 R319). -/

namespace Sys2Proof.Machine

/-! ## LB without a feed (09 R260, 11 R319) -/

section
variable {fs : List Fld} {ps : List Nat} {a b : Hub}

theorem Hub.only.conv! (i : Nat) (f : Conv → Conv) (x : Hub.only fs ps a b) :
    Hub.only fs ps a (b.conv! i f) := x.convs! fun l => setNth l i {} (f (b.conv i))

theorem Hub.only.lbTo (st : Nat) (hp : 0x11 ∈ ps) (x : Hub.only fs ps a b) : Hub.only fs ps a (b.convTo 0 st) := by
  have lb {f : Fld} (hf : f.idx / 256 = 0x11) : f.mayIn fs ps := .inr (hf ▸ hp)
  have entered := x.put (f := cSTATE 0) st (lb rfl)
  have done : Hub.only fs ps a (if st = 4 then b.put (cSTATE 0) st else (b.put (cSTATE 0) st).put (cDONE 0) 0) :=
    .ite entered (entered.put 0 (lb rfl))
  unfold Hub.convTo
  dsimp only
  rw [if_pos rfl, if_pos rfl]
  exact (Hub.only.ite (done.conv! 0 _) (((done.conv! 0 _).put 0 (lb rfl)).put 0 (lb rfl))).put _ (lb rfl)

theorem Hub.only.handbackAbort (hp : 0x10 ∈ ps) (ht : traceIn ps) (x : Hub.only fs ps a b) :
    Hub.only fs ps a b.handbackAbort := by
  have chg {f : Fld} (hf : f.idx / 256 = 0x10) : f.mayIn fs ps := .inr (hf ▸ hp)
  have counted := ((x.incSat (f := CHG_HUCNT2_ABORTS) 1 (chg rfl)).put (f := CHG_STAT_HANDBACK) 0 (chg rfl)).chg!
    fun c => { c with dwell := 0 }
  unfold Hub.handbackAbort
  dsimp only
  refine Hub.only.report _ _ _ _ _ _ (chg rfl) ht (.inl (by decide)) (Hub.only.lb! _ ?_)
  split
  · exact (counted.put (f := CHG_STAT_REPEAT) _ (chg rfl)).evt _ _ (chg rfl) ht.irq (.inl (by decide))
  · exact counted

end

theorem Hub.feedData_lbTo (h : Hub) (st : Nat) : (h.convTo 0 st).feedData = h.feedData := by
  unfold Hub.convTo
  dsimp only
  repeat' split
  all_goals simp

theorem Hub.feedData_handbackAbort (h : Hub) : h.handbackAbort.feedData = h.feedData := by
  unfold Hub.handbackAbort
  dsimp only
  rw [Hub.feedData_report, Hub.feedData_lb!]
  split <;> simp

/-- A hand-back in progress is aborted (11 R319). -/
def Hub.handbackUnfed (h : Hub) : Hub :=
  if h.flag CHG_STAT_HANDBACK ∧ !h.md.handback then
    (if h.convSt 0 = 2 ∨ h.convSt 0 = 9 then (h.convTo 0 9).put LB_STAT_NPH 0 else h).handbackAbort
  else h

/-- LB returns to IDLE unless HOLDUP or the armed detector keeps it (09 R260). -/
def Hub.lbUnfed (h : Hub) : Hub :=
  if (h.convSt 0 = 3 ∨ h.convSt 0 = 4) ∧ h.mode ≠ mHOLDUP ∧ !h.flag CHG_STAT_ARMED ∧ h.chg.trig.isNone then h.convTo 0 1
  else h

/-- Feed B takes over, or the sharing settles (08 R248). -/
def Hub.feedYields (h : Hub) (k v : Nat) : Hub :=
  if k = 0 ∧ h.flag (FEED_STAT_STANDBY_B.pg 1) then h.priTakeover v else h.shareSettle

theorem Hub.feedGone_eq (h : Hub) (k v : Nat) : h.feedGone k v =
    if (h.feedYields k v).anyFeedOn ∨ !(h.feedYields k v).running then h.feedYields k v
    else (h.feedYields k v).handbackUnfed.lbUnfed := rfl

theorem Hub.only.unfed {fs : List Fld} {ps : List Nat} {a b : Hub} (hb : 0x10 ∈ ps) (hl : 0x11 ∈ ps) (ht : traceIn ps)
    (x : Hub.only fs ps a b) : Hub.only fs ps a b.handbackUnfed.lbUnfed := by
  have aborted : Hub.only fs ps a b.handbackUnfed := by
    unfold Hub.handbackUnfed
    split
    · exact (Hub.only.ite ((x.lbTo 9 hl).put 0 (.inr hl)) x).handbackAbort hb ht
    · exact x
  unfold Hub.lbUnfed
  split
  · exact aborted.lbTo 1 hl
  · exact aborted

theorem Hub.feedData_unfed (h : Hub) : h.handbackUnfed.lbUnfed.feedData = h.feedData := by
  have aborted : h.handbackUnfed.feedData = h.feedData := by
    unfold Hub.handbackUnfed
    split
    · rw [Hub.feedData_handbackAbort]
      split
      · rw [Hub.feedData_put, Hub.feedData_lbTo]
      · rfl
    · rfl
  unfold Hub.lbUnfed
  split
  · exact (Hub.feedData_lbTo ..).trans aborted
  · exact aborted

/-! ## The other feed -/

/-- What feed k's leaving reaches on the feeds' pages: the switches of the other feed, and a takeover. -/
def goneFlds (k : Nat) : List Fld :=
  [FEED_STAT_CONDUCT.pg (1 - k), FEED_STAT_BLOCKING.pg (1 - k), FEED_STAT_STANDBY_B.pg 1, FEED_SHARESTAT_PRICNT.pg 0,
   (feedFlag 9).pg 1]

/-- What it reaches besides: the charger, LB, and the traces of events. -/
def gonePages : List Nat := 0x10 :: 0x11 :: tracePages

theorem traceIn_gonePages : traceIn gonePages := by decide

theorem goneFlds_mayIn {k : Nat} {f : Fld} (hf : f ∈ goneFlds k) : f.mayIn (goneFlds k) gonePages := by
  refine Fld.mayIn_self hf ?_
  simp only [goneFlds, List.mem_cons, List.not_mem_nil, or_false] at hf
  rcases hf with rfl | rfl | rfl | rfl | rfl <;> simp only [Fld.fits] <;> decide

/-- A feed that is not ON is gone without a change of its own switches. -/
theorem Hub.only_feedGone (h : Hub) {k : Nat} (v : Nat) (hk : k < 2) (off : h.feedOn k = false) :
    Hub.only (goneFlds k) gonePages h (h.feedGone k v) := by
  have yields : Hub.only (goneFlds k) gonePages h (h.feedYields k v) := by
    unfold Hub.feedYields
    split
    · next taken =>
      obtain ⟨rfl, -⟩ := taken
      exact (h.only_priTakeover v).widen (fun f hf => goneFlds_mayIn ((by decide : ∀ f ∈ takeoverFlds, f ∈ goneFlds 0) f hf))
        fun p hp => List.mem_cons_of_mem _ (List.mem_cons_of_mem _ hp)
    · refine (Hub.only.refl ..).settled (goneFlds_mayIn (by simp [goneFlds])) fun j hj on => ?_
      have other : j = 1 - k := by
        have ne : j ≠ k := fun e => by simp [e, off] at on
        omega
      subst other
      exact ⟨goneFlds_mayIn (by simp [goneFlds]), goneFlds_mayIn (by simp [goneFlds])⟩
  rw [Hub.feedGone_eq]
  exact .ite yields (yields.unfed (by decide) (by decide) traceIn_gonePages)

theorem Hub.feedData_feedGone (h : Hub) (k v : Nat) : (h.feedGone k v).feedData = h.feedData := by
  have yields : (h.feedYields k v).feedData = h.feedData := by
    unfold Hub.feedYields
    split
    · exact h.feedData_priTakeover v
    · exact h.feedData_shareSettle
  rw [Hub.feedGone_eq]
  split
  · exact yields
  · exact (Hub.feedData_unfed _).trans yields

/-- A field of FEEDA that a takeover leaves on the page of the feed that goes. -/
abbrev Fld.stays (g : Fld) : Prop :=
  g.fits ∧ g.idx / 256 = 0x0E ∧ ∀ f ∈ [FEED_STAT_STANDBY_B, FEED_SHARESTAT_PRICNT, feedFlag 9], f.apart g

theorem Hub.get_feedGone_pg (h : Hub) {k : Nat} (v : Nat) (hk : k < 2) (off : h.feedOn k = false) {g : Fld} (hg : g.stays) :
    (h.feedGone k v).get (no_index (g.pg k)) = h.get (g.pg k) := by
  obtain ⟨fits, page, apart⟩ := hg
  simp only [List.forall_mem_cons] at apart
  obtain ⟨standby, count, flag, -⟩ := apart
  refine (h.only_feedGone v hk off).fields _ fits (fun f hf => ?_) ?_
  · simp only [goneFlds, List.mem_cons, List.not_mem_nil, or_false] at hf
    rcases hf with rfl | rfl | rfl | rfl | rfl
    · exact .inl (by simp only; omega)
    · exact .inl (by simp only; omega)
    · exact standby.pgs (by decide) page 1 k
    · exact count.pgs (by decide) page 0 k
    · exact flag.pgs (by decide) page 1 k
  · rw [Fld.page_pg_feed k page]
    simp only [gonePages, tracePages, List.mem_cons, List.not_mem_nil, or_false]
    omega

/-! ## Leaving (08 R242, R251) -/

/-- The state reached: IDLE while the page is fenced, but for DISABLED and LATCHED. -/
def Hub.leftTo (h : Hub) (k st : Nat) : Nat := if h.feedFenced k ∧ st ≠ 0 ∧ st ≠ 7 then 1 else st

theorem Hub.leftTo_of {h : Hub} (k : Nat) {st : Nat} (h0 : st ≠ 0) (h7 : st ≠ 7) :
    h.leftTo k st = if h.feedFenced k = true then 1 else st := by simp [Hub.leftTo, h0, h7]

theorem Hub.feedLeave_eq (h : Hub) (k st v : Nat) : h.feedLeave k st v = (h.feedTo k (h.leftTo k st)).feedGone k v := rfl

/-- A state other than ON, in which a feed may be left. -/
abbrev leaveTo (st : Nat) : Prop := st < 16 ∧ st ≠ 5

theorem Hub.leaveTo_leftTo (h : Hub) (k : Nat) {st : Nat} (hs : leaveTo st) : leaveTo (h.leftTo k st) := by
  unfold Hub.leftTo
  split
  · decide
  · exact hs

theorem Hub.feedOff_feedTo (h : Hub) (k : Nat) {st : Nat} (hs : leaveTo st) : (h.feedTo k st).feedOn k = false := by
  obtain ⟨code, off⟩ := hs
  rw [Hub.feedOn_eq, Hub.feedSt_feedTo_same _ _ code, beq_eq_false_iff_ne]
  exact off

/-- The feed stands in its new state with its FETs open, and its timer runs anew. -/
theorem Hub.feedLeave_shows (h : Hub) {k st : Nat} (v : Nat) (hk : k < 2) (hs : leaveTo st) :
    (h.feedLeave k st v).feedSt k = h.leftTo k st ∧ (h.feedLeave k st v).get (FEED_STAT_CONDUCT.pg k) = 0
    ∧ ((h.feedLeave k st v).feed k).run = h.feedStart ∧ (h.feedLeave k st v).md = h.md := by
  have left := h.leaveTo_leftTo k hs
  have off := h.feedOff_feedTo k left
  have kept := (h.feedTo k (h.leftTo k st)).feedData_feedGone k v
  rw [Hub.feedLeave_eq]
  refine ⟨?_, ?_, ?_, ?_⟩
  · rw [Hub.feedSt, Hub.get_feedGone_pg _ v hk off (by decide)]
    exact h.feedSt_feedTo_same k left.1
  · rw [Hub.get_feedGone_pg _ v hk off (by decide), Hub.conduct_feedTo, beq_eq_false_iff_ne.2 left.2]
    rfl
  · rw [Hub.feed_of_feedData kept, Hub.run_feedTo]
  · rw [Hub.md_of_feedData kept, Hub.feedTo_md]

/-- A field of the page that the leaving of its feed leaves. -/
theorem Hub.get_feedLeave_pg (h : Hub) {k st : Nat} (v : Nat) (hk : k < 2) (hs : leaveTo st) {g : Fld} (hg : g.stays)
    (ha : ∀ f ∈ FEED_STAT_STATE :: feedOut, f.apart g) :
    (h.feedLeave k st v).get (no_index (g.pg k)) = h.get (g.pg k) := by
  rw [Hub.feedLeave_eq, Hub.get_feedGone_pg _ v hk (h.feedOff_feedTo k (h.leaveTo_leftTo k hs)) hg,
    Hub.get_feedTo_pg _ _ _ hg.1 ha]

/-! ## What the control of the feeds reaches -/

/-- The pages of the feeds, the charger and the converters, and the traces of events, may change. -/
abbrev powerIn (ps : List Nat) : Prop := ∀ p ∈ powerPages, p ∈ ps

theorem powerIn.trace {ps : List Nat} (hp : powerIn ps) : traceIn ps := fun p h => hp p (List.mem_append_right _ h)

section
variable {fs : List Fld} {ps : List Nat} {a b : Hub} {k : Nat}

theorem feed_mayIn (hp : powerIn ps) (hk : k < 2) {g : Fld} (hg : g.idx / 256 = 0x0E) : (g.pg k).mayIn fs ps := by
  refine .inr (hp _ ?_)
  rw [Fld.page_pg_feed k hg]
  have k01 : k = 0 ∨ k = 1 := by omega
  rcases k01 with rfl | rfl <;> decide

theorem feedFlag_mayIn (hp : powerIn ps) (hk : k < 2) {bit : Nat} : (flagFld (feedPage k) bit).mayIn fs ps :=
  flagFld_feedPage k bit ▸ feed_mayIn hp hk (by simp only)

theorem Hub.only.putFeed {f : Fld} (v : Nat) (hp : powerIn ps) (hk : k < 2) (hf : f.idx / 256 = 0x0E)
    (x : Hub.only fs ps a b) : Hub.only fs ps a (b.put (f.pg k) v) := x.put v (feed_mayIn hp hk hf)

theorem Hub.only.feedCounts {f : Fld} (hp : powerIn ps) (hk : k < 2) (hf : f.idx / 256 = 0x0E) (x : Hub.only fs ps a b) :
    Hub.only fs ps a (b.feedCount (f.pg k)) := x.feedCount (feed_mayIn hp hk hf)

theorem Hub.only.feedReports (bit code sev : Nat) (l : List (Nat × Nat × Nat)) (hp : powerIn ps) (hk : k < 2)
    (h31 : bit ≠ 31) (x : Hub.only fs ps a b) : Hub.only fs ps a (b.feedReport k bit code sev l) :=
  x.feedReport k bit code sev l (feedFlag_mayIn hp hk) hp.trace h31

theorem Hub.only.feedEnters (st : Nat) (hp : powerIn ps) (hk : k < 2) (x : Hub.only fs ps a b) :
    Hub.only fs ps a (b.feedTo k st) := by
  refine x.feedTo k st fun g hg => ?_
  obtain ⟨f, hf, rfl⟩ : ∃ f ∈ FEED_STAT_STATE :: feedOut, f.pg k = g := List.mem_map.1 hg
  exact feed_mayIn hp hk ((by decide : ∀ f ∈ FEED_STAT_STATE :: feedOut, f.idx / 256 = 0x0E) f hf)

theorem Hub.only.feedLeave {st : Nat} (v : Nat) (hp : powerIn ps) (hk : k < 2) (hs : leaveTo st) (x : Hub.only fs ps a b) :
    Hub.only fs ps a (b.feedLeave k st v) := by
  have gone := (b.feedTo k (b.leftTo k st)).only_feedGone v hk (b.feedOff_feedTo k (b.leaveTo_leftTo k hs))
  rw [Hub.feedLeave_eq]
  refine (x.feedEnters _ hp hk).trans (gone.widen (fun f hf => ?_) fun p h => hp p ?_)
  · have other : 1 - k < 2 := by omega
    simp only [goneFlds, List.mem_cons, List.not_mem_nil, or_false] at hf
    rcases hf with rfl | rfl | rfl | rfl | rfl
    · exact feed_mayIn hp other (by decide)
    · exact feed_mayIn hp other (by decide)
    · exact feed_mayIn hp (by decide) (by decide)
    · exact feed_mayIn hp (by decide) (by decide)
    · exact feed_mayIn hp (by decide) (by decide)
  · exact (by decide : ∀ p ∈ gonePages, p ∈ powerPages) p h

end

end Sys2Proof.Machine

end

section
/-! SUPPORT. Losses, trips, retries and latches of a feed (08 R237, R240–R243, R251). -/

namespace Sys2Proof.Machine

/-! ## Losses (08 R242) -/

/-- Undervoltage is reported before the feed leaves. -/
def Hub.undervoltSeen (h : Hub) (k v : Nat) : Hub := (h.put (FEED_STAT_INWIN.pg k) 0).feedLost k 1 v

/-- Overvoltage is counted and reported before the feed leaves. -/
def Hub.overvoltSeen (h : Hub) (k peak : Nat) : Hub :=
  ((h.feedCount (FEED_CNT2_OVCNT.pg k)).feedReport k 5 0x0F06 sevWARN [(0, 2, peak)]).put (FEED_STAT_INWIN.pg k) 0

theorem Hub.undervolt_eq (h : Hub) (k v : Nat) : h.undervolt k v = (h.undervoltSeen k v).feedLeave k 3 v := rfl

theorem Hub.overvolt_eq (h : Hub) (k peak : Nat) : h.overvolt k peak = (h.overvoltSeen k peak).feedLeave k 3 (peak * 10) := rfl

theorem Hub.bare_feedLost (h : Hub) (k cause v : Nat) : (h.feedLost k cause v).bare = h.bare := Hub.bare_feedReport ..

theorem Hub.get_feedLost_pg (h : Hub) {k : Nat} (cause v : Nat) {g : Fld} (hk : k < 2) (hg : g.idx / 256 = 0x0E)
    (ha : (feedFlag 1).apart g) : (h.feedLost k cause v).get (no_index (g.pg k)) = h.get (g.pg k) :=
  h.get_feedReport_pg _ _ _ hk (by decide) hg ha

theorem Hub.get_feedLost_flag {h : Hub} {k : Nat} (cause v : Nat) (hk : k < 2) (on : h.running = true) :
    (h.feedLost k cause v).get (flagFld (feedPage k) 1) = 1 := Hub.get_feedReport_flag _ _ _ hk (by decide) on

/-- A flag of the page that the leaving of its feed leaves. -/
theorem Hub.get_feedLeave_flag (h : Hub) {k st bit : Nat} (v : Nat) (hk : k < 2) (hs : leaveTo st) (hb : bit < 9) :
    (h.feedLeave k st v).get (flagFld (feedPage k) bit) = h.get (flagFld (feedPage k) bit) := by
  rw [flagFld_feedPage]
  refine h.get_feedLeave_pg v hk hs ⟨?_, ?_, ?_⟩ ?_
  · simp only [Fld.fits]
    omega
  · simp only
  · simp only [List.forall_mem_cons, Fld.apart]
    refine ⟨.inl (by decide), .inl (by decide), .inr (.inr (by omega)), nofun⟩
  · intro f hf
    exact .inl ((by decide : ∀ f ∈ FEED_STAT_STATE :: feedOut, f.idx ≠ 0x0E * 256 + 3) f hf)

/-- What a loss shows: the feed left, its FETs open. -/
structure Hub.FeedLeft (h t : Hub) (k st : Nat) : Prop where
  state : t.feedSt k = h.leftTo k st
  conduct : t.get (FEED_STAT_CONDUCT.pg k) = 0

/-- The fences of the page are those that stood before the events that were seen. -/
theorem Hub.feedLeft_feedLeave {h b : Hub} (e : b.bare = h.bare) {k st : Nat} (v : Nat) (hk : k < 2) (hs : leaveTo st) :
    h.FeedLeft (b.feedLeave k st v) k st := by
  obtain ⟨state, conduct, -, -⟩ := b.feedLeave_shows v hk hs
  have same : b.leftTo k st = h.leftTo k st := by
    unfold Hub.leftTo
    rw [Hub.feedFenced_of_bare e]
  exact ⟨state.trans same, conduct⟩

theorem Hub.undervolt_shows (h : Hub) {k : Nat} (v : Nat) (hk : k < 2) :
    h.FeedLeft (h.undervolt k v) k 3 ∧ (h.undervolt k v).get (FEED_STAT_INWIN.pg k) = 0
    ∧ (h.running = true → (h.undervolt k v).get (flagFld (feedPage k) 1) = 1)
    ∧ Hub.only [] powerPages h (h.undervolt k v) := by
  have seen : (h.undervoltSeen k v).bare = h.bare := (Hub.bare_feedLost ..).trans (Hub.bare_put ..)
  have reach : Hub.only [] powerPages h (h.undervoltSeen k v) :=
    ((Hub.only.refl ..).putFeed (f := FEED_STAT_INWIN) 0 (fun _ => id) hk (by decide)).feedReports _ _ _ _ (fun _ => id) hk
      (by decide)
  rw [Hub.undervolt_eq]
  refine ⟨Hub.feedLeft_feedLeave seen v hk (by decide), ?_, fun on => ?_, reach.feedLeave v (fun _ => id) hk (by decide)⟩
  · rw [Hub.get_feedLeave_pg _ v hk (by decide) (by decide) (by decide), Hub.undervoltSeen,
      Hub.get_feedLost_pg _ _ _ hk (by decide) (by decide), Hub.get_put_pg_same _ _ _ (by decide)]
    rfl
  · rw [Hub.get_feedLeave_flag _ v hk (by decide) (by decide)]
    exact Hub.get_feedLost_flag _ _ hk on

theorem Hub.overvolt_shows (h : Hub) {k : Nat} (peak : Nat) (hk : k < 2) :
    h.FeedLeft (h.overvolt k peak) k 3 ∧ (h.overvolt k peak).get (FEED_STAT_INWIN.pg k) = 0
    ∧ (h.running = true → (h.overvolt k peak).get (flagFld (feedPage k) 5) = 1
        ∧ (h.overvolt k peak).get (FEED_CNT2_OVCNT.pg k) = min (h.get (FEED_CNT2_OVCNT.pg k) + 1) 65535)
    ∧ Hub.only [] powerPages h (h.overvolt k peak) := by
  have seen : (h.overvoltSeen k peak).bare = h.bare :=
    (Hub.bare_put ..).trans ((Hub.bare_feedReport ..).trans (Hub.bare_feedCount ..))
  have reach : Hub.only [] powerPages h (h.overvoltSeen k peak) :=
    (((Hub.only.refl ..).feedCounts (f := FEED_CNT2_OVCNT) (fun _ => id) hk (by decide)).feedReports _ _ _ _ (fun _ => id)
      hk (by decide)).putFeed (f := FEED_STAT_INWIN) 0 (fun _ => id) hk (by decide)
  rw [Hub.overvolt_eq]
  refine ⟨Hub.feedLeft_feedLeave seen _ hk (by decide), ?_, fun on => ⟨?_, ?_⟩,
    reach.feedLeave _ (fun _ => id) hk (by decide)⟩
  · rw [Hub.get_feedLeave_pg _ _ hk (by decide) (by decide) (by decide)]
    exact Hub.get_put_pg_same _ _ _ (by decide)
  · have counted : (h.feedCount (FEED_CNT2_OVCNT.pg k)).running = true :=
      (Hub.running_of_feedData (Hub.feedData_feedCount ..)).trans on
    rw [Hub.get_feedLeave_flag _ _ hk (by decide) (by decide), Hub.overvoltSeen, flagFld_feedPage,
      Hub.get_put_pg_apart _ _ _ (by decide) (by decide), ← flagFld_feedPage,
      Hub.get_feedReport_flag _ _ _ hk (by decide) counted]
  · rw [Hub.get_feedLeave_pg _ _ hk (by decide) (by decide) (by decide), Hub.overvoltSeen,
      Hub.get_put_pg_apart _ _ _ (by decide) (by decide), Hub.get_feedReport_pg _ _ _ _ hk (by decide) (by decide) (by decide)]
    exact Hub.get_feedCount_same (f := FEED_CNT2_OVCNT.pg k) (by decide : FEED_CNT2_OVCNT.fits) on

theorem Hub.feedAbsent_on {h : Hub} {k : Nat} (v : Nat) (on : h.feedSt k = 5) :
    h.feedAbsent k v = ((h.feedUnseen k).feedLost k 2 v).feedLeave k 1 v := if_pos on

theorem Hub.feedAbsent_on_shows {h : Hub} {k : Nat} (v : Nat) (hk : k < 2) (on : h.feedSt k = 5) :
    h.FeedLeft (h.feedAbsent k v) k 1 ∧ (h.feedAbsent k v).get (FEED_STAT_PRESENT.pg k) = 0
    ∧ (h.running = true → (h.feedAbsent k v).get (flagFld (feedPage k) 1) = 1)
    ∧ Hub.only [] powerPages h (h.feedAbsent k v) := by
  obtain ⟨present, -, -, unseen⟩ := h.feedUnseen_shows k
  have seen : ((h.feedUnseen k).feedLost k 2 v).bare = h.bare :=
    (Hub.bare_feedLost ..).trans ((Hub.bare_put ..).trans (Hub.bare_put ..))
  have reach : Hub.only [] powerPages h ((h.feedUnseen k).feedLost k 2 v) :=
    (unseen.widen (List.forall_mem_singleton.2 (feed_mayIn (g := wholeFld FEED_STAT_STATE) (fun _ => id) hk (by decide)))
      nofun).feedReports _ _ _ _ (fun _ => id) hk (by decide)
  rw [Hub.feedAbsent_on v on]
  refine ⟨Hub.feedLeft_feedLeave seen v hk (by decide), ?_, fun on => ?_, reach.feedLeave v (fun _ => id) hk (by decide)⟩
  · rw [Hub.get_feedLeave_pg _ v hk (by decide) (by decide) (by decide), Hub.get_feedLost_pg _ _ _ hk (by decide) (by decide),
      present]
  · rw [Hub.get_feedLeave_flag _ v hk (by decide) (by decide)]
    exact Hub.get_feedLost_flag _ _ hk on

/-! ## After a trip (08 R241, R251) -/

/-- What a trip shows: the FETs open, and a retry after one attempt more, or the latch with its flag and fence. -/
structure Hub.FeedTripped (h t : Hub) (k : Nat) : Prop where
  conduct : t.get (FEED_STAT_CONDUCT.pg k) = 0
  retry : h.get (FEED_STAT_ATTEMPTS.pg k) < 3 → t.feedSt k = (if h.feedFenced k = true then 1 else 6)
    ∧ t.get (FEED_STAT_ATTEMPTS.pg k) = h.get (FEED_STAT_ATTEMPTS.pg k) + 1
    ∧ (t.feed k).run = (if h.running = true then 0 else 100000)
  latch : 3 ≤ h.get (FEED_STAT_ATTEMPTS.pg k) → t.feedSt k = 7
    ∧ (h.running = true → t.get (flagFld (feedPage k) 4) = 1 ∧ t.hasCause (feedPage k) 2 = true)

theorem Hub.feedTrip_retry {h : Hub} {k : Nat} (kind v : Nat) (less : h.get (FEED_STAT_ATTEMPTS.pg k) < 3) :
    h.feedTrip k kind v =
      (h.put (FEED_STAT_ATTEMPTS.pg k) (h.get (FEED_STAT_ATTEMPTS.pg k) + 1)).feedLeave k 6 v := if_pos less

/-- The feed latches and says so. -/
def Hub.feedLatches (h : Hub) (k kind v : Nat) : Hub :=
  (h.feedLeave k 7 v).feedReport k 4 0x0F05 sevFAULT [(0, 1, kind)]

theorem Hub.feedTrip_latch {h : Hub} {k : Nat} (kind v : Nat) (full : 3 ≤ h.get (FEED_STAT_ATTEMPTS.pg k)) :
    h.feedTrip k kind v = if (h.feedLatches k kind v).running then (h.feedLatches k kind v).fence (feedPage k) 2
      else h.feedLatches k kind v := if_neg (Nat.not_lt.2 full)

theorem Hub.get_feedFence_pg (h : Hub) {k : Nat} (cause : Nat) {g : Fld} (hk : k < 2) (hg : g.idx / 256 = 0x0E)
    (ha : (feedFlag 29).apart g) : (h.fence (feedPage k) cause).get (no_index (g.pg k)) = h.get (g.pg k) :=
  h.get_fence _ _ (flagFld_feedPage k 29 ▸ ha.pg k) (Fld.pg_feed_untraced hk hg)

theorem Hub.get_feedTrip_latch_pg {h : Hub} {k : Nat} (kind v : Nat) {g : Fld} (hk : k < 2) (hg : g.idx / 256 = 0x0E)
    (ha : (feedFlag 29).apart g) (full : 3 ≤ h.get (FEED_STAT_ATTEMPTS.pg k)) :
    (h.feedTrip k kind v).get (no_index (g.pg k)) = (h.feedLatches k kind v).get (g.pg k) := by
  rw [Hub.feedTrip_latch _ _ full]
  split
  · exact Hub.get_feedFence_pg _ _ hk hg ha
  · rfl

/-- A field of the page that neither the retry nor the latch reaches. -/
theorem Hub.get_feedTrip_pg (h : Hub) {k : Nat} (kind v : Nat) {g : Fld} (hk : k < 2) (hg : g.stays)
    (ha : ∀ f ∈ [FEED_STAT_ATTEMPTS, feedFlag 4, feedFlag 29], f.apart g)
    (hs : ∀ f ∈ FEED_STAT_STATE :: feedOut, f.apart g) :
    (h.feedTrip k kind v).get (no_index (g.pg k)) = h.get (g.pg k) := by
  simp only [List.forall_mem_cons] at ha
  obtain ⟨attempts, latched, fenced, -⟩ := ha
  rcases Nat.lt_or_ge (h.get (FEED_STAT_ATTEMPTS.pg k)) 3 with less | full
  · rw [Hub.feedTrip_retry _ _ less, Hub.get_feedLeave_pg _ v hk (by decide) hg hs,
      Hub.get_put_pg_apart _ _ _ (by decide) attempts]
  · rw [Hub.get_feedTrip_latch_pg _ _ hk hg.2.1 fenced full, Hub.feedLatches,
      Hub.get_feedReport_pg _ _ _ _ hk (by decide) hg.2.1 latched, Hub.get_feedLeave_pg _ v hk (by decide) hg hs]

theorem Hub.feedTrip_retries {h : Hub} {k : Nat} (kind v : Nat) (hk : k < 2) (less : h.get (FEED_STAT_ATTEMPTS.pg k) < 3) :
    h.FeedLeft (h.feedTrip k kind v) k 6
    ∧ (h.feedTrip k kind v).get (FEED_STAT_ATTEMPTS.pg k) = h.get (FEED_STAT_ATTEMPTS.pg k) + 1
    ∧ ((h.feedTrip k kind v).feed k).run = h.feedStart := by
  rw [Hub.feedTrip_retry _ _ less]
  obtain ⟨-, -, run, -⟩ := Hub.feedLeave_shows (k := k) (st := 6)
    (h.put (FEED_STAT_ATTEMPTS.pg k) (h.get (FEED_STAT_ATTEMPTS.pg k) + 1)) v hk (by decide)
  refine ⟨Hub.feedLeft_feedLeave (Hub.bare_put ..) v hk (by decide), ?_, run⟩
  rw [Hub.get_feedLeave_pg _ v hk (by decide) (by decide) (by decide), Hub.get_put_pg_same _ _ _ (by decide)]
  exact Nat.mod_eq_of_lt (Nat.succ_lt_succ less)

theorem Hub.running_feedLeave (h : Hub) {k st : Nat} (v : Nat) (hk : k < 2) (hs : leaveTo st) :
    (h.feedLeave k st v).running = h.running := by
  obtain ⟨-, -, -, md⟩ := h.feedLeave_shows v hk hs
  unfold Hub.running
  rw [md]

theorem Hub.running_feedLatches (h : Hub) {k : Nat} (kind v : Nat) (hk : k < 2) :
    (h.feedLatches k kind v).running = h.running :=
  (Hub.running_of_feedData (Hub.feedData_feedReport ..)).trans (h.running_feedLeave v hk (by decide))

theorem Hub.feedTrip_latches {h : Hub} {k : Nat} (kind v : Nat) (hk : k < 2) (full : 3 ≤ h.get (FEED_STAT_ATTEMPTS.pg k)) :
    h.FeedLeft (h.feedTrip k kind v) k 7
    ∧ (h.running = true → (h.feedTrip k kind v).get (flagFld (feedPage k) 4) = 1
        ∧ (h.feedTrip k kind v).hasCause (feedPage k) 2 = true) := by
  obtain ⟨state, conduct, -, -⟩ := h.feedLeave_shows (st := 7) v hk (by decide)
  refine ⟨⟨?_, ?_⟩, fun on => ⟨?_, ?_⟩⟩
  · rw [← state, Hub.feedSt, Hub.get_feedTrip_latch_pg _ _ hk (by decide) (by decide) full]
    exact Hub.get_feedReport_pg _ _ _ _ hk (by decide) (by decide) (by decide)
  · rw [← conduct, Hub.get_feedTrip_latch_pg _ _ hk (by decide) (by decide) full]
    exact Hub.get_feedReport_pg _ _ _ _ hk (by decide) (by decide) (by decide)
  · rw [flagFld_feedPage, Hub.get_feedTrip_latch_pg _ _ hk (by decide) (by decide) full, ← flagFld_feedPage]
    exact Hub.get_feedReport_flag _ _ _ hk (by decide) ((h.running_feedLeave v hk (by decide)).trans on)
  · rw [Hub.feedTrip_latch _ _ full, if_pos ((h.running_feedLatches kind v hk).trans on)]
    exact Hub.hasCause_fence ..

theorem Hub.feedTripped_feedTrip (h : Hub) {k : Nat} (kind v : Nat) (hk : k < 2) : h.FeedTripped (h.feedTrip k kind v) k := by
  rcases Nat.lt_or_ge (h.get (FEED_STAT_ATTEMPTS.pg k)) 3 with less | full
  · obtain ⟨⟨state, conduct⟩, attempts, run⟩ := Hub.feedTrip_retries kind v hk less
    exact ⟨conduct, fun _ => ⟨state.trans (Hub.leftTo_of k (by decide) (by decide)), attempts, run⟩,
      fun full => absurd less (Nat.not_lt.2 full)⟩
  · obtain ⟨⟨state, conduct⟩, shown⟩ := Hub.feedTrip_latches kind v hk full
    exact ⟨conduct, fun less => absurd less (Nat.not_lt.2 full), fun _ => ⟨state.trans (by simp [Hub.leftTo]), shown⟩⟩

theorem Hub.only.feedTrips {fs : List Fld} {ps : List Nat} {a b : Hub} {k : Nat} (kind v : Nat) (hp : powerIn ps) (hk : k < 2)
    (x : Hub.only fs ps a b) : Hub.only fs ps a (b.feedTrip k kind v) := by
  rcases Nat.lt_or_ge (b.get (FEED_STAT_ATTEMPTS.pg k)) 3 with less | full
  · rw [Hub.feedTrip_retry _ _ less]
    exact (x.putFeed (f := FEED_STAT_ATTEMPTS) _ hp hk (by decide)).feedLeave v hp hk (by decide)
  · have latches : Hub.only fs ps a (b.feedLatches k kind v) :=
      (x.feedLeave v hp hk (by decide)).feedReports _ _ _ _ hp hk (by decide)
    rw [Hub.feedTrip_latch _ _ full]
    exact .ite (latches.fence _ 2 (feedFlag_mayIn hp hk) hp.trace) latches

/-! ## The class F conversion of a feed's trip (13 R353) -/

theorem Hub.feedF_eq (h : Hub) : h.feedF = h ∨ ∃ f, h.feedF = h.mea! f ∨ h.feedF = (h.mea! f).incSat (ADC_CNT_FABORT.nth 3) := by
  unfold Hub.feedF
  split
  · exact .inr (h.classF_eq 3 h.cyc)
  · exact .inl rfl

theorem Hub.get_feedF (h : Hub) {g : Fld} (hg : g.idx / 256 ≠ 9) : h.feedF.get g = h.get g := by
  rcases h.feedF_eq with e | ⟨f, e | e⟩ <;> rw [e]
  · exact Hub.get_mea! ..
  · exact Hub.get_incSat_apart _ _ (by decide) (.inl fun i => hg (i ▸ rfl))

theorem Hub.get_feedF_pg (h : Hub) {k : Nat} {g : Fld} (hg : g.idx / 256 = 0x0E) :
    h.feedF.get (no_index (g.pg k)) = h.get (g.pg k) := by
  refine h.get_feedF ?_
  rw [Fld.page_pg_feed k hg]
  omega

theorem Hub.get_feedF_flag (h : Hub) (k bit : Nat) :
    h.feedF.get (flagFld (feedPage k) bit) = h.get (flagFld (feedPage k) bit) := by
  rw [flagFld_feedPage, h.get_feedF_pg (by simp only)]

theorem Hub.feed_feedF (h : Hub) (k : Nat) : h.feedF.feed k = h.feed k := by
  rcases h.feedF_eq with e | ⟨f, e | e⟩ <;> rw [e] <;> rfl

theorem Hub.hasCause_feedF (h : Hub) (p c : Nat) : h.feedF.hasCause p c = h.hasCause p c := by
  rcases h.feedF_eq with e | ⟨f, e | e⟩ <;> rw [e] <;> rfl

theorem Hub.only.feedF {fs : List Fld} {ps : List Nat} {a b : Hub} (hp : 9 ∈ ps) (x : Hub.only fs ps a b) :
    Hub.only fs ps a b.feedF := by
  rcases b.feedF_eq with e | ⟨f, e | e⟩ <;> rw [e]
  · exact x
  · exact x.mea! f
  · exact (x.mea! f).incSat 1 (.inr hp)

theorem Hub.FeedTripped.feedF {h t : Hub} {k : Nat} (x : h.FeedTripped t k) : h.FeedTripped t.feedF k where
  conduct := (t.get_feedF_pg (by decide)).trans x.conduct
  retry less := by
    obtain ⟨state, attempts, run⟩ := x.retry less
    exact ⟨(t.get_feedF_pg (g := FEED_STAT_STATE) (by decide)).trans state, (t.get_feedF_pg (by decide)).trans attempts,
      (congrArg Feed.run (t.feed_feedF k)).trans run⟩
  latch full := by
    obtain ⟨state, shown⟩ := x.latch full
    exact ⟨(t.get_feedF_pg (g := FEED_STAT_STATE) (by decide)).trans state, fun on =>
      ⟨(t.get_feedF_flag k 4).trans (shown on).1, (t.hasCause_feedF ..).trans (shown on).2⟩⟩

/-! ## Insertion trips and fuse trips (08 R237, R240) -/

/-- A trip of feed k has been counted and reported with flag `bit`. -/
structure Hub.TripNoted (h b : Hub) (k bit : Nat) : Prop where
  bare : b.bare = h.bare
  attempts : b.get (FEED_STAT_ATTEMPTS.pg k) = h.get (FEED_STAT_ATTEMPTS.pg k)
  flag : h.running = true → b.get (flagFld (feedPage k) bit) = 1
  reach : Hub.only [] powerPages h b

/-- And so has the loss of a feed that was ON. -/
structure Hub.TripSeen (h b : Hub) (k bit : Nat) : Prop extends Hub.TripNoted h b k bit where
  lost : h.running = true → h.feedSt k = 5 → b.get (flagFld (feedPage k) 1) = 1

/-- An insertion trip is seen. -/
def Hub.insTripSeen (h : Hub) (k : Nat) (limiting : Bool) (vinb : Nat) : Hub :=
  (h.feedCount (FEED_CNT_INSTRIP.pg k)).feedReport k 2 0x0F03 sevWARN
    [(0, 1, h.get (FEED_STAT_ATTEMPTS.pg k)), (1, 1, if limiting then 1 else 2), (2, 2, vinb)]

/-- A fuse trip is seen. -/
def Hub.fuseSeen (h : Hub) (k kind peak : Nat) : Hub :=
  (h.feedCount (FEED_CNT_FUSETRIP.pg k)).feedReport k 3 0x0F04 sevFAULT [(0, 1, kind), (1, 1, h.feedSt k), (2, 2, peak)]

/-- A fuse trip is seen, with the loss of a feed that was ON. -/
def Hub.fuseTripSeen (h : Hub) (k kind peak v : Nat) : Hub :=
  if h.feedSt k = 5 then (h.fuseSeen k kind peak).feedLost k 3 v else h.fuseSeen k kind peak

theorem Hub.insTrip_eq (h : Hub) (k : Nat) (limiting : Bool) (vinb : Nat) :
    h.insTrip k limiting vinb = (h.insTripSeen k limiting vinb).feedTrip k 1 0 := rfl

theorem Hub.fuseTrip_eq (h : Hub) (k kind peak v : Nat) :
    h.fuseTrip k kind peak v = (h.fuseTripSeen k kind peak v).feedTrip k 2 v := rfl

/-- A count and a report note a trip. -/
theorem Hub.tripNoted_counted (h : Hub) {f : Fld} {k bit : Nat} (code sev : Nat) (l : List (Nat × Nat × Nat)) (hk : k < 2)
    (hb : bit < 31) (hf : f.fits) (hi : f.idx / 256 = 0x0E) (ha : f.apart FEED_STAT_ATTEMPTS) :
    h.TripNoted ((h.feedCount (f.pg k)).feedReport k bit code sev l) k bit where
  bare := (Hub.bare_feedReport ..).trans (Hub.bare_feedCount ..)
  attempts := by
    have flag : (feedFlag bit).apart FEED_STAT_ATTEMPTS := .inl (by simp only; decide)
    rw [Hub.get_feedReport_pg _ _ _ _ hk hb (by decide) flag, Hub.get_feedCount_pg _ k hf ha]
  flag on := Hub.get_feedReport_flag _ _ _ hk hb ((Hub.running_of_feedData (Hub.feedData_feedCount ..)).trans on)
  reach := ((Hub.only.refl ..).feedCounts (fun _ => id) hk hi).feedReports _ _ _ _ (fun _ => id) hk (by omega)

theorem Hub.tripSeen_insTripSeen {h : Hub} {k : Nat} (limiting : Bool) (vinb : Nat) (hk : k < 2) (off : h.feedSt k ≠ 5) :
    h.TripSeen (h.insTripSeen k limiting vinb) k 2 :=
  ⟨h.tripNoted_counted (f := FEED_CNT_INSTRIP) _ _ _ hk (by decide) (by decide) (by decide) (by decide),
    fun _ on => absurd on off⟩

theorem Hub.tripSeen_fuseTripSeen (h : Hub) {k : Nat} (kind peak v : Nat) (hk : k < 2) :
    h.TripSeen (h.fuseTripSeen k kind peak v) k 3 := by
  have noted : h.TripNoted (h.fuseSeen k kind peak) k 3 :=
    h.tripNoted_counted (f := FEED_CNT_FUSETRIP) _ _ _ hk (by decide) (by decide) (by decide) (by decide)
  unfold Hub.fuseTripSeen
  split
  · refine ⟨⟨(Hub.bare_feedLost ..).trans noted.bare, ?_, fun on => ?_, ?_⟩, fun on _ => ?_⟩
    · rw [Hub.get_feedLost_pg _ _ _ hk (by decide) (by decide), noted.attempts]
    · rw [flagFld_feedPage, Hub.get_feedLost_pg _ _ _ hk (by decide) (by decide), ← flagFld_feedPage, noted.flag on]
    · exact noted.reach.feedReports _ _ _ _ (fun _ => id) hk (by decide)
    · have runs : (h.fuseSeen k kind peak).running = true :=
        (Hub.running_of_feedData (Hub.feedData_of_bare noted.bare)).trans on
      exact Hub.get_feedLost_flag _ _ hk runs
  · next off => exact ⟨noted, fun _ on => absurd on off⟩

/-- A trip is judged by what stood before it was noted. -/
theorem Hub.FeedTripped.of_noted {h b t : Hub} {k bit : Nat} (noted : h.TripNoted b k bit) (x : b.FeedTripped t k) :
    h.FeedTripped t k := by
  have fenced := Hub.feedFenced_of_bare noted.bare k
  have runs := Hub.running_of_feedData (Hub.feedData_of_bare noted.bare)
  obtain ⟨conduct, retry, latch⟩ := x
  rw [noted.attempts, fenced, runs] at retry
  rw [noted.attempts, runs] at latch
  exact ⟨conduct, retry, latch⟩

/-- What a trip that has been seen comes to, with its class F conversion. -/
theorem Hub.TripSeen.shows {h b : Hub} {k bit : Nat} (x : h.TripSeen b k bit) (kind v : Nat) (hk : k < 2) (hb : bit < 4) :
    h.FeedTripped (b.feedTrip k kind v).feedF k
    ∧ (h.running = true → (b.feedTrip k kind v).feedF.get (flagFld (feedPage k) bit) = 1)
    ∧ (h.running = true → h.feedSt k = 5 → (b.feedTrip k kind v).feedF.get (flagFld (feedPage k) 1) = 1)
    ∧ Hub.only [] (0x09 :: powerPages) h (b.feedTrip k kind v).feedF := by
  have power : powerIn (0x09 :: powerPages) := fun _ => List.mem_cons_of_mem _
  have flag {i : Nat} (hi : i < 4) :
      (b.feedTrip k kind v).feedF.get (flagFld (feedPage k) i) = b.get (flagFld (feedPage k) i) := by
    have stays : ∀ i < 4, (feedFlag i).stays
        ∧ (∀ f ∈ [FEED_STAT_ATTEMPTS, feedFlag 4, feedFlag 29], f.apart (feedFlag i))
        ∧ ∀ f ∈ FEED_STAT_STATE :: feedOut, f.apart (feedFlag i) := by decide
    obtain ⟨left, apart, state⟩ := stays i hi
    rw [Hub.get_feedF_flag, flagFld_feedPage, Hub.get_feedTrip_pg _ _ _ hk left apart state]
  have reach : Hub.only [] (0x09 :: powerPages) h b := x.reach.mono (List.forall_mem_nil _) power
  exact ⟨(Hub.FeedTripped.of_noted x.toTripNoted (b.feedTripped_feedTrip kind v hk)).feedF,
    fun on => (flag hb).trans (x.flag on), fun on was => (flag (by decide)).trans (x.lost on was),
    (reach.feedTrips kind v power hk).feedF (List.mem_cons_self ..)⟩

end Sys2Proof.Machine

open Sys2Proof Sys2Proof.Machine

/-- Settles O24.  A loss shows the feed left; every trip, once it has been seen, comes to one retry or latch.  That the
retry's timer counts as elapsed in a hub without logic is the model's choice (log entry 6). -/
theorem feedLossAndTrips : Obligations.FeedLossAndTrips := by
  unfold Obligations.FeedLossAndTrips
  refine ⟨fun s feed v on => ⟨?_, ?_, fun present => ?_⟩, fun s feed limiting peak v c hc => ?_⟩
  · obtain ⟨⟨state, conduct⟩, window, flag, reach⟩ := s.hub.undervolt_shows v.toNat (feedNum_lt feed)
    exact ⟨_, State.feedWhen_on _ (beq_iff_eq.2 on), state.trans (Hub.leftTo_of _ (by decide) (by decide)), conduct, window,
      flag, State.frame_hub reach⟩
  · obtain ⟨⟨state, conduct⟩, window, flag, reach⟩ := s.hub.overvolt_shows v.toNat (feedNum_lt feed)
    exact ⟨_, State.feedWhen_on _ (beq_iff_eq.2 on), state.trans (Hub.leftTo_of _ (by decide) (by decide)), conduct, window,
      flag, State.frame_hub reach⟩
  · obtain ⟨⟨state, conduct⟩, gone, flag, reach⟩ := Hub.feedAbsent_on_shows v.toNat (feedNum_lt feed) on
    exact ⟨_, State.feedWhen_on _ ((Hub.flag_iff _ rfl).2 present),
      state.trans ((Hub.leftTo_of _ (by decide) (by decide)).trans (ite_self 1)), conduct, gone, flag, State.frame_hub reach⟩
  · suffices seen : ∃ b bit kind w, s.hub.TripSeen b (feedNum feed) bit ∧ bit < 4
        ∧ exec c s = .next { s with hub := (b.feedTrip (feedNum feed) kind w).feedF }
        ∧ (if c = .insTrip feed limiting v then 2 else 3) = bit by
      obtain ⟨b, bit, kind, w, seen, hb, answer, named⟩ := seen
      obtain ⟨⟨conduct, retry, latch⟩, flag, lost, reach⟩ := seen.shows kind w (feedNum_lt feed) hb
      exact ⟨_, answer, conduct, retry, latch, fun on => named ▸ flag on, lost, State.frame_hub reach⟩
    rcases hc with ⟨rfl, charging, expired⟩ | ⟨rfl, driven⟩ | ⟨rfl, on, long⟩
    · have due : s.hub.insTripDue (feedNum feed) = true := by simp [Hub.insTripDue, charging, expired]
      exact ⟨_, 2, 1, 0, Hub.tripSeen_insTripSeen limiting v.toNat (feedNum_lt feed) (by simp [charging]), by decide,
        by rw [← Hub.insTrip_eq]; exact State.feedWhen_on _ due, if_pos rfl⟩
    · have due : (s.hub.feedSt (feedNum feed) == 4 || s.hub.feedSt (feedNum feed) == 5) = true := by simpa using driven
      exact ⟨_, 3, 2, v.toNat, s.hub.tripSeen_fuseTripSeen 2 peak.toNat v.toNat (feedNum_lt feed), by decide,
        by rw [← Hub.fuseTrip_eq]; exact State.feedWhen_on _ due, if_neg nofun⟩
    · have due : s.hub.slowFuseDue (feedNum feed) = true := by simp [Hub.slowFuseDue, on, long]
      exact ⟨_, 3, 2, v.toNat, s.hub.tripSeen_fuseTripSeen 1 peak.toNat v.toNat (feedNum_lt feed), by decide,
        by rw [← Hub.fuseTrip_eq]; exact State.feedWhen_on _ due, if_neg nofun⟩

end

section
/-! SUPPORT. A feed turns ON, blocks reverse current, retries, and shares in PRIMARY (08 R236, R239, R241, R248, 11 R309,
R311). -/

namespace Sys2Proof.Machine

/-! ## Turning ON (08 R236) -/

theorem Hub.feedOnDue_of {h : Hub} {k : Nat} (charging : h.feedSt k = 4)
    (charged : h.running = true → h.get (FEED_STAT_LIMITING.pg k) = 0
      ∧ h.geti (FEED_V_V.pg k) ≤ h.get (FEED_V_VINB.pg k) + 50
      ∧ (h.feedOn (1 - k) = true
          ∨ h.geti (FEED_V_V.pg k) ≤ (h.feed k).ramp + h.feedCfg (FEED_RAMP_RATE.pg k) + 50)) : h.feedOnDue k = true := by
  unfold Hub.feedOnDue
  dsimp only
  rw [charging]
  cases on : h.running
  · rfl
  · obtain ⟨limiting, level, ramp⟩ := charged on
    have free : h.flag (FEED_STAT_LIMITING.pg k) = false := (h.not_flag_iff _).2 limiting
    simpa [free, level] using ramp

/-- The feed stands in ON, counted and reported. -/
def Hub.feedOnSeen (h : Hub) (k v : Nat) : Hub :=
  ((((h.feedTo k 5).put (FEED_STAT_INWIN.pg k) 1).feed! k fun f => { f with onV := v }).feedCount
    (FEED_CNT2_ONCNT.pg k)).feedReport k 0 0x0F01 sevINFO [(0, 2, v), (2, 1, h.get (FEED_STAT_ATTEMPTS.pg k))]

/-- The detector re-arms once a feed is ON (11 R311). -/
def Hub.feedRearms (h : Hub) : Hub :=
  if h.running ∧ h.armMode then (h.chg! fun c => { c with needRise := false }).armCheck else h

/-- LOWBAT ends once a feed is ON (11 R309). -/
def Hub.lowBatEnds (h : Hub) : Hub := if h.running ∨ h.md.power = .standby then h.put CHG_STAT_LOWBAT 0 else h

theorem Hub.feedOnAct_eq (h : Hub) (k v : Nat) : h.feedOnAct k v = (h.feedOnSeen k v).shareSettle.feedRearms.lowBatEnds := by
  unfold Hub.feedOnAct
  extract_lets h1 h2 h3 h4
  have rearmed : h4 = h3.feedRearms := rfl
  have settled : h3 = (h.feedOnSeen k v).shareSettle := rfl
  clear_value h4
  clear_value h3
  rw [← settled, ← rearmed]
  rfl

theorem Hub.only.armCheck {fs : List Fld} {ps : List Nat} {a b : Hub} (hf : CHG_STAT_ARMED.mayIn fs ps)
    (x : Hub.only fs ps a b) : Hub.only fs ps a b.armCheck := by
  unfold Hub.armCheck
  split
  · exact x.put 0 hf
  · split
    · exact x.put 1 hf
    · exact x

theorem Hub.only.feedRearms {fs : List Fld} {ps : List Nat} {a b : Hub} (hf : CHG_STAT_ARMED.mayIn fs ps)
    (x : Hub.only fs ps a b) : Hub.only fs ps a b.feedRearms := by
  unfold Hub.feedRearms
  split
  · exact (x.chg! _).armCheck hf
  · exact x

theorem Hub.only.lowBatEnds {fs : List Fld} {ps : List Nat} {a b : Hub} (hf : CHG_STAT_LOWBAT.mayIn fs ps)
    (x : Hub.only fs ps a b) : Hub.only fs ps a b.lowBatEnds := by
  unfold Hub.lowBatEnds
  split
  · exact x.put 0 hf
  · exact x

@[simp] theorem Hub.feedData_armCheck (h : Hub) : h.armCheck.feedData = h.feedData := by
  unfold Hub.armCheck
  repeat' split
  all_goals simp

@[simp] theorem Hub.feedData_feedRearms (h : Hub) : h.feedRearms.feedData = h.feedData := by
  unfold Hub.feedRearms
  split <;> simp

@[simp] theorem Hub.feedData_lowBatEnds (h : Hub) : h.lowBatEnds.feedData = h.feedData := by
  unfold Hub.lowBatEnds
  split <;> simp

/-- What follows a feed's turning ON on the charger's page leaves the feeds' pages. -/
theorem Hub.get_feedOnAct_pg (h : Hub) {k : Nat} (v : Nat) (hk : k < 2) {g : Fld} (hg : g.fits) (hp : g.idx / 256 = 0x0E) :
    (h.feedOnAct k v).get (no_index (g.pg k)) = (h.feedOnSeen k v).shareSettle.get (g.pg k) := by
  have armed : CHG_STAT_ARMED.mayIn [CHG_STAT_ARMED, CHG_STAT_LOWBAT] [] := Fld.mayIn_self (by decide) (by decide)
  have low : CHG_STAT_LOWBAT.mayIn [CHG_STAT_ARMED, CHG_STAT_LOWBAT] [] := Fld.mayIn_self (by decide) (by decide)
  rw [Hub.feedOnAct_eq]
  refine (((Hub.only.refl _ _ (h.feedOnSeen k v).shareSettle).feedRearms armed).lowBatEnds low).fields _ hg (fun f hf => ?_)
    List.not_mem_nil
  refine .inl ?_
  have charger : f.idx = 0x1014 := (by decide : ∀ f ∈ [CHG_STAT_ARMED, CHG_STAT_LOWBAT], f.idx = 0x1014) f hf
  simp only
  omega

theorem Hub.feedOnSeen_md (h : Hub) (k v : Nat) : (h.feedOnSeen k v).md = h.md := by
  unfold Hub.feedOnSeen
  rw [Hub.md_of_bare ((Hub.bare_feedReport ..).trans (Hub.bare_feedCount ..))]
  simp

theorem Hub.feedOnSeen_pages (h : Hub) (k v : Nat) : (h.feedOnSeen k v).pages = h.pages := by
  unfold Hub.feedOnSeen
  rw [Hub.of_bare Hub.pages (fun _ => rfl) ((Hub.bare_feedReport ..).trans (Hub.bare_feedCount ..))]
  simp

theorem Hub.only.feedOnSeen {fs : List Fld} {ps : List Nat} {a b : Hub} {k : Nat} (v : Nat) (hp : powerIn ps) (hk : k < 2)
    (x : Hub.only fs ps a b) : Hub.only fs ps a (b.feedOnSeen k v) :=
  ((((x.feedEnters 5 hp hk).putFeed (f := FEED_STAT_INWIN) 1 hp hk (by decide)).feed! k _).feedCounts
    (f := FEED_CNT2_ONCNT) hp hk (by decide)).feedReports _ _ _ _ hp hk (by decide)

theorem Hub.feedOnSeen_shows (h : Hub) {k : Nat} (v : Nat) (hk : k < 2) :
    (h.feedOnSeen k v).feedSt k = 5 ∧ (h.feedOnSeen k v).get (FEED_STAT_INWIN.pg k) = 1
    ∧ (h.feedOnSeen k v).get (FEED_STAT_CONDUCT.pg k) = 1 ∧ (h.feedOnSeen k v).get (FEED_STAT_BLOCKING.pg k) = 0
    ∧ ((h.feedOnSeen k v).feed k).onV = v := by
  have keep {g : Fld} (hg : g.idx / 256 = 0x0E) (ho : FEED_CNT2_ONCNT.apart g) (hf : (feedFlag 0).apart g) :
      (h.feedOnSeen k v).get (g.pg k) = ((h.feedTo k 5).put (FEED_STAT_INWIN.pg k) 1).get (g.pg k) := by
    unfold Hub.feedOnSeen
    rw [Hub.get_feedReport_pg _ _ _ _ hk (by decide) hg hf, Hub.get_feedCount_pg _ _ (by decide) ho, Hub.get_feed!]
  have left {g : Fld} (hg : g.idx / 256 = 0x0E) (ho : FEED_CNT2_ONCNT.apart g) (hf : (feedFlag 0).apart g)
      (hw : FEED_STAT_INWIN.apart g) : (h.feedOnSeen k v).get (g.pg k) = (h.feedTo k 5).get (g.pg k) :=
    (keep hg ho hf).trans (Hub.get_put_pg_apart _ _ _ (by decide) hw)
  refine ⟨?_, ?_, ?_, ?_, ?_⟩
  · exact (left (g := FEED_STAT_STATE) (by decide) (by decide) (by decide) (by decide)).trans
      (h.feedSt_feedTo_same k (by decide))
  · exact (keep (by decide) (by decide) (by decide)).trans (Hub.get_put_pg_same _ _ _ (by decide))
  · exact (left (by decide) (by decide) (by decide) (by decide)).trans (h.conduct_feedTo k 5)
  · exact (left (by decide) (by decide) (by decide) (by decide)).trans (h.blocking_feedTo k 5)
  · unfold Hub.feedOnSeen
    refine (congrArg Feed.onV (Hub.feed_of_feedData ((Hub.feedData_feedReport ..).trans (Hub.feedData_feedCount ..)) k)).trans ?_
    rw [Hub.feed_feed!]

/-- A running hub flags and counts it. -/
theorem Hub.feedOnSeen_noted {h : Hub} {k : Nat} (v : Nat) (hk : k < 2) (on : h.running = true) :
    (h.feedOnSeen k v).get (flagFld (feedPage k) 0) = 1
    ∧ (h.feedOnSeen k v).get (FEED_CNT2_ONCNT.pg k) = min (h.get (FEED_CNT2_ONCNT.pg k) + 1) 65535 := by
  have entered : (((h.feedTo k 5).put (FEED_STAT_INWIN.pg k) 1).feed! k fun f => { f with onV := v }).running = true := by
    unfold Hub.running at on ⊢
    rw [Hub.feed!_md, Hub.put_md, Hub.feedTo_md, on]
  unfold Hub.feedOnSeen
  refine ⟨Hub.get_feedReport_flag _ _ _ hk (by decide)
    ((Hub.running_of_feedData (Hub.feedData_feedCount ..)).trans entered), ?_⟩
  rw [Hub.get_feedReport_pg _ _ _ _ hk (by decide) (by decide) (by decide),
    Hub.get_feedCount_same (f := FEED_CNT2_ONCNT.pg k) (by decide : FEED_CNT2_ONCNT.fits) entered, Hub.get_feed!,
    Hub.get_put_pg_apart _ _ _ (by decide) (by decide), Hub.get_feedTo_pg _ _ _ (by decide) (by decide)]
  rfl

theorem Hub.shareMode_feedOnSeen (h : Hub) {k : Nat} (v : Nat) (hk : k < 2) :
    (h.feedOnSeen k v).feedCfg FEED_SHARE_MODE = h.feedCfg FEED_SHARE_MODE := by
  have other {f : Fld} (ha : f.apart FEED_SHARE_MODE) (hf : f.idx / 256 = 0x0E) : (f.pg k).apart FEED_SHARE_MODE :=
    ha.pgs hf (by decide) k 0
  have entered : (h.feedTo k 5).get FEED_SHARE_MODE = h.get FEED_SHARE_MODE := by
    refine h.get_feedTo k 5 (by decide) fun f hf => ?_
    obtain ⟨base, hb, rfl⟩ : ∃ base ∈ FEED_STAT_STATE :: feedOut, base.pg k = f := List.mem_map.1 hf
    obtain ⟨apart, page⟩ :=
      (by decide : ∀ b ∈ FEED_STAT_STATE :: feedOut, b.apart FEED_SHARE_MODE ∧ b.idx / 256 = 0x0E) base hb
    exact other apart page
  have setting : (h.feedOnSeen k v).get FEED_SHARE_MODE = h.get FEED_SHARE_MODE := by
    rw [Hub.feedOnSeen, Hub.get_feedReport_apart _ _ _ _ (by decide) (other (by decide) (by decide)) (by decide),
      Hub.get_feedCount_apart _ (f := FEED_CNT2_ONCNT.pg k) (by decide : FEED_CNT2_ONCNT.fits)
        (other (by decide) (by decide)), Hub.get_feed!, Hub.get_put_apart _ _ (f := FEED_STAT_INWIN.pg k)
        (by decide : FEED_STAT_INWIN.fits) (other (by decide) (by decide)), entered]
  have part : (h.feedOnSeen k v).part = h.part := ((Hub.only.refl [] powerPages h).feedOnSeen v (fun _ => id) hk).part
  exact Hub.feedCfg_congr part (h.feedOnSeen_md k v) (h.feedOnSeen_pages k v) setting

/-- What a feed's turning ON shows. -/
theorem Hub.feedOnAct_shows (h : Hub) {k : Nat} (v : Nat) (hk : k < 2) :
    (h.feedOnAct k v).feedSt k = 5 ∧ (h.feedOnAct k v).get (FEED_STAT_INWIN.pg k) = 1
    ∧ (h.feedOnAct k v).get (FEED_STAT_BLOCKING.pg k) = 0 ∧ ((h.feedOnAct k v).feed k).onV = v
    ∧ Hub.only [] powerPages h (h.feedOnAct k v) := by
  obtain ⟨state, window, -, blocking, level⟩ := h.feedOnSeen_shows v hk
  refine ⟨?_, ?_, ?_, ?_, ?_⟩
  · rw [Hub.feedSt, Hub.get_feedOnAct_pg _ v hk (by decide) (by decide)]
    exact (Hub.feedSt_shareSettle ..).trans state
  · rw [Hub.get_feedOnAct_pg _ v hk (by decide) (by decide), Hub.get_shareSettle_pg _ _ (by decide) (by decide) (by decide),
      window]
  · rw [Hub.get_feedOnAct_pg _ v hk (by decide) (by decide), Hub.blocking_shareSettle blocking]
  · have data : (h.feedOnAct k v).feedData = (h.feedOnSeen k v).feedData := by
      rw [Hub.feedOnAct_eq, Hub.feedData_lowBatEnds, Hub.feedData_feedRearms, Hub.feedData_shareSettle]
    rw [Hub.feed_of_feedData data, level]
  · have settled : Hub.only [] powerPages h (h.feedOnSeen k v).shareSettle :=
      ((Hub.only.refl ..).feedOnSeen v (fun _ => id) hk).settled (feed_mayIn (fun _ => id) (by decide) (by decide))
        fun j hj _ => ⟨feed_mayIn (fun _ => id) hj (by decide), feed_mayIn (fun _ => id) hj (by decide)⟩
    rw [Hub.feedOnAct_eq]
    exact (settled.feedRearms (.inr (by decide))).lowBatEnds (.inr (by decide))

/-- Its FETs are closed where it carries from the start: by ORING, and feed A in PRIMARY. -/
theorem Hub.conduct_feedOnAct {h : Hub} {k : Nat} (v : Nat) (hk : k < 2) (ratio : h.feedCfg FEED_SHARE_MODE ≠ 1)
    (primary : h.feedCfg FEED_SHARE_MODE = 2 → k = 0) : (h.feedOnAct k v).get (FEED_STAT_CONDUCT.pg k) = 1 := by
  obtain ⟨-, -, conduct, -, -⟩ := h.feedOnSeen_shows v hk
  have mode := h.shareMode_feedOnSeen v hk
  rw [Hub.get_feedOnAct_pg _ v hk (by decide) (by decide)]
  exact Hub.conduct_shareSettle (mode ▸ ratio) (mode ▸ primary) conduct

/-- A running hub flags and counts it, and LOWBAT ends. -/
theorem Hub.feedOnAct_noted {h : Hub} {k : Nat} (v : Nat) (hk : k < 2) (on : h.running = true) :
    (h.feedOnAct k v).get (flagFld (feedPage k) 0) = 1 ∧ (h.feedOnAct k v).get CHG_STAT_LOWBAT = 0
    ∧ (h.feedOnAct k v).get (FEED_CNT2_ONCNT.pg k) = min (h.get (FEED_CNT2_ONCNT.pg k) + 1) 65535 := by
  obtain ⟨flag, count⟩ := Hub.feedOnSeen_noted v hk on
  refine ⟨?_, ?_, ?_⟩
  · rw [flagFld_feedPage, Hub.get_feedOnAct_pg _ v hk (by decide) (by decide),
      Hub.get_shareSettle_pg _ _ (by decide) (by decide) (by decide), ← flagFld_feedPage, flag]
  · have runs : (h.feedOnSeen k v).shareSettle.feedRearms.running = true :=
      (Hub.running_of_feedData ((Hub.feedData_feedRearms _).trans (Hub.feedData_shareSettle _))).trans
        ((congrArg (fun m : Modes => m.power == .on) (h.feedOnSeen_md k v)).trans on)
    rw [Hub.feedOnAct_eq, Hub.lowBatEnds, if_pos (.inl runs), Hub.get_put_same _ _ (by decide)]
    rfl
  · rw [Hub.get_feedOnAct_pg _ v hk (by decide) (by decide),
      Hub.get_shareSettle_pg _ _ (by decide) (by decide) (by decide), count]

/-! ## Reverse current (08 R239) -/

/-- The FETs open; from 11.0 V on the feed blocks, and a running hub flags and counts it. -/
theorem Hub.revOff_shows (h : Hub) {k : Nat} (above v : Nat) (hk : k < 2) :
    (h.revOff k above v).get (FEED_STAT_CONDUCT.pg k) = 0 ∧ (h.revOff k above v).feedSt k = h.feedSt k
    ∧ (1100 ≤ v → (h.revOff k above v).get (FEED_STAT_BLOCKING.pg k) = 1
        ∧ (h.running = true → (h.revOff k above v).get (flagFld (feedPage k) 7) = 1
            ∧ (h.revOff k above v).get (FEED_CNT_REVOFF.pg k)
              = min (h.get (FEED_CNT_REVOFF.pg k) + 1) (2 ^ FEED_CNT_REVOFF.w - 1)))
    ∧ Hub.only [FEED_STAT_CONDUCT.pg k, FEED_STAT_BLOCKING.pg k, FEED_CNT_REVOFF.pg k, flagFld (feedPage k) 7] tracePages h
        (h.revOff k above v)
    ∧ (h.revOff k above v).bare = h.bare := by
  have opened : Hub.only [FEED_STAT_CONDUCT.pg k, FEED_STAT_BLOCKING.pg k, FEED_CNT_REVOFF.pg k, flagFld (feedPage k) 7]
      tracePages h (h.put (FEED_STAT_CONDUCT.pg k) 0) := (Hub.only.refl ..).put 0 (Fld.mayIn_pg (by simp) (by decide))
  unfold Hub.revOff
  dsimp only
  split
  · next high =>
    refine ⟨?_, ?_, fun _ => ⟨?_, fun on => ⟨Hub.get_feedReport_flag _ _ _ hk (by decide)
      ((Hub.running_of_feedData (Hub.feedData_feedCount ..)).trans on), ?_⟩⟩, ?_, ?_⟩
    · rw [Hub.get_feedReport_pg _ _ _ _ hk (by decide) (by decide) (by decide),
        Hub.get_feedCount_pg _ _ (by decide) (by decide), Hub.get_put_pg_apart _ _ _ (by decide) (by decide),
        Hub.get_put_pg_same _ _ _ (by decide)]
      rfl
    · rw [Hub.feedSt, Hub.get_feedReport_pg _ _ _ _ hk (by decide) (by decide) (by decide),
        Hub.get_feedCount_pg _ _ (by decide) (by decide), Hub.get_put_pg_apart _ _ _ (by decide) (by decide),
        Hub.get_put_pg_apart _ _ _ (by decide) (by decide)]
    · rw [Hub.get_feedReport_pg _ _ _ _ hk (by decide) (by decide) (by decide),
        Hub.get_feedCount_pg _ _ (by decide) (by decide), Hub.get_put_pg_same _ _ _ (by decide)]
      rfl
    · have marked : ((h.put (FEED_STAT_CONDUCT.pg k) 0).put (FEED_STAT_BLOCKING.pg k) 1).running = true := on
      rw [Hub.get_feedReport_pg _ _ _ _ hk (by decide) (by decide) (by decide),
        Hub.get_feedCount_same (f := FEED_CNT_REVOFF.pg k) (by decide : FEED_CNT_REVOFF.fits) marked,
        Hub.get_put_pg_apart _ _ _ (by decide) (by decide), Hub.get_put_pg_apart _ _ _ (by decide) (by decide)]
    · exact ((opened.put 1 (Fld.mayIn_pg (by simp) (by decide))).feedCount (Fld.mayIn_pg (by simp) (by decide))).feedReport
        _ _ _ _ _ (flagFld_mayIn (by simp) (by decide)) (fun _ => id) (by decide)
    · simp
  · next low =>
    exact ⟨Hub.get_put_pg_same _ _ _ (by decide), Hub.feedSt_put _ _ (by decide) (by decide), fun high => absurd high low,
      opened, Hub.bare_put ..⟩

/-- The FETs close again. -/
def Hub.feedCloses (h : Hub) (k : Nat) : Hub := (h.put (FEED_STAT_CONDUCT.pg k) 1).put (FEED_STAT_BLOCKING.pg k) 0

theorem Hub.feedCloses_shows (h : Hub) (k : Nat) :
    (h.feedCloses k).get (FEED_STAT_CONDUCT.pg k) = 1 ∧ (h.feedCloses k).get (FEED_STAT_BLOCKING.pg k) = 0
    ∧ Hub.only [FEED_STAT_CONDUCT.pg k, FEED_STAT_BLOCKING.pg k] [] h (h.feedCloses k)
    ∧ (h.feedCloses k).bare = h.bare := by
  unfold Hub.feedCloses
  refine ⟨?_, Hub.get_put_pg_same _ _ _ (by decide), ?_, by simp⟩
  · rw [Hub.get_put_pg_apart _ _ _ (by decide) (by decide), Hub.get_put_pg_same _ _ _ (by decide)]
    rfl
  · exact ((Hub.only.refl ..).put 1 (Fld.mayIn_pg (by simp) (by decide))).put 0 (Fld.mayIn_pg (by simp) (by decide))

/-! ## The retry (08 R241) -/

theorem Hub.feedRetry_shows (h : Hub) (k : Nat) (inWin : Bool) :
    (h.feedRetry k inWin).feedSt k =
      (if h.feedFenced k = true ∨ h.get (FEED_STAT_PRESENT.pg k) = 0 then 1 else if inWin = true then 4 else 3)
    ∧ Hub.only [wholeFld (FEED_STAT_STATE.pg k)] [] h (h.feedRetry k inWin) := by
  have marked (b : Bool) : Hub.only [wholeFld (FEED_STAT_STATE.pg k)] [] h (h.putb (FEED_STAT_INWIN.pg k) b) :=
    (Hub.only.refl ..).put_stat _ rfl (by decide)
  have absent : (!h.flag (FEED_STAT_PRESENT.pg k)) = true ↔ h.get (FEED_STAT_PRESENT.pg k) = 0 := by
    rw [Bool.not_eq_true', Hub.not_flag_iff]
  unfold Hub.feedRetry
  simp only [absent]
  split
  · exact ⟨Hub.feedSt_feedTo_same _ _ (by decide), (marked _).feedTo_stat _⟩
  · exact ⟨Hub.feedSt_feedTo_same _ _ (by split <;> decide), (marked _).feedTo_stat _⟩

/-! ## PRIMARY (08 R248) -/

theorem Hub.feedBTakes_shows (h : Hub) :
    h.feedBTakes.get (FEED_STAT_STANDBY_B.pg 1) = 0 ∧ h.feedBTakes.get (FEED_STAT_CONDUCT.pg 1) = 1
    ∧ h.feedBTakes.get (FEED_STAT_BLOCKING.pg 1) = 0 := by
  unfold Hub.feedBTakes
  refine ⟨?_, ?_, Hub.get_put_pg_same _ _ _ (by decide)⟩
  · rw [Hub.get_put_pg_apart _ _ _ (by decide) (by decide), Hub.get_put_pg_apart _ _ _ (by decide) (by decide),
      Hub.get_put_pg_same _ _ _ (by decide)]
    rfl
  · rw [Hub.get_put_pg_apart _ _ _ (by decide) (by decide), Hub.get_put_pg_same _ _ _ (by decide)]
    rfl

theorem Hub.share_priTakeover (h : Hub) (va : Nat) :
    (h.priTakeover va).share = { h.share with bCarries := true, returnRun := 0 } :=
  Hub.of_bare Hub.share (fun _ => rfl) (b := h.share! fun s => { s with bCarries := true, returnRun := 0 })
    (h.bare_priTakeover va)

/-- The count and the report of a takeover leave the switches of feed B. -/
theorem Hub.get_priTakeover (h : Hub) (va : Nat) {g : Fld} (hp : g.idx / 256 = 0x0E)
    (hc : FEED_SHARESTAT_PRICNT.apart g) (hf : (feedFlag 9).apart g) :
    (h.priTakeover va).get (no_index (g.pg 1)) = h.feedBTakes.get (g.pg 1) := by
  rw [Hub.priTakeover_eq, Hub.get_feedReport_pg _ _ _ _ (by decide) (by decide) hp hf,
    Hub.get_feedCount_apart _ (by decide) (hc.pgs (by decide) hp 0 1), Hub.get_share!]

/-- A running hub flags and counts it. -/
theorem Hub.priTakeover_noted {h : Hub} (va : Nat) (on : h.running = true) :
    (h.priTakeover va).get (flagFld 0x0F 9) = 1
    ∧ (h.priTakeover va).get FEED_SHARESTAT_PRICNT
      = min (h.get FEED_SHARESTAT_PRICNT + 1) (2 ^ FEED_SHARESTAT_PRICNT.w - 1) := by
  have takes : (h.feedBTakes.share! fun s => { s with bCarries := true, returnRun := 0 }).running = true := on
  have kept : h.feedBTakes.get FEED_SHARESTAT_PRICNT = h.get FEED_SHARESTAT_PRICNT := by
    unfold Hub.feedBTakes
    rw [Hub.get_put_apart _ _ (by decide) (by decide), Hub.get_put_apart _ _ (by decide) (by decide),
      Hub.get_put_apart _ _ (by decide) (by decide)]
  rw [Hub.priTakeover_eq]
  refine ⟨Hub.get_feedReport_flag (k := 1) _ _ _ (by decide) (by decide)
    ((Hub.running_of_feedData (Hub.feedData_feedCount ..)).trans takes), ?_⟩
  rw [Hub.get_feedReport_apart _ _ _ _ (by decide) (by decide) (by decide), Hub.get_feedCount_same (by decide) takes,
    Hub.get_share!, kept]

/-- Feed B stands by again, and RATIO holds no feed off. -/
theorem Hub.primaryReturn_shows {h : Hub} (mode : h.feedCfg FEED_SHARE_MODE = 2) (onA : h.feedOn 0 = true)
    (onB : h.feedOn 1 = true) :
    h.primaryReturn.get (FEED_STAT_STANDBY_B.pg 1) = 1 ∧ h.primaryReturn.get (FEED_STAT_CONDUCT.pg 1) = 0
    ∧ h.primaryReturn.share = { h.share with bCarries := false, idle := none }
    ∧ (h.share.idle = none →
        Hub.only [FEED_STAT_STANDBY_B.pg 1, FEED_STAT_CONDUCT.pg 1, FEED_STAT_BLOCKING.pg 1] [] h h.primaryReturn) := by
  have ratio : (h.share! fun s => { s with bCarries := false }).ratioIdle = none :=
    Hub.ratioIdle_none fun one => absurd (one.symm.trans mode) (by decide)
  rw [Hub.primaryReturn, Hub.shareSettle_primary (h := h.share! fun s => { s with bCarries := false }) mode onA onB rfl]
  refine ⟨?_, ?_, ?_, fun idle => ?_⟩
  · rw [Hub.get_put_pg_apart _ _ _ (by decide) (by decide), Hub.get_put_pg_apart _ _ _ (by decide) (by decide),
      Hub.get_put_pg_same _ _ _ (by decide)]
    rfl
  · rw [Hub.get_put_pg_apart _ _ _ (by decide) (by decide), Hub.get_put_pg_same _ _ _ (by decide)]
    rfl
  · rw [Hub.put_share, Hub.put_share, Hub.put_share, Hub.share_ratioHold, ratio]
    rfl
  · rw [Hub.ratioHold_same (ratio.trans idle.symm)]
    exact ((((Hub.only.refl ..).share! _).put 1 (Fld.mayIn_pg (by simp) (by decide))).put 0
      (Fld.mayIn_pg (by simp) (by decide))).put 0 (Fld.mayIn_pg (by simp) (by decide))

end Sys2Proof.Machine

open Sys2Proof Sys2Proof.Machine

/-- Settles O25: each event of a feed in conduction, and PRIMARY's takeover and return, by what its effect shows.  That
precharge succeeds without a measurement in a hub without logic is the model's choice (log entry 6). -/
theorem feedConductionAndTakeover : Obligations.FeedConductionAndTakeover := by
  unfold Obligations.FeedConductionAndTakeover
  refine ⟨fun s feed above v inWin => ⟨fun charging charged => ?_, fun on conducts => ?_, fun on opened carries drives => ?_,
    fun waiting run => ?_, fun on run => ?_⟩, fun s va => ⟨fun standby => ?_, fun mode onA onB carries back => ?_⟩⟩
  · obtain ⟨state, window, blocking, level, reach⟩ := s.hub.feedOnAct_shows v.toNat (feedNum_lt feed)
    have noted := Hub.feedOnAct_noted (h := s.hub) v.toNat (feedNum_lt feed)
    have answer : exec (.feedOn feed v) s = .next { s with hub := s.hub.feedOnAct (feedNum feed) v.toNat } :=
      State.feedWhen_on _ (Hub.feedOnDue_of charging charged)
    have conduct (shares : s.hub.feedCfg FEED_SHARE_MODE = 0 ∨ feed = .a ∧ s.hub.feedCfg FEED_SHARE_MODE = 2) :
        (s.hub.feedOnAct (feedNum feed) v.toNat).get (FEED_STAT_CONDUCT.pg (feedNum feed)) = 1 := by
      refine Hub.conduct_feedOnAct v.toNat (feedNum_lt feed) (fun ratio => ?_) fun primary => ?_
      · rcases shares with oring | ⟨-, primary⟩ <;> omega
      · rcases shares with oring | ⟨rfl, -⟩
        · omega
        · rfl
    generalize s.hub.feedOnAct (feedNum feed) v.toNat = t at *
    exact ⟨_, answer, state, window, conduct, blocking, level, noted, State.frame_hub reach⟩
  · obtain ⟨opened, state, blocks, reach, bare⟩ := s.hub.revOff_shows above.toNat (feedVal v) (feedNum_lt feed)
    have driven : (s.hub.feedSt (feedNum feed) == 5 && s.hub.flag (FEED_STAT_CONDUCT.pg (feedNum feed))) = true := by
      simp [on, conducts]
    exact ⟨_, State.feedWhen_on _ driven, opened, state.trans on, fun high => blocks (by unfold feedVal; omega),
      State.regFrame_hub reach bare⟩
  · obtain ⟨conduct, blocking, reach, bare⟩ := s.hub.feedCloses_shows (feedNum feed)
    exact ⟨_, State.feedWhen_on _ (by simp [on, opened, carries, drives]), conduct, blocking, State.regFrame_hub reach bare⟩
  · obtain ⟨state, reach⟩ := s.hub.feedRetry_shows (feedNum feed) inWin
    have due : s.hub.feedRetryDue (feedNum feed) = true := by simp [Hub.feedRetryDue, waiting, run]
    exact ⟨_, State.feedWhen_on _ due, state, State.frame_hub reach⟩
  · exact ⟨_, State.feedWhen_on _ (by simp [on, run]), Hub.get_put_pg_same _ _ _ (by decide),
      State.regFrame_hub ((Hub.only.refl ..).put 0 (Fld.mayIn_pg (by simp) (by decide))) (Hub.bare_put ..)⟩
  · obtain ⟨stands, conduct, blocking⟩ := s.hub.feedBTakes_shows
    have kept {g : Fld} (hp : g.idx / 256 = 0x0E) (hc : FEED_SHARESTAT_PRICNT.apart g) (hf : (feedFlag 9).apart g) :=
      s.hub.get_priTakeover va.toNat hp hc hf
    exact ⟨_, State.feedWhen_on _ ((Hub.flag_iff _ rfl).2 standby), (kept (by decide) (by decide) (by decide)).trans stands,
      (kept (by decide) (by decide) (by decide)).trans conduct, (kept (by decide) (by decide) (by decide)).trans blocking,
      s.hub.share_priTakeover va.toNat, fun runs => Hub.priTakeover_noted va.toNat runs,
      State.frame_hub (s.hub.only_priTakeover va.toNat)⟩
  · have due : s.hub.primaryReturnDue = true := by
      simp [Hub.primaryReturnDue, mode, (s.hub.feedOn_iff 0).2 onA, (s.hub.feedOn_iff 1).2 onB, carries, back]
    obtain ⟨stands, conduct, share, reach⟩ :=
      Hub.primaryReturn_shows mode ((s.hub.feedOn_iff 0).2 onA) ((s.hub.feedOn_iff 1).2 onB)
    exact ⟨_, State.feedWhen_on _ due, stands, conduct, share, fun idle => State.frame_hub (reach idle)⟩

end
